-- ==== Sys2Proof/Word.lean ====
section
/-!
DEFINITION. The fixed widths of the machine (R7, R16, R24, R58) and their plainest arithmetic: bit fields and saturation.
-/
namespace Sys2Proof

/-- A byte. -/
abbrev Byte := BitVec 8

/-- A 32-bit register word (R7). -/
abbrev Word := BitVec 32

/-- A 64-bit word: an instruction slot, a vault word, an exchange word (R54, R180, R124). -/
abbrev DWord := BitVec 64

/-- The packed BP address of R16: die, tile, cluster, BP. -/
abbrev BpAddr := BitVec 18

/-- Bits [lo + w - 1 : lo] of a word, as a number. -/
def bitsAt {n : Nat} (v : BitVec n) (lo w : Nat) : Nat := v.toNat / 2 ^ lo % 2 ^ w

/-- The word with bits [lo + w - 1 : lo] replaced by the low `w` bits of `x`. -/
def setBitsAt {n : Nat} (v : BitVec n) (lo w x : Nat) : BitVec n :=
  BitVec.ofNat n (v.toNat / 2 ^ (lo + w) * 2 ^ (lo + w) + x % 2 ^ w * 2 ^ lo + v.toNat % 2 ^ lo)

/-- Addition that stops at `top`. -/
def satAdd (top a b : Nat) : Nat := min top (a + b)

/-- The bit `i` of a number. -/
def bitOf (v i : Nat) : Bool := v / 2 ^ i % 2 == 1

/-- A Boolean as 0 or 1. -/
def b2n (b : Bool) : Nat := if b then 1 else 0

end Sys2Proof
end

