-- ==== Sys2Proof/Machine/Maps.lean ====
section
/-!
DEFINITION. Sparse storage: a list of (key, value) pairs with strictly rising keys and no entry equal to what an unlisted
key reads as, so that equal contents are equal lists.  Used for the BP stores, route tables, registers and vault bytes.
Vectors hold the small fixed arrays (partitions, dies, links, lanes, mailboxes).
-/
namespace Sys2Proof

/-- What key `a` reads as: the listed value, else the default of that key. -/
def mget {α : Type} (d : Nat → α) : List (Nat × α) → Nat → α
  | [], a => d a
  | (k, v) :: r, a => if a = k then v else mget d r a

/-- Put the pair (a, v) before the first larger key. -/
def mins {α : Type} (a : Nat) (v : α) : List (Nat × α) → List (Nat × α)
  | [] => [(a, v)]
  | (k, w) :: r => if a < k then (a, v) :: (k, w) :: r else (k, w) :: mins a v r

/-- The list without key `a`. -/
def mdel {α : Type} (a : Nat) : List (Nat × α) → List (Nat × α)
  | [] => []
  | (k, w) :: r => if k = a then mdel a r else (k, w) :: mdel a r

/-- Store `v` at key `a`, keeping the canonical form: an entry equal to what the key reads as unlisted is not listed. -/
def mset {α : Type} [DecidableEq α] (d : Nat → α) (m : List (Nat × α)) (a : Nat) (v : α) : List (Nat × α) :=
  if v = d a then mdel a m else mins a v (mdel a m)

/-- Every listed key lies above `lo` (when given), keys rise strictly, and no entry equals its default. -/
def mwfFrom {α : Type} [DecidableEq α] (d : Nat → α) : Option Nat → List (Nat × α) → Bool
  | _, [] => true
  | lo, (k, v) :: r =>
    (match lo with | none => true | some l => decide (l < k)) && !decide (v = d k) && mwfFrom d (some k) r

/-- The canonical form of a sparse store. -/
def mwf {α : Type} [DecidableEq α] (d : Nat → α) (m : List (Nat × α)) : Bool := mwfFrom d none m

/-- Store several pairs, the first listed first. -/
def msetAll {α : Type} [DecidableEq α] (d : Nat → α) (m : List (Nat × α)) : List (Nat × α) → List (Nat × α)
  | [] => m
  | (a, v) :: r => msetAll d (mset d m a v) r

/-- Default of a bit store. -/
def dBit : Nat → Bool := fun _ => false

/-- Default of a number store. -/
def dNat : Nat → Nat := fun _ => 0

/-- Default of a 64-bit word store. -/
def dWord64 : Nat → DWord := fun _ => 0

/-- Default of a byte store. -/
def dByte : Nat → Byte := fun _ => 0

/-- Entry `i` of a vector. -/
def vget {α : Type} {k : Nat} (v : Vector α k) (i : Fin k) : α := v[i]

/-- The vector with entry `i` replaced. -/
def vset {α : Type} {k : Nat} (v : Vector α k) (i : Fin k) (x : α) : Vector α k := v.set i x

/-- The vector with entry `i` changed by `f`. -/
def vmod {α : Type} {k : Nat} (v : Vector α k) (i : Fin k) (f : α → α) : Vector α k := vset v i (f (vget v i))

/-- Insert into a list of numbers kept rising without repeats. -/
def insNat (a : Nat) : List Nat → List Nat
  | [] => [a]
  | b :: r => if a < b then a :: b :: r else if a = b then b :: r else b :: insNat a r

/-- Insertion sort by a key, stable. -/
def insertBy {α : Type} (key : α → Nat) (x : α) : List α → List α
  | [] => [x]
  | y :: r => if key x < key y then x :: y :: r else y :: insertBy key x r

/-- Sort by a key; equal keys keep their order. -/
def sortBy {α : Type} (key : α → Nat) (l : List α) : List α := l.foldl (fun acc x => insertBy key x acc) []

/-- The lowest number of a list, if any. -/
def minOf : List Nat → Option Nat
  | [] => none
  | a :: r => match minOf r with | none => some a | some b => some (min a b)

/-- The numbers of a list without repeats, first occurrences kept. -/
def dedupNat : List Nat → List Nat
  | [] => []
  | a :: r => if r.contains a then dedupNat r else a :: dedupNat r

end Sys2Proof
end

