-- ==== Sys2Proof/Types.lean ====
section
/-!
DEFINITION. Data types shared by the commands (Syntax) and the state: the codes the spec enumerates and the tables of a
loaded ephemeris.  Numbers of the spec that the machine only counts or indexes with are Nat; words it shifts and masks are
bit vectors.
-/
namespace Sys2Proof.Machine

/-- Partition state, the codes of FRM_STATE.STATE (R52); HELD (6) is shown while `held` is set. -/
inductive PState where
  | empty | loaded | armed | running | halted | fault
  deriving DecidableEq, Repr

/-- Stall causes and their codes (R41). -/
inductive Stall where
  | depot | xget | vtrPace | vote | token
  deriving DecidableEq, Repr

/-- Halt causes and their codes (R46, R52). -/
inductive Halt where
  | stop | hazard | runFrames | host | frameLimit | safety
  deriving DecidableEq, Repr

/-- Fault causes and their codes (R48). -/
inductive FaultCause where
  | none | stallLimit | reservedClass | abortLimit | shadowLoss
  deriving DecidableEq, Repr

/-- Status codes of R14 with the encodings of R449. -/
inductive Status where
  | ok | retry | superseded | cancelled | badFree | notOwner | busy | partFault | authFail | range
  deriving DecidableEq, Repr

/-- Owner codes of R186. -/
inductive Owner where
  | part (n : Fin 8) | hdma | phm | cap | adc | doc | cur
  deriving DecidableEq, Repr

/-- The parts of R1. -/
inductive Variant where
  | f | r | d
  deriving DecidableEq, Repr

/-- The three access paths to registers (R13): PF0 BAR0, the window of partition n in PF1 BAR2, the management port. -/
inductive Path where
  | pf0 | pf1 (n : Fin 8) | mgmt
  deriving DecidableEq, Repr

/-- A vault memory declaration (R113, R163). -/
structure VMem where
  number : Nat
  onChip : Bool
  width : Nat
  die : Nat
  delta : Nat
  size : Nat
  base : Nat
  deriving DecidableEq, Repr

/-- A loan set of a die (R185): the banks in ascending number and whether the mode is contiguous. -/
structure LoanSet where
  die : Nat
  contiguous : Bool
  banks : List Nat
  deriving DecidableEq, Repr

/-- An exchange table entry (R124, R164). -/
structure XSlot where
  tile : Nat
  cluster : Nat
  slot : Nat
  incoming : Bool
  f : Nat
  link : Nat
  mslot : Nat
  sendStep : Nat
  budget : Nat
  deriving DecidableEq, Repr

/-- A tap-collector slot (R162, R280): tile, step, lane, cluster, BP and the 32-bit capture group word. -/
structure TapSlot where
  tile : Nat
  step : Nat
  lane : Nat
  cluster : Nat
  bp : Nat
  group : Word
  deriving DecidableEq, Repr

/-- A boundary range (R162): partition bits first … first + count - 1 map to Vitrine bits vtr … ; input or output. -/
structure BRange where
  first : Nat
  vtr : Nat
  count : Nat
  input : Bool
  deriving DecidableEq, Repr

/-- A link declaration (R162, LINKS). -/
structure LinkDecl where
  link : Nat
  rate : Nat
  cable : Nat
  deriving DecidableEq, Repr

/-- The content of an ephemeris that the device keeps for a loaded partition (R160 to R165): header fields and sections.
`slots` is keyed BP × 2,048 + step (in deep mode the pair's step, R73), `ft` BP × 64 + entry, `wsInit` BP × 2,048 + address,
`desc` and `sel` hold the halfwords 0–255 and 256–511 of route entries, keyed (tile × 2,048 + entry) × 256 + halfword,
`dies2` says that the part has dies 0 and 1 only (R155),
`inWin` and `outWin` are keyed by tile × 16 + cluster and hold the window base / 256. -/
structure Eph where
  depth : Nat
  deep : Bool
  debug : Bool
  paced : Bool
  dies2 : Bool
  spans : Bool
  dieMask : Nat
  tFirst : Nat
  tLast : Nat
  nDevices : Nat
  devIndex : Nat
  machineId : Nat
  plateKib : Nat
  slots : List (Nat × DWord)
  ft : List (Nat × BitVec 16)
  wsInit : List (Nat × Bool)
  desc : List (Nat × BitVec 16)
  sel : List (Nat × BitVec 16)
  inWin : List (Nat × Nat)
  outWin : List (Nat × Nat)
  vmem : List VMem
  loans : List LoanSet
  xchg : List XSlot
  taps : List TapSlot
  regions : Nat
  initOut : List (Nat × Bool)
  bound : List BRange
  links : List LinkDecl
  deriving DecidableEq, Repr

/-- No ephemeris: the tables of an EMPTY partition. -/
def Eph.none : Eph :=
  { depth := 0, deep := false, debug := false, paced := false, dies2 := false, spans := false, dieMask := 0, tFirst := 0, tLast := 0,
    nDevices := 1, devIndex := 0, machineId := 0, plateKib := 0, slots := [], ft := [], wsInit := [], desc := [], sel := [],
    inWin := [], outWin := [], vmem := [], loans := [], xchg := [], taps := [], regions := 0, initOut := [], bound := [],
    links := [] }

/-- What the error detectors of a BP reported while it executed one slot (R76): environment of a step, not state. -/
structure BpErr where
  slotCorr : Bool := false
  slotUnc : Bool := false
  ftPar : Bool := false
  wsPar : Bool := false
  rxPar : Bool := false
  vdPar : Bool := false
  deriving DecidableEq, Repr

/-- What the detectors reported in one sequencer cycle (R76, R152, R183): per executing BP, per route word (packed tile,
word), parity on live lattice bits per die, the deliveries (BP, RX) of the cycle whose bit such an error reached, vault words read with one or two bits in error (bank, word), and clusters
(tile × 16 + c) whose shadow words had bad parity at a copy or were uncorrectable at a restore. -/
structure StepEnv where
  bps : List (Nat × BpErr) := []
  routeCorr : List (Nat × Nat) := []
  routeUnc : List (Nat × Nat) := []
  latPar : List Nat := []
  latBad : List (Nat × Nat) := []
  vaultSbe : List (Nat × Nat) := []
  vaultDbe : List (Nat × Nat) := []
  copyPar : List Nat := []
  restoreUnc : List Nat := []
  deriving DecidableEq, Repr

end Sys2Proof.Machine
end

