-- ==== Sys2Proof/Machine/CapState.lean ====
section
/-!
DEFINITION. The state of the plate engines (R279 to R304) beyond their registers.  Group keys are die × 8,192 + group number.
The plate store is keyed die × 2^20 + 32-byte unit; every unit holds one record or half a header.
-/
namespace Sys2Proof.Machine

/-- The trigger sequencer as it stands at a tick (R291, R293): state, comparator counts, V′ of comparators, previous values of
groups, and whether the next frame is the first after arm or restore (its previous values are its own, R281, R290). -/
structure Seqr where
  st : Nat
  counts : List (Nat × Nat)
  vprev : List (Nat × Nat)
  prev : List (Nat × DWord)
  fresh : Bool
  deriving DecidableEq, Repr

/-- The sequencer at reset. -/
def Seqr.reset : Seqr := { st := 0, counts := [], vprev := [], prev := [], fresh := true }

/-- A group in a frame: key, frame value, step for a change record if it changed, step for a key record. -/
structure GroupVal where
  key : Nat
  val : DWord
  changed : Option Nat
  keyStep : Nat
  deriving DecidableEq, Repr

/-- What C5 of a frame fixes (R283, R291): groups, dies whose record buffer it does not fit, the sequencer before, the actions
with the condition, the state before and after, and STOP with its cause. -/
structure FrameCap where
  frame : Nat
  groups : List GroupVal
  deadDies : List Nat
  before : Seqr
  act : Nat
  condB : Bool
  st0 : Nat
  st1 : Nat
  stop : Option Nat
  deriving DecidableEq, Repr

/-- What a frame took at its tick (R248, R290, R296, R304): its timebase, XTRIG lines, TRIG levels and edges, and the capture
actions ARM, FORCE, CLOSE, DISARM in bits 0 to 3. -/
structure TickIn where
  frame : Nat
  tb : Nat
  xtrig : Nat
  trig : Nat
  capctl : Nat
  deriving DecidableEq, Repr

/-- An event in a FIFO (R286, R288). -/
structure Evt where
  code : Nat
  arg : Nat
  overrun : Nat
  part : Nat
  payload : Nat
  frame : Nat
  step : Nat
  tb : Nat
  deriving DecidableEq, Repr

/-- A released frame whose block is not yet written (R287): whether the state was WAITING when it was released, whether it is
the trigger frame of a plate, and its synchronous event records TRIG_OUT and XTRIG_OUT (code, payload, timebase). -/
structure BlockDue where
  cap : FrameCap
  waiting : Bool
  trigger : Bool
  outs : List (Nat × Nat × Nat)
  deriving DecidableEq, Repr

/-- A frame block held in a share (R297): die, first unit, units (its header slot included), frame, key, whether a header slot
precedes it. -/
structure Seg where
  die : Nat
  pos : Nat
  units : Nat
  frame : Nat
  key : Bool
  slot : Bool
  deriving DecidableEq, Repr

/-- A closed plate part (R300). -/
structure PlatePart where
  die : Nat
  pos : Nat
  units : Nat
  plate : Nat
  deriving DecidableEq, Repr

/-- An open plate (R294, R295): trigger frame, FIRST_FRAME once known, POST, FORCED (1 timeout, 2 host), TRUNC_PRE, RESUMED. -/
structure PlateOpen where
  trig : Nat
  first : Nat
  last : Nat
  forced : Nat
  trunc : Bool
  resumed : Bool
  deriving DecidableEq, Repr

/-- Capture of one partition: sequencer, frames fixed at C5 and not yet decided, inputs at ticks, the frame FORCE names, actions
and marks waiting for the next tick, the block due, whether the next recorded frame is a key frame, PRE and POST latched at
ARM, frames released while WAITING, whether an AUTO trigger is due, the open plate, blocks and closed parts in the shares, dies
in a dead span with its first frame and first tick, dead counts since the last header per die, dead frames (die, frame)
whose period is still running, parts drained in flight, XTRIG lines and TRIG edges since the last tick, and the last released frame. -/
structure Cap where
  seqr : Seqr
  fixed : List FrameCap
  ticks : List TickIn
  force : Option Nat
  actions : Nat
  marks : List Evt
  due : Option BlockDue
  keyNext : Bool
  pre : Nat
  post : Nat
  waited : Nat
  autoDue : Bool
  plate : Option PlateOpen
  segs : List Seg
  closed : List PlatePart
  dead : List (Nat × Nat × Nat)
  deadSince : List (Nat × Nat × Nat)
  deadRun : List (Nat × Nat)
  drain : Option PlatePart
  xtrig : Nat
  edges : Nat
  lastRel : Option Nat
  resumed : Bool
  filed : List Evt
  deriving DecidableEq, Repr

/-- Capture at reset. -/
def Cap.reset : Cap :=
  { seqr := Seqr.reset, fixed := [], ticks := [], force := none, actions := 0, marks := [], due := none, keyNext := true,
    pre := 0, post := 0, waited := 0, autoDue := false, plate := none, segs := [], closed := [], dead := [],
    deadSince := (List.range 4).map fun d => (d, 0, 0),
    deadRun := [], drain := none, xtrig := 0, edges := 0, lastRel := none, resumed := false, filed := [] }

/-- The plate engines: captures, plate store, event FIFO and pending overrun count per die, the nanoseconds for
which each TRIG ball is still low from outside, and the balls of each partition's TRIG_OUT pulses in progress, oldest first (R289). -/
structure Plt where
  caps : Vector Cap 8
  store : List (Nat × BitVec 256)
  fifos : Vector (List Evt) 4
  overrun : Vector Nat 4
  trigLow : Vector Nat 8
  trigDrive : Vector (List Nat) 8
  deriving DecidableEq, Repr

/-- The plate engines at reset. -/
def Plt.reset : Plt :=
  { caps := Vector.replicate 8 Cap.reset, store := [], fifos := Vector.replicate 4 [], overrun := Vector.replicate 4 0,
    trigLow := Vector.replicate 8 0, trigDrive := Vector.replicate 8 [] }

end Sys2Proof.Machine
end

