-- ==== Sys2Proof/Machine/PartState.lean ====
section
/-!
DEFINITION. The state of one partition: its frame sequencer (R26 to R52), the stores of its BPs (R54), its lattice in transit
(R139, R140), its vault ports and vault write log (R114 to R122, R194), its exchange and boundary words (R124 to R131), the
effects of its undecided frames (R33 to R35) and its hazard monitor (R173 to R178).
BP stores are keyed by packed BP address: working-store bit BP × 2,048 + address (a deep pair's address counts on into the odd
BP, R73), receive register BP × 8 + n, VD and XD by BP.
-/
namespace Sys2Proof.Machine

/-- When a monitored location was last written (R107): frame, counted from 2 (0 never), and step counter value. -/
structure Stamp where
  frame : Nat
  step : Nat
  deriving DecidableEq, Repr

/-- What a shadow bank copies and a restore brings back (R33, R35, R54, R107, R130): working store, RX, VD, XD, the boundary
output vector and the hazard monitor's write history (keyed BP × 8,192 + place: 0–4,095 working store,
4,096 + n RXn, 4,104 VD, 4,105 XD). -/
structure Img where
  ws : List (Nat × Bool)
  rx : List (Nat × Bool)
  vd : List (Nat × DWord)
  xd : List (Nat × DWord)
  outv : List (Nat × Bool)
  hist : List (Nat × Stamp)
  deriving DecidableEq, Repr

/-- The state after load with an empty initial image. -/
def Img.zero : Img := { ws := [], rx := [], vd := [], xd := [], outv := [], hist := [] }

/-- The abort conditions of a frame (R33): working-store parity, lattice parity, vault double-bit error, unit fault. -/
structure Err where
  wsPar : Bool
  latPar : Bool
  vdbe : Bool
  unit : Bool
  deriving DecidableEq, Repr

/-- No error. -/
def Err.zero : Err := ⟨false, false, false, false⟩

/-- Both errors together. -/
def Err.or (a b : Err) : Err := ⟨a.wsPar || b.wsPar, a.latPar || b.latPar, a.vdbe || b.vdbe, a.unit || b.unit⟩

/-- Any abort condition present (R33). -/
def Err.any (e : Err) : Bool := e.wsPar || e.latPar || e.vdbe || e.unit

/-- The staging registers of one vault port (R114). -/
structure Stage where
  data : DWord
  addr : BitVec 40
  mem : BitVec 6
  deriving DecidableEq, Repr

/-- Cleared staging lanes. -/
def Stage.zero : Stage := ⟨0, 0, 0⟩

/-- A lane write of the step in progress: port key tile × 4 + port, group, lane, bit, and the BP that made it. -/
structure LaneW where
  port : Nat
  group : Nat
  lane : Nat
  bit : Bool
  bp : Nat
  deriving DecidableEq, Repr

/-- A vault read issued and not yet delivered (R116 to R122).  `due` is the step counter value at which it must have been
written into VD of `bp`; on-chip reads carry their data from the issue, depot-backed reads when `arrived`, cut to the memory's
`width` (R113); `tag` names the landing entry (R214). -/
structure VRead where
  bp : Nat
  port : Nat
  onChip : Bool
  due : Nat
  data : DWord
  arrived : Bool
  derr : Bool
  stale : Bool
  frame : Nat
  addr : Nat
  tag : Nat
  width : Nat
  deriving DecidableEq, Repr

/-- A vault write log entry (R194): tile, frame, packed bank, word and the word before the write. -/
structure LogE where
  tile : Nat
  frame : Nat
  bank : Nat
  word : Nat
  old : DWord
  deriving DecidableEq, Repr

/-- One executed step of the lattice (R140): whether it was an evaluation step, the results offered with SEND, and the route
words that were uncorrectable in it (tile × 128 + word). -/
structure Wave where
  eval : Bool
  offers : List (Nat × Bool)
  bad : List Nat
  deriving DecidableEq, Repr

/-- A hazard met in the step in progress (R175). -/
structure Haz where
  code : Nat
  bp : Nat
  opnd : Nat
  detail : Nat
  deriving DecidableEq, Repr

/-- A stored hazard record, W0 to W3 (R176). -/
structure HazRec where
  w0 : Word
  w1 : Word
  w2 : Word
  w3 : Word
  deriving DecidableEq, Repr

/-- An exchange word held for an incoming slot (R126, R127): cluster key, slot, the sender's frame, the epoch, the word. -/
structure XHeld where
  cl : Nat
  slot : Nat
  frame : Nat
  epoch : Nat
  word : DWord
  deriving DecidableEq, Repr

/-- A tapped bit of the frame (R87, R279): the tap slot's place in TAPS and the bit. -/
structure TapBit where
  tile : Nat
  step : Nat
  lane : Nat
  group : Word
  bit : Bool
  deriving DecidableEq, Repr

/-- A deposit, force or force release accepted and not yet applied (R49, R470): working-store key and, for a deposit or a
force, the value. -/
structure Deposit where
  stamp : Nat
  key : Nat
  kind : Nat
  val : Bool
  deriving DecidableEq, Repr

/-- The effects of one executed, undecided frame (R33, R34, R78, R130, R177): errors, STOP cause, the hazard that asked for a
halt, the vector staged at C3, activity counts and residues (keyed by packed cluster), and the
clusters whose state was in error (R338). -/
structure FrameFx where
  frame : Nat
  err : Err
  stop : Option Nat
  hazard : Option (Nat × Option Nat)
  outv : List (Nat × Bool)
  acts : List (Nat × Nat)
  rhos : List (Nat × Nat)
  clus : List Nat
  deriving DecidableEq, Repr

/-- What C4 of an undecided frame did (R35, R49): the forces active before it and the deposits that applied. -/
structure C4Done where
  frame : Nat
  forces : List Deposit
  deps : List Deposit
  deriving DecidableEq, Repr

/-- Why a partition is held at a frame boundary (R50): stale reads (R122), vault log write-back with its cycles left (R195), a
held-write share (R226), checkpoint capture (R316), the record ring (R325), a Curator action (R29), the undo area (R317). -/
inductive BHold where
  | stale | writeback (left : Nat) | share | checkpoint | record | curator | undo
  deriving DecidableEq, Repr

/-- HOLD, NAP or DORMANT of a partition (R494). -/
inductive PHold where
  | hold | nap | dormant
  deriving DecidableEq, Repr

/-- One partition.  `cur` is the frame in execution, `frame` FRM_FRAME; `limit` is the stall limit as it stood at
the start of the stall (R52), and `warned` whether the stall has set STALL_LONG; `bdone`: the boundary's duties are done and the tick is still to
come (R29); `wbLeft`: cycles of the vault log's write-back beyond C15 (R195); `nops`: BPs whose slot was uncorrectable in the
step (R102); `xinit`: the run began with an arm, so the words of frame start − 1 are 0 (R128); `shadowBad` lists the clusters whose words in a bank were copied with bad parity (R76).  `slast` holds STALLED_LAST of frames by their number; `hiFrame` is the next frame never executed;
`first` is the first frame of the run (R312);
`decision` is the frame decided in this frame and whether it commits, `haltPend` the halt causes of that decision
and `haltHaz` the hazard request that takes part in it; `haltReqs`
and `haltAt` are halts asked for without a waiting command; `runSteps` and `stallSteps` count since the last C13; `carry` is
the UNIT_FAULT that a copy found for the next frame (R76). -/
structure Part where
  state : PState
  held : Option PHold
  holdReq : Bool
  bholds : List BHold
  bdone : Bool
  wbLeft : Nat
  eph : Eph
  -- frame sequencer
  step : Nat
  frame : Nat
  cur : Nat
  committed : Nat
  committedValid : Bool
  start : Nat
  first : Nat
  remaining : Nat
  goWait : Bool
  status : Nat
  slast : List (Nat × Bool)
  hiFrame : Nat
  decidesNone : Bool
  decision : Option (Nat × Bool)
  ownAbort : Bool
  haltReqs : List Halt
  haltAt : Option Nat
  haltPend : List Halt
  haltHaz : Option (Nat × Option Nat)
  faultPend : Option FaultCause
  haltCause : Option Halt
  faultCause : FaultCause
  faultStall : Nat
  faultStep : Nat
  faultBp : Nat
  limit : Nat
  warned : Bool
  stallLen : Nat
  stallCause : Nat
  stalled : Bool
  stallInFrame : Bool
  runSteps : Nat
  stallSteps : Nat
  stallTotal : Nat
  consec : Nat
  aborts : Nat
  errReg : Word
  -- BP stores
  img : Img
  shadow0 : Img
  shadow1 : Img
  shadowBad0 : List Nat
  shadowBad1 : List Nat
  bins : List (Nat × List (Nat × Bool))
  stops : List (Nat × Nat)
  err : Err
  errCl : List Nat
  toggles : List (Nat × Nat)
  rho : List (Nat × Nat)
  -- step in progress
  done : List Nat
  offers : List (Nat × Bool)
  lanes : List LaneW
  gets : List (Nat × Nat)
  outs : List (Nat × Bool × Nat)
  nops : List Nat
  hazNow : List Haz
  reserved : List Nat
  -- lattice, ports, exchange, taps
  waves : List Wave
  stages : List (Nat × Stage)
  reads : List VRead
  vlog : List LogE
  xform : List (Nat × DWord)
  xheld : List XHeld
  xinit : Bool
  taps : List TapBit
  -- frames not yet decided, deposits
  fxs : List FrameFx
  deps : List Deposit
  forces : List Deposit
  c4 : List C4Done
  carry : Bool
  -- hazard monitor
  hazBuf : List HazRec
  hazHalt : Option (Nat × Option Nat)
  deriving DecidableEq, Repr

/-- An EMPTY partition, as at reset (R52). -/
def Part.reset : Part :=
  { state := .empty, held := none, holdReq := false, bholds := [], bdone := false, wbLeft := 0, eph := Eph.none,
    step := 0, frame := 0, cur := 0, committed := 0, committedValid := false, start := 0, first := 0, remaining := 0, goWait := false,
    status := 0, slast := [], hiFrame := 0, decidesNone := false, decision := none, ownAbort := false, haltReqs := [], haltAt := none,
    haltPend := [], haltHaz := none, faultPend := none, haltCause := none, faultCause := .none, faultStall := 0, faultStep := 0, faultBp := 0,
    limit := 0, warned := false, stallLen := 0, stallCause := 0, stalled := false, stallInFrame := false, runSteps := 0, stallSteps := 0, stallTotal := 0,
    consec := 0, aborts := 0, errReg := 0,
    img := Img.zero, shadow0 := Img.zero, shadow1 := Img.zero, shadowBad0 := [], shadowBad1 := [], bins := [],
    stops := [], err := Err.zero, errCl := [], toggles := [], rho := [],
    done := [], offers := [], lanes := [], gets := [], outs := [], nops := [], hazNow := [], reserved := [],
    waves := [], stages := [], reads := [], vlog := [], xform := [], xheld := [], xinit := false, taps := [],
    fxs := [], deps := [], forces := [], c4 := [], carry := false, hazBuf := [], hazHalt := none }

end Sys2Proof.Machine
end

