-- ==== Sys2Proof/Machine/VtrState.lean ====
section
/-!
DEFINITION. The state of Vitrine (R359 to R377) beyond its registers: per region the crossing registers of R366 to R368, the
registers of the fabric, the isolation values in force and the configuration arriving.
-/
namespace Sys2Proof.Machine

/-- A source of the crossbar (R363): a macrocell's output, an I/O cell's rising or falling sample, a boundary output bit, a region's
release strobe, or a bit of its RELSEQ. -/
inductive VSource where
  | mac (m : Fin 4096)
  | cell (c : Fin 640) (fall : Bool)
  | bout (v : Fin 2048)
  | strobe (r : Fin 8)
  | relseq (r b : Fin 8)
  deriving DecidableEq, Repr

/-- A product term (R361): input lines taken true, and taken complemented. -/
structure VTerm where
  lit : BitVec 80
  inv : BitVec 80
  deriving DecidableEq, Repr

/-- Storage of a macrocell (R361). -/
inductive VStore where
  | dff | tff | latch | comb
  deriving DecidableEq, Repr

/-- A macrocell (R361, R362): its terms, whether it takes those of the one below, polarity, storage, clock net and edge, the terms of
clock enable, set and reset, carry mode, and whether it drives its boundary input bit. -/
structure VMac where
  terms : List (Fin 5 × VTerm)
  steer : Bool
  invert : Bool
  store : VStore
  net : Fin 8
  fall : Bool
  enable : Option (Fin 5)
  set : Option (Fin 5)
  reset : Option (Fin 5)
  carry : Bool
  drives : Bool
  deriving DecidableEq, Repr

/-- A block (R361 to R363): the choice of its input lines, its macrocells in use, and whether its macrocell 0 takes the carry of the
next lower block. -/
structure VBlock where
  lines : List (Fin 80 × VSource)
  macs : List (Fin 128 × VMac)
  carryIn : Bool
  deriving DecidableEq, Repr

/-- A block in which nothing is configured. -/
def VBlock.empty : VBlock := { lines := [], macs := [], carryIn := false }

/-- The blocks of a region, and the macrocells that are its publish source and its ready source (R367, R368, R373). -/
structure VNet where
  blocks : Vector VBlock 4
  pub : Option (Fin 512)
  ready : Option (Fin 512)
  deriving DecidableEq, Repr

/-- A region without a configuration. -/
def VNet.empty : VNet := { blocks := Vector.replicate 4 VBlock.empty, pub := none, ready := none }

/-- An I/O cell as its image sets it (R370, R542): the regional nets of its input, output and output-enable registers, which of them
are double rate, the pull (0 none, 1 up, 2 down, 3 keeper), and the drive (4, 8, 12 or 16 mA). -/
structure VCell where
  inNet : Fin 8
  outNet : Fin 8
  oeNet : Fin 8
  inDouble : Bool
  outDouble : Bool
  oeDouble : Bool
  pull : Fin 4
  drive : Fin 4
  deriving DecidableEq, Repr

/-- A cell that the image leaves out: single rate, without pull. -/
def VCell.plain : VCell :=
  { inNet := 0, outNet := 0, oeNet := 0, inDouble := false, outDouble := false, oeDouble := false, pull := 0, drive := 0 }

/-- What a region's configuration (R373) says: image identifier, home clock, pace flag, publish source always 1, initial
values of its macrocells, isolation values (two bits per cell: 0 high-impedance, 1 at 0, 2 at 1, 3 last driven value; one bit per
source: hold), the delay codes of its cells, its blocks, and its I/O cells. -/
structure VImage where
  id : Word
  home : Fin 8
  pace : Bool
  pubAlways : Bool
  init : BitVec 512
  isoCells : BitVec 160
  isoSources : BitVec 672
  delays : List (Fin 80 × BitVec 16)
  net : VNet
  cells : List (Fin 80 × VCell)
  deriving DecidableEq, Repr

/-- The fabric's registers of a region after a home-clock edge, as its netlist makes them: macrocell storage and the six
register bits of each I/O cell (R376). -/
structure FabricRegs where
  storage : BitVec 512
  cells : BitVec 480
  deriving DecidableEq, Repr

/-- A home-clock edge from outside: registers of regions just before it, as edges of other nets have left them (log entry 10), and the
region's cell registers after it. -/
structure HomeEdge where
  pre : List (Fin 8 × FabricRegs)
  cells : BitVec 480
  deriving DecidableEq, Repr

/-- One region: region copy, strobe, whether a release awaits presentation, publish register, publish in transit, step-domain
copy, the input bits its closed isolation holds, its registers, isolation values in force, what its sources showed when
its isolation closed, what its cells drove then (two bits per cell: whether, and the value), its blocks, its I/O cells, and the
configuration loading. -/
structure VRegion where
  copy : BitVec 256
  strobe : Bool
  pend : Bool
  pub : BitVec 256
  transit : Option (BitVec 256)
  stepCopy : BitVec 256
  isoIn : BitVec 256
  fabric : FabricRegs
  isoCells : BitVec 160
  isoSources : BitVec 672
  isoHeld : BitVec 672
  isoOut : BitVec 160
  net : VNet
  cells : List (Fin 80 × VCell)
  loading : Option VImage
  deriving DecidableEq, Repr

/-- A region at reset: every cell high-impedance and every source 0 (R374). -/
def VRegion.reset : VRegion :=
  { copy := 0, strobe := false, pend := false, pub := 0, transit := none, stepCopy := 0, isoIn := 0, fabric := ⟨0, 0⟩,
    isoCells := 0, isoSources := 0, isoHeld := 0, isoOut := 0, net := VNet.empty, cells := [], loading := none }

/-- Vitrine: the boundary output register, the regions, each partition's release count modulo 256, banks whose calibration
runs, delay codes in force, and cells whose written code awaits their next edge. -/
structure Vtr where
  bout : List (Nat × Bool)
  regions : Vector VRegion 8
  rel : Vector Nat 8
  calRun : List Nat
  delays : List (Nat × Nat)
  edges : List Nat
  deriving DecidableEq, Repr

/-- Vitrine at reset. -/
def Vtr.reset : Vtr :=
  { bout := [], regions := Vector.replicate 8 VRegion.reset, rel := Vector.replicate 8 0, calRun := [], delays := [], edges := [] }

end Sys2Proof.Machine
end

