-- ==== Sys2Proof/Machine/CkpState.lean ====
section
/-!
DEFINITION. The state of the checkpoint engines and of hard-fault recovery (R315 to R335) beyond their registers.  Checkpoint
images and record entries stand here as the values they hold; their bytes lie at the depot node, which is taken to return
what was written to it (log entry 20).
-/
namespace Sys2Proof.Machine

/-- The registers of a region's snapshot (R376). -/
structure RegionSnap where
  region : Nat
  image : Word
  state : Nat
  relseq : Nat
  fabric : FabricRegs
  pub : BitVec 256
  deriving DecidableEq, Repr

/-- The SEQ section (R320): status bits, STALLED_LAST, epoch and the FRM block from 0x028 to 0x05C: REMAINING, stall total,
stall counts by cause, largest stall, FRM_ABORTS. -/
structure SeqSnap where
  status : Nat
  stalled : Bool
  epoch : Nat
  remaining : Nat
  stallTotal : Nat
  stallBy : List Nat
  stallMax : Nat
  consec : Nat
  aborts : Nat
  deriving DecidableEq, Repr

/-- The CAPTURE section (R303, R320): capture registers by address offset in the block, capture state, sequencer, frames
counted while WAITING, the open plate. -/
structure CapSnap where
  regs : List (Nat × Word)
  state : Nat
  seqr : Seqr
  waited : Nat
  plate : Option PlateOpen
  pre : Nat
  post : Nat
  deriving DecidableEq, Repr

/-- A checkpoint at a boundary (R315, R319, R320): the header fields a restore uses, the working store with the registers and
the output vector, the loaned banks (packed bank and its listed bytes by offset), sequencer, capture, input latch, regions,
held exchange words (`xinit`: the initial words 0 of an arm, R128), and the depot granules (UNDO or DEPOT). -/
structure CkImg where
  boundary : Nat
  start : Nat
  tb : Nat
  digest : Nat
  stepping : Nat
  recPos : Nat
  img : Img
  banks : List (Nat × List Host.Cell)
  seq : SeqSnap
  cap : CapSnap
  bins : List (Nat × Bool)
  regions : List RegionSnap
  xheld : List XHeld
  xinit : Bool
  granules : List Nat
  deriving DecidableEq, Repr

/-- An item of a record entry (R324): working-store key, value, operation (0 deposit, 1 force, 2 release) and stamp; XTRIG
lines; capture actions; an asynchronous event with its die; an exchange word with machine slot id and link. -/
inductive RecItem where
  | deposit (key : Nat) (val : Bool) (op stamp : Nat)
  | xtrig (mask : Nat)
  | capctl (acts : Nat)
  | async (die : Nat) (e : Evt)
  | xchg (mslot link : Nat) (word : DWord)
  deriving DecidableEq, Repr

/-- Units of an item. -/
def RecItem.units : RecItem → Nat
  | .async .. => 2
  | _ => 1

/-- An entry of the input record (R323).  In a start entry `frame` is FRM_START, `tb` holds the machine fields of W1 and `tbRel`
the EPH_DIGEST. -/
structure RecE where
  start : Bool
  frame : Nat
  stalled : Bool
  tb : Nat
  tbRel : Nat
  inUnits : Nat
  inputs : List (Nat × Bool)
  items : List RecItem
  outCrc : Word
  pos : Nat
  deriving DecidableEq, Repr

/-- Units of an entry. -/
def RecE.units (e : RecE) : Nat := 1 + e.inUnits + (e.items.map RecItem.units).foldl (· + ·) 0

/-- The entries of the run recorded last: those after the last start entry. -/
def runEntries : List RecE → List RecE
  | [] => []
  | e :: r => if r.any (·.start) then runEntries r else if e.start then r else e :: r

/-- A checkpoint in progress: its image, the slot it goes into, whether its on-chip bytes are still being read, the timebase
at which the hold began. -/
structure CkBusy where
  img : CkImg
  slot : Nat
  reading : Bool
  since : Nat
  deriving DecidableEq, Repr

/-- A hard-fault recovery (R326, R330): fault cause and frame, FRM_FRAME to show, aborted executions counted, timebase at the
fault, units taken out of service (words of R331), whether catch-up frames run. -/
structure Recov where
  cause : FaultCause
  frame : Nat
  shown : Nat
  aborts : Nat
  since : Nat
  units : List Nat
  catchUp : Bool
  deriving DecidableEq, Repr

/-- The checkpoint engine of one partition: EPH_DIGEST and stepping of the loaded ephemeris, the latest complete checkpoint, the
one in progress, a boundary asked for by CHECKPOINT (0 the next), whether the Curator owes a new checkpoint after UNDO_FULL,
granules whose copy runs, granules that the last restore wrote back to the node at its boundary (R321, R326), whether the recording
has stopped for want of room (R325), entries in the record ring and entries due, deposits applied by the
boundary after their frame, exchange words taken by frame, the entries a replay runs from, the recovery, and whether the run
began with a restore whose replay has not begun. -/
structure Ckp where
  digest : Nat
  stepping : Nat
  latest : Option CkImg
  busy : Option CkBusy
  want : Option Nat
  again : Bool
  undoRun : List Nat
  back : List Nat
  stopped : Bool
  record : List RecE
  due : List RecE
  depLog : List (Nat × Deposit)
  xtaken : List (Nat × Nat × Nat × DWord)
  replay : Option (List RecE)
  recov : Option Recov
  restored : Option CkImg
  deriving DecidableEq, Repr

/-- The engine at reset. -/
def Ckp.reset : Ckp :=
  { digest := 0, stepping := 0, latest := none, busy := none, want := none, again := false, undoRun := [], back := [], stopped := false, record := [], due := [],
    depLog := [], xtaken := [], replay := none, recov := none, restored := none }

end Sys2Proof.Machine
end

