-- ==== Sys2Proof/Machine/LinkState.lean ====
section
/-!
DEFINITION. The state of the links (R231 to R252) beyond their registers: lane streams with their replay buffers, INITs held, the
machines bound to partitions, cross-trigger sequence numbers and the timebase.
-/
namespace Sys2Proof.Machine

/-- A vote entry (R235). -/
structure VoteE where
  dev : Nat
  abort : Bool
  stop : Bool
  cause : Nat
  deriving DecidableEq, Repr

/-- The payload of a sequenced flit (R234, R235): exchange words with the machine slot id of the first, the sender's partition,
the low byte of the frame and the epoch; a frame token; votes; a cross-trigger. -/
inductive FlitBody where
  | xchg (words : List DWord) (mslot chan frame epoch : Nat)
  | token (chan frame epoch : Nat)
  | vote (chan frame epoch : Nat) (entries : List VoteE)
  | xtrig (source mask xseq time : Nat)
  deriving DecidableEq, Repr

/-- An INIT (R236, R238). -/
structure InitMsg where
  chan : Nat
  machineId : Nat
  nDevices : Nat
  devIndex : Nat
  start : Nat
  depth : Nat
  deriving DecidableEq, Repr

/-- A LINKCTL flit (R236). -/
inductive LinkCtl where
  | ack (next : Nat)
  | nak (next : Nat)
  | sync (t1 : Nat)
  | syncReply (t1 t2 t3 : Nat)
  | init (m : InitMsg)
  deriving DecidableEq, Repr

/-- One lane's stream (R232, R237): the next SEQ to send, flits given a SEQ and not freed, how many of them have been sent since the
last return to the oldest, flits queued, resends without progress; the SEQ expected, whether a NAK is outstanding, flits accepted since
the last ACK; and the LINKCTL flits that wait to be sent. -/
structure Stream where
  txSeq : Nat
  replay : List (Nat × FlitBody)
  sent : Nat
  queue : List FlitBody
  resends : Nat
  rxSeq : Nat
  nakOut : Bool
  sinceAck : Nat
  ctl : List LinkCtl
  deriving DecidableEq, Repr

/-- A stream at reset (initial SEQ 0: log entry 9). -/
def Stream.reset : Stream :=
  { txSeq := 0, replay := [], sent := 0, queue := [], resends := 0, rxSeq := 0, nakOut := false, sinceAck := 0, ctl := [] }

/-- One link: its four streams, flits that wait for a lane to be up, and the INITs held, newest last (R238). -/
structure Link where
  streams : Vector Stream 4
  backlog : List FlitBody
  inits : List InitMsg
  deriving DecidableEq, Repr

/-- A link at reset. -/
def Link.reset : Link := { streams := Vector.replicate 4 Stream.reset, backlog := [], inits := [] }

/-- A command whose response is still to be posted (R452): mailbox and stamp. -/
structure CmdRef where
  mbx : Fin 36
  stamp : Nat
  deriving DecidableEq, Repr

/-- An arm that waits for its links (R238): the start frame, the links matched with the partner's CHAN, the command, and whether a
named link has left UP since. -/
structure Arming where
  start : Nat
  matched : List (Nat × Nat)
  cmd : Option CmdRef
  goWait : Bool
  lost : Bool
  deriving DecidableEq, Repr

/-- A partition's share of its machine (R240 to R244): epoch, tokens that arrived (link, frame), vote entries (frame, entry),
flits held aside for the next epoch with their link, and an arm in progress. -/
structure Mach where
  epoch : Nat
  tokens : List (Nat × Nat)
  votes : List (Nat × VoteE)
  aside : List (Nat × FlitBody)
  arming : Option Arming
  deriving DecidableEq, Repr

/-- No machine. -/
def Mach.reset : Mach := { epoch := 0, tokens := [], votes := [], aside := [], arming := none }

/-- The link layer: links, machines, XSEQ of this device, the last XSEQ taken per source, the timebase, the correction still to slew and the nanoseconds since it last moved, whether no offset has been taken since reset,
and consecutive offsets within 2 ns (R248 to R250). -/
structure Lnk where
  links : Vector Link 24
  machs : Vector Mach 8
  xseq : Nat
  xlast : List (Nat × Nat)
  timebase : Nat
  slew : Int
  slewNs : Nat
  first : Bool
  good : Nat
  deriving DecidableEq, Repr

/-- The link layer at reset. -/
def Lnk.reset : Lnk :=
  { links := Vector.replicate 24 Link.reset, machs := Vector.replicate 8 Mach.reset, xseq := 0, xlast := [],
    timebase := 0, slew := 0, slewNs := 0, first := true, good := 0 }

end Sys2Proof.Machine
end

