-- ==== Sys2Proof/Machine/PacketState.lean ====
section
/-!
DEFINITION. The state of the vaults (R180 to R202), the NoC (R204 to R217) and the depot interface (R219 to R229) beyond their
registers.  Loans, link service and port states are held in the registers VLT_LOAN, NOC_LINKS and DEP_PORT_STATE.
-/
namespace Sys2Proof.Machine

/-- A packet's header (R208) and data words; `owner` is set by the issuing hardware. -/
structure Pkt where
  dest : Nat
  ep : Nat
  src : Nat
  sep : Nat
  cls : Nat
  age : Nat
  owner : Owner
  op : Nat
  len : Nat
  tag : Nat
  status : Nat
  derr : Bool
  addr : Nat
  wmask : Nat
  bmask : Nat
  data : List DWord
  deriving DecidableEq, Repr

/-- A packet as it arrives: with a header whose CRC fails, or without (R216). -/
structure Arrival where
  pkt : Pkt
  hdrBad : Bool
  deriving DecidableEq, Repr

/-- A CREDIT_REQ as it arrives (R210, R213): the credits it asks for, the CTRL flag, and whether its header CRC fails. -/
structure CreditAsk where
  credits : Fin 5
  ctrl : Bool
  hdrBad : Bool
  deriving DecidableEq, Repr

/-- The class that R210 gives an opcode: 0 CTRL, 1 REQ, 2 RSP, 3 BULK. -/
def classOk (op cls : Nat) : Bool :=
  match op with
  | 0 | 1 => cls == 1 || cls == 3
  | 2 | 3 | 4 | 5 | 10 => cls == 0
  | 8 | 9 => cls == 2
  | _ => false

/-- A virtual-channel buffer that a packet holds (R206): the router, the input (0 X+, 1 X−, 2 Y+, 3 Y−, 4 injection), the channel
(0 CTRL-0, 1 CTRL-1, 2 DATA-0, 3 DATA-1) and the flits of the packet in it. -/
structure Chan where
  router : Nat
  input : Nat
  vc : Nat
  flits : Nat
  deriving DecidableEq, Repr

/-- A packet in the network: flits still at its source, the buffers it holds from its head to its tail, flits out at its destination,
and the NoC cycles before its head may move on (R205). -/
structure Flight where
  pkt : Pkt
  todo : Nat
  chans : List Chan
  out : Nat
  wait : Nat
  deriving DecidableEq, Repr

/-- A request queued at the NoC input of port N of a bank (R181), from the packet that carried it: a read of `count` words from
`word` on, or a write of the data words that the packet's WMASK enables. -/
structure NReq where
  bank : Nat
  word : Nat
  count : Nat
  pkt : Pkt
  deriving DecidableEq, Repr

/-- The vaults: bytes of all banks (address = packed bank × 65,536 + byte), words with a double-bit error not yet rewritten,
port N queues, the two copies of VLT_PEEK_STATUS, the VAULT_BUSY_N ball with the nanoseconds it stays low, and the banks whose
handover under way scrubs them (R189). -/
structure Vlt where
  mem : List Host.Cell
  dbe : List Nat
  qNoc : List NReq
  peekPf0 : Word
  peekMgmt : Word
  busyLow : Bool
  busyLeft : Nat
  scrub : List Nat
  deriving DecidableEq, Repr

/-- Vaults at reset: nothing listed, so every byte reads 0 (log entry 6). -/
def Vlt.reset : Vlt :=
  { mem := [], dbe := [], qNoc := [], peekPf0 := 0, peekMgmt := 0, busyLow := false, busyLeft := 0, scrub := [] }

/-- Whose credits they are (R213, R214): an interface, an endpoint, and whether they are for its 4 entries of CTRL-class requests. -/
structure CreditKey where
  src : Nat
  sep : Nat
  dest : Nat
  ep : Nat
  ctrl : Bool
  deriving DecidableEq, Repr

/-- Credits an interface holds at an endpoint (R213): those unused, and those of requests on their way. -/
structure Credit where
  key : CreditKey
  free : Nat
  used : Nat
  deriving DecidableEq, Repr

/-- A unit that asks for credit (R211, R213): the credits asked for, the landing entry that its CREDIT_REQ reserved, the age of its
request, whether it received RETRY, and the request itself where it is a schedule's read. -/
structure Ask where
  key : CreditKey
  want : Nat
  tag : Nat
  age : Nat
  refused : Bool
  pkt : Option Pkt
  deriving DecidableEq, Repr

/-- A landing-buffer entry: a request that has left and whose response has not landed (R213, R217); `lost` says that a router
dropped the request. -/
structure Landing where
  src : Nat
  sep : Nat
  tag : Nat
  dest : Nat
  ep : Nat
  op : Nat
  ctrl : Bool
  lost : Bool
  deriving DecidableEq, Repr

/-- A response that landed for a unit other than a tile's vault ports: interface, tag, status, data. -/
structure Landed where
  src : Nat
  sep : Nat
  tag : Nat
  status : Nat
  derr : Bool
  data : List DWord
  deriving DecidableEq, Repr

/-- The NoC: packets in the network, for each output of a router the input it serves next among equals (R212), credits held, units
that ask for credit, landing entries, responses landed, and requests delivered to unit endpoints, whose unit offsets no rule lays
out (R209, R210). -/
structure Noc where
  pkts : List Flight
  turn : List (Nat × Nat)
  credits : List Credit
  asks : List Ask
  landing : List Landing
  landed : List Landed
  msgs : List Pkt
  deriving DecidableEq, Repr

/-- An idle NoC. -/
def Noc.reset : Noc := { pkts := [], turn := [], credits := [], asks := [], landing := [], landed := [], msgs := [] }

/-- A held write of a partition's schedule (R224): partition, frame, depot address of its word, data, whether its frame is
released, and whether its WRITE has been sent. -/
structure HeldW where
  part : Nat
  frame : Nat
  addr : Nat
  data : DWord
  released : Bool
  sent : Bool
  deriving DecidableEq, Repr

/-- A depot message (R221): the fields of its header flit, and its data words, four to a flit. -/
structure DMsg where
  type : Nat
  tag : Nat
  len : Nat
  nodeAddr : Nat
  wmask : Nat
  data : List DWord
  deriving DecidableEq, Repr

/-- A request at a depot port (R221, R223): its message to the node, the packet to answer (none for a held write), the partition,
frame and address of the held write, the depot address, and for a read the words that share entries serve (R225). -/
structure DReq where
  msg : DMsg
  pkt : Option Pkt
  entry : Option (Nat × Nat × Nat)
  addr : Nat
  serve : List (Option DWord)
  deriving DecidableEq, Repr

/-- A lane of a depot port (R221, R233): its next SEQ, and the flits left of the message it sends. -/
structure DLane where
  seq : Nat
  rest : List Nat
  deriving DecidableEq, Repr

/-- A depot port: attach progress with the probe (an ECHO or INFO_REQ) that awaits its answer, requests arrived and waiting for the map
check, requests accepted and waiting for one of 1,024 outstanding slots, requests outstanding at the node, next tag, the
held-write store, messages that wait for a lane of the port, and its lanes. -/
structure DPort where
  echoes : Nat
  bestRtt : Nat
  probe : Option DMsg
  arrived : List Pkt
  queue : List DReq
  outst : List DReq
  nextTag : Nat
  held : List HeldW
  wire : List DMsg
  lanes : Vector DLane 4
  deriving DecidableEq, Repr

/-- A depot port not in use. -/
def DPort.reset : DPort :=
  { echoes := 0, bestRtt := 0, probe := none, arrived := [], queue := [], outst := [], nextTag := 0, held := [],
    wire := [], lanes := Vector.replicate 4 ⟨0, []⟩ }

/-- The depot interface: the map (segment, entry) and the ports (R219, R223). -/
structure Dep where
  map : List (Nat × DWord)
  ports : Vector DPort 8
  deriving DecidableEq, Repr

/-- The depot at reset: no segment mapped (log entry 7). -/
def Dep.reset : Dep := { map := [], ports := Vector.replicate 8 DPort.reset }

end Sys2Proof.Machine
end

