-- ==== Sys2Proof/Operand.lean ====
section
/-!
DEFINITION. Operand types of the commands: what reaches the part from outside with an event.
-/
namespace Sys2Proof.Machine

/-- The access of higher rank that touches the same word in the same step-clock cycle, if any (R197). -/
inductive Meet where
  | none | read | fullWrite | partialWrite
  deriving DecidableEq, Repr

/-- What SECDED finds on a vault word read (R183). -/
inductive Ecc where
  | good | single | double
  deriving DecidableEq, Repr

/-- A unit that the Curator takes out of service in a recovery (R326, R331): a logical cluster, a logical bank with the spare it
moves to, a logical lane of a quad, a stack row of instruction slots (BP and which of its 16 rows of 128 steps), a NoC link by
router and direction, a NoC router, or a control core. -/
inductive Located where
  | cluster (tile : BitVec 8) (c : Fin 16)
  | bank (bank : BitVec 10) (spare : Fin 8)
  | lane (q : Fin 24) (i : Fin 4)
  | row (bp : BitVec 18) (r : Fin 16)
  | link (tile : BitVec 8) (dir : Fin 4)
  | router (tile : BitVec 8)
  | core (k : Fin 8)
  deriving DecidableEq, Repr

/-- A container (R384 to R386), little-endian: its 32-byte header, the entries of its segment table (TYPE with a reserved halfword,
CRC, OFFSET, LENGTH), the first 8 bytes of its signature block, whether its CRC matches, whether the signature verifies under
the hash of its slot, and the image hash as EPH_DIGEST (R385). -/
structure Cont where
  head : BitVec 256
  segs : List (Word × Word × DWord × DWord)
  sig : DWord
  crcOk : Bool
  sigOk : Bool
  digest : DWord
  deriving DecidableEq, Repr

/-- An ephemeris as offered (R160 to R164), little-endian, the 16 words of 64 bits of the header, the section
table (two words of 32 bits and two of 64 an entry), its length in bytes, and the words of its sections.  `data` lists, per section type, the words
that differ from the fill (in SLOTS the NOP, in the descriptors of ROUTE the empty one, else 0) by their place in the section. -/
structure EphRec where
  head : List DWord
  table : List (Word × Word × DWord × DWord)
  length : Nat
  data : List (Nat × List (Nat × DWord))
  deriving DecidableEq, Repr

/-- How a load ends once its checks have passed (R396, R454): written, a write that fails verification three times, or a SAFETY
command that leaves it impossible before or after its writes began. -/
inductive LoadEnd where
  | written | failed | cutBefore | cutAfter
  deriving DecidableEq, Repr

/-- A Vitrine container (R390): its header, the length the command or the directory gives, its segment of 16 bytes, and the
configurations it carries by region. -/
structure VBox where
  cont : Cont
  len : Nat
  desc : BitVec 128
  images : List (Fin 8 × VImage)
  deriving DecidableEq, Repr

/-- A QUADS record (R390); `lanes` gives per lane the bits TX_GRAY, TX_PRECODE, TX_INV, RX_GRAY, RX_PRECODE, RX_INV. -/
structure QuadRec where
  use : Nat
  bind : Nat
  half : Bool
  pre : Nat
  post : Nat
  lanes : List Nat
  deriving DecidableEq, Repr

/-- A BOARD container (R390): its header, the records of its segments as they stand, the stage 4 wait when it carries one (R398), and the regulator
settings of PWR_VR (R505). -/
structure BoardBox where
  cont : Cont
  quads : List DWord
  spares : List (BitVec 16)
  ranges : List (BitVec 128)
  autos : List (BitVec 256)
  laneWait : Option (BitVec 16)
  vrAddr : BitVec 7
  vrEn : Bool
  deriving DecidableEq, Repr

/-- What stages 1 and 2 of configuration find (R379 to R383, R348, R352): CFG_JOIN as sampled, whether the Curator's self-check
passes in its time, control cores that fail the health check, the two directory copies of a flash that answers in its time, the containers
of its PATCH and BOARD entries if any, whether a copy of the reserve record is good, physical units that fail built-in
self-test (tile × 17 + p; die × 264 + p), the operating point of each die, and each bank's VDDIO in mV. -/
structure Boot where
  join : Bool
  curator : Bool
  badCores : Byte
  flash : Option (BitVec 32768 × BitVec 32768)
  patch : Option Cont
  board : Option BoardBox
  record : Bool
  badClusters : List Nat
  badBanks : List Nat
  ops : Vector (Fin 4) 4
  vddio : List (BitVec 12)
  deriving DecidableEq, Repr

/-- The image of an autoload entry (R391): none to be read, an ephemeris with the length its source gives and whether its writes
verify (R396), or a Vitrine image. -/
inductive AutoImg where
  | absent
  | eph (c : Cont) (len : Nat) (e : EphRec) (ok : Bool)
  | vtr (v : VBox)
  deriving DecidableEq, Repr

/-- What one converter finds in a slot (R427): the code, and its over-range and under-range comparators. -/
structure Smp where
  code : BitVec 12
  ovr : Bool
  unr : Bool
  deriving DecidableEq, Repr

/-- What a control core does that the Logbook may record (R522): tracing of it starts; a taken branch, call, return or exception
entry to `dst`; a load or store; it enters or leaves excluded code. -/
inductive LgbEv where
  | start
  | branch (dst : Word)
  | data (size : BitVec 3) (store : Bool) (addr val : Word)
  | enter
  | leave
  deriving DecidableEq, Repr

end Sys2Proof.Machine
end

