-- ==== Sys2Proof/Syntax.lean ====
section
/-!
DEFINITION. The commands: one constructor per row of spec/opcode_table.json, with the operands the row's event carries.  A
command is one indivisible step of the part; data that reaches the part from outside with the event (a node's answer, a
flit's content, what an error detector reported) is an operand.
-/
namespace Sys2Proof

open Sys2Proof.Machine

/-- The commands and events of the part, in the order of spec/opcode_table.json. -/
inductive Instr where
  /-- EVAL (R91). -/
  | eval (bp : BpAddr) (e : BpErr)
  /-- HOLD (R92). -/
  | hold (bp : BpAddr) (e : BpErr)
  /-- LATCH (R94). -/
  | latch (bp : BpAddr) (e : BpErr)
  /-- VPUT (R115). -/
  | vput (bp : BpAddr) (e : BpErr)
  /-- VGET (R116). -/
  | vget (bp : BpAddr) (e : BpErr)
  /-- XPUT (R125). -/
  | xput (bp : BpAddr) (e : BpErr)
  /-- XGET (R126). -/
  | xget (bp : BpAddr) (e : BpErr)
  /-- IPUT (R129). -/
  | iput (bp : BpAddr) (e : BpErr)
  /-- IGET (R112). -/
  | iget (bp : BpAddr) (e : BpErr)
  /-- STOP (R96). -/
  | stop (bp : BpAddr) (e : BpErr)
  /-- MARK (R100). -/
  | mark (bp : BpAddr) (e : BpErr)
  /-- NOP (R101). -/
  | nop (bp : BpAddr) (e : BpErr)
  /-- RESERVED_CLASS (R48). -/
  | reservedClass (bp : BpAddr) (e : BpErr)
  /-- STEP_CYCLE (R42). -/
  | stepCycle (n : Fin 8) (env : StepEnv)
  /-- LATTICE_DRAIN (R146). -/
  | latticeDrain (n : Fin 8) (env : StepEnv)
  /-- VITRINE_EXCHANGE (R32). -/
  | vitrineExchange (n : Fin 8)
  /-- DEPOSITS_APPLIED (R49). -/
  | depositsApplied (n : Fin 8)
  /-- TAP_RECORDS_CLOSED (R283). -/
  | tapRecordsClosed (n : Fin 8)
  /-- ERROR_GATHER (R97). -/
  | errorGather (n : Fin 8)
  /-- VOTE_SEND (R243). -/
  | voteSend (n : Fin 8)
  /-- COMMIT_DECISION (R33). -/
  | commitDecision (n : Fin 8)
  /-- SHADOW_COPY (R33). -/
  | shadowCopy (n : Fin 8) (env : StepEnv)
  /-- RELEASE (R310). -/
  | release (n : Fin 8)
  /-- TALLY_UPDATE (R516). -/
  | tallyUpdate (n : Fin 8)
  /-- COUNTER_UPDATE (R30). -/
  | counterUpdate (n : Fin 8)
  /-- FRAME_TICK (R29). -/
  | frameTick (n : Fin 8)
  /-- FRAME_LIMIT (R31). -/
  | frameLimit (n : Fin 8)
  /-- RUN_FRAMES_EXPIRY (R46). -/
  | runFramesExpiry (n : Fin 8)
  /-- STALL_LIMIT (R45). -/
  | stallLimit (n : Fin 8)
  /-- STALL_LONG (R52). -/
  | stallLong (n : Fin 8)
  /-- ABORT_LIMIT (R47). -/
  | abortLimit (n : Fin 8)
  /-- STALE_READS_RETURNED (R122). -/
  | staleReadsReturned (n : Fin 8)
  /-- WRITEBACK_HOLD_END (R195). -/
  | writebackHoldEnd (n : Fin 8)
  /-- HELD_SHARE_FREED (R226). -/
  | heldShareFreed (n : Fin 8)
  /-- VLT_LOAN_WRITE (R189). -/
  | vltLoanWrite (bank : BitVec 10) (owner : BitVec 4) (scrub : Bool)
  /-- LOAN_DRAINED (R189). -/
  | loanDrained (bank : BitVec 10)
  /-- LOAN_SCRUB_DONE (R189). -/
  | loanScrubDone (bank : BitVec 10)
  /-- PORT_N_ACCESS (R197). -/
  | portNAccess (bank : BitVec 10) (meet : Meet) (ecc : Ecc)
  /-- PATROL_SCRUB (R184). -/
  | patrolScrub (bank : BitVec 10) (word : BitVec 13) (ecc : Ecc) (meet : Bool)
  /-- VAULT_BUSY_N_RELEASE (R198). -/
  | vaultBusyNRelease
  /-- BANK_SPARE_REMAP (R201). -/
  | bankSpareRemap (bank : BitVec 10) (spare : Fin 8)
  /-- PEEK_READ (R200). -/
  | peekRead (path : Path) (addr : Nat) (meet : Meet) (ecc : Ecc)
  /-- PEEK_WRITE (R200). -/
  | peekWrite (path : Path) (addr : Nat) (hi : Word) (meet : Meet)
  /-- AGE_TICK (R211). -/
  | ageTick
  /-- READ (R210). -/
  | read (pkt : Pkt) (hdrBad : Bool)
  /-- WRITE (R210). -/
  | write (pkt : Pkt) (hdrBad : Bool)
  /-- CFG_WRITE (R210). -/
  | cfgWrite (pkt : Arrival)
  /-- MSG (R210). -/
  | msg (pkt : Arrival)
  /-- CREDIT_REQ (R213). -/
  | creditReq (src : BitVec 8) (sep : Fin 16) (dest : BitVec 8) (ep : Fin 16) (want : CreditAsk)
  /-- CREDIT_REPLY (R213). -/
  | creditReply (src : BitVec 8) (sep : Fin 16) (dest : BitVec 8) (ep : Fin 16) (req : Arrival)
  /-- CREDIT_RETURN (R213). -/
  | creditReturn (src : BitVec 8) (sep : Fin 16) (dest : BitVec 8) (ep : Fin 16 × Bool)
  /-- READ_DATA (R210). -/
  | readData (pkt : Pkt) (hdrBad : Bool)
  /-- WRITE_DONE (R210). -/
  | writeDone (pkt : Pkt) (hdrBad : Bool)
  /-- NOC_TIMEOUT (R217). -/
  | nocTimeout (src : BitVec 8) (sep : Fin 16) (tag : BitVec 8)
  /-- LINK_OUT_OF_SERVICE (R207). -/
  | linkOutOfService (tile : BitVec 8) (dir : Fin 4)
  /-- ROUTER_FENCE (R351). -/
  | routerFence (tile : BitVec 8) (dir : Fin 4)
  /-- DEPOT_ATTACH (R223). -/
  | depotAttach (port : Fin 8)
  /-- DEPOT_ECHO_REPLY (R223). -/
  | depotEchoReply (port : Fin 8) (roundTrip : Nat) (turn : Nat)
  /-- DEPOT_INFO (R223). -/
  | depotInfo (port : Fin 8) (tNode : BitVec 16) (gib : BitVec 24)
  /-- DEPOT_INFO_TIMEOUT (R223). -/
  | depotInfoTimeout (port : Fin 8)
  /-- DEPOT_REQUEST (R220). -/
  | depotRequest (port : Fin 8)
  /-- DEPOT_READ_DATA (R222). -/
  | depotReadData (port : Fin 8) (tag : Nat) (status : Fin 3) (data : List DWord)
  /-- DEPOT_WRITE_ACK (R224). -/
  | depotWriteAck (port : Fin 8) (tag : Nat) (status : Fin 3)
  /-- DEPOT_QUEUE_SEND (R223). -/
  | depotQueueSend (port : Fin 8)
  /-- UNDO_COPY_DONE (R317). -/
  | undoCopyDone (n : Fin 8) (granule : BitVec 30)
  /-- INIT (R238). -/
  | init (k : Fin 24) (ln : Fin 4) (crcOk : Bool) (m : InitMsg)
  /-- INIT_REPEAT (R238). -/
  | initRepeat (n : Fin 8)
  /-- ARM_TIMEOUT (R238). -/
  | armTimeout (n : Fin 8)
  /-- TOKEN (R241). -/
  | token (k : Fin 24) (ln : Fin 4) (crcOk : Bool) (seq : BitVec 12) (chan : Fin 8) (frame : BitVec 48) (epoch : Fin 16)
  /-- VOTE (R243). -/
  | vote (k : Fin 24) (ln : Fin 4) (crcOk : Bool) (seq : BitVec 12) (chan : Fin 8) (frame : BitVec 48) (epoch : Fin 16) (entries : List VoteE)
  /-- XCHG_FLIT (R234). -/
  | xchgFlit (k : Fin 24) (ln : Fin 4) (crcOk : Bool) (seq : BitVec 12) (words : List DWord) (mslot : BitVec 24) (chan : Fin 8) (frame : Byte) (epoch : Fin 16)
  /-- XTRIG (R248). -/
  | xtrig (k : Fin 24) (ln : Fin 4) (crcOk : Bool) (seq : BitVec 12) (source : Byte) (mask : BitVec 16) (x : BitVec 16) (time : DWord)
  /-- ACK (R237). -/
  | ack (k : Fin 24) (ln : Fin 4) (crcOk : Bool) (e : BitVec 12) (maxNs : BitVec 16)
  /-- NAK (R237). -/
  | nak (k : Fin 24) (ln : Fin 4) (crcOk : Bool) (e : BitVec 12)
  /-- REPLAY_TIMEOUT (R237). -/
  | replayTimeout (k : Fin 24) (ln : Fin 4)
  /-- SYNC_SEND (R249). -/
  | syncSend
  /-- SYNC (R249). -/
  | sync (k : Fin 24) (ln : Fin 4) (crcOk : Bool) (t1Lo t1Hi : Word)
  /-- SYNC_REPLY (R250). -/
  | syncReply (k : Fin 24) (crcOk : Bool) (t1 : DWord) (t2 : DWord) (t3 : DWord)
  /-- FILLER (R265). -/
  | filler (l : BitVec 7) (lane : Fin 4) (train : Bool) (spare : Bool) (quad : BitVec 5) (dev : Byte) (fill : Fin 129)
  /-- QUIET_END (R266). -/
  | quietEnd (l : BitVec 7)
  /-- SIGNAL_DETECT (R267). -/
  | signalDetect (l : BitVec 7)
  /-- LOCK_ACQUIRED (R267). -/
  | lockAcquired (l : BitVec 7)
  /-- LOCK_TIMEOUT (R267). -/
  | lockTimeout (l : BitVec 7)
  /-- ADAPT_DONE (R267). -/
  | adaptDone (l : BitVec 7) (found : Fin 19 × Fin 144)
  /-- ADAPT_TIMEOUT (R267). -/
  | adaptTimeout (l : BitVec 7)
  /-- ALIGN_TIMEOUT (R267). -/
  | alignTimeout (l : BitVec 7)
  /-- LOS (R267). -/
  | los (l : BitVec 7)
  /-- ABSENT (R267). -/
  | absent (l : BitVec 7)
  /-- ACCEPT_RESULT (R271). -/
  | acceptResult (l : BitVec 7) (found : Bool)
  /-- SPARE_ACTIVATE (R274). -/
  | spareActivate (q : Fin 24) (ln : Fin 4) (delayed : Bool) (gone : Bool)
  /-- LANE_CAPTURE (R271). -/
  | laneCapture (src : Option Path) (l : BitVec 7)
  /-- LANE_SLIP (R271). -/
  | laneSlip (src : Option Path) (l : BitVec 7) (count : Byte)
  /-- LANE_ACCEPT (R271). -/
  | laneAccept (src : Option Path) (l : BitVec 7) (count : Byte)
  /-- LANE_RETRAIN (R267). -/
  | laneRetrain (src : Option Path) (l : BitVec 7) (v : Word)
  /-- FRAME_BLOCK_WRITE (R287). -/
  | frameBlockWrite (n : Fin 8)
  /-- TRIG_IN (R289). -/
  | trigIn (ball : Fin 8) (low : Word)
  /-- TRIG_PULSE_END (R289). -/
  | trigPulseEnd (n : Fin 8)
  /-- AUTO_TIMEOUT (R294). -/
  | autoTimeout (n : Fin 8)
  /-- PLATE_CLOSE (R294). -/
  | plateClose (n : Fin 8)
  /-- DRAIN_PART (R301). -/
  | drainPart (n : Fin 8)
  /-- DRAIN_ACK (R301). -/
  | drainAck (n : Fin 8) (nodeOk : Bool)
  /-- CAPTURE_ARM (R294). -/
  | captureArm (n : Fin 8) (path : Path)
  /-- CAPTURE_FORCE (R296). -/
  | captureForce (n : Fin 8)
  /-- CAPTURE_CLOSE (R296). -/
  | captureClose (n : Fin 8)
  /-- CAPTURE_DISARM (R294). -/
  | captureDisarm (n : Fin 8)
  /-- HOST_MARK (R286). -/
  | hostMark (n : Fin 8) (payload : DWord)
  /-- DRAIN_RESTART (R301). -/
  | drainRestart (n : Fin 8)
  /-- CAP_DRAIN_TAIL_WRITE (R302). -/
  | capDrainTailWrite (n : Fin 8) (path : Path) (v : Word)
  /-- CAP_STORE_TAIL_WRITE (R302). -/
  | capStoreTailWrite (n : Fin 8) (die : Fin 4) (path : Path) (v : Word)
  /-- AUTO_CHECKPOINT (R318). -/
  | autoCheckpoint (n : Fin 8)
  /-- CHECKPOINT_READ_DONE (R316). -/
  | checkpointReadDone (n : Fin 8)
  /-- CHECKPOINT_COMPLETE (R318). -/
  | checkpointComplete (n : Fin 8) (ok : Bool)
  /-- INPUT_RECORD_ENTRY (R322). -/
  | inputRecordEntry (n : Fin 8)
  /-- REC_RING_SPACE (R325). -/
  | recRingSpace (n : Fin 8)
  /-- CKP_REC_TAIL_WRITE (R325). -/
  | ckpRecTailWrite (n : Fin 8) (path : Path) (v : Word)
  /-- UNIT_LOCATED (R326). -/
  | unitLocated (n : Fin 8) (units : List Located)
  /-- RECOVERY_RESTORE_DONE (R326). -/
  | recoveryRestoreDone (n : Fin 8)
  /-- CATCH_UP_FRAME (R328). -/
  | catchUpFrame (n : Fin 8)
  /-- RECOVERY_DONE (R326). -/
  | recoveryDone (n : Fin 8)
  /-- REPLAY_END (R333). -/
  | replayEnd (n : Fin 8)
  /-- HEALTH_DECAY (R338). -/
  | healthDecay
  /-- STAGING_DONE (R341). -/
  | stagingDone (tile : BitVec 8)
  /-- CLUSTER_ACCESSION (R342). -/
  | clusterAccession (tile : BitVec 8) (c : Fin 16) (parity : Bool)
  /-- DEACCESSION (R476). -/
  | deaccession (m : Fin 36)
  /-- GHOST_TRAFFIC (R347). -/
  | ghostTraffic (kind : BitVec 4) (phys : BitVec 22) (gen : Bool)
  /-- RESERVE_RECORD_WRITE (R348). -/
  | reserveRecordWrite
  /-- CURATOR_MISMATCH (R352). -/
  | curatorMismatch
  /-- WEAR_WINDOW (R354). -/
  | wearWindow (site : BitVec 8) (count : BitVec 18) (valid : Bool)
  /-- WEAR_CROSS_CHECK (R356). -/
  | wearCrossCheck (site : BitVec 8) (moved : Bool)
  /-- REGION_COPY_UPDATE (R366). -/
  | regionCopyUpdate (r : Fin 8) (e : HomeEdge)
  /-- PUBLISH (R367). -/
  | publish (r : Fin 8) (pre : List (Fin 8 × FabricRegs)) (cells : BitVec 480)
  /-- PUBLISH_MOVE (R367). -/
  | publishMove (r : Fin 8)
  /-- READY_SIGHTING (R368). -/
  | readySighting (r : Fin 8) (tag : BitVec 8)
  /-- HOME_CLOCK_LOST (R365). -/
  | homeClockLost (net : Fin 8)
  /-- HOME_CLOCK_RETURN (R365). -/
  | homeClockReturn (net : Fin 8)
  /-- REGION_LOAD_DONE (R373). -/
  | regionLoadDone (r : Fin 8) (crcOk : Bool)
  /-- REGION_SETTLED (R373). -/
  | regionSettled (r : Fin 8)
  /-- VTR_CAL_START (R371). -/
  | vtrCalStart (banks : BitVec 10)
  /-- CALIBRATION_DONE (R371). -/
  | calibrationDone (bank : Fin 10)
  /-- VTR_CAL_APPLY (R371). -/
  | vtrCalApply
  /-- VTR_DELAY_WRITE (R371). -/
  | vtrDelayWrite (cell : Fin 640) (inp : Byte) (out : Byte)
  /-- CONFIGURATION_START (R379). -/
  | configurationStart (b : Boot)
  /-- RESET_ABANDON (R379). -/
  | resetAbandon
  /-- STAGE_TIMEOUT (R381). -/
  | stageTimeout (stage : Fin 8) (port : Fin 8)
  /-- DOCENT_STARTED (R380). -/
  | docentStarted (slotB : Bool) (active : Option (Cont × Nat)) (other : Option (Cont × Nat))
  /-- CFG_LANE_WAIT_EXPIRY (R381). -/
  | cfgLaneWaitExpiry
  /-- AUTOLOAD_ENTRY (R391). -/
  | autoloadEntry (img : AutoImg)
  /-- CONFIGURATION_DONE (R380). -/
  | configurationDone
  /-- FRAME_GO (R395). -/
  | frameGo
  /-- GO_ACT (R395). -/
  | goAct
  /-- CFG_DONE_RELEASE (R394). -/
  | cfgDoneRelease
  /-- HANDOVER (R403). -/
  | handover (d : Fin 4) (n : Fin 8)
  /-- PHM_TIMER (R414). -/
  | phmTimer (d : Fin 4)
  /-- RESULT_RECORD_OUT (R418). -/
  | resultRecordOut (d : Fin 4)
  /-- PHM_NOP (R411). -/
  | phmNop (d : Fin 4)
  /-- CLRA (R411). -/
  | clra (d : Fin 4)
  /-- MAC (R412). -/
  | mac (d : Fin 4)
  /-- MAC2 (R412). -/
  | mac2 (d : Fin 4)
  /-- ADDA (R412). -/
  | adda (d : Fin 4)
  /-- ST (R412). -/
  | st (d : Fin 4)
  /-- LD (R412). -/
  | ld (d : Fin 4)
  /-- LDI (R411). -/
  | ldi (d : Fin 4)
  /-- STD (R412). -/
  | std (d : Fin 4)
  /-- SETX (R411). -/
  | setx (d : Fin 4)
  /-- MODX (R410). -/
  | modx (d : Fin 4)
  /-- MOVX (R411). -/
  | movx (d : Fin 4)
  /-- REP (R413). -/
  | rep (d : Fin 4)
  /-- BR (R411). -/
  | br (d : Fin 4)
  /-- DJNZ (R412). -/
  | djnz (d : Fin 4)
  /-- WAIT (R414). -/
  | wait (d : Fin 4)
  /-- EMIT (R417). -/
  | emit (d : Fin 4)
  /-- PUT (R417). -/
  | put (d : Fin 4)
  /-- PHM_HALT (R411). -/
  | phmHalt (d : Fin 4)
  /-- PHM_START (R421). -/
  | phmStart (d : Fin 4)
  /-- PHM_CTRL_HALT (R422). -/
  | phmCtrlHalt (d : Fin 4)
  /-- CLR_FLAGS (R407). -/
  | clrFlags (d : Fin 4)
  /-- PHM_RING_TAIL_WRITE (R418). -/
  | phmRingTailWrite (d : Fin 4) (v : Word)
  /-- ADC_SLOT (R424). -/
  | adcSlot (a : Smp) (b : Smp) (c : Smp) (d : Smp)
  /-- DROOP (R431). -/
  | droop (c : BitVec 7) (rose : Bool) (late : Bool)
  /-- INJ_GO (R431). -/
  | injGo (late : Bool)
  /-- REF_SETTLED (R429). -/
  | refSettled
  /-- ADC_RING_TAIL_WRITE (R434). -/
  | adcRingTailWrite (path : Path) (v : Word)
  /-- TASK_CREATE (R480). -/
  | taskCreate (kind : Fin 4) (owner : BitVec 4) (param : Word) (delay : BitVec 23)
  /-- REGISTRAR_CYCLE (R484). -/
  | registrarCycle
  /-- DELAY_EXPIRY (R485). -/
  | delayExpiry
  /-- TASK_DONE (R482). -/
  | taskDone (core : Fin 8) (status : Byte)
  /-- TASK_YIELD (R485). -/
  | taskYield (core : Fin 8) (delay : BitVec 23)
  /-- TASK_CANCEL (R486). -/
  | taskCancel (core : Option (Fin 8)) (task : BitVec 10)
  /-- DATA_SOURCE_RELEASE (R481). -/
  | dataSourceRelease (kind : Fin 4)
  /-- RGS_TRACE_TAIL_WRITE (R489). -/
  | rgsTraceTailWrite (path : Path) (v : Word)
  /-- TRACE_WINDOW_READ (R490). -/
  | traceWindowRead (path : Path) (off : BitVec 14) (meet : Meet) (ecc : Ecc)
  /-- DOCENT_HEARTBEAT (R441). -/
  | docentHeartbeat (core : Fin 8)
  /-- DOCENT_WATCHDOG (R441). -/
  | docentWatchdog (core : Fin 8)
  /-- DOCENT_RUNNING (R441). -/
  | docentRunning (slotB : Bool) (active : Option (Cont × Nat)) (other : Option (Cont × Nat)) (failed : BitVec 8)
  /-- DOORBELL (R450). -/
  | doorbell (path : Path) (m : Fin 36) (v : Word)
  /-- RSP_POP (R460). -/
  | rspPop (path : Path) (m : Fin 36) (v : Word)
  /-- NOTICE_SLOT_FREED (R450). -/
  | noticeSlotFreed (m : Fin 36)
  /-- FUNCTION_LEVEL_RESET (R455). -/
  | functionLevelReset (pf1 : Bool)
  /-- MGMT_BLOCK_WRITE (R457). -/
  | mgmtBlockWrite (j : Fin 4) (bytes : BitVec 512) (pecOk : Bool)
  /-- MGMT_BLOCK_READ (R457). -/
  | mgmtBlockRead (j : Fin 4) (result : Bool)
  /-- STATUS_READ (R468). -/
  | statusRead (m : Fin 36)
  /-- REG_READ (R468). -/
  | regRead (m : Fin 36) (meet : Meet) (ecc : Ecc)
  /-- REG_WRITE (R468). -/
  | regWrite (m : Fin 36) (meet : Meet)
  /-- RESET_DEVICE (R468). -/
  | resetDevice (m : Fin 36)
  /-- RESET_DOCENT (R468). -/
  | resetDocent (m : Fin 36)
  /-- GO (R468). -/
  | go (m : Fin 36)
  /-- TIME_SET (R468). -/
  | timeSet (m : Fin 36)
  /-- LANE_SET (R468). -/
  | laneSet (m : Fin 36)
  /-- FLASH_WRITE (R442). -/
  | flashWrite (m : Fin 36) (img : Option Cont) (toB : Bool)
  /-- FUSE_PROGRAM_SLOT (R468). -/
  | fuseProgramSlot (m : Fin 36) (block : Option (Byte × BitVec 384))
  /-- FUSE_REVOKE_SLOT (R468). -/
  | fuseRevokeSlot (m : Fin 36)
  /-- FUSE_RAISE_MIN_SVN (R468). -/
  | fuseRaiseMinSvn (m : Fin 36)
  /-- LOAD (R168). -/
  | load (m : Fin 36) (img : Option (Cont × EphRec)) (fin : LoadEnd)
  /-- UNLOAD (R469). -/
  | unload (m : Fin 36)
  /-- ARM (R69). -/
  | arm (m : Fin 36)
  /-- RUN (R469). -/
  | run (m : Fin 36)
  /-- HALT (R471). -/
  | halt (m : Fin 36)
  /-- FORCED_HALT (R469). -/
  | forcedHalt (m : Fin 36)
  /-- DEPOSIT (R470). -/
  | deposit (m : Fin 36) (block : Option (Byte × Bool × List DWord))
  /-- WS_READ (R472). -/
  | wsRead (m : Fin 36)
  /-- VTR_LOAD (R375). -/
  | vtrLoad (m : Fin 36) (img : Option VBox)
  /-- CAPTURE_READ (R473). -/
  | captureRead (m : Fin 36)
  /-- CHECKPOINT (R318). -/
  | checkpoint (m : Fin 36)
  /-- CKPT_EXPORT (R473). -/
  | ckptExport (m : Fin 36) (ok : Bool)
  /-- RESTORE (R321). -/
  | restore (m : Fin 36) (img : Option (CkImg × Bool))
  /-- REPLAY (R333). -/
  | replay (m : Fin 36) (entries : List RecE)
  /-- LOAN (R474). -/
  | loan (m : Fin 36)
  /-- DEPOT_GRANT (R474). -/
  | depotGrant (m : Fin 36)
  /-- DEPOT_RETURN (R474). -/
  | depotReturn (m : Fin 36)
  /-- BUF_ALLOC (R458). -/
  | bufAlloc (m : Fin 36)
  /-- BUF_FREE (R459). -/
  | bufFree (m : Fin 36)
  /-- DMA (R475). -/
  | dma (m : Fin 36) (data : List DWord) (stop : Option (Nat × Bool) × List Nat)
  /-- ACCESSION (R476). -/
  | accession (m : Fin 36) (spare : Fin 8) (parity : Bool)
  /-- SET_OP (R507). -/
  | setOp (m : Fin 36)
  /-- SET_POWER_RUN (R496). -/
  | setPowerRun (m : Fin 36)
  /-- SET_POWER_HOLD (R495). -/
  | setPowerHold (m : Fin 36)
  /-- SET_POWER_NAP (R496). -/
  | setPowerNap (m : Fin 36)
  /-- SET_POWER_DORMANT (R498). -/
  | setPowerDormant (m : Fin 36)
  /-- THERMAL_SHUTDOWN (R497). -/
  | thermalShutdown (m : Fin 36)
  /-- TALLY_READ (R518). -/
  | tallyRead (m : Fin 36)
  /-- TALLY_CLOCK (R520). -/
  | tallyClock (m : Fin 36)
  /-- TALLY_TENANT (R516). -/
  | tallyTenant (m : Fin 36)
  /-- LGB_TOKEN (R523). -/
  | lgbToken (m : Fin 36) (ok : Bool)
  /-- NAP_ENTRY_DONE (R496). -/
  | napEntryDone (n : Fin 8)
  /-- NAP_EXIT_DONE (R496). -/
  | napExitDone (n : Fin 8)
  /-- DORMANT_ENTRY_DONE (R498). -/
  | dormantEntryDone
  /-- DORMANT_EXIT_DONE (R499). -/
  | dormantExitDone (waited : Bool)
  /-- WAKE_N (R500). -/
  | wakeN
  /-- PCIE_WAKE (R500). -/
  | pcieWake
  /-- WAKE_TIMER (R500). -/
  | wakeTimer
  /-- THERMTRIP (R503). -/
  | thermtrip (d : Fin 4)
  /-- VCORE_SETTLED (R505). -/
  | vcoreSettled
  /-- VR_TIMEOUT (R505). -/
  | vrTimeout
  /-- PLL_LOCKED (R508). -/
  | pllLocked (d : Fin 4)
  /-- LOCK_STABLE (R508). -/
  | lockStable (d : Fin 4)
  /-- RELOCK_FAIL (R508). -/
  | relockFail (d : Fin 4)
  /-- PWR_OK_FALL (R537). -/
  | pwrOkFall (vaonLost : Bool)
  /-- PERIOD_BOUNDARY (R518). -/
  | periodBoundary
  /-- LOGBOOK_RECORD (R522). -/
  | logbookRecord (core : Fin 8) (pc : Word) (e : LgbEv)
  /-- LOGBOOK_SPACE_FREED (R524). -/
  | logbookSpaceFreed
  /-- LGB_TAIL_WRITE (R521). -/
  | lgbTailWrite (path : Path) (v : Word)
  /-- DBG_CLEAR (R177). -/
  | dbgClear (n : Fin 8)
  /-- REG_LO_READ (R13). -/
  | regLoRead (path : Path) (off : BitVec 28)
  /-- REG_HI_WRITE (R12). -/
  | regHiWrite (path : Path) (off : BitVec 28) (v : Word) (be : BitVec 4)
  /-- READ_CLEAR (R9). -/
  | readClear (path : Path) (off : BitVec 28) (be : BitVec 4)
  /-- REGISTER_WRITE (R8). -/
  | registerWrite (src : Option Path) (off : BitVec 28) (v : Word) (be : BitVec 4)
  /-- IDCODE (R544). -/
  | idcode
  /-- SAMPLE_PRELOAD (R544). -/
  | samplePreload (balls : BitVec 2362) (shift : Option (BitVec 2362))
  /-- EXTEST (R544). -/
  | extest (balls : BitVec 2362) (shift : Option (BitVec 2362))
  /-- EXTEST_PULSE (R544). -/
  | extestPulse (balls : BitVec 2362) (shift : Option (BitVec 2362))
  /-- EXTEST_TRAIN (R544). -/
  | extestTrain (balls : BitVec 2362) (shift : Option (BitVec 2362))
  /-- HIGHZ (R544). -/
  | highz
  /-- CLAMP (R544). -/
  | clamp
  /-- BYPASS (R544). -/
  | bypass (code : Byte)
  /-- VAON_RISE (R514). -/
  | vaonRise
  /-- PWR_OK_RISE (R544). -/
  | pwrOkRise (sel : Bool) (addr : BitVec 2)
  /-- DEVCLK_LOST (R512). -/
  | devclkLost
  /-- QUAD_REF_OK (R267). -/
  | quadRefOk (q : Fin 26)
  /-- ACK_TIMER (R237). -/
  | ackTimer (k : Fin 24) (ln : Fin 4)
  /-- PRBS_RX_LOCK (R273). -/
  | prbsRxLock (l : BitVec 7) (errs : Word)
  /-- LANE_CAPTURE_DONE (R271). -/
  | laneCaptureDone (syms : BitVec 636)
  /-- PHM_RESERVED_OP (R416). -/
  | phmReservedOp (d : Fin 4)
  deriving DecidableEq, Repr

end Sys2Proof
end

