-- ==== Sys2Proof/Decode.lean ====
section
/-!
DEFINITION. The command a word spells by the bits of spec/opcode_table.json.  The part fetches no instruction: its commands
are events and register accesses, and no row of the table gives its command any bits, so no word spells one (log entry 1).
The instruction words of the Boolean Processors and Photometers, which the part does hold in its stores, are read in
Machine/Operands.lean and Machine/Photometer.lean.
-/
namespace Sys2Proof

/-- The command that a word spells by the table's bits: none, since the table gives no row bits. -/
def decodeTableWord (_nbits _w : Nat) : Option Instr := none

end Sys2Proof
end

