-- ==== Sys2Proof/Config.lean ====
section
/-!
DEFINITION. Free values: constants with no body, so that nothing can be proved of what they are.  Each stands for a value the
spec leaves undefined or does not state (log entries 2 to 4), or for a cryptographic function whose result no rule computes
from the state (log entry 5).  A free value that may differ from one occasion to the next is applied to the state's counter.
-/
namespace Sys2Proof

/-- An undefined bit: a receive register that two live deliveries name in one step (R149). -/
opaque Config.freeBit : Nat → Bool

/-- An undefined 64-bit word: a port read that meets a full-word write (R197), contents after an abandoned reset (R379). -/
opaque Config.freeWord : Nat → DWord

/-- An undefined number, for the unstated values named in the log. -/
opaque Config.freeNat : Nat → Nat

/-- The length in bytes of the part of a checkpoint's CAPTURE section whose layout R320 does not give (log entry 22): less than one
64 KiB granule, as what R320 lists for it is far smaller. -/
opaque Config.captureTail : Fin 65536

/-- A byte of that part: of the values it holds, in R320's order, and the byte's place (log entry 22). -/
opaque Config.captureByte : List Nat → Nat → BitVec 8

/-- The SHA-256 HMAC of a Tally record under the device's key (R518): of the record's words. -/
opaque Config.tallyMac : List Nat → Nat

/-- The ratio r0 of a wear site as fused at test, in millionths (R354; log entry 23). -/
opaque Config.wearR0 : Nat → Nat

/-- The router at which the depot port of a quad attaches, as a packed tile address (R209, R229; log entry 24). -/
opaque Config.attachTile : Nat → BitVec 8

end Sys2Proof
end

