-- ==== Sys2Proof/Machine/CfgState.lean ====
section
/-!
DEFINITION. The state of configuration (R379 to R397) beyond the CFG registers.
-/
namespace Sys2Proof.Machine

/-- An entry of the flash directory (R383). -/
structure DirEntry where
  type : Nat
  active : Bool
  slotB : Bool
  offset : Nat
  length : Nat
  deriving DecidableEq, Repr

/-- An entry of the autoload list (R391); kind 1 ephemeris, 2 Vitrine image; `place` its directory entry or depot address. -/
structure AutoEntry where
  kind : Nat
  target : Fin 8
  depot : Bool
  arm : Bool
  goWait : Bool
  required : Bool
  place : Nat
  start : Nat
  segFirst : Nat
  segCount : Nat
  deriving DecidableEq, Repr

/-- A DEPOT_MAP range of the BOARD image (R390). -/
structure DepotRange where
  first : Nat
  count : Nat
  port : Fin 8
  node : Nat
  deriving DecidableEq, Repr

/-- Configuration: timebase at R379; the flash directory (R383); the regions that autoload entries load (R391); the autoload list, how many entries are done, and the arms that entries left pending (entry,
partition); the DEPOT_MAP ranges; whether a stage ended (stages 3, 4 and 5 run in parallel); whether failures so far make the
result DEGRADED or FAILED; whether the host has released CFG_DONE (R394); whether code runs from ROM only or the Curator halted
(R397); and the key hashes fused into owner slots (R386). -/
structure Cfg where
  t0 : Nat
  dir : List DirEntry
  vtrs : List (Fin 8 × Nat)
  autos : List AutoEntry
  next : Nat
  arming : List (Nat × Fin 8)
  ranges : List DepotRange
  docentUp : Bool
  lanesOver : Bool
  degraded : Bool
  failed : Bool
  released : Bool
  dead : Bool
  hashes : List (Nat × BitVec 384)
  deriving DecidableEq, Repr

/-- Before configuration begins. -/
def Cfg.reset : Cfg :=
  { t0 := 0, dir := [], vtrs := [], autos := [], next := 0, arming := [], ranges := [], docentUp := false, lanesOver := false, degraded := false,
    failed := false, released := false, dead := false, hashes := [] }

end Sys2Proof.Machine
end

