-- ==== Sys2Proof/Machine/Crc.lean ====
section
/-!
DEFINITION. CRC-32 with the IEEE 802.3 polynomial (R161), over bits least significant first: plate headers (R300), OUT_CRC
(R323) and checkpoints use it.
-/
namespace Sys2Proof.Machine

/-- One bit into the reflected CRC register. -/
def crcBit (c : BitVec 32) (b : Bool) : BitVec 32 :=
  if c.getLsbD 0 != b then (c >>> 1) ^^^ 0xEDB88320 else c >>> 1

/-- Bits of a byte string, in order of transmission. -/
def crcBits (c : BitVec 32) (l : List Bool) : BitVec 32 := l.foldl crcBit c

/-- The CRC of a string of bits: register preset to ones, result complemented. -/
def crc32 (l : List Bool) : Word := ~~~(crcBits 0xFFFFFFFF l)

/-- The low k bits of a number, least significant first. -/
def numBits (k v : Nat) : List Bool := (List.range k).map fun i => bitOf v i

end Sys2Proof.Machine
end

