-- ==== Sys2Proof/Machine/Flit.lean ====
section
/-!
DEFINITION. The 36-byte flit and its line coding (R233 to R236, R256 to R258, R260, R265): bit 8b + i of a flit is bit i of byte b,
so symbol n is bits [2n + 1 : 2n].
-/
namespace Sys2Proof.Machine

/-- One bit into a CRC-16 register, polynomial 0x8BB7 (R233). -/
def crc16Bit (c : BitVec 16) (b : Bool) : BitVec 16 := if c.getLsbD 15 != b then (c <<< 1) ^^^ 0x8BB7 else c <<< 1

/-- CRC-16 of a flit's bytes 0 to 33 (R233), initial value 0xFFFF; each byte most significant bit first (DESIGN CHOICE, log entry 134). -/
def flitCrc (body : Nat) : BitVec 16 :=
  ((List.range 34).flatMap fun b => (List.range 8).map fun i => bitOf body (8 * b + (7 - i))).foldl crc16Bit 0xFFFF

/-- A flit (R233): KIND, SEQ, the payload, and the CRC with its low byte in byte 34. -/
def flitBits (kind seq payload : Nat) : BitVec 288 :=
  let body := kind % 16 + seq % 4096 * 2 ^ 4 + payload % 2 ^ 256 * 2 ^ 16
  BitVec.ofNat 288 (body + (flitCrc body).toNat * 2 ^ 272)

/-- The CRC of a received flit checks (R233). -/
def flitOk (f : BitVec 288) : Bool := bitsAt f 272 16 == (flitCrc (bitsAt f 0 272)).toNat

/-- The payload of an ordered list of fields (first bit, width, value); every bit not named is 0. -/
def packFields (l : List (Nat × Nat × Nat)) : Nat := l.foldl (fun a x => a + x.2.2 % 2 ^ x.2.1 * 2 ^ x.1) 0

/-- A vote entry (R235). -/
def VoteE.bits (v : VoteE) : Nat := v.dev % 256 + b2n v.abort * 2 ^ 8 + b2n v.stop * 2 ^ 9 + v.cause % 64 * 2 ^ 10

/-- KIND of a sequenced flit of a link: 1 XCHG, 2 FRAME (R233). -/
def FlitBody.kind : FlitBody → Nat
  | .xchg .. => 1
  | _ => 2

/-- The payload of an XCHG or FRAME flit (R234, R235). -/
def FlitBody.payload : FlitBody → Nat
  | .xchg ws mslot chan frame epoch =>
    packFields ((ws.take 3).zipIdx.map (fun x => (64 * x.2, 64, x.1.toNat)) ++
      [(192, 24, mslot), (216, 2, ws.length), (218, 3, chan), (224, 8, frame), (232, 4, epoch)])
  | .token chan frame epoch => packFields [(0, 8, 1), (8, 3, chan), (16, 48, frame), (64, 4, epoch)]
  | .vote chan frame epoch es =>
    packFields ([(0, 8, 2), (8, 3, chan), (16, 48, frame), (64, 4, epoch), (72, 8, es.length)] ++
      (es.take 11).zipIdx.map fun x => (80 + 16 * x.2, 16, x.1.bits))
  | .xtrig source mask xseq time => packFields [(0, 8, 3), (8, 8, source), (16, 16, mask), (32, 16, xseq), (64, 64, time)]

/-- The payload of a LINKCTL flit (R236). -/
def LinkCtl.payload : LinkCtl → Nat
  | .ack e => packFields [(0, 8, 1), (8, 12, e)]
  | .nak e => packFields [(0, 8, 2), (8, 12, e)]
  | .sync t1 => packFields [(0, 8, 3), (64, 64, t1)]
  | .syncReply t1 t2 t3 => packFields [(0, 8, 4), (64, 64, t1), (128, 64, t2), (192, 64, t3)]
  | .init m => packFields [(0, 8, 5), (8, 3, m.chan), (32, 32, m.machineId), (64, 16, m.nDevices), (80, 16, m.devIndex),
      (96, 48, m.start), (160, 16, m.depth)]

/-- A sequenced flit of a link. -/
def FlitBody.flit (f : FlitBody) (seq : Nat) : BitVec 288 := flitBits f.kind seq f.payload

/-- A LINKCTL flit: KIND 4, SEQ 0 (R233, R236). -/
def LinkCtl.flit (c : LinkCtl) : BitVec 288 := flitBits 4 0 c.payload

/-- The fields of a FILLER (R265). -/
structure FillerF where
  lane : Nat
  train : Bool
  spare : Bool
  quad : Nat
  dev : Nat
  deriving DecidableEq, Repr

/-- A FILLER flit: the marker bytes 0x5A and 0xC3, and its fields (R265). -/
def FillerF.flit (f : FillerF) : BitVec 288 :=
  flitBits 0 0 (packFields [(0, 8, 0x5A), (8, 8, 0xC3), (16, 2, f.lane), (18, 1, b2n f.train), (19, 1, b2n f.spare), (24, 5, f.quad),
    (32, 8, f.dev)])

/-- The FILLER that a received flit is, when its CRC checks and its KIND is 0 (R233, R265). -/
def fillerOf (f : BitVec 288) : Option FillerF :=
  if flitOk f && bitsAt f 0 4 == 0 then
    some ⟨bitsAt f 32 2, bitsAt f 34 1 == 1, bitsAt f 35 1 == 1, bitsAt f 40 5, bitsAt f 48 8⟩
  else none

/-- One bit through the transmit scrambler 1 + x^39 + x^58 (R256); bit i of `h` is the scrambled bit sent i + 1 bits ago. -/
def scramBit (h : BitVec 58) (d : Bool) : Bool := d ^^ h.getLsbD 38 ^^ h.getLsbD 57

/-- A bit joins the last 58. -/
def pushBit {w : Nat} (h : BitVec w) (b : Bool) : BitVec w := (h <<< 1) ||| BitVec.ofNat w (b2n b)

/-- Scramble bits in order (R256). -/
def scramble : BitVec 58 → List Bool → List Bool
  | _, [] => []
  | h, d :: r => scramBit h d :: scramble (pushBit h (scramBit h d)) r

/-- Descramble received bits in order (R256). -/
def descramble : BitVec 58 → List Bool → List Bool
  | _, [] => []
  | h, b :: r => scramBit h b :: descramble (pushBit h b) r

/-- The last bits of a stream after more of it. -/
def pushBits {w : Nat} (h : BitVec w) (l : List Bool) : BitVec w := l.foldl pushBit h

/-- The value x of a bit pair, its lower-numbered bit first (R256, R257): the Gray map, or plain binary. -/
def pairX (gray lo hi : Bool) : Nat := if gray then b2n hi * 2 + b2n (hi != lo) else b2n hi * 2 + b2n lo

/-- The bit pair of a value x, lower-numbered bit first (R257). -/
def xPair (gray : Bool) (x : Nat) : List Bool := if gray then [bitOf x 0 != bitOf x 1, bitOf x 1] else [bitOf x 0, bitOf x 1]

/-- Bits to values x, two bits a symbol (R256). -/
def toX (gray : Bool) : List Bool → List Nat
  | lo :: hi :: r => pairX gray lo hi :: toX gray r
  | _ => []

/-- The 1/(1 + D) precoder: y[n] = (x[n] - y[n - 1]) mod 4, with y[n - 1] first (R258). -/
def precode : Nat → List Nat → List Nat
  | _, [] => []
  | y, x :: r => (x + 4 - y % 4) % 4 :: precode ((x + 4 - y % 4) % 4) r

/-- Its decoder: x[n] = (y[n] + y[n - 1]) mod 4 (R258). -/
def unprecode : Nat → List Nat → List Nat
  | _, [] => []
  | y', y :: r => (y + y') % 4 :: unprecode y r

/-- The level of a symbol in thirds of the peak differential amplitude (R257). -/
def levelOf (y : Nat) : Int := 2 * (y : Int) - 3

/-- The FFE taps c-1, c0, c+1 in 64ths (R260); a POST above 24 acts as 24 (R277). -/
structure Taps where
  pre : Int
  main : Int
  post : Int
  deriving DecidableEq, Repr

/-- The taps that LANE_FFE sets (R260). -/
def tapsOf (w : Word) : Taps :=
  let pre : Int := bitsAt w 0 4
  let post : Int := min 24 (bitsAt w 4 5)
  ⟨-pre, 64 - pre - post, -post⟩

/-- What the driver puts on the pair for each symbol, in 192nds of the peak amplitude (R257, R260): of the symbol before, the symbol,
and the symbol after it; polarity inverted by TX_INV. -/
def drive (t : Taps) (inv : Bool) : List Nat → List Int
  | a :: b :: c :: r =>
    (if inv then -1 else 1) * (t.post * levelOf a + t.main * levelOf b + t.pre * levelOf c) :: drive t inv (b :: c :: r)
  | _ => []

end Sys2Proof.Machine
end

