-- ==== Sys2Proof/Machine/LanState.lean ====
section
/-!
DEFINITION. The state of the lane layer (R254 to R275) beyond its registers, by physical lane.
-/
namespace Sys2Proof.Machine

/-- A transmitter (R256 to R258, R263, R266, R273): whether it is active, the time since its last flit slot (in 425ths of a nanosecond),
consecutive flits sent that were not FILLER, the last 58 bits after the scrambler, the last bits of PRBS-31, the last two symbols
before the last slot, and that slot's symbols and flit. -/
structure LaneTx where
  on : Bool
  phase : Nat
  run : Nat
  scr : BitVec 58
  prbs : BitVec 31
  prev : List Nat
  syms : List Nat
  flit : BitVec 288
  deriving DecidableEq, Repr

/-- A receiver (R256, R258, R264, R271, R273): in a near-end loopback the last 58 bits before the descrambler, the last symbol and the
last three flit slots of decoded bits; the boundary it landed on in ALIGN; flits in a row that the accept test found good; the fill of
its elastic buffer in 16ths of a flit; and the PRBS checker's last bits and its error-free bits in a row. -/
structure LaneRx where
  scr : BitVec 58
  y : Nat
  got : BitVec 864
  land : Nat
  good : Nat
  fill : Nat
  prbs : BitVec 31
  clean : Nat
  deriving DecidableEq, Repr

/-- A transmitter at reset (log entry 135: histories 0, and the PRBS register all ones). -/
def LaneTx.reset : LaneTx :=
  { on := false, phase := 0, run := 0, scr := 0, prbs := BitVec.allOnes 31, prev := [0, 0], syms := [], flit := 0 }

/-- A receiver at reset (log entry 135: histories 0; the buffer at 2 flits). -/
def LaneRx.reset : LaneRx := { scr := 0, y := 0, got := 0, land := 0, good := 0, fill := 32, prbs := 0, clean := 0 }

/-- Default of the transmitters. -/
def dTx : Nat → LaneTx := fun _ => LaneTx.reset
/-- Default of the receivers. -/
def dRx : Nat → LaneRx := fun _ => LaneRx.reset

/-- Settings in force, taken at the last entry into quiet (R269): LANE_CFG and the FFE taps by lane; how often in a row the receiver
entered SEEK without reaching UP (R274); whether a capture is under way (R271); the transmitters and receivers. -/
structure Lan where
  cfg : List (Nat × Word)
  taps : List (Nat × Taps)
  fails : List (Nat × Nat)
  capt : Bool
  tx : List (Nat × LaneTx)
  rx : List (Nat × LaneRx)
  deriving DecidableEq, Repr

/-- Settings in force at reset: the reset values of LANE_CFG and LANE_FFE. -/
def Lan.reset : Lan := { cfg := [], taps := [], fails := [], capt := false, tx := [], rx := [] }

end Sys2Proof.Machine
end

