-- ==== Sys2Proof/Machine/MbxState.lean ====
section
/-!
DEFINITION. The state of the mailboxes and of the Curator's command execution (R447 to R459) beyond their registers: queues,
commands begun and not yet answered, responses, notices held, the access log, interrupts sent, the buffer pool, and the
changes of partition state that R453 compares with.
-/
namespace Sys2Proof.Machine

/-- An accepted command (R448, R450): its order stamp, its place among doorbells and executed changes, its 64 bytes. -/
structure Cmd where
  stamp : Nat
  ord : Nat
  bytes : BitVec 512
  deriving DecidableEq, Repr

/-- One deposit entry (R470). -/
structure DepEntry where
  bp : Nat
  addr : Nat
  val : Bool
  op : Nat
  deriving DecidableEq, Repr

/-- What a response carries (R449): status, detail, LEN and payload (bytes 0–47, least significant first). -/
structure Rsp where
  status : Status
  detail : Nat
  len : Nat
  payload : Nat
  deriving DecidableEq, Repr

/-- What a begun command waits for: nothing more (its result stands in `result`); the halt of a partition (R471); the halts of
a FORCED_HALT (partitions left, partitions halted); the C4 of a deposit or WS_READ and the release of that frame (R466); a
frame boundary action and the release of its frame (accession, tenant change, checkpoint); an arm (R238); a bank handover (R189); Vitrine regions loading; a Docent restart; an operating-point change; partitions
to be held or released; NAP; DORMANT; a checkpoint in progress; an outstanding transaction of a depot segment (R220). -/
inductive Wait where
  | result
  | halt (n : Fin 8) (frame : Nat)
  | forced (all : Bool) (left halted : List Nat)
  | deposit (n : Fin 8) (entries : List DepEntry) (acted : Option Nat)
  | wsRead (n : Fin 8) (entries : List DepEntry) (acted : Option Nat) (bits : Nat)
  | accession (n : Fin 8) (kind unit : Nat) (acted : Option Nat) (last : Nat)
  | tenant (n : Fin 8) (id : Nat) (acted : Option Nat)
  | arm (n : Fin 8)
  | loan (bank : Nat)
  | vtrLoad (left failed : Nat)
  | docent
  | setOp (mask : Nat)
  | hold (left : List Nat) (part : Nat) (code : Nat)
  | nap (n : Fin 8)
  | napExit (n : Fin 8)
  | dormant
  | checkpoint (n : Fin 8)
  | depotMap (first count owner : Nat) (ro : Bool)
  deriving DecidableEq, Repr

/-- A command that has begun (R452): its partition if it names one, whether later commands may start while it waits, whether
its response is discarded (R455), its wait and its result. -/
structure Begun where
  cmd : Cmd
  part : Option Nat
  frees : Bool
  discard : Bool
  wait : Wait
  result : Option Rsp
  deriving DecidableEq, Repr

/-- One mailbox (R450): commands accepted and not begun, commands begun, responses waiting (oldest first), notices held. -/
structure Mbx where
  queue : List Cmd
  begun : List Begun
  rsps : List (BitVec 512)
  held : List (BitVec 512)
  deriving DecidableEq, Repr

/-- An empty mailbox. -/
def Mbx.reset : Mbx := { queue := [], begun := [], rsps := [], held := [] }

/-- A change of a partition's state made by a command (R453): its place in the order, the stamp, and the state made. -/
structure Change where
  ord : Nat
  stamp : Nat
  made : Nat
  deriving DecidableEq, Repr

/-- The Curator: mailboxes, the running number of doorbells and changes, per partition the last change and the last SAFETY
change, the access log (key 4 i + w), MSI-X messages sent (function × 64 + vector, counted), the alert of R352, buffers
allocated (id, owner) with their previous owners, the banks of the pool, the cause of a Docent restart under way, whether a
device reset has been asked for, the Tally time of each core's last sign of life (R441), and the 64 bytes that the last management
block read returned (R457). -/
structure Cur where
  mbxs : Vector Mbx 36
  order : Nat
  made : Vector (Option Change) 8
  safety : Vector (Option Change) 8
  accLog : List (Nat × Word)
  msix : List (Nat × Nat)
  alert : Bool
  bufs : List (Nat × Nat)
  bufPrev : List (Nat × Nat)
  pool : List Nat
  restart : Option Nat
  resetAsked : Bool
  beats : Vector Nat 8
  mgmtOut : BitVec 512
  deriving DecidableEq, Repr

/-- The Curator at reset. -/
def Cur.reset : Cur :=
  { mbxs := Vector.replicate 36 Mbx.reset, order := 0, made := Vector.replicate 8 none, safety := Vector.replicate 8 none,
    accLog := [], msix := [], alert := false, bufs := [], bufPrev := [], pool := [], restart := none, resetAsked := false,
    beats := Vector.replicate 8 0, mgmtOut := 0 }

end Sys2Proof.Machine
end

