-- ==== Sys2Proof/Machine/PhmState.lean ====
section
/-!
DEFINITION. The state of one Photometer (R400 to R420) beyond its registers: gathers, batches, the core with its memories and
registers, the repeat block, pending events, the output queue and the telemetry taps.
-/
namespace Sys2Proof.Machine

/-- A 24-bit word of X or Y. -/
abbrev PWord := BitVec 24
/-- An accumulator (R407). -/
abbrev PAcc := BitVec 56

/-- A result record waiting in the output queue (R417): its words 0 to 2. -/
structure PhmRec where
  w0 : Nat
  w1 : Nat
  w2 : Nat
  deriving DecidableEq, Repr

/-- A repeat block that runs (R413): first and last P address, passes left. -/
structure Rep where
  first : Nat
  last : Nat
  left : Nat
  deriving DecidableEq, Repr

/-- One Photometer.  Gather sums are keyed by cluster index; per partition the gathered frame count, the first frame gathered,
whether a sum saturated, its run of cluster indices (first, count), the decimation factor in force (0 before the first frame gathered), whether a batch is pending (its view held), and whether a flush is
asked for.  `cache` names the block in the repeat cache; `lastAcc` the accumulators the last MAC, MAC2 or ADDA wrote. -/
structure Phm where
  gather : List (Nat × Nat)
  gCount : Vector Nat 8
  gFirst : Vector Nat 8
  gSat : Vector Bool 8
  gRun : Vector (Nat × Nat) 8
  kCur : Vector Nat 8
  batch : Vector Bool 8
  flush : Vector Bool 8
  prog : List (Nat × Word)
  xmem : List (Nat × PWord)
  ymem : List (Nat × PWord)
  acc : Vector PAcc 4
  dreg : Vector PWord 4
  ix : Vector (BitVec 13) 4
  bx : Vector (BitVec 13) 4
  lx : Vector (BitVec 13) 4
  ovf : Bool
  stsat : Bool
  pc : Nat
  running : Bool
  waiting : Bool
  err : Nat
  haltAsked : Bool
  rep : Option Rep
  cache : Option (Nat × Nat)
  lastAcc : List Nat
  taps : Vector Nat 4
  tapJ : Vector Nat 4
  timer : Nat
  out : List PhmRec
  deriving DecidableEq, Repr

/-- A Photometer at reset: halted, every register 0 (R407, R422). -/
def Phm.reset : Phm :=
  { gather := [], gCount := Vector.replicate 8 0, gFirst := Vector.replicate 8 0, gSat := Vector.replicate 8 false,
    gRun := Vector.replicate 8 (0, 0),
    kCur := Vector.replicate 8 0, batch := Vector.replicate 8 false, flush := Vector.replicate 8 false,
    prog := [], xmem := [], ymem := [], acc := Vector.replicate 4 0, dreg := Vector.replicate 4 0,
    ix := Vector.replicate 4 0, bx := Vector.replicate 4 0, lx := Vector.replicate 4 0, ovf := false, stsat := false,
    pc := 0, running := false, waiting := false, err := 0, haltAsked := false, rep := none, cache := none, lastAcc := [],
    taps := Vector.replicate 4 0, tapJ := Vector.replicate 4 0, timer := 0, out := [] }

/-- The instruction at the program counter. -/
def Phm.word (p : Phm) : Word := mget (fun _ => (0 : Word)) p.prog p.pc

/-- The pending event of lowest code within a mask (R414). -/
def Phm.pendingEvent (p : Phm) (mask : Nat) : Option Nat :=
  let evs := ((List.finRange 8).filter fun n => vget p.batch n).map (·.val) ++
    (if (List.finRange 4).any fun k => vget p.taps k != 0 then [8] else []) ++ (if p.timer != 0 then [9] else [])
  (evs.filter fun e => bitOf mask e).head?

/-- One Tally row (R516): partition, tenant, counters, and whether the partition was unloaded. -/
structure TlyRow where
  part : Nat
  tenant : Nat
  run : Nat
  stall : Nat
  frames : Nat
  energy : Nat
  unload : Bool
  merged : Bool
  deriving DecidableEq, Repr

/-- The Tally (R514 to R520): Tally time with its fraction of a tick in units of 1 / 10^9, POWER_ON, the boundary that ends the
open period and its start, rows, start of the counting (ticks, wall clock), flags of the period (CLOCK_BACK, CLOCK_SET),
WALL_SET, wall-clock reference (value, ticks then), WALL_END of the last closed period, ring head and records unread (position,
partition) oldest first. -/
structure Tly where
  time : Nat
  frac : Nat
  powerOn : Nat
  bound : Nat
  rows : List TlyRow
  startTicks : Nat
  wallStart : Nat
  clockBack : Bool
  clockSet : Bool
  wallSet : Nat
  wallRef : Nat
  wallAt : Nat
  lastEnd : Nat
  head : Nat
  unread : List (Nat × Nat)
  deriving DecidableEq, Repr

/-- The Tally when Tally time starts (R514, R515): period length 3,600 s. -/
def Tly.reset : Tly :=
  { time := 0, frac := 0, powerOn := 0, bound := 3600 * 32768, rows := [], startTicks := 0, wallStart := 0, clockBack := false,
    clockSet := false, wallSet := 0, wallRef := 0, wallAt := 0, lastEnd := 0, head := 0, unread := [] }

/-- A core's tracing (R522, R523): whether it has started, records since the last SYNC, whether a SYNC is due, the start of a gap,
and a record (with its PC) that the core waits to write under FULL = 1. -/
structure LgbCore where
  on : Bool
  since : Nat
  due : Bool
  gap : Option Nat
  waitRec : Option (Word × Nat)
  deriving DecidableEq, Repr

/-- A core that is not traced. -/
def LgbCore.reset : LgbCore := { on := false, since := 0, due := false, gap := none, waitRec := none }

/-- The Logbook (R521 to R524): the buffer, two 64-bit words a record; its cores; records dropped since the last one that fitted. -/
structure Lgb where
  buf : List (Nat × DWord)
  cores : Vector LgbCore 8
  dropped : Nat
  deriving DecidableEq, Repr

/-- The Logbook at reset. -/
def Lgb.reset : Lgb := { buf := [], cores := Vector.replicate 8 LgbCore.reset, dropped := 0 }

end Sys2Proof.Machine
end

