-- ==== Sys2Proof/Machine/PinState.lean ====
section
/-!
DEFINITION. The state of the straps, the power-good ball and the TAP (R536 to R544).
-/
namespace Sys2Proof.Machine

/-- Rails and straps (R536 to R539): whether VAON is present and PWR_OK high; MGMT_SEL and MGMT_ADDR as last sampled. -/
structure Pin where
  vaon : Bool
  pwrOk : Bool
  mgmtSel : Bool
  mgmtAddr : BitVec 2
  deriving DecidableEq, Repr

/-- The TAP (R544): the instruction loaded, what the selected data register captured, and the update latches of the boundary
register, whose first cell is bit 0. -/
structure Tap where
  ir : Byte
  data : BitVec 2362
  latch : BitVec 2362
  deriving DecidableEq, Repr

/-- The TAP at its reset: IDCODE is loaded. -/
def Tap.reset : Tap := { ir := 1, data := 0, latch := 0 }

/-- Reset with power good, before a strap is known to be high. -/
def Pin.reset : Pin := { vaon := true, pwrOk := true, mgmtSel := false, mgmtAddr := 0 }

end Sys2Proof.Machine
end

