-- ==== Sys2Proof/Machine/PwrState.lean ====
section
/-!
DEFINITION. The state of power and clocks (R492 to R512) and of the converters (R425 to R437) beyond the PWR, CLK and ADC registers.
-/
namespace Sys2Proof.Machine

/-- The device between RUN and DORMANT (R494, R498, R499). -/
inductive Phase where
  | run | entering | dormant | exiting
  deriving DecidableEq, Repr

/-- A partition's way into and out of NAP (R496): none, entering (being held or moving into retention), in NAP, leaving. -/
inductive Nap where
  | none | entering | napping | leaving
  deriving DecidableEq, Repr

/-- A change of operating point in progress (R505 to R508): all dies it changes, those still to relock, those whose relock failed,
the point, whether VCORE must settle first, and the timebase at which the holds were asked for. -/
structure OpChange where
  dies : List Nat
  left : List Nat
  failed : List Nat
  op : Nat
  volt : Bool
  since : Nat
  deriving DecidableEq, Repr

/-- Power: why each partition is held (its own SET_POWER, the device's, DORMANT, a relock) and its NAP; the phase of the device
and the timebase at which it began; the wakes latched (R500); the depot ports that were UP at entry; management commands held
(mailbox and bytes); the partitions that a thermal shutdown still halts, with its stamp; the operating-point change; and
whether a die tripped (R503). -/
structure Pwr where
  own : Vector Bool 8
  dev : Vector Bool 8
  dorm : Vector Bool 8
  relock : Vector Bool 8
  nap : Vector Nap 8
  phase : Phase
  since : Nat
  wake : Nat
  wakes : Nat
  during : Bool
  wakeAt : Nat
  ports : List Nat
  mgmt : List (Nat × BitVec 512)
  shut : Option (Nat × List Nat)
  change : Option OpChange
  tripped : Bool
  deriving DecidableEq, Repr

/-- Power at reset. -/
def Pwr.reset : Pwr :=
  { own := Vector.replicate 8 false, dev := Vector.replicate 8 false, dorm := Vector.replicate 8 false,
    relock := Vector.replicate 8 false, nap := Vector.replicate 8 .none, phase := .run, since := 0, wake := 0, wakes := 0,
    during := false, wakeAt := 0, ports := [], mgmt := [], shut := none, change := none, tripped := false }

/-- The converters (R424 to R435): the reference in force; the injected entry being converted; the entries latched for the run;
a firing that the next slot boundary takes, and those that reach the controller too late for it; the records of the conversions of
this slot; records whose ring bank answered RETRY, oldest first; droop comparators that have fired and not re-armed; whether the thermal alarm is armed; the lowest droop or thermal
channel of this slot. -/
structure Adc where
  ref : Nat
  run : Option Nat
  sels : List Word
  trig : Bool
  late : Nat
  conv : List Nat
  dma : List Nat
  fired : List Nat
  armed : Bool
  low : Option Nat
  deriving DecidableEq, Repr

/-- The converters at reset. -/
def Adc.reset : Adc :=
  { ref := 0, run := none, sels := [], trig := false, late := 0, conv := [], dma := [], fired := [], armed := true, low := none }

end Sys2Proof.Machine
end

