-- ==== Sys2Proof/Machine/RegTable.lean ====
section
/-!
DEFINITION. The register map of PF0 BAR0 (R21) as data: one row per register of the register tables of spec/
(R3, R52, R154, R178, R202, R228, R229, R252, R277, R308, R335, R357, R377, R398, R422, R436, R460, R491, R511,
R512, R525, R526), with the named, non-reserved fields of the table, their access types and their reset values, and one
address function per register.  The rows stand in address order within a unit.  Bits that no row's field names are the
reserved bits of R10.
-/
namespace Sys2Proof

/-- Access types of R8. -/
inductive Acc where
  | ro | rw | wo | w1c | w1s | rc
  deriving DecidableEq, Repr

/-- One field of a register: bits [hi:lo], its access type and its value at reset. -/
structure Fld where
  hi : Nat
  lo : Nat
  acc : Acc
  rst : Nat
  deriving DecidableEq, Repr

/-- Half of a 64-bit quantity (R12, R13), or a register of its own. -/
inductive Half where
  | single | lo | hi
  deriving DecidableEq, Repr

/-- One row of a register table: address of its first instance, the strides and counts of its indices, whether it is a
half of a 64-bit quantity, whether it appears in partition windows, whether its reset value counts up with its last
index (SPR_BMAP, ADC_SEQ), and its fields. -/
structure RegInfo where
  base : Nat
  dims : List (Nat × Nat)
  half : Half
  win : Bool
  ramp : Bool
  flds : List Fld
  deriving DecidableEq, Repr

namespace Reg

/-- GLB_IDENT (R3). -/
abbrev GLB_IDENT : Nat := 0x0
/-- FRM_CFG (R52). -/
abbrev FRM_CFG (i : Nat) : Nat := 0x100000 + 0x1000 * i
/-- FRM_STATE (R52). -/
abbrev FRM_STATE (i : Nat) : Nat := 0x100004 + 0x1000 * i
/-- FRM_FRAME_LO (R52). -/
abbrev FRM_FRAME_LO (i : Nat) : Nat := 0x100010 + 0x1000 * i
/-- FRM_FRAME_HI (R52). -/
abbrev FRM_FRAME_HI (i : Nat) : Nat := 0x100014 + 0x1000 * i
/-- FRM_COMMITTED_LO (R52). -/
abbrev FRM_COMMITTED_LO (i : Nat) : Nat := 0x100018 + 0x1000 * i
/-- FRM_COMMITTED_HI (R52). -/
abbrev FRM_COMMITTED_HI (i : Nat) : Nat := 0x10001C + 0x1000 * i
/-- FRM_START_LO (R52). -/
abbrev FRM_START_LO (i : Nat) : Nat := 0x100020 + 0x1000 * i
/-- FRM_START_HI (R52). -/
abbrev FRM_START_HI (i : Nat) : Nat := 0x100024 + 0x1000 * i
/-- FRM_RUN_FRAMES (R52). -/
abbrev FRM_RUN_FRAMES (i : Nat) : Nat := 0x100028 + 0x1000 * i
/-- FRM_STALL_LIMIT (R52). -/
abbrev FRM_STALL_LIMIT (i : Nat) : Nat := 0x100030 + 0x1000 * i
/-- FRM_STALL_WARN (R52). -/
abbrev FRM_STALL_WARN (i : Nat) : Nat := 0x100034 + 0x1000 * i
/-- FRM_STALL_STEPS_LO (R52). -/
abbrev FRM_STALL_STEPS_LO (i : Nat) : Nat := 0x100038 + 0x1000 * i
/-- FRM_STALL_STEPS_HI (R52). -/
abbrev FRM_STALL_STEPS_HI (i : Nat) : Nat := 0x10003C + 0x1000 * i
/-- FRM_STALL_DEPOT (R52). -/
abbrev FRM_STALL_DEPOT (i : Nat) : Nat := 0x100040 + 0x1000 * i
/-- FRM_STALL_XGET (R52). -/
abbrev FRM_STALL_XGET (i : Nat) : Nat := 0x100044 + 0x1000 * i
/-- FRM_STALL_VTR (R52). -/
abbrev FRM_STALL_VTR (i : Nat) : Nat := 0x100048 + 0x1000 * i
/-- FRM_STALL_VOTE (R52). -/
abbrev FRM_STALL_VOTE (i : Nat) : Nat := 0x10004C + 0x1000 * i
/-- FRM_STALL_TOKEN (R52). -/
abbrev FRM_STALL_TOKEN (i : Nat) : Nat := 0x100050 + 0x1000 * i
/-- FRM_STALL_MAX (R52). -/
abbrev FRM_STALL_MAX (i : Nat) : Nat := 0x100054 + 0x1000 * i
/-- FRM_ABORT_LIMIT (R52). -/
abbrev FRM_ABORT_LIMIT (i : Nat) : Nat := 0x100058 + 0x1000 * i
/-- FRM_ABORTS (R52). -/
abbrev FRM_ABORTS (i : Nat) : Nat := 0x10005C + 0x1000 * i
/-- FRM_ERR (R52). -/
abbrev FRM_ERR (i : Nat) : Nat := 0x100060 + 0x1000 * i
/-- FRM_FAULT (R52). -/
abbrev FRM_FAULT (i : Nat) : Nat := 0x100064 + 0x1000 * i
/-- FRM_FAULT_ADDR (R52). -/
abbrev FRM_FAULT_ADDR (i : Nat) : Nat := 0x100068 + 0x1000 * i
/-- FRM_IRQ_STATUS (R52). -/
abbrev FRM_IRQ_STATUS (i : Nat) : Nat := 0x100070 + 0x1000 * i
/-- FRM_IRQ_EN (R52). -/
abbrev FRM_IRQ_EN (i : Nat) : Nat := 0x100074 + 0x1000 * i
/-- LAT_CAPS (R154). -/
abbrev LAT_CAPS : Nat := 0x200000
/-- LAT_CORR (R154). -/
abbrev LAT_CORR (i : Nat) : Nat := 0x200010 + 0x4 * i
/-- LAT_UNCORR (R154). -/
abbrev LAT_UNCORR (i : Nat) : Nat := 0x200020 + 0x4 * i
/-- LAT_PARITY (R154). -/
abbrev LAT_PARITY (i : Nat) : Nat := 0x200030 + 0x4 * i
/-- LAT_ISO (R154). -/
abbrev LAT_ISO (i : Nat) : Nat := 0x200040 + 0x4 * i
/-- LAT_LAST_UNCORR (R154). -/
abbrev LAT_LAST_UNCORR : Nat := 0x200050
/-- LAT_BRIDGE (R154). -/
abbrev LAT_BRIDGE : Nat := 0x200060
/-- DBG_CTRL (R178). -/
abbrev DBG_CTRL (i : Nat) : Nat := 0x1500000 + 0x100 * i
/-- DBG_STATUS (R178). -/
abbrev DBG_STATUS (i : Nat) : Nat := 0x1500004 + 0x100 * i
/-- DBG_REC_EN (R178). -/
abbrev DBG_REC_EN (i : Nat) : Nat := 0x1500008 + 0x100 * i
/-- DBG_HALT_EN (R178). -/
abbrev DBG_HALT_EN (i : Nat) : Nat := 0x150000C + 0x100 * i
/-- DBG_TOTAL (R178). -/
abbrev DBG_TOTAL (i : Nat) : Nat := 0x1500010 + 0x100 * i
/-- DBG_LOST (R178). -/
abbrev DBG_LOST (i : Nat) : Nat := 0x1500014 + 0x100 * i
/-- DBG_HALT_REC (R178). -/
abbrev DBG_HALT_REC (i : Nat) : Nat := 0x1500018 + 0x100 * i
/-- VLT_CAPS (R202). -/
abbrev VLT_CAPS : Nat := 0x300000
/-- VLT_SCRUB (R202). -/
abbrev VLT_SCRUB : Nat := 0x300004
/-- VLT_BUSY_PIN (R202). -/
abbrev VLT_BUSY_PIN : Nat := 0x300008
/-- VLT_PEEK_STATUS (R202). -/
abbrev VLT_PEEK_STATUS : Nat := 0x30000C
/-- VLT_CORR (R202). -/
abbrev VLT_CORR (i : Nat) : Nat := 0x300010 + 0x4 * i
/-- VLT_DBE (R202). -/
abbrev VLT_DBE (i : Nat) : Nat := 0x300020 + 0x4 * i
/-- VLT_E_OVER (R202). -/
abbrev VLT_E_OVER (i : Nat) : Nat := 0x300030 + 0x4 * i
/-- VLT_BUSY (R202). -/
abbrev VLT_BUSY (i : Nat) : Nat := 0x300040 + 0x4 * i
/-- VLT_REJECT (R202). -/
abbrev VLT_REJECT : Nat := 0x300050
/-- VLT_LAST_REJECT (R202). -/
abbrev VLT_LAST_REJECT : Nat := 0x300054
/-- VLT_LAST_DBE (R202). -/
abbrev VLT_LAST_DBE : Nat := 0x300058
/-- VLT_LOG_MAX (R202). -/
abbrev VLT_LOG_MAX (i : Nat) : Nat := 0x300060 + 0x4 * i
/-- VLT_LOAN (R202). -/
abbrev VLT_LOAN (i j : Nat) : Nat := 0x310000 + 0x400 * i + 0x4 * j
/-- NOC_CAPS (R228). -/
abbrev NOC_CAPS : Nat := 0x400000
/-- NOC_URGENCY (R228). -/
abbrev NOC_URGENCY : Nat := 0x400004
/-- NOC_TIMEOUT (R228). -/
abbrev NOC_TIMEOUT : Nat := 0x400008
/-- NOC_LINKS (R228). -/
abbrev NOC_LINKS (i : Nat) : Nat := 0x400400 + 0x4 * i
/-- DEP_CAPS (R229). -/
abbrev DEP_CAPS : Nat := 0x500000
/-- DEP_LAST_REFUSE (R229). -/
abbrev DEP_LAST_REFUSE : Nat := 0x500010
/-- DEP_PORT_STATE (R229). -/
abbrev DEP_PORT_STATE (i : Nat) : Nat := 0x500100 + 0x20 * i
/-- DEP_PORT_RTT (R229). -/
abbrev DEP_PORT_RTT (i : Nat) : Nat := 0x500104 + 0x20 * i
/-- DEP_NODE (R229). -/
abbrev DEP_NODE (i : Nat) : Nat := 0x500108 + 0x20 * i
/-- DEP_NODE_CAP (R229). -/
abbrev DEP_NODE_CAP (i : Nat) : Nat := 0x50010C + 0x20 * i
/-- DEP_HELD_MAX (R229). -/
abbrev DEP_HELD_MAX (i : Nat) : Nat := 0x500110 + 0x20 * i
/-- DEP_HELD_OVER (R229). -/
abbrev DEP_HELD_OVER (i : Nat) : Nat := 0x500114 + 0x20 * i
/-- DEP_NODE_ERR (R229). -/
abbrev DEP_NODE_ERR (i : Nat) : Nat := 0x500118 + 0x20 * i
/-- LNK_CAPS (R252). -/
abbrev LNK_CAPS : Nat := 0x600000
/-- LNK_DEVICE_ID (R252). -/
abbrev LNK_DEVICE_ID : Nat := 0x600004
/-- LNK_TIME_CTRL (R252). -/
abbrev LNK_TIME_CTRL : Nat := 0x600008
/-- LNK_TIME_STATUS (R252). -/
abbrev LNK_TIME_STATUS : Nat := 0x60000C
/-- LNK_TIMEBASE_LO (R252). -/
abbrev LNK_TIMEBASE_LO : Nat := 0x600010
/-- LNK_TIMEBASE_HI (R252). -/
abbrev LNK_TIMEBASE_HI : Nat := 0x600014
/-- LNK_REPLAY_TIMEOUT (R252). -/
abbrev LNK_REPLAY_TIMEOUT : Nat := 0x600018
/-- LNK_ARM_TIMEOUT (R252). -/
abbrev LNK_ARM_TIMEOUT : Nat := 0x60001C
/-- LNK_STATE (R252). -/
abbrev LNK_STATE (i : Nat) : Nat := 0x600100 + 0x40 * i
/-- LNK_MAP (R252). -/
abbrev LNK_MAP (i : Nat) : Nat := 0x600104 + 0x40 * i
/-- LNK_CFG (R252). -/
abbrev LNK_CFG (i : Nat) : Nat := 0x600108 + 0x40 * i
/-- LNK_RTT (R252). -/
abbrev LNK_RTT (i : Nat) : Nat := 0x60010C + 0x40 * i
/-- LNK_REPLAY (R252). -/
abbrev LNK_REPLAY (i : Nat) : Nat := 0x600110 + 0x40 * i
/-- LNK_CRC (R252). -/
abbrev LNK_CRC (i : Nat) : Nat := 0x600114 + 0x40 * i
/-- LNK_DROP (R252). -/
abbrev LNK_DROP (i : Nat) : Nat := 0x600118 + 0x40 * i
/-- LNK_REMOTE_STOP (R252). -/
abbrev LNK_REMOTE_STOP (i : Nat) : Nat := 0x600800 + 0x4 * i
/-- LANE_CAPS (R277). -/
abbrev LANE_CAPS : Nat := 0x700000
/-- LANE_ALIGN_TIMEOUT (R277). -/
abbrev LANE_ALIGN_TIMEOUT : Nat := 0x700004
/-- LANE_CAPT_SEL (R277). -/
abbrev LANE_CAPT_SEL : Nat := 0x700010
/-- LANE_CAPT (R277). -/
abbrev LANE_CAPT (i : Nat) : Nat := 0x700040 + 0x4 * i
/-- LANE_SPARE (R277). -/
abbrev LANE_SPARE (i : Nat) : Nat := 0x7000C0 + 0x4 * i
/-- LANE_QUAD (R277). -/
abbrev LANE_QUAD (i : Nat) : Nat := 0x700100 + 0x4 * i
/-- LANE_CFG (R277). -/
abbrev LANE_CFG (i : Nat) : Nat := 0x700400 + 0x20 * i
/-- LANE_FFE (R277). -/
abbrev LANE_FFE (i : Nat) : Nat := 0x700404 + 0x20 * i
/-- LANE_STATE (R277). -/
abbrev LANE_STATE (i : Nat) : Nat := 0x700408 + 0x20 * i
/-- LANE_SLIP (R277). -/
abbrev LANE_SLIP (i : Nat) : Nat := 0x70040C + 0x20 * i
/-- LANE_ALIGN_STAT (R277). -/
abbrev LANE_ALIGN_STAT (i : Nat) : Nat := 0x700410 + 0x20 * i
/-- LANE_PRBS (R277). -/
abbrev LANE_PRBS (i : Nat) : Nat := 0x700414 + 0x20 * i
/-- LANE_PRBS_ERR (R277). -/
abbrev LANE_PRBS_ERR (i : Nat) : Nat := 0x700418 + 0x20 * i
/-- LANE_EVENTS (R277). -/
abbrev LANE_EVENTS (i : Nat) : Nat := 0x70041C + 0x20 * i
/-- CAP_CFG (R308). -/
abbrev CAP_CFG (i : Nat) : Nat := 0x800000 + 0x1000 * i
/-- CAP_CTRL (R308). -/
abbrev CAP_CTRL (i : Nat) : Nat := 0x800004 + 0x1000 * i
/-- CAP_STATUS (R308). -/
abbrev CAP_STATUS (i : Nat) : Nat := 0x800008 + 0x1000 * i
/-- CAP_WINDOW (R308). -/
abbrev CAP_WINDOW (i : Nat) : Nat := 0x80000C + 0x1000 * i
/-- CAP_AUTO_TIMEOUT (R308). -/
abbrev CAP_AUTO_TIMEOUT (i : Nat) : Nat := 0x800010 + 0x1000 * i
/-- CAP_KEY_INTERVAL (R308). -/
abbrev CAP_KEY_INTERVAL (i : Nat) : Nat := 0x800014 + 0x1000 * i
/-- CAP_EVENT_EN (R308). -/
abbrev CAP_EVENT_EN (i : Nat) : Nat := 0x800018 + 0x1000 * i
/-- CAP_PLATES (R308). -/
abbrev CAP_PLATES (i : Nat) : Nat := 0x80001C + 0x1000 * i
/-- CAP_TRIG_IGNORED (R308). -/
abbrev CAP_TRIG_IGNORED (i : Nat) : Nat := 0x800020 + 0x1000 * i
/-- CAP_OVERRUN (R308). -/
abbrev CAP_OVERRUN (i : Nat) : Nat := 0x800024 + 0x1000 * i
/-- CAP_MARK_LO (R308). -/
abbrev CAP_MARK_LO (i : Nat) : Nat := 0x800028 + 0x1000 * i
/-- CAP_MARK_HI (R308). -/
abbrev CAP_MARK_HI (i : Nat) : Nat := 0x80002C + 0x1000 * i
/-- CAP_DRAIN_BASE_LO (R308). -/
abbrev CAP_DRAIN_BASE_LO (i : Nat) : Nat := 0x800030 + 0x1000 * i
/-- CAP_DRAIN_BASE_HI (R308). -/
abbrev CAP_DRAIN_BASE_HI (i : Nat) : Nat := 0x800034 + 0x1000 * i
/-- CAP_DRAIN_SIZE (R308). -/
abbrev CAP_DRAIN_SIZE (i : Nat) : Nat := 0x800038 + 0x1000 * i
/-- CAP_DRAIN_HEAD (R308). -/
abbrev CAP_DRAIN_HEAD (i : Nat) : Nat := 0x80003C + 0x1000 * i
/-- CAP_DRAIN_TAIL (R308). -/
abbrev CAP_DRAIN_TAIL (i : Nat) : Nat := 0x800040 + 0x1000 * i
/-- CAP_STORE_BASE (R308). -/
abbrev CAP_STORE_BASE (i j : Nat) : Nat := 0x800100 + 0x1000 * i + 0x20 * j
/-- CAP_STORE_SIZE (R308). -/
abbrev CAP_STORE_SIZE (i j : Nat) : Nat := 0x800104 + 0x1000 * i + 0x20 * j
/-- CAP_STORE_HEAD (R308). -/
abbrev CAP_STORE_HEAD (i j : Nat) : Nat := 0x800108 + 0x1000 * i + 0x20 * j
/-- CAP_STORE_TAIL (R308). -/
abbrev CAP_STORE_TAIL (i j : Nat) : Nat := 0x80010C + 0x1000 * i + 0x20 * j
/-- CAP_DEAD_FRAMES (R308). -/
abbrev CAP_DEAD_FRAMES (i j : Nat) : Nat := 0x800110 + 0x1000 * i + 0x20 * j
/-- CAP_DEAD_NS_LO (R308). -/
abbrev CAP_DEAD_NS_LO (i j : Nat) : Nat := 0x800114 + 0x1000 * i + 0x20 * j
/-- CAP_DEAD_NS_HI (R308). -/
abbrev CAP_DEAD_NS_HI (i j : Nat) : Nat := 0x800118 + 0x1000 * i + 0x20 * j
/-- CAP_SEQ_MASK (R308). -/
abbrev CAP_SEQ_MASK (i j k : Nat) : Nat := 0x800400 + 0x1000 * i + 0x20 * j + 0x4 * k
/-- CAP_SEQ_CTRL (R308). -/
abbrev CAP_SEQ_CTRL (i j : Nat) : Nat := 0x800410 + 0x1000 * i + 0x20 * j
/-- CAP_SEQ_ACT (R308). -/
abbrev CAP_SEQ_ACT (i j : Nat) : Nat := 0x800414 + 0x1000 * i + 0x20 * j
/-- CAP_CMP_CFG (R308). -/
abbrev CAP_CMP_CFG (i j : Nat) : Nat := 0x800800 + 0x1000 * i + 0x20 * j
/-- CAP_CMP_MASK (R308). -/
abbrev CAP_CMP_MASK (i j k : Nat) : Nat := 0x800804 + 0x1000 * i + 0x20 * j + 0x4 * k
/-- CAP_CMP_VALUE (R308). -/
abbrev CAP_CMP_VALUE (i j k : Nat) : Nat := 0x80080C + 0x1000 * i + 0x20 * j + 0x4 * k
/-- CAP_CMP_THRESH (R308). -/
abbrev CAP_CMP_THRESH (i j : Nat) : Nat := 0x800814 + 0x1000 * i + 0x20 * j
/-- CAP_CMP_COUNT (R308). -/
abbrev CAP_CMP_COUNT (i j : Nat) : Nat := 0x800818 + 0x1000 * i + 0x20 * j
/-- CAP_CAPS (R308). -/
abbrev CAP_CAPS : Nat := 0x808000
/-- CAP_TRIG_BALLS (R308). -/
abbrev CAP_TRIG_BALLS : Nat := 0x808004
/-- CAP_TRIG_PULSE (R308). -/
abbrev CAP_TRIG_PULSE : Nat := 0x808008
/-- CAP_FIFO_MAX (R308). -/
abbrev CAP_FIFO_MAX (i : Nat) : Nat := 0x808010 + 0x4 * i
/-- CKP_CFG (R335). -/
abbrev CKP_CFG (i : Nat) : Nat := 0x900000 + 0x1000 * i
/-- CKP_INTERVAL (R335). -/
abbrev CKP_INTERVAL (i : Nat) : Nat := 0x900004 + 0x1000 * i
/-- CKP_STATUS (R335). -/
abbrev CKP_STATUS (i : Nat) : Nat := 0x900008 + 0x1000 * i
/-- CKP_AREA_LO (R335). -/
abbrev CKP_AREA_LO (i : Nat) : Nat := 0x900010 + 0x1000 * i
/-- CKP_AREA_HI (R335). -/
abbrev CKP_AREA_HI (i : Nat) : Nat := 0x900014 + 0x1000 * i
/-- CKP_SLOT_SIZE (R335). -/
abbrev CKP_SLOT_SIZE (i : Nat) : Nat := 0x900018 + 0x1000 * i
/-- CKP_LAST_LO (R335). -/
abbrev CKP_LAST_LO (i : Nat) : Nat := 0x900020 + 0x1000 * i
/-- CKP_LAST_HI (R335). -/
abbrev CKP_LAST_HI (i : Nat) : Nat := 0x900024 + 0x1000 * i
/-- CKP_HOLD_NS (R335). -/
abbrev CKP_HOLD_NS (i : Nat) : Nat := 0x900028 + 0x1000 * i
/-- CKP_UNDO_USED (R335). -/
abbrev CKP_UNDO_USED (i : Nat) : Nat := 0x90002C + 0x1000 * i
/-- CKP_REC_BASE_LO (R335). -/
abbrev CKP_REC_BASE_LO (i : Nat) : Nat := 0x900030 + 0x1000 * i
/-- CKP_REC_BASE_HI (R335). -/
abbrev CKP_REC_BASE_HI (i : Nat) : Nat := 0x900034 + 0x1000 * i
/-- CKP_REC_SIZE (R335). -/
abbrev CKP_REC_SIZE (i : Nat) : Nat := 0x900038 + 0x1000 * i
/-- CKP_REC_HEAD (R335). -/
abbrev CKP_REC_HEAD (i : Nat) : Nat := 0x90003C + 0x1000 * i
/-- CKP_REC_TAIL (R335). -/
abbrev CKP_REC_TAIL (i : Nat) : Nat := 0x900040 + 0x1000 * i
/-- CKP_REC_HOLD (R335). -/
abbrev CKP_REC_HOLD (i : Nat) : Nat := 0x900044 + 0x1000 * i
/-- CKP_REPLAY (R335). -/
abbrev CKP_REPLAY (i : Nat) : Nat := 0x900050 + 0x1000 * i
/-- CKP_DIV_FRAME_LO (R335). -/
abbrev CKP_DIV_FRAME_LO (i : Nat) : Nat := 0x900054 + 0x1000 * i
/-- CKP_DIV_FRAME_HI (R335). -/
abbrev CKP_DIV_FRAME_HI (i : Nat) : Nat := 0x900058 + 0x1000 * i
/-- CKP_REPLAY_LINKS (R335). -/
abbrev CKP_REPLAY_LINKS (i : Nat) : Nat := 0x90005C + 0x1000 * i
/-- CKP_RECOVERY (R335). -/
abbrev CKP_RECOVERY (i : Nat) : Nat := 0x900060 + 0x1000 * i
/-- CKP_RECOVERY_FRAME_LO (R335). -/
abbrev CKP_RECOVERY_FRAME_LO (i : Nat) : Nat := 0x900064 + 0x1000 * i
/-- CKP_RECOVERY_FRAME_HI (R335). -/
abbrev CKP_RECOVERY_FRAME_HI (i : Nat) : Nat := 0x900068 + 0x1000 * i
/-- CKP_RECOVERIES (R335). -/
abbrev CKP_RECOVERIES (i : Nat) : Nat := 0x90006C + 0x1000 * i
/-- SPR_CAPS (R357). -/
abbrev SPR_CAPS : Nat := 0xA00000
/-- SPR_CTRL (R357). -/
abbrev SPR_CTRL : Nat := 0xA00004
/-- SPR_THRESH (R357). -/
abbrev SPR_THRESH : Nat := 0xA00008
/-- SPR_WEAR_LIMIT (R357). -/
abbrev SPR_WEAR_LIMIT : Nat := 0xA0000C
/-- SPR_STATUS (R357). -/
abbrev SPR_STATUS : Nat := 0xA00010
/-- SPR_LAST_ACC (R357). -/
abbrev SPR_LAST_ACC : Nat := 0xA00014
/-- SPR_LAST_ACC_DETAIL (R357). -/
abbrev SPR_LAST_ACC_DETAIL : Nat := 0xA00018
/-- SPR_GHOST_ISO (R357). -/
abbrev SPR_GHOST_ISO : Nat := 0xA00020
/-- SPR_GHOST_GEN (R357). -/
abbrev SPR_GHOST_GEN : Nat := 0xA00024
/-- SPR_GHOST_LAST (R357). -/
abbrev SPR_GHOST_LAST : Nat := 0xA00028
/-- SPR_CORES (R357). -/
abbrev SPR_CORES : Nat := 0xA00030
/-- SPR_ROWS (R357). -/
abbrev SPR_ROWS (i : Nat) : Nat := 0xA00040 + 0x4 * i
/-- SPR_CMAP0 (R357). -/
abbrev SPR_CMAP0 (i : Nat) : Nat := 0xA01000 + 0x10 * i
/-- SPR_CMAP1 (R357). -/
abbrev SPR_CMAP1 (i : Nat) : Nat := 0xA01004 + 0x10 * i
/-- SPR_CMAP2 (R357). -/
abbrev SPR_CMAP2 (i : Nat) : Nat := 0xA01008 + 0x10 * i
/-- SPR_TILE (R357). -/
abbrev SPR_TILE (i : Nat) : Nat := 0xA0100C + 0x10 * i
/-- SPR_CHEALTH (R357). -/
abbrev SPR_CHEALTH (i j : Nat) : Nat := 0xA02000 + 0x44 * i + 0x4 * j
/-- SPR_CHEALTH_SPARE (R357). -/
abbrev SPR_CHEALTH_SPARE (i : Nat) : Nat := 0xA02040 + 0x44 * i
/-- SPR_BMAP (R357). -/
abbrev SPR_BMAP (i j : Nat) : Nat := 0xA08000 + 0x400 * i + 0x4 * j
/-- SPR_BHEALTH (R357). -/
abbrev SPR_BHEALTH (i j : Nat) : Nat := 0xA09000 + 0x420 * i + 0x4 * j
/-- SPR_BHEALTH_SPARE (R357). -/
abbrev SPR_BHEALTH_SPARE (i j : Nat) : Nat := 0xA09400 + 0x420 * i + 0x4 * j
/-- SPR_WEAR (R357). -/
abbrev SPR_WEAR (i : Nat) : Nat := 0xA0C000 + 0x8 * i
/-- SPR_WEAR_AUX (R357). -/
abbrev SPR_WEAR_AUX (i : Nat) : Nat := 0xA0C004 + 0x8 * i
/-- VTR_CAPS (R377). -/
abbrev VTR_CAPS : Nat := 0xB00000
/-- VTR_CLK (R377). -/
abbrev VTR_CLK : Nat := 0xB00004
/-- VTR_CAL (R377). -/
abbrev VTR_CAL : Nat := 0xB00008
/-- VTR_CAL_STATUS (R377). -/
abbrev VTR_CAL_STATUS : Nat := 0xB0000C
/-- VTR_REGION_STATE (R377). -/
abbrev VTR_REGION_STATE (i : Nat) : Nat := 0xB00100 + 0x10 * i
/-- VTR_REGION_IMAGE (R377). -/
abbrev VTR_REGION_IMAGE (i : Nat) : Nat := 0xB00104 + 0x10 * i
/-- VTR_REGION_PUB (R377). -/
abbrev VTR_REGION_PUB (i : Nat) : Nat := 0xB00108 + 0x10 * i
/-- VTR_REGION_SKIP (R377). -/
abbrev VTR_REGION_SKIP (i : Nat) : Nat := 0xB0010C + 0x10 * i
/-- VTR_BANK (R377). -/
abbrev VTR_BANK (i : Nat) : Nat := 0xB00200 + 0x4 * i
/-- VTR_PACE (R377). -/
abbrev VTR_PACE (i : Nat) : Nat := 0xB00300 + 0x4 * i
/-- VTR_BOUT (R377). -/
abbrev VTR_BOUT (i : Nat) : Nat := 0xB01000 + 0x4 * i
/-- VTR_BIN (R377). -/
abbrev VTR_BIN (i : Nat) : Nat := 0xB01100 + 0x4 * i
/-- VTR_DELAY (R377). -/
abbrev VTR_DELAY (i : Nat) : Nat := 0xB02000 + 0x4 * i
/-- CFG_STATUS (R398). -/
abbrev CFG_STATUS : Nat := 0xC00000
/-- CFG_FAIL (R398). -/
abbrev CFG_FAIL : Nat := 0xC00004
/-- CFG_LINE (R398). -/
abbrev CFG_LINE : Nat := 0xC00008
/-- CFG_GO_COUNT (R398). -/
abbrev CFG_GO_COUNT : Nat := 0xC0000C
/-- CFG_GO_TIME_LO (R398). -/
abbrev CFG_GO_TIME_LO : Nat := 0xC00010
/-- CFG_GO_TIME_HI (R398). -/
abbrev CFG_GO_TIME_HI : Nat := 0xC00014
/-- CFG_LANE_WAIT (R398). -/
abbrev CFG_LANE_WAIT : Nat := 0xC00018
/-- CFG_STAGE_US (R398). -/
abbrev CFG_STAGE_US (i : Nat) : Nat := 0xC00020 + 0x4 * i
/-- CFG_KEYS (R398). -/
abbrev CFG_KEYS : Nat := 0xC00040
/-- CFG_LOAD (R398). -/
abbrev CFG_LOAD (i : Nat) : Nat := 0xC00080 + 0x4 * i
/-- PHM_CTRL (R422). -/
abbrev PHM_CTRL (i : Nat) : Nat := 0xD00000 + 0x40000 * i
/-- PHM_STATUS (R422). -/
abbrev PHM_STATUS (i : Nat) : Nat := 0xD00004 + 0x40000 * i
/-- PHM_RING (R422). -/
abbrev PHM_RING (i : Nat) : Nat := 0xD00008 + 0x40000 * i
/-- PHM_RING_HEAD (R422). -/
abbrev PHM_RING_HEAD (i : Nat) : Nat := 0xD0000C + 0x40000 * i
/-- PHM_RING_TAIL (R422). -/
abbrev PHM_RING_TAIL (i : Nat) : Nat := 0xD00010 + 0x40000 * i
/-- PHM_RING_DROP (R422). -/
abbrev PHM_RING_DROP (i : Nat) : Nat := 0xD00014 + 0x40000 * i
/-- PHM_TIMER (R422). -/
abbrev PHM_TIMER (i : Nat) : Nat := 0xD00018 + 0x40000 * i
/-- PHM_BUDGET (R422). -/
abbrev PHM_BUDGET (i : Nat) : Nat := 0xD0001C + 0x40000 * i
/-- PHM_BUSY (R422). -/
abbrev PHM_BUSY (i : Nat) : Nat := 0xD00020 + 0x40000 * i
/-- PHM_DECIM (R422). -/
abbrev PHM_DECIM (i j : Nat) : Nat := 0xD00040 + 0x40000 * i + 0x4 * j
/-- PHM_LATE (R422). -/
abbrev PHM_LATE (i j : Nat) : Nat := 0xD00060 + 0x40000 * i + 0x4 * j
/-- PHM_TAP (R422). -/
abbrev PHM_TAP (i j : Nat) : Nat := 0xD00080 + 0x40000 * i + 0x4 * j
/-- ADC_CAPS (R436). -/
abbrev ADC_CAPS : Nat := 0xE00000
/-- ADC_CFG (R436). -/
abbrev ADC_CFG : Nat := 0xE00004
/-- ADC_CTRL (R436). -/
abbrev ADC_CTRL : Nat := 0xE00008
/-- ADC_STATUS (R436). -/
abbrev ADC_STATUS : Nat := 0xE0000C
/-- ADC_CAUSE (R436). -/
abbrev ADC_CAUSE : Nat := 0xE00010
/-- ADC_INJ_MERGED (R436). -/
abbrev ADC_INJ_MERGED : Nat := 0xE00014
/-- ADC_DROOP (R436). -/
abbrev ADC_DROOP : Nat := 0xE00018
/-- ADC_THERM (R436). -/
abbrev ADC_THERM : Nat := 0xE0001C
/-- ADC_MON (R436). -/
abbrev ADC_MON : Nat := 0xE00020
/-- ADC_RING (R436). -/
abbrev ADC_RING : Nat := 0xE00030
/-- ADC_RING_HEAD (R436). -/
abbrev ADC_RING_HEAD : Nat := 0xE00034
/-- ADC_RING_TAIL (R436). -/
abbrev ADC_RING_TAIL : Nat := 0xE00038
/-- ADC_RING_DROP (R436). -/
abbrev ADC_RING_DROP : Nat := 0xE0003C
/-- ADC_SEQ (R436). -/
abbrev ADC_SEQ (i : Nat) : Nat := 0xE00100 + 0x4 * i
/-- ADC_SEQ_OFF (R436). -/
abbrev ADC_SEQ_OFF (i : Nat) : Nat := 0xE00140 + 0x4 * i
/-- ADC_INJ (R436). -/
abbrev ADC_INJ (i : Nat) : Nat := 0xE00180 + 0x4 * i
/-- ADC_LAST (R436). -/
abbrev ADC_LAST (i : Nat) : Nat := 0xE00200 + 0x4 * i
/-- MBX_CAPS (R460). -/
abbrev MBX_CAPS : Nat := 0xF00000
/-- MBX_STAMP_LO (R460). -/
abbrev MBX_STAMP_LO : Nat := 0xF00008
/-- MBX_STAMP_HI (R460). -/
abbrev MBX_STAMP_HI : Nat := 0xF0000C
/-- MBX_FW (R460). -/
abbrev MBX_FW : Nat := 0xF00010
/-- MBX_POOL (R460). -/
abbrev MBX_POOL : Nat := 0xF00014
/-- MBX_BAD_FREE (R460). -/
abbrev MBX_BAD_FREE : Nat := 0xF00018
/-- MBX_LAST_BAD_FREE (R460). -/
abbrev MBX_LAST_BAD_FREE : Nat := 0xF0001C
/-- MBX_ACCLOG_COUNT (R460). -/
abbrev MBX_ACCLOG_COUNT : Nat := 0xF00020
/-- MBX_CMD (R460). -/
abbrev MBX_CMD (i j : Nat) : Nat := 0xF01000 + 0x100 * i + 0x4 * j
/-- MBX_DOORBELL (R460). -/
abbrev MBX_DOORBELL (i : Nat) : Nat := 0xF01040 + 0x100 * i
/-- MBX_DB_RESULT (R460). -/
abbrev MBX_DB_RESULT (i : Nat) : Nat := 0xF01044 + 0x100 * i
/-- MBX_DB_STAMP_LO (R460). -/
abbrev MBX_DB_STAMP_LO (i : Nat) : Nat := 0xF01048 + 0x100 * i
/-- MBX_DB_STAMP_HI (R460). -/
abbrev MBX_DB_STAMP_HI (i : Nat) : Nat := 0xF0104C + 0x100 * i
/-- MBX_QSTAT (R460). -/
abbrev MBX_QSTAT (i : Nat) : Nat := 0xF01050 + 0x100 * i
/-- MBX_IRQ_EN (R460). -/
abbrev MBX_IRQ_EN (i : Nat) : Nat := 0xF01054 + 0x100 * i
/-- MBX_RSP (R460). -/
abbrev MBX_RSP (i j : Nat) : Nat := 0xF01080 + 0x100 * i + 0x4 * j
/-- MBX_RSP_POP (R460). -/
abbrev MBX_RSP_POP (i : Nat) : Nat := 0xF010C0 + 0x100 * i
/-- RGS_CAPS (R491). -/
abbrev RGS_CAPS : Nat := 0x1000000
/-- RGS_CFG (R491). -/
abbrev RGS_CFG : Nat := 0x1000004
/-- RGS_PRIO (R491). -/
abbrev RGS_PRIO : Nat := 0x1000008
/-- RGS_POOL (R491). -/
abbrev RGS_POOL : Nat := 0x100000C
/-- RGS_STATUS (R491). -/
abbrev RGS_STATUS : Nat := 0x1000010
/-- RGS_RETRY (R491). -/
abbrev RGS_RETRY : Nat := 0x1000014
/-- RGS_CANCELS (R491). -/
abbrev RGS_CANCELS : Nat := 0x1000018
/-- RGS_NOW (R491). -/
abbrev RGS_NOW : Nat := 0x100001C
/-- RGS_CORE_STATE (R491). -/
abbrev RGS_CORE_STATE (i : Nat) : Nat := 0x1000100 + 0x20 * i
/-- RGS_DONE (R491). -/
abbrev RGS_DONE (i : Nat) : Nat := 0x1000104 + 0x20 * i
/-- RGS_YIELD (R491). -/
abbrev RGS_YIELD (i : Nat) : Nat := 0x1000108 + 0x20 * i
/-- RGS_CANCEL (R491). -/
abbrev RGS_CANCEL (i : Nat) : Nat := 0x100010C + 0x20 * i
/-- RGS_BUSY (R491). -/
abbrev RGS_BUSY (i : Nat) : Nat := 0x1000110 + 0x20 * i
/-- RGS_DISPATCH (R491). -/
abbrev RGS_DISPATCH (i : Nat) : Nat := 0x1000114 + 0x20 * i
/-- RGS_WAIT (R491). -/
abbrev RGS_WAIT (i j : Nat) : Nat := 0x1000400 + 0x40 * i + 0x4 * j
/-- RGS_TRACE (R491). -/
abbrev RGS_TRACE : Nat := 0x1000800
/-- RGS_TRACE_HEAD (R491). -/
abbrev RGS_TRACE_HEAD : Nat := 0x1000804
/-- RGS_TRACE_TAIL (R491). -/
abbrev RGS_TRACE_TAIL : Nat := 0x1000808
/-- RGS_TRACE_DROP (R491). -/
abbrev RGS_TRACE_DROP : Nat := 0x100080C
/-- PWR_CAPS (R511). -/
abbrev PWR_CAPS : Nat := 0x1100000
/-- PWR_STATE (R511). -/
abbrev PWR_STATE : Nat := 0x1100004
/-- PWR_CTRL (R511). -/
abbrev PWR_CTRL : Nat := 0x1100008
/-- PWR_LAST_WAKE (R511). -/
abbrev PWR_LAST_WAKE : Nat := 0x110000C
/-- PWR_LAST_WAKE_TIME (R511). -/
abbrev PWR_LAST_WAKE_TIME : Nat := 0x1100010
/-- PWR_WAKE_TIMER (R511). -/
abbrev PWR_WAKE_TIMER : Nat := 0x1100014
/-- PWR_VCORE (R511). -/
abbrev PWR_VCORE : Nat := 0x1100018
/-- PWR_VR (R511). -/
abbrev PWR_VR : Nat := 0x110001C
/-- PWR_VR_TIMEOUT (R511). -/
abbrev PWR_VR_TIMEOUT : Nat := 0x1100020
/-- PWR_THERMTRIP (R511). -/
abbrev PWR_THERMTRIP : Nat := 0x1100024
/-- PWR_DORMANT_TIME (R511). -/
abbrev PWR_DORMANT_TIME : Nat := 0x1100028
/-- PWR_DIE_OP (R511). -/
abbrev PWR_DIE_OP (i : Nat) : Nat := 0x1100040 + 0x4 * i
/-- PWR_PART (R511). -/
abbrev PWR_PART (i : Nat) : Nat := 0x1100060 + 0x4 * i
/-- PWR_DOMAIN (R511). -/
abbrev PWR_DOMAIN (i : Nat) : Nat := 0x1100080 + 0x4 * i
/-- CLK_CAPS (R512). -/
abbrev CLK_CAPS : Nat := 0x1200000
/-- CLK_DEVCLK (R512). -/
abbrev CLK_DEVCLK : Nat := 0x1200004
/-- CLK_STEP (R512). -/
abbrev CLK_STEP (i : Nat) : Nat := 0x1200010 + 0x10 * i
/-- CLK_RELOCK (R512). -/
abbrev CLK_RELOCK (i : Nat) : Nat := 0x1200014 + 0x10 * i
/-- CLK_RELOCK_FAIL (R512). -/
abbrev CLK_RELOCK_FAIL (i : Nat) : Nat := 0x1200018 + 0x10 * i
/-- CLK_FIXED (R512). -/
abbrev CLK_FIXED : Nat := 0x1200050
/-- TLY_TIME_LO (R525). -/
abbrev TLY_TIME_LO : Nat := 0x1300000
/-- TLY_TIME_HI (R525). -/
abbrev TLY_TIME_HI : Nat := 0x1300004
/-- TLY_PERIOD (R525). -/
abbrev TLY_PERIOD : Nat := 0x1300008
/-- TLY_STATUS (R525). -/
abbrev TLY_STATUS : Nat := 0x130000C
/-- TLY_PERIOD_NO (R525). -/
abbrev TLY_PERIOD_NO : Nat := 0x1300010
/-- TLY_MERGED (R525). -/
abbrev TLY_MERGED : Nat := 0x1300014
/-- TLY_WALL_LO (R525). -/
abbrev TLY_WALL_LO : Nat := 0x1300018
/-- TLY_WALL_HI (R525). -/
abbrev TLY_WALL_HI : Nat := 0x130001C
/-- TLY_TENANT (R525). -/
abbrev TLY_TENANT (i : Nat) : Nat := 0x1300040 + 0x4 * i
/-- LGB_CTRL (R526). -/
abbrev LGB_CTRL : Nat := 0x1400000
/-- LGB_STATUS (R526). -/
abbrev LGB_STATUS : Nat := 0x1400004
/-- LGB_HEAD (R526). -/
abbrev LGB_HEAD : Nat := 0x1400008
/-- LGB_TAIL (R526). -/
abbrev LGB_TAIL : Nat := 0x140000C
/-- LGB_DROP (R526). -/
abbrev LGB_DROP : Nat := 0x1400010

end Reg

/-- Rows of unit GLB. -/
def regTableGLB : List RegInfo :=
  [⟨0x0, [], .single, false, false, [⟨31, 16, .ro, 0xB1E2⟩, ⟨11, 8, .ro, 0x0⟩, ⟨7, 4, .ro, 0x1⟩, ⟨3, 0, .ro, 0x0⟩]⟩]

/-- Rows of unit FRM. -/
def regTableFRM0 : List RegInfo :=
  [⟨0x100000, [(0x1000, 8)], .single, true, false, [⟨12, 0, .ro, 0x0⟩, ⟨16, 16, .ro, 0x0⟩, ⟨17, 17, .ro, 0x0⟩, ⟨18, 18, .ro, 0x0⟩, ⟨19, 19, .ro, 0x0⟩]⟩,
   ⟨0x100004, [(0x1000, 8)], .single, true, false, [⟨12, 0, .ro, 0x0⟩, ⟨13, 13, .ro, 0x0⟩, ⟨19, 16, .ro, 0x0⟩, ⟨22, 20, .ro, 0x0⟩, ⟨26, 23, .ro, 0x0⟩, ⟨31, 27, .ro, 0x0⟩]⟩,
   ⟨0x100010, [(0x1000, 8)], .lo, true, false, [⟨31, 0, .ro, 0x0⟩]⟩,
   ⟨0x100014, [(0x1000, 8)], .hi, true, false, [⟨15, 0, .ro, 0x0⟩]⟩,
   ⟨0x100018, [(0x1000, 8)], .lo, true, false, [⟨31, 0, .ro, 0x0⟩]⟩,
   ⟨0x10001C, [(0x1000, 8)], .hi, true, false, [⟨15, 0, .ro, 0x0⟩, ⟨31, 31, .ro, 0x0⟩]⟩,
   ⟨0x100020, [(0x1000, 8)], .lo, true, false, [⟨31, 0, .ro, 0x0⟩]⟩,
   ⟨0x100024, [(0x1000, 8)], .hi, true, false, [⟨15, 0, .ro, 0x0⟩]⟩,
   ⟨0x100028, [(0x1000, 8)], .single, true, false, [⟨31, 0, .ro, 0x0⟩]⟩,
   ⟨0x100030, [(0x1000, 8)], .single, false, false, [⟨31, 0, .rw, 0x1000000⟩]⟩,
   ⟨0x100034, [(0x1000, 8)], .single, false, false, [⟨31, 0, .rw, 0x100000⟩]⟩,
   ⟨0x100038, [(0x1000, 8)], .lo, true, false, [⟨31, 0, .ro, 0x0⟩]⟩,
   ⟨0x10003C, [(0x1000, 8)], .hi, true, false, [⟨31, 0, .ro, 0x0⟩]⟩,
   ⟨0x100040, [(0x1000, 8)], .single, true, false, [⟨31, 0, .rc, 0x0⟩]⟩,
   ⟨0x100044, [(0x1000, 8)], .single, true, false, [⟨31, 0, .rc, 0x0⟩]⟩,
   ⟨0x100048, [(0x1000, 8)], .single, true, false, [⟨31, 0, .rc, 0x0⟩]⟩,
   ⟨0x10004C, [(0x1000, 8)], .single, true, false, [⟨31, 0, .rc, 0x0⟩]⟩,
   ⟨0x100050, [(0x1000, 8)], .single, true, false, [⟨31, 0, .rc, 0x0⟩]⟩,
   ⟨0x100054, [(0x1000, 8)], .single, true, false, [⟨31, 0, .rc, 0x0⟩]⟩,
   ⟨0x100058, [(0x1000, 8)], .single, false, false, [⟨3, 0, .rw, 0x3⟩]⟩,
   ⟨0x10005C, [(0x1000, 8)], .single, true, false, [⟨7, 0, .ro, 0x0⟩, ⟨31, 8, .ro, 0x0⟩]⟩,
   ⟨0x100060, [(0x1000, 8)], .single, true, false, [⟨0, 0, .ro, 0x0⟩, ⟨1, 1, .ro, 0x0⟩, ⟨2, 2, .ro, 0x0⟩, ⟨3, 3, .ro, 0x0⟩, ⟨4, 4, .ro, 0x0⟩, ⟨5, 5, .ro, 0x0⟩, ⟨13, 8, .ro, 0x0⟩]⟩,
   ⟨0x100064, [(0x1000, 8)], .single, true, false, [⟨3, 0, .ro, 0x0⟩, ⟨6, 4, .ro, 0x0⟩, ⟨19, 7, .ro, 0x0⟩]⟩,
   ⟨0x100068, [(0x1000, 8)], .single, true, false, [⟨17, 0, .ro, 0x0⟩]⟩]

/-- Rows of unit FRM. -/
def regTableFRM1 : List RegInfo :=
  [⟨0x100070, [(0x1000, 8)], .single, true, false, [⟨0, 0, .w1c, 0x0⟩, ⟨1, 1, .w1c, 0x0⟩, ⟨2, 2, .w1c, 0x0⟩, ⟨3, 3, .w1c, 0x0⟩]⟩,
   ⟨0x100074, [(0x1000, 8)], .single, true, false, [⟨3, 0, .rw, 0x0⟩]⟩]

/-- Rows of unit FRM. -/
def regTableFRM : List RegInfo := regTableFRM0 ++ regTableFRM1

/-- Rows of unit LAT. -/
def regTableLAT : List RegInfo :=
  [⟨0x200000, [], .single, false, false, [⟨3, 0, .ro, 0x2⟩, ⟨7, 4, .ro, 0x2⟩, ⟨11, 8, .ro, 0x3⟩, ⟨15, 12, .ro, 0x4⟩, ⟨20, 16, .ro, 0x10⟩]⟩,
   ⟨0x200010, [(0x4, 4)], .single, false, false, [⟨31, 0, .rc, 0x0⟩]⟩,
   ⟨0x200020, [(0x4, 4)], .single, false, false, [⟨31, 0, .rc, 0x0⟩]⟩,
   ⟨0x200030, [(0x4, 4)], .single, false, false, [⟨31, 0, .rc, 0x0⟩]⟩,
   ⟨0x200040, [(0x4, 4)], .single, false, false, [⟨31, 0, .rc, 0x0⟩]⟩,
   ⟨0x200050, [], .single, false, false, [⟨7, 0, .rc, 0x0⟩, ⟨18, 8, .rc, 0x0⟩, ⟨25, 19, .rc, 0x0⟩, ⟨31, 31, .rc, 0x0⟩]⟩,
   ⟨0x200060, [], .single, false, false, [⟨5, 0, .ro, 0x0⟩, ⟨13, 8, .ro, 0x3F⟩]⟩]

/-- Rows of unit DBG. -/
def regTableDBG : List RegInfo :=
  [⟨0x1500000, [(0x100, 8)], .single, true, false, [⟨0, 0, .wo, 0x0⟩, ⟨1, 1, .rw, 0x0⟩]⟩,
   ⟨0x1500004, [(0x100, 8)], .single, true, false, [⟨8, 0, .ro, 0x0⟩, ⟨9, 9, .ro, 0x0⟩, ⟨10, 10, .ro, 0x0⟩]⟩,
   ⟨0x1500008, [(0x100, 8)], .single, true, false, [⟨23, 1, .rw, 0x7FFFFF⟩]⟩,
   ⟨0x150000C, [(0x100, 8)], .single, true, false, [⟨23, 1, .rw, 0x0⟩]⟩,
   ⟨0x1500010, [(0x100, 8)], .single, true, false, [⟨31, 0, .ro, 0x0⟩]⟩,
   ⟨0x1500014, [(0x100, 8)], .single, true, false, [⟨31, 0, .ro, 0x0⟩]⟩,
   ⟨0x1500018, [(0x100, 8)], .single, true, false, [⟨7, 0, .ro, 0x0⟩, ⟨13, 8, .ro, 0x0⟩, ⟨31, 31, .ro, 0x0⟩]⟩]

/-- Rows of unit VLT. -/
def regTableVLT : List RegInfo :=
  [⟨0x300000, [], .single, false, false, [⟨8, 0, .ro, 0x100⟩, ⟨12, 9, .ro, 0x8⟩, ⟨16, 13, .ro, 0x4⟩, ⟨20, 17, .ro, 0xF⟩]⟩,
   ⟨0x300004, [], .single, false, false, [⟨0, 0, .rw, 0x1⟩, ⟨7, 4, .rw, 0x4⟩]⟩,
   ⟨0x300008, [], .single, false, false, [⟨0, 0, .rw, 0x1⟩, ⟨15, 8, .rw, 0x20⟩]⟩,
   ⟨0x30000C, [], .single, false, false, [⟨7, 0, .ro, 0x0⟩, ⟨8, 8, .ro, 0x0⟩, ⟨18, 9, .ro, 0x0⟩, ⟨31, 31, .ro, 0x0⟩]⟩,
   ⟨0x300010, [(0x4, 4)], .single, false, false, [⟨31, 0, .rc, 0x0⟩]⟩,
   ⟨0x300020, [(0x4, 4)], .single, false, false, [⟨31, 0, .rc, 0x0⟩]⟩,
   ⟨0x300030, [(0x4, 4)], .single, false, false, [⟨31, 0, .rc, 0x0⟩]⟩,
   ⟨0x300040, [(0x4, 4)], .single, false, false, [⟨31, 0, .rc, 0x0⟩]⟩,
   ⟨0x300050, [], .single, false, false, [⟨31, 0, .rc, 0x0⟩]⟩,
   ⟨0x300054, [], .single, false, false, [⟨9, 0, .rc, 0x0⟩, ⟨13, 10, .rc, 0x0⟩, ⟨17, 14, .rc, 0x0⟩, ⟨18, 18, .rc, 0x0⟩, ⟨31, 31, .rc, 0x0⟩]⟩,
   ⟨0x300058, [], .single, false, false, [⟨9, 0, .rc, 0x0⟩, ⟨22, 10, .rc, 0x0⟩, ⟨24, 23, .rc, 0x0⟩, ⟨31, 31, .rc, 0x0⟩]⟩,
   ⟨0x300060, [(0x4, 8)], .single, false, false, [⟨15, 0, .rc, 0x0⟩]⟩,
   ⟨0x310000, [(0x400, 4), (0x4, 256)], .single, false, false, [⟨3, 0, .ro, 0xD⟩, ⟨4, 4, .ro, 0x0⟩, ⟨9, 8, .ro, 0x0⟩, ⟨10, 10, .ro, 0x1⟩, ⟨11, 11, .ro, 0x0⟩, ⟨15, 12, .ro, 0xD⟩]⟩]

/-- Rows of unit NOC. -/
def regTableNOC : List RegInfo :=
  [⟨0x400000, [], .single, false, false, [⟨4, 0, .ro, 0x10⟩, ⟨9, 5, .ro, 0x10⟩, ⟨13, 10, .ro, 0x4⟩, ⟨17, 14, .ro, 0x4⟩, ⟨21, 18, .ro, 0xF⟩]⟩,
   ⟨0x400004, [], .single, false, false, [⟨3, 0, .ro, 0xC⟩, ⟨7, 4, .ro, 0x4⟩, ⟨11, 8, .ro, 0x8⟩, ⟨15, 12, .ro, 0x0⟩]⟩,
   ⟨0x400008, [], .single, false, false, [⟨15, 0, .rw, 0x64⟩]⟩,
   ⟨0x400400, [(0x4, 256)], .single, false, false, [⟨0, 0, .ro, 0x1⟩, ⟨1, 1, .ro, 0x1⟩, ⟨2, 2, .ro, 0x1⟩, ⟨3, 3, .ro, 0x1⟩, ⟨4, 4, .ro, 0x1⟩]⟩]

/-- Rows of unit DEP. -/
def regTableDEP : List RegInfo :=
  [⟨0x500000, [], .single, false, false, [⟨3, 0, .ro, 0x8⟩, ⟨8, 4, .ro, 0x1E⟩, ⟨14, 9, .ro, 0x2E⟩]⟩,
   ⟨0x500010, [], .single, false, false, [⟨15, 0, .rc, 0x0⟩, ⟨19, 16, .rc, 0x0⟩, ⟨23, 20, .rc, 0x0⟩, ⟨24, 24, .rc, 0x0⟩, ⟨31, 31, .rc, 0x0⟩]⟩,
   ⟨0x500100, [(0x20, 8)], .single, false, false, [⟨2, 0, .ro, 0x0⟩, ⟨12, 8, .ro, 0x0⟩, ⟨23, 16, .ro, 0x0⟩, ⟨24, 24, .ro, 0x0⟩]⟩,
   ⟨0x500104, [(0x20, 8)], .single, false, false, [⟨15, 0, .ro, 0x0⟩]⟩,
   ⟨0x500108, [(0x20, 8)], .single, false, false, [⟨15, 0, .ro, 0x0⟩]⟩,
   ⟨0x50010C, [(0x20, 8)], .single, false, false, [⟨23, 0, .ro, 0x0⟩]⟩,
   ⟨0x500110, [(0x20, 8)], .single, false, false, [⟨15, 0, .rc, 0x0⟩]⟩,
   ⟨0x500114, [(0x20, 8)], .single, false, false, [⟨31, 0, .rc, 0x0⟩]⟩,
   ⟨0x500118, [(0x20, 8)], .single, false, false, [⟨15, 0, .rc, 0x0⟩, ⟨23, 16, .rc, 0x0⟩]⟩]

/-- Rows of unit LNK. -/
def regTableLNK : List RegInfo :=
  [⟨0x600000, [], .single, false, false, [⟨4, 0, .ro, 0x18⟩, ⟨11, 5, .ro, 0x40⟩, ⟨20, 12, .ro, 0x100⟩]⟩,
   ⟨0x600004, [], .single, false, false, [⟨7, 0, .rw, 0x0⟩]⟩,
   ⟨0x600008, [], .single, false, false, [⟨0, 0, .rw, 0x0⟩, ⟨1, 1, .rw, 0x0⟩, ⟨12, 8, .rw, 0x0⟩, ⟨23, 16, .rw, 0x1⟩]⟩,
   ⟨0x60000C, [], .single, false, false, [⟨15, 0, .ro, 0x0⟩, ⟨16, 16, .ro, 0x0⟩, ⟨17, 17, .w1c, 0x0⟩]⟩,
   ⟨0x600010, [], .lo, false, false, [⟨31, 0, .ro, 0x0⟩]⟩,
   ⟨0x600014, [], .hi, false, false, [⟨31, 0, .ro, 0x0⟩]⟩,
   ⟨0x600018, [], .single, false, false, [⟨15, 0, .rw, 0x7D0⟩]⟩,
   ⟨0x60001C, [], .single, false, false, [⟨15, 0, .rw, 0x3E8⟩]⟩,
   ⟨0x600100, [(0x40, 24)], .single, false, false, [⟨1, 0, .ro, 0x0⟩, ⟨5, 2, .ro, 0x0⟩, ⟨10, 6, .ro, 0x0⟩, ⟨11, 11, .ro, 0x0⟩]⟩,
   ⟨0x600104, [(0x40, 24)], .single, false, false, [⟨31, 0, .ro, 0x0⟩]⟩,
   ⟨0x600108, [(0x40, 24)], .single, false, false, [⟨0, 0, .rw, 0x0⟩]⟩,
   ⟨0x60010C, [(0x40, 24)], .single, false, false, [⟨15, 0, .ro, 0x0⟩, ⟨31, 16, .ro, 0x0⟩]⟩,
   ⟨0x600110, [(0x40, 24)], .single, false, false, [⟨31, 0, .rc, 0x0⟩]⟩,
   ⟨0x600114, [(0x40, 24)], .single, false, false, [⟨31, 0, .rc, 0x0⟩]⟩,
   ⟨0x600118, [(0x40, 24)], .single, false, false, [⟨31, 0, .rc, 0x0⟩]⟩,
   ⟨0x600800, [(0x4, 8)], .single, false, false, [⟨7, 0, .ro, 0x0⟩, ⟨13, 8, .ro, 0x0⟩, ⟨31, 31, .ro, 0x0⟩]⟩]

/-- Rows of unit LANE. -/
def regTableLANE : List RegInfo :=
  [⟨0x700000, [], .single, false, false, [⟨4, 0, .ro, 0x1A⟩, ⟨11, 5, .ro, 0x68⟩, ⟨15, 12, .ro, 0x8⟩, ⟨19, 16, .ro, 0x3⟩, ⟨24, 20, .ro, 0xC⟩]⟩,
   ⟨0x700004, [], .single, false, false, [⟨15, 0, .rw, 0x32⟩]⟩,
   ⟨0x700010, [], .single, false, false, [⟨6, 0, .rw, 0x0⟩, ⟨30, 30, .ro, 0x0⟩, ⟨31, 31, .wo, 0x0⟩]⟩,
   ⟨0x700040, [(0x4, 18)], .single, false, false, [⟨31, 0, .ro, 0x0⟩]⟩,
   ⟨0x7000C0, [(0x4, 8)], .single, false, false, [⟨4, 0, .ro, 0x1F⟩, ⟨6, 5, .ro, 0x0⟩, ⟨7, 7, .ro, 0x0⟩, ⟨15, 8, .ro, 0x64⟩]⟩,
   ⟨0x700100, [(0x4, 26)], .single, false, false, [⟨1, 0, .ro, 0x0⟩, ⟨6, 2, .ro, 0x0⟩, ⟨7, 7, .ro, 0x0⟩, ⟨8, 8, .ro, 0x0⟩, ⟨9, 9, .ro, 0x0⟩, ⟨13, 10, .ro, 0x0⟩, ⟨14, 14, .ro, 0x0⟩]⟩,
   ⟨0x700400, [(0x20, 104)], .single, false, false, [⟨0, 0, .rw, 0x1⟩, ⟨1, 1, .rw, 0x0⟩, ⟨2, 2, .rw, 0x0⟩, ⟨4, 4, .rw, 0x1⟩, ⟨5, 5, .rw, 0x0⟩, ⟨6, 6, .rw, 0x0⟩, ⟨9, 8, .rw, 0x0⟩, ⟨16, 16, .wo, 0x0⟩]⟩,
   ⟨0x700404, [(0x20, 104)], .single, false, false, [⟨3, 0, .rw, 0x2⟩, ⟨8, 4, .rw, 0x6⟩]⟩,
   ⟨0x700408, [(0x20, 104)], .single, false, false, [⟨2, 0, .ro, 0x0⟩, ⟨3, 3, .ro, 0x1⟩, ⟨4, 4, .ro, 0x1⟩, ⟨5, 5, .ro, 0x0⟩, ⟨6, 6, .ro, 0x0⟩, ⟨7, 7, .ro, 0x0⟩, ⟨9, 8, .ro, 0x0⟩, ⟨10, 10, .ro, 0x0⟩, ⟨15, 11, .ro, 0x0⟩, ⟨23, 16, .ro, 0x0⟩, ⟨28, 24, .ro, 0x0⟩]⟩,
   ⟨0x70040C, [(0x20, 104)], .single, false, false, [⟨7, 0, .wo, 0x0⟩, ⟨8, 8, .wo, 0x0⟩]⟩,
   ⟨0x700410, [(0x20, 104)], .single, false, false, [⟨7, 0, .ro, 0x0⟩, ⟨9, 8, .ro, 0x0⟩]⟩,
   ⟨0x700414, [(0x20, 104)], .single, false, false, [⟨0, 0, .rw, 0x0⟩, ⟨1, 1, .rw, 0x0⟩, ⟨2, 2, .ro, 0x0⟩]⟩,
   ⟨0x700418, [(0x20, 104)], .single, false, false, [⟨31, 0, .rc, 0x0⟩]⟩,
   ⟨0x70041C, [(0x20, 104)], .single, false, false, [⟨7, 0, .rc, 0x0⟩, ⟨15, 8, .rc, 0x0⟩, ⟨23, 16, .rc, 0x0⟩, ⟨31, 24, .rc, 0x0⟩]⟩]

/-- Rows of unit CAP. -/
def regTableCAP0 : List RegInfo :=
  [⟨0x800000, [(0x1000, 8)], .single, true, false, [⟨1, 0, .rw, 0x0⟩, ⟨2, 2, .rw, 0x0⟩]⟩,
   ⟨0x800004, [(0x1000, 8)], .single, true, false, [⟨0, 0, .wo, 0x0⟩, ⟨1, 1, .wo, 0x0⟩, ⟨2, 2, .wo, 0x0⟩, ⟨3, 3, .wo, 0x0⟩]⟩,
   ⟨0x800008, [(0x1000, 8)], .single, true, false, [⟨1, 0, .ro, 0x0⟩, ⟨5, 2, .ro, 0x0⟩, ⟨6, 6, .w1c, 0x0⟩]⟩,
   ⟨0x80000C, [(0x1000, 8)], .single, true, false, [⟨15, 0, .rw, 0x10⟩, ⟨31, 16, .rw, 0x10⟩]⟩,
   ⟨0x800010, [(0x1000, 8)], .single, true, false, [⟨31, 0, .rw, 0x100000⟩]⟩,
   ⟨0x800014, [(0x1000, 8)], .single, true, false, [⟨23, 0, .rw, 0x400⟩]⟩,
   ⟨0x800018, [(0x1000, 8)], .single, true, false, [⟨7, 0, .rw, 0x0⟩, ⟨8, 8, .rw, 0x0⟩, ⟨9, 9, .rw, 0x1⟩]⟩,
   ⟨0x80001C, [(0x1000, 8)], .single, true, false, [⟨31, 0, .ro, 0x0⟩]⟩,
   ⟨0x800020, [(0x1000, 8)], .single, true, false, [⟨31, 0, .rc, 0x0⟩]⟩,
   ⟨0x800024, [(0x1000, 8)], .single, true, false, [⟨31, 0, .rc, 0x0⟩]⟩,
   ⟨0x800028, [(0x1000, 8)], .lo, true, false, [⟨31, 0, .wo, 0x0⟩]⟩,
   ⟨0x80002C, [(0x1000, 8)], .hi, true, false, [⟨31, 0, .wo, 0x0⟩]⟩,
   ⟨0x800030, [(0x1000, 8)], .lo, true, false, [⟨31, 5, .rw, 0x0⟩]⟩,
   ⟨0x800034, [(0x1000, 8)], .hi, true, false, [⟨13, 0, .rw, 0x0⟩]⟩,
   ⟨0x800038, [(0x1000, 8)], .single, true, false, [⟨31, 0, .rw, 0x0⟩]⟩,
   ⟨0x80003C, [(0x1000, 8)], .single, true, false, [⟨31, 0, .ro, 0x0⟩]⟩,
   ⟨0x800040, [(0x1000, 8)], .single, true, false, [⟨31, 0, .rw, 0x0⟩]⟩,
   ⟨0x800100, [(0x1000, 8), (0x20, 4)], .single, true, false, [⟨19, 0, .ro, 0x0⟩]⟩,
   ⟨0x800104, [(0x1000, 8), (0x20, 4)], .single, true, false, [⟨20, 0, .ro, 0x0⟩]⟩,
   ⟨0x800108, [(0x1000, 8), (0x20, 4)], .single, true, false, [⟨19, 0, .ro, 0x0⟩]⟩,
   ⟨0x80010C, [(0x1000, 8), (0x20, 4)], .single, true, false, [⟨19, 0, .rw, 0x0⟩]⟩,
   ⟨0x800110, [(0x1000, 8), (0x20, 4)], .single, true, false, [⟨31, 0, .ro, 0x0⟩]⟩,
   ⟨0x800114, [(0x1000, 8), (0x20, 4)], .lo, true, false, [⟨31, 0, .ro, 0x0⟩]⟩,
   ⟨0x800118, [(0x1000, 8), (0x20, 4)], .hi, true, false, [⟨31, 0, .ro, 0x0⟩]⟩]

/-- Rows of unit CAP. -/
def regTableCAP1 : List RegInfo :=
  [⟨0x800400, [(0x1000, 8), (0x20, 16), (0x4, 4)], .single, true, false, [⟨31, 0, .rw, 0x0⟩]⟩,
   ⟨0x800410, [(0x1000, 8), (0x20, 16)], .single, true, false, [⟨0, 0, .rw, 0x0⟩, ⟨1, 1, .rw, 0x0⟩, ⟨7, 4, .rw, 0x0⟩, ⟨11, 8, .rw, 0x0⟩, ⟨16, 12, .rw, 0x0⟩, ⟨21, 17, .rw, 0x0⟩]⟩,
   ⟨0x800414, [(0x1000, 8), (0x20, 16)], .single, true, false, [⟨15, 0, .rw, 0x0⟩, ⟨23, 16, .rw, 0x0⟩]⟩,
   ⟨0x800800, [(0x1000, 8), (0x20, 64)], .single, true, false, [⟨2, 0, .rw, 0x0⟩, ⟨6, 4, .rw, 0x0⟩, ⟨7, 7, .rw, 0x0⟩, ⟨9, 8, .rw, 0x0⟩, ⟨22, 10, .rw, 0x0⟩]⟩,
   ⟨0x800804, [(0x1000, 8), (0x20, 64), (0x4, 2)], .single, true, false, [⟨31, 0, .rw, 0x0⟩]⟩,
   ⟨0x80080C, [(0x1000, 8), (0x20, 64), (0x4, 2)], .single, true, false, [⟨31, 0, .rw, 0x0⟩]⟩,
   ⟨0x800814, [(0x1000, 8), (0x20, 64)], .single, true, false, [⟨23, 0, .rw, 0x0⟩]⟩,
   ⟨0x800818, [(0x1000, 8), (0x20, 64)], .single, true, false, [⟨23, 0, .ro, 0x0⟩]⟩,
   ⟨0x808000, [], .single, false, false, [⟨4, 0, .ro, 0x10⟩, ⟨11, 5, .ro, 0x40⟩, ⟨25, 12, .ro, 0x2000⟩, ⟨29, 26, .ro, 0xF⟩]⟩,
   ⟨0x808004, [], .single, false, false, [⟨7, 0, .rw, 0x0⟩, ⟨15, 8, .ro, 0x0⟩]⟩,
   ⟨0x808008, [], .single, false, false, [⟨15, 0, .rw, 0x64⟩]⟩,
   ⟨0x808010, [(0x4, 4)], .single, false, false, [⟨6, 0, .rc, 0x0⟩]⟩]

/-- Rows of unit CAP. -/
def regTableCAP : List RegInfo := regTableCAP0 ++ regTableCAP1

/-- Rows of unit CKP. -/
def regTableCKP : List RegInfo :=
  [⟨0x900000, [(0x1000, 8)], .single, true, false, [⟨0, 0, .rw, 0x0⟩, ⟨1, 1, .rw, 0x0⟩, ⟨2, 2, .rw, 0x0⟩, ⟨3, 3, .rw, 0x0⟩, ⟨4, 4, .rw, 0x1⟩, ⟨5, 5, .rw, 0x0⟩, ⟨6, 6, .rw, 0x0⟩]⟩,
   ⟨0x900004, [(0x1000, 8)], .single, true, false, [⟨31, 0, .rw, 0x0⟩]⟩,
   ⟨0x900008, [(0x1000, 8)], .single, true, false, [⟨0, 0, .ro, 0x0⟩, ⟨1, 1, .ro, 0x0⟩, ⟨2, 2, .ro, 0x0⟩, ⟨3, 3, .w1c, 0x0⟩, ⟨4, 4, .ro, 0x0⟩, ⟨5, 5, .w1c, 0x0⟩, ⟨6, 6, .w1c, 0x0⟩]⟩,
   ⟨0x900010, [(0x1000, 8)], .lo, true, false, [⟨31, 16, .rw, 0x0⟩]⟩,
   ⟨0x900014, [(0x1000, 8)], .hi, true, false, [⟨13, 0, .rw, 0x0⟩]⟩,
   ⟨0x900018, [(0x1000, 8)], .single, true, false, [⟨31, 0, .rw, 0x0⟩]⟩,
   ⟨0x900020, [(0x1000, 8)], .lo, true, false, [⟨31, 0, .ro, 0x0⟩]⟩,
   ⟨0x900024, [(0x1000, 8)], .hi, true, false, [⟨15, 0, .ro, 0x0⟩, ⟨31, 31, .ro, 0x0⟩]⟩,
   ⟨0x900028, [(0x1000, 8)], .single, true, false, [⟨31, 0, .ro, 0x0⟩]⟩,
   ⟨0x90002C, [(0x1000, 8)], .single, true, false, [⟨31, 0, .ro, 0x0⟩]⟩,
   ⟨0x900030, [(0x1000, 8)], .lo, true, false, [⟨31, 5, .rw, 0x0⟩]⟩,
   ⟨0x900034, [(0x1000, 8)], .hi, true, false, [⟨13, 0, .rw, 0x0⟩]⟩,
   ⟨0x900038, [(0x1000, 8)], .single, true, false, [⟨31, 0, .rw, 0x0⟩]⟩,
   ⟨0x90003C, [(0x1000, 8)], .single, true, false, [⟨31, 0, .ro, 0x0⟩]⟩,
   ⟨0x900040, [(0x1000, 8)], .single, true, false, [⟨31, 0, .rw, 0x0⟩]⟩,
   ⟨0x900044, [(0x1000, 8)], .single, true, false, [⟨31, 0, .rc, 0x0⟩]⟩,
   ⟨0x900050, [(0x1000, 8)], .single, true, false, [⟨0, 0, .ro, 0x0⟩, ⟨1, 1, .ro, 0x0⟩, ⟨2, 2, .ro, 0x0⟩]⟩,
   ⟨0x900054, [(0x1000, 8)], .lo, true, false, [⟨31, 0, .ro, 0x0⟩]⟩,
   ⟨0x900058, [(0x1000, 8)], .hi, true, false, [⟨15, 0, .ro, 0x0⟩]⟩,
   ⟨0x90005C, [(0x1000, 8)], .single, true, false, [⟨23, 0, .ro, 0x0⟩]⟩,
   ⟨0x900060, [(0x1000, 8)], .single, true, false, [⟨0, 0, .ro, 0x0⟩, ⟨2, 1, .ro, 0x0⟩, ⟨3, 3, .ro, 0x0⟩, ⟨7, 4, .ro, 0x0⟩, ⟨15, 8, .ro, 0x0⟩]⟩,
   ⟨0x900064, [(0x1000, 8)], .lo, true, false, [⟨31, 0, .ro, 0x0⟩]⟩,
   ⟨0x900068, [(0x1000, 8)], .hi, true, false, [⟨15, 0, .ro, 0x0⟩]⟩,
   ⟨0x90006C, [(0x1000, 8)], .single, true, false, [⟨31, 0, .ro, 0x0⟩]⟩]

/-- Rows of unit SPR. -/
def regTableSPR : List RegInfo :=
  [⟨0xA00000, [], .single, false, false, [⟨4, 0, .ro, 0x11⟩, ⟨8, 5, .ro, 0x8⟩, ⟨12, 9, .ro, 0x8⟩, ⟨21, 13, .ro, 0x100⟩, ⟨25, 22, .ro, 0xF⟩]⟩,
   ⟨0xA00004, [], .single, false, false, [⟨0, 0, .rw, 0x1⟩, ⟨1, 1, .rw, 0x1⟩, ⟨2, 2, .rw, 0x1⟩]⟩,
   ⟨0xA00008, [], .single, false, false, [⟨7, 0, .rw, 0x40⟩, ⟨15, 8, .rw, 0x80⟩, ⟨23, 16, .rw, 0x80⟩]⟩,
   ⟨0xA0000C, [], .single, false, false, [⟨15, 0, .rw, 0x1F4⟩, ⟨23, 16, .rw, 0x3C⟩]⟩,
   ⟨0xA00010, [], .single, false, false, [⟨7, 0, .ro, 0x0⟩, ⟨16, 8, .ro, 0x100⟩, ⟨17, 17, .ro, 0x0⟩]⟩,
   ⟨0xA00014, [], .single, false, false, [⟨31, 0, .rc, 0x0⟩]⟩,
   ⟨0xA00018, [], .single, false, false, [⟨12, 0, .rc, 0x0⟩, ⟨25, 13, .rc, 0x0⟩, ⟨27, 26, .rc, 0x0⟩, ⟨29, 28, .rc, 0x0⟩, ⟨31, 31, .rc, 0x0⟩]⟩,
   ⟨0xA00020, [], .single, false, false, [⟨31, 0, .rc, 0x0⟩]⟩,
   ⟨0xA00024, [], .single, false, false, [⟨31, 0, .rc, 0x0⟩]⟩,
   ⟨0xA00028, [], .single, false, false, [⟨3, 0, .rc, 0x0⟩, ⟨25, 4, .rc, 0x0⟩, ⟨26, 26, .rc, 0x0⟩, ⟨31, 31, .rc, 0x0⟩]⟩,
   ⟨0xA00030, [], .single, false, false, [⟨15, 0, .ro, 0x9550⟩]⟩,
   ⟨0xA00040, [(0x4, 16)], .single, false, false, [⟨9, 0, .ro, 0x0⟩, ⟨19, 10, .ro, 0x200⟩]⟩,
   ⟨0xA01000, [(0x10, 256)], .single, false, false, [⟨29, 0, .ro, 0xA418820⟩]⟩,
   ⟨0xA01004, [(0x10, 256)], .single, false, false, [⟨29, 0, .ro, 0x16A4A0E6⟩]⟩,
   ⟨0xA01008, [(0x10, 256)], .single, false, false, [⟨29, 0, .ro, 0x7B9AC⟩]⟩,
   ⟨0xA0100C, [(0x10, 256)], .single, false, false, [⟨4, 0, .ro, 0x10⟩, ⟨5, 5, .ro, 0x0⟩, ⟨6, 6, .ro, 0x0⟩, ⟨24, 8, .ro, 0x0⟩]⟩,
   ⟨0xA02000, [(0x44, 256), (0x4, 16)], .single, false, false, [⟨7, 0, .ro, 0x0⟩, ⟨10, 8, .ro, 0x0⟩, ⟨15, 12, .ro, 0x0⟩, ⟨31, 16, .ro, 0x0⟩]⟩,
   ⟨0xA02040, [(0x44, 256)], .single, false, false, [⟨7, 0, .ro, 0x0⟩, ⟨10, 8, .ro, 0x1⟩, ⟨15, 12, .ro, 0x0⟩, ⟨31, 16, .ro, 0x0⟩]⟩,
   ⟨0xA08000, [(0x400, 4), (0x4, 256)], .single, false, true, [⟨8, 0, .ro, 0x0⟩]⟩,
   ⟨0xA09000, [(0x420, 4), (0x4, 256)], .single, false, false, [⟨7, 0, .ro, 0x0⟩, ⟨10, 8, .ro, 0x0⟩, ⟨15, 12, .ro, 0x0⟩, ⟨31, 16, .ro, 0x0⟩]⟩,
   ⟨0xA09400, [(0x420, 4), (0x4, 8)], .single, false, false, [⟨7, 0, .ro, 0x0⟩, ⟨10, 8, .ro, 0x1⟩, ⟨15, 12, .ro, 0x0⟩, ⟨31, 16, .ro, 0x0⟩]⟩,
   ⟨0xA0C000, [(0x8, 256)], .single, false, false, [⟨15, 0, .ro, 0xFFFF⟩, ⟨23, 16, .ro, 0x0⟩, ⟨24, 24, .ro, 0x0⟩, ⟨25, 25, .ro, 0x0⟩]⟩,
   ⟨0xA0C004, [(0x8, 256)], .single, false, false, [⟨15, 0, .rc, 0x0⟩, ⟨31, 16, .rc, 0x0⟩]⟩]

/-- Rows of unit VTR. -/
def regTableVTR : List RegInfo :=
  [⟨0xB00000, [], .single, false, false, [⟨5, 0, .ro, 0x20⟩, ⟨18, 6, .ro, 0x1000⟩, ⟨22, 19, .ro, 0x8⟩, ⟨26, 23, .ro, 0xA⟩]⟩,
   ⟨0xB00004, [], .single, false, false, [⟨7, 0, .ro, 0x0⟩, ⟨15, 8, .w1c, 0x0⟩]⟩,
   ⟨0xB00008, [], .single, false, false, [⟨0, 0, .wo, 0x0⟩, ⟨1, 1, .wo, 0x0⟩, ⟨25, 16, .rw, 0x3FF⟩]⟩,
   ⟨0xB0000C, [], .single, false, false, [⟨0, 0, .ro, 0x0⟩, ⟨10, 1, .ro, 0x0⟩, ⟨23, 16, .ro, 0x0⟩]⟩,
   ⟨0xB00100, [(0x10, 8)], .single, false, false, [⟨2, 0, .ro, 0x0⟩, ⟨6, 3, .ro, 0xF⟩, ⟨9, 7, .ro, 0x0⟩, ⟨10, 10, .ro, 0x0⟩, ⟨11, 11, .ro, 0x0⟩, ⟨12, 12, .ro, 0x0⟩, ⟨23, 16, .ro, 0x0⟩, ⟨24, 24, .ro, 0x0⟩]⟩,
   ⟨0xB00104, [(0x10, 8)], .single, false, false, [⟨31, 0, .ro, 0x0⟩]⟩,
   ⟨0xB00108, [(0x10, 8)], .single, false, false, [⟨31, 0, .rc, 0x0⟩]⟩,
   ⟨0xB0010C, [(0x10, 8)], .single, false, false, [⟨31, 0, .rc, 0x0⟩]⟩,
   ⟨0xB00200, [(0x4, 10)], .single, false, false, [⟨2, 0, .ro, 0x0⟩, ⟨15, 4, .ro, 0x0⟩, ⟨16, 16, .ro, 0x0⟩, ⟨17, 17, .ro, 0x0⟩]⟩,
   ⟨0xB00300, [(0x4, 8)], .single, false, false, [⟨7, 0, .ro, 0x0⟩, ⟨15, 8, .ro, 0x0⟩]⟩,
   ⟨0xB01000, [(0x4, 64)], .single, false, false, [⟨31, 0, .ro, 0x0⟩]⟩,
   ⟨0xB01100, [(0x4, 64)], .single, false, false, [⟨31, 0, .ro, 0x0⟩]⟩,
   ⟨0xB02000, [(0x4, 640)], .single, false, false, [⟨7, 0, .rw, 0x0⟩, ⟨15, 8, .rw, 0x0⟩, ⟨16, 16, .ro, 0x0⟩]⟩]

/-- Rows of unit CFG. -/
def regTableCFG : List RegInfo :=
  [⟨0xC00000, [], .single, false, false, [⟨3, 0, .ro, 0x0⟩, ⟨7, 4, .ro, 0x0⟩, ⟨8, 8, .ro, 0x0⟩, ⟨9, 9, .ro, 0x0⟩, ⟨10, 10, .ro, 0x0⟩, ⟨11, 11, .ro, 0x0⟩]⟩,
   ⟨0xC00004, [], .single, false, false, [⟨3, 0, .rc, 0x0⟩, ⟨11, 4, .rc, 0x0⟩, ⟨15, 12, .rc, 0x0⟩, ⟨23, 16, .rc, 0x0⟩, ⟨31, 31, .rc, 0x0⟩]⟩,
   ⟨0xC00008, [], .single, false, false, [⟨0, 0, .ro, 0x0⟩, ⟨1, 1, .ro, 0x0⟩, ⟨2, 2, .ro, 0x0⟩, ⟨3, 3, .wo, 0x0⟩, ⟨4, 4, .ro, 0x0⟩]⟩,
   ⟨0xC0000C, [], .single, false, false, [⟨15, 0, .ro, 0x0⟩, ⟨31, 16, .ro, 0x0⟩]⟩,
   ⟨0xC00010, [], .lo, false, false, [⟨31, 0, .ro, 0x0⟩]⟩,
   ⟨0xC00014, [], .hi, false, false, [⟨31, 0, .ro, 0x0⟩]⟩,
   ⟨0xC00018, [], .single, false, false, [⟨15, 0, .ro, 0x1F4⟩]⟩,
   ⟨0xC00024, [(0x4, 7)], .single, false, false, [⟨31, 0, .ro, 0x0⟩]⟩,
   ⟨0xC00040, [], .single, false, false, [⟨0, 0, .ro, 0x1⟩, ⟨4, 1, .ro, 0x0⟩, ⟨8, 5, .ro, 0x0⟩, ⟨31, 16, .ro, 0x0⟩]⟩,
   ⟨0xC00080, [(0x4, 8)], .single, false, false, [⟨7, 0, .ro, 0x0⟩, ⟨15, 8, .ro, 0x0⟩, ⟨16, 16, .ro, 0x0⟩, ⟨31, 31, .ro, 0x0⟩]⟩]

/-- Rows of unit PHM. -/
def regTablePHM : List RegInfo :=
  [⟨0xD00000, [(0x40000, 4)], .single, false, false, [⟨0, 0, .wo, 0x0⟩, ⟨1, 1, .wo, 0x0⟩, ⟨2, 2, .wo, 0x0⟩]⟩,
   ⟨0xD00004, [(0x40000, 4)], .single, false, false, [⟨0, 0, .ro, 0x0⟩, ⟨1, 1, .ro, 0x0⟩, ⟨2, 2, .ro, 0x1⟩, ⟨6, 3, .ro, 0x0⟩, ⟨18, 7, .ro, 0x0⟩, ⟨19, 19, .ro, 0x0⟩, ⟨20, 20, .ro, 0x0⟩]⟩,
   ⟨0xD00008, [(0x40000, 4)], .single, false, false, [⟨7, 0, .rw, 0x0⟩, ⟨8, 8, .rw, 0x0⟩]⟩,
   ⟨0xD0000C, [(0x40000, 4)], .single, false, false, [⟨10, 0, .ro, 0x0⟩]⟩,
   ⟨0xD00010, [(0x40000, 4)], .single, false, false, [⟨10, 0, .rw, 0x0⟩]⟩,
   ⟨0xD00014, [(0x40000, 4)], .single, false, false, [⟨31, 0, .rc, 0x0⟩]⟩,
   ⟨0xD00018, [(0x40000, 4)], .single, false, false, [⟨15, 0, .rw, 0x0⟩]⟩,
   ⟨0xD0001C, [(0x40000, 4)], .single, false, false, [⟨9, 0, .rw, 0x80⟩]⟩,
   ⟨0xD00020, [(0x40000, 4)], .single, false, false, [⟨31, 0, .rc, 0x0⟩]⟩,
   ⟨0xD00040, [(0x40000, 4), (0x4, 8)], .single, false, false, [⟨7, 0, .ro, 0x0⟩, ⟨8, 8, .ro, 0x0⟩]⟩,
   ⟨0xD00060, [(0x40000, 4), (0x4, 8)], .single, false, false, [⟨31, 0, .rc, 0x0⟩]⟩,
   ⟨0xD00080, [(0x40000, 4), (0x4, 4)], .single, false, false, [⟨7, 0, .rw, 0x0⟩, ⟨8, 8, .rw, 0x0⟩]⟩]

/-- Rows of unit ADC. -/
def regTableADC : List RegInfo :=
  [⟨0xE00000, [], .single, false, false, [⟨2, 0, .ro, 0x4⟩, ⟨9, 3, .ro, 0x50⟩, ⟨15, 10, .ro, 0x20⟩, ⟨18, 16, .ro, 0x4⟩]⟩,
   ⟨0xE00004, [], .single, false, false, [⟨1, 0, .rw, 0x0⟩, ⟨13, 8, .rw, 0x10⟩, ⟨17, 16, .rw, 0x0⟩, ⟨20, 20, .rw, 0x1⟩, ⟨21, 21, .rw, 0x1⟩]⟩,
   ⟨0xE00008, [], .single, false, false, [⟨0, 0, .wo, 0x0⟩]⟩,
   ⟨0xE0000C, [], .single, false, false, [⟨0, 0, .ro, 0x0⟩, ⟨1, 1, .ro, 0x0⟩, ⟨2, 2, .ro, 0x0⟩, ⟨12, 8, .ro, 0x0⟩]⟩,
   ⟨0xE00010, [], .single, false, false, [⟨0, 0, .w1c, 0x0⟩, ⟨1, 1, .w1c, 0x0⟩, ⟨2, 2, .w1c, 0x0⟩, ⟨15, 8, .ro, 0x0⟩]⟩,
   ⟨0xE00014, [], .single, false, false, [⟨31, 0, .rc, 0x0⟩]⟩,
   ⟨0xE00018, [], .single, false, false, [⟨9, 0, .rw, 0x23A⟩]⟩,
   ⟨0xE0001C, [], .single, false, false, [⟨11, 0, .rw, 0x800⟩]⟩,
   ⟨0xE00020, [], .single, false, false, [⟨15, 0, .rw, 0x0⟩]⟩,
   ⟨0xE00030, [], .single, false, false, [⟨9, 0, .rw, 0x0⟩, ⟨10, 10, .rw, 0x0⟩]⟩,
   ⟨0xE00034, [], .single, false, false, [⟨13, 0, .ro, 0x0⟩]⟩,
   ⟨0xE00038, [], .single, false, false, [⟨13, 0, .rw, 0x0⟩]⟩,
   ⟨0xE0003C, [], .single, false, false, [⟨31, 0, .rc, 0x0⟩]⟩,
   ⟨0xE00100, [(0x4, 16)], .single, false, true, [⟨4, 0, .rw, 0x0⟩, ⟨12, 8, .rw, 0x0⟩, ⟨20, 16, .rw, 0x0⟩, ⟨28, 24, .rw, 0x0⟩]⟩,
   ⟨0xE00140, [(0x4, 16)], .single, false, false, [⟨4, 0, .rw, 0x1F⟩, ⟨12, 8, .rw, 0x1F⟩, ⟨20, 16, .rw, 0x1F⟩, ⟨28, 24, .rw, 0x1F⟩]⟩,
   ⟨0xE00180, [(0x4, 4)], .single, false, false, [⟨4, 0, .rw, 0x1F⟩, ⟨12, 8, .rw, 0x1F⟩, ⟨20, 16, .rw, 0x1F⟩, ⟨28, 24, .rw, 0x1F⟩]⟩,
   ⟨0xE00200, [(0x4, 80)], .single, false, false, [⟨31, 0, .ro, 0x0⟩]⟩]

/-- Rows of unit MBX. -/
def regTableMBX : List RegInfo :=
  [⟨0xF00000, [], .single, false, false, [⟨5, 0, .ro, 0x20⟩, ⟨8, 6, .ro, 0x4⟩, ⟨12, 9, .ro, 0x8⟩, ⟨17, 13, .ro, 0x10⟩, ⟨18, 18, .ro, 0x0⟩]⟩,
   ⟨0xF00008, [], .lo, false, false, [⟨31, 0, .ro, 0x1⟩]⟩,
   ⟨0xF0000C, [], .hi, false, false, [⟨31, 0, .ro, 0x0⟩]⟩,
   ⟨0xF00010, [], .single, false, false, [⟨1, 0, .ro, 0x0⟩, ⟨2, 2, .ro, 0x0⟩, ⟨31, 16, .ro, 0x0⟩]⟩,
   ⟨0xF00014, [], .single, false, false, [⟨15, 0, .ro, 0x0⟩, ⟨31, 16, .ro, 0x0⟩]⟩,
   ⟨0xF00018, [], .single, false, false, [⟨31, 0, .rc, 0x0⟩]⟩,
   ⟨0xF0001C, [], .single, false, false, [⟨13, 0, .rc, 0x0⟩, ⟨19, 14, .rc, 0x0⟩, ⟨25, 20, .rc, 0x0⟩, ⟨31, 31, .rc, 0x0⟩]⟩,
   ⟨0xF00020, [], .single, false, false, [⟨31, 0, .ro, 0x0⟩]⟩,
   ⟨0xF01000, [(0x100, 36), (0x4, 16)], .single, true, false, [⟨31, 0, .rw, 0x0⟩]⟩,
   ⟨0xF01040, [(0x100, 36)], .single, false, false, [⟨0, 0, .wo, 0x0⟩]⟩,
   ⟨0xF01044, [(0x100, 36)], .single, false, false, [⟨7, 0, .ro, 0x0⟩, ⟨31, 31, .ro, 0x0⟩]⟩,
   ⟨0xF01048, [(0x100, 36)], .lo, false, false, [⟨31, 0, .ro, 0x0⟩]⟩,
   ⟨0xF0104C, [(0x100, 36)], .hi, false, false, [⟨31, 0, .ro, 0x0⟩]⟩,
   ⟨0xF01050, [(0x100, 36)], .single, false, false, [⟨3, 0, .ro, 0x0⟩, ⟨4, 4, .ro, 0x0⟩, ⟨9, 5, .ro, 0x0⟩, ⟨10, 10, .ro, 0x0⟩]⟩,
   ⟨0xF01054, [(0x100, 36)], .single, false, false, [⟨0, 0, .rw, 0x0⟩]⟩,
   ⟨0xF01080, [(0x100, 36), (0x4, 16)], .single, false, false, [⟨31, 0, .ro, 0x0⟩]⟩,
   ⟨0xF010C0, [(0x100, 36)], .single, false, false, [⟨0, 0, .wo, 0x0⟩]⟩]

/-- Rows of unit RGS. -/
def regTableRGS : List RegInfo :=
  [⟨0x1000000, [], .single, false, false, [⟨10, 0, .ro, 0x400⟩, ⟨14, 11, .ro, 0x8⟩, ⟨23, 15, .ro, 0x100⟩, ⟨31, 24, .ro, 0xFC⟩]⟩,
   ⟨0x1000004, [], .single, false, false, [⟨11, 0, .rw, 0x7D0⟩, ⟨31, 16, .rw, 0x3E8⟩]⟩,
   ⟨0x1000008, [], .single, false, false, [⟨14, 0, .ro, 0x1AD4⟩]⟩,
   ⟨0x100000C, [], .single, false, false, [⟨10, 0, .ro, 0x400⟩, ⟨20, 11, .ro, 0x0⟩, ⟨29, 21, .ro, 0x0⟩]⟩,
   ⟨0x1000010, [], .single, false, false, [⟨8, 0, .ro, 0x0⟩, ⟨12, 9, .ro, 0x0⟩]⟩,
   ⟨0x1000014, [], .single, false, false, [⟨31, 0, .rc, 0x0⟩]⟩,
   ⟨0x1000018, [], .single, false, false, [⟨15, 0, .rc, 0x0⟩, ⟨31, 16, .rc, 0x0⟩]⟩,
   ⟨0x100001C, [], .single, false, false, [⟨31, 0, .ro, 0x0⟩]⟩,
   ⟨0x1000140, [(0x20, 6)], .single, false, false, [⟨9, 0, .ro, 0x0⟩, ⟨10, 10, .ro, 0x0⟩, ⟨11, 11, .ro, 0x0⟩, ⟨19, 12, .ro, 0x0⟩, ⟨20, 20, .ro, 0x0⟩]⟩,
   ⟨0x1000144, [(0x20, 6)], .single, false, false, [⟨7, 0, .wo, 0x0⟩]⟩,
   ⟨0x1000148, [(0x20, 6)], .single, false, false, [⟨22, 0, .wo, 0x0⟩]⟩,
   ⟨0x100014C, [(0x20, 6)], .single, false, false, [⟨9, 0, .wo, 0x0⟩, ⟨31, 31, .wo, 0x0⟩]⟩,
   ⟨0x1000150, [(0x20, 6)], .single, false, false, [⟨31, 0, .rc, 0x0⟩]⟩,
   ⟨0x1000154, [(0x20, 6)], .single, false, false, [⟨15, 0, .rc, 0x0⟩, ⟨31, 16, .rc, 0x0⟩]⟩,
   ⟨0x1000400, [(0x40, 8), (0x4, 16)], .single, false, false, [⟨31, 0, .rc, 0x0⟩]⟩,
   ⟨0x1000800, [], .single, false, false, [⟨9, 0, .rw, 0x0⟩, ⟨10, 10, .rw, 0x0⟩]⟩,
   ⟨0x1000804, [], .single, false, false, [⟨11, 0, .ro, 0x0⟩]⟩,
   ⟨0x1000808, [], .single, false, false, [⟨11, 0, .rw, 0x0⟩]⟩,
   ⟨0x100080C, [], .single, false, false, [⟨23, 0, .rc, 0x0⟩, ⟨31, 24, .rc, 0x0⟩]⟩]

/-- Rows of unit PWR. -/
def regTablePWR : List RegInfo :=
  [⟨0x1100000, [], .single, false, false, [⟨7, 0, .ro, 0x82⟩, ⟨10, 8, .ro, 0x4⟩, ⟨14, 11, .ro, 0xF⟩]⟩,
   ⟨0x1100004, [], .single, false, false, [⟨2, 0, .ro, 0x0⟩, ⟨3, 3, .ro, 0x0⟩]⟩,
   ⟨0x1100008, [], .single, false, false, [⟨0, 0, .rw, 0x0⟩, ⟨7, 4, .rw, 0xF⟩]⟩,
   ⟨0x110000C, [], .single, false, false, [⟨3, 0, .ro, 0x0⟩, ⟨4, 4, .ro, 0x0⟩, ⟨15, 8, .ro, 0x0⟩]⟩,
   ⟨0x1100010, [], .single, false, false, [⟨31, 0, .ro, 0x0⟩]⟩,
   ⟨0x1100014, [], .single, false, false, [⟨31, 0, .rw, 0x0⟩]⟩,
   ⟨0x1100018, [], .single, false, false, [⟨9, 0, .ro, 0x0⟩, ⟨25, 16, .ro, 0x0⟩, ⟨26, 26, .ro, 0x0⟩, ⟨27, 27, .w1c, 0x0⟩]⟩,
   ⟨0x110001C, [], .single, false, false, [⟨6, 0, .ro, 0x0⟩, ⟨7, 7, .ro, 0x0⟩]⟩,
   ⟨0x1100020, [], .single, false, false, [⟨15, 0, .rw, 0x3E8⟩]⟩,
   ⟨0x1100024, [], .single, false, false, [⟨3, 0, .rc, 0x0⟩, ⟨31, 31, .rc, 0x0⟩]⟩,
   ⟨0x1100028, [], .single, false, false, [⟨15, 0, .ro, 0x0⟩, ⟨31, 16, .ro, 0x0⟩]⟩,
   ⟨0x1100040, [(0x4, 4)], .single, false, false, [⟨1, 0, .ro, 0x3⟩, ⟨3, 2, .ro, 0x3⟩, ⟨4, 4, .ro, 0x0⟩, ⟨7, 5, .ro, 0x0⟩]⟩,
   ⟨0x1100060, [(0x4, 8)], .single, false, false, [⟨1, 0, .ro, 0x0⟩, ⟨2, 2, .ro, 0x0⟩, ⟨3, 3, .ro, 0x0⟩, ⟨16, 4, .ro, 0x0⟩]⟩,
   ⟨0x1100080, [(0x4, 9)], .single, false, false, [⟨31, 0, .ro, 0x0⟩]⟩]

/-- Rows of unit CLK. -/
def regTableCLK : List RegInfo :=
  [⟨0x1200000, [], .single, false, false, [⟨5, 0, .ro, 0x3A⟩, ⟨9, 6, .ro, 0x4⟩]⟩,
   ⟨0x1200004, [], .single, false, false, [⟨0, 0, .ro, 0x0⟩, ⟨1, 1, .rc, 0x0⟩]⟩,
   ⟨0x1200010, [(0x10, 4)], .single, false, false, [⟨2, 0, .ro, 0x4⟩, ⟨15, 4, .ro, 0x0⟩]⟩,
   ⟨0x1200014, [(0x10, 4)], .single, false, false, [⟨15, 0, .rc, 0x0⟩, ⟨31, 16, .ro, 0x0⟩]⟩,
   ⟨0x1200018, [(0x10, 4)], .single, false, false, [⟨15, 0, .rc, 0x0⟩]⟩,
   ⟨0x1200050, [], .single, false, false, [⟨0, 0, .ro, 0x0⟩, ⟨1, 1, .ro, 0x0⟩, ⟨2, 2, .ro, 0x0⟩, ⟨3, 3, .ro, 0x0⟩]⟩]

/-- Rows of unit TLY. -/
def regTableTLY : List RegInfo :=
  [⟨0x1300000, [], .lo, false, false, [⟨31, 0, .ro, 0x0⟩]⟩,
   ⟨0x1300004, [], .hi, false, false, [⟨31, 0, .ro, 0x0⟩]⟩,
   ⟨0x1300008, [], .single, false, false, [⟨23, 0, .rw, 0xE10⟩]⟩,
   ⟨0x130000C, [], .single, false, false, [⟨6, 0, .ro, 0x0⟩, ⟨17, 8, .ro, 0x0⟩]⟩,
   ⟨0x1300010, [], .single, false, false, [⟨31, 0, .ro, 0x0⟩]⟩,
   ⟨0x1300014, [], .single, false, false, [⟨31, 0, .rc, 0x0⟩]⟩,
   ⟨0x1300018, [], .lo, false, false, [⟨31, 0, .ro, 0x0⟩]⟩,
   ⟨0x130001C, [], .hi, false, false, [⟨31, 0, .ro, 0x0⟩]⟩,
   ⟨0x1300040, [(0x4, 8)], .single, false, false, [⟨31, 0, .ro, 0x0⟩]⟩]

/-- Rows of unit LGB. -/
def regTableLGB : List RegInfo :=
  [⟨0x1400000, [], .single, false, false, [⟨0, 0, .rw, 0x0⟩, ⟨1, 1, .rw, 0x0⟩, ⟨2, 2, .rw, 0x0⟩, ⟨15, 8, .rw, 0x7C⟩]⟩,
   ⟨0x1400004, [], .single, false, false, [⟨0, 0, .ro, 0x0⟩, ⟨8, 1, .ro, 0x0⟩]⟩,
   ⟨0x1400008, [], .single, false, false, [⟨15, 0, .ro, 0x0⟩]⟩,
   ⟨0x140000C, [], .single, false, false, [⟨15, 0, .rw, 0x0⟩]⟩,
   ⟨0x1400010, [], .single, false, false, [⟨31, 0, .rc, 0x0⟩]⟩]

/-- Rows of the unit whose 1 MiB range (R21) holds the address. -/
def regTableOf (a : Nat) : List RegInfo :=
  match a / 0x100000 with
  | 0 => regTableGLB
  | 1 => regTableFRM
  | 2 => regTableLAT
  | 21 => regTableDBG
  | 3 => regTableVLT
  | 4 => regTableNOC
  | 5 => regTableDEP
  | 6 => regTableLNK
  | 7 => regTableLANE
  | 8 => regTableCAP
  | 9 => regTableCKP
  | 10 => regTableSPR
  | 11 => regTableVTR
  | 12 => regTableCFG
  | 13 => regTablePHM
  | 14 => regTableADC
  | 15 => regTableMBX
  | 16 => regTableRGS
  | 17 => regTablePWR
  | 18 => regTableCLK
  | 19 => regTableTLY
  | 20 => regTableLGB
  | _ => []

end Sys2Proof
end

