-- ==== Sys2Proof/Machine/RgsState.lean ====
section
/-!
DEFINITION. The state of the Registrar (R480 to R490) beyond the RGS counters.
-/
namespace Sys2Proof.Machine

/-- What a descriptor that is not FREE holds its task in (R480); `fresh` tasks become READY at step 3 of the next cycle. -/
inductive TaskSt where
  | delayed | fresh | ready | running (core : Fin 8)
  deriving DecidableEq, Repr

/-- A task descriptor (R480, R491): kind, priority, owner code, the core that last ran it (0 none), CANCEL_REQ, the mailbox and
stamp of a MAILBOX task, READY_TIME in cycles, EXPIRY, PARAM, and whether it has been READY before (an abandoned task keeps its
READY_TIME). -/
structure Task where
  id : Nat
  st : TaskSt
  kind : Nat
  prio : Nat
  owner : Nat
  lastCore : Nat
  cancelReq : Bool
  source : Nat
  stamp : Nat
  readyAt : Nat
  expiry : Nat
  param : Word
  deriving DecidableEq, Repr

/-- A request of a DATA source that is held (R481). -/
structure Held where
  kind : Nat
  owner : Nat
  param : Word
  deriving DecidableEq, Repr

/-- The Registrar: cycles since reset, RGS_NOW, the descriptors not FREE in ascending id, per core the runs of busy cycles of the
last 65,536 (start, end) and YIELD_REFUSED, completions (core, status), yields (core, delay) and cancels written since the last
cycle, held requests in order, and whether the dispatch is stopped (R498). -/
structure Rgs where
  cycle : Nat
  now : Nat
  tasks : List Task
  busy : Vector (List (Nat × Nat)) 8
  refused : Vector Bool 8
  dones : List (Fin 8 × Nat)
  yields : List (Fin 8 × Nat)
  cancels : List Nat
  held : List Held
  stopped : Bool
  deriving DecidableEq, Repr

/-- The Registrar at reset. -/
def Rgs.reset : Rgs :=
  { cycle := 0, now := 0, tasks := [], busy := Vector.replicate 8 [], refused := Vector.replicate 8 false, dones := [], yields := [],
    cancels := [], held := [], stopped := false }

/-- Descriptors FREE. -/
def Rgs.free (r : Rgs) : Nat := 1024 - r.tasks.length

/-- The lowest FREE descriptor. -/
def Rgs.freeId (r : Rgs) : Option Nat := (List.range 1024).find? fun i => !(r.tasks.any fun t => t.id == i)

/-- READY tasks (those that become READY in the cycle included). -/
def Task.isReady (t : Task) : Bool := t.st == .ready || t.st == .fresh

/-- The USER list: READY MAILBOX tasks (R481). -/
def Rgs.userReady (r : Rgs) : Nat := (r.tasks.filter fun t => t.isReady && t.kind == 1).length

/-- The DATA list (R481). -/
def Rgs.dataReady (r : Rgs) : Nat := (r.tasks.filter fun t => t.isReady && t.kind != 1).length

/-- Delayed tasks (R485). -/
def Rgs.delayed (r : Rgs) : Nat := (r.tasks.filter fun t => t.st == .delayed).length

/-- The USER list is full (R481). -/
def Rgs.userFull (r : Rgs) : Bool := decide (256 ≤ r.userReady) || r.free == 0

/-- The DATA list is full (R481). -/
def Rgs.dataFull (r : Rgs) : Bool := decide (512 ≤ r.dataReady) || r.free == 0

/-- Change one task. -/
def Rgs.mapTask (r : Rgs) (id : Nat) (f : Task → Task) : Rgs := { r with tasks := r.tasks.map fun t => if t.id = id then f t else t }

/-- Free a descriptor. -/
def Rgs.freeTask (r : Rgs) (id : Nat) : Rgs := { r with tasks := r.tasks.filter fun t => t.id != id }

/-- Enter a new task in the lowest FREE descriptor; it has no READY_TIME yet (R491). -/
def Rgs.create (r : Rgs) (kind prio owner source stamp : Nat) (param : Word) (st : TaskSt) (expiry : Nat) : Rgs :=
  match r.freeId with
  | some i =>
    { r with tasks := insertBy Task.id ⟨i, st, kind, prio, owner, 0, false, source, stamp, 0, expiry, param⟩ r.tasks }
  | none => r

/-- The task that core k runs. -/
def Rgs.taskOn (r : Rgs) (k : Fin 8) : Option Task := r.tasks.find? fun t => t.st == .running k

/-- LOAD_k: busy cycles among the last 65,536 (R483). -/
def Rgs.load (r : Rgs) (k : Fin 8) : Nat :=
  (vget r.busy k).foldl (fun a (x : Nat × Nat) => a + (x.2 - max x.1 (r.cycle - 65536))) 0

/-- Core k is busy in this cycle. -/
def Rgs.countBusy (r : Rgs) (k : Fin 8) : Rgs :=
  let old := (vget r.busy k).filter fun (x : Nat × Nat) => decide (r.cycle < x.2 + 65536)
  let new := match old with
    | (a, b) :: l => if b = r.cycle then (a, r.cycle + 1) :: l else (r.cycle, r.cycle + 1) :: (a, b) :: l
    | [] => [(r.cycle, r.cycle + 1)]
  { r with busy := vset r.busy k new }

end Sys2Proof.Machine
end

