-- ==== Sys2Proof/Machine/SprState.lean ====
section
/-!
DEFINITION. The state of the reserve collection (R337 to R357) beyond the SPR registers.  A physical cluster is keyed 17 × tile + p,
a physical bank 264 × die + p, a logical cluster tile × 16 + c.
-/
namespace Sys2Proof.Machine

/-- An accession waiting for a boundary (R339, R342): kind 1 cluster or 2 bank (R331), and the logical unit. -/
structure Pend where
  kind : Nat
  unit : Nat
  deriving DecidableEq, Repr

/-- A wear site (R354 to R356): its last windows, newest first, at most 255 (none: not valid; else the count of the stressed
oscillator), and the windows since the last cross-check. -/
structure WearSite where
  windows : List (Option Nat)
  since : Nat
  deriving DecidableEq, Repr

/-- A site with no window taken. -/
def WearSite.reset : WearSite := { windows := [], since := 0 }

/-- The reserve collection: corrected errors since the last point, per physical cluster and bank (R338); images being staged and
staged (tile, logical cluster, R341); accessions waiting; generations that units hold themselves and that receivers expect of
NoC routers and links (R346); stack words whose last fetch was uncorrectable and rows to remap (R350); wear sites; the reserve
record as last written: registers and wear sites (R348). -/
structure Spr where
  slotAcc : List (Nat × Nat)
  bankAcc : List (Nat × Nat)
  staging : List (Nat × Nat)
  staged : List (Nat × Nat)
  pend : List Pend
  ownClu : List (Nat × Nat)
  ownBank : List (Nat × Nat)
  expNoc : List (Nat × Nat)
  ownNoc : List (Nat × Nat)
  rowFail : List Nat
  rowDue : List Nat
  wear : List (Nat × WearSite)
  recRegs : List (Nat × Word)
  recWear : List (Nat × WearSite)
  deriving DecidableEq, Repr

/-- The reserve collection at reset. -/
def Spr.reset : Spr :=
  { slotAcc := [], bankAcc := [], staging := [], staged := [], pend := [], ownClu := [], ownBank := [], expNoc := [], ownNoc := [],
    rowFail := [], rowDue := [], wear := [], recRegs := [], recWear := [] }

end Sys2Proof.Machine
end

