-- ==== Sys2Proof/Machine/State.lean ====
section
/-!
DEFINITION. The state of the part, its reset, and the reasons a command can stop.
-/
namespace Sys2Proof.Machine

/-- Why a command stops with a fault: no command does.  The spec gives every command of the table an effect, or none on a unit that
the part's variant lacks (R22), where it leaves the state as it is. -/
inductive Fault where
  deriving DecidableEq, Repr

/-- Why a command is refused. -/
inductive Refusal where
  /-- Raised only by an arm of the dispatch that has no meaning yet.  Safe. -/
  | notModelled (mnemonic : String)
  deriving DecidableEq, Repr

/-- The state of the part. -/
structure State where
  /-- The fused variant (R3). -/
  variant : Variant
  /-- Every register word that differs from its reset value, by its PF0 BAR0 address (R21). -/
  regs : List (Nat × Word)
  /-- Holding registers of the access paths (R12). -/
  holds : List (Nat × Word)
  /-- Capture registers of the access paths (R13). -/
  capts : List (Nat × Word)
  /-- The value the last register or window read returned (model's own field; log entry 8). -/
  busOut : Word
  /-- Numbers the free values used so far (model's own field; log entry 2). -/
  freeCtr : Nat
  parts : Vector Part 8
  vlt : Vlt
  noc : Noc
  dep : Dep
  lnk : Lnk
  lan : Lan
  cfg : Cfg
  vtr : Vtr
  cur : Cur
  rgs : Rgs
  pwr : Pwr
  adc : Adc
  pin : Pin
  tap : Tap
  plt : Plt
  ckp : Vector Ckp 8
  spr : Spr
  phm : Vector Phm 4
  tly : Tly
  lgb : Lgb
  /-- Commands waiting, first in, first out. -/
  pending : List Instr
  deriving DecidableEq, Repr

/-- The part right after reset. -/
def State.reset : State :=
  { variant := .f, regs := [], holds := [], capts := [], busOut := 0, freeCtr := 0,
    parts := Vector.replicate 8 Part.reset, vlt := Vlt.reset, noc := Noc.reset, dep := Dep.reset, lnk := Lnk.reset, lan := Lan.reset, cfg := Cfg.reset,
    vtr := Vtr.reset, cur := Cur.reset, rgs := Rgs.reset, pwr := Pwr.reset, adc := Adc.reset, pin := Pin.reset, tap := Tap.reset, plt := Plt.reset, ckp := Vector.replicate 8 Ckp.reset,
    spr := Spr.reset,
    phm := Vector.replicate 4 Phm.reset, tly := Tly.reset, lgb := Lgb.reset, pending := [] }

end Sys2Proof.Machine
end

