-- ==== Sys2Proof/Machine/Ops.lean ====
section
/-!
DEFINITION. Named operations on the state: registers and their fields (R7 to R10, R21), partitions, the outcome of a command
on a unit that the variant does not carry (R25), and free values.
-/
namespace Sys2Proof.Machine

/-- The indices of address `a` under a register row, if the row covers it. -/
def dimsMatch : List (Nat × Nat) → Nat → Option Nat
  | [], 0 => some 0
  | [], _ => none
  | [(st, n)], off => if off % st = 0 ∧ off / st < n then some (off / st) else none
  | (st, n) :: r, off => if off / st < n then dimsMatch r (off % st) else none

/-- The register row that covers an address, with its last index. -/
def findReg : List RegInfo → Nat → Option (RegInfo × Nat)
  | [], _ => none
  | r :: t, a =>
    if r.base ≤ a then
      match dimsMatch r.dims (a - r.base) with
      | some i => some (r, i)
      | none => findReg t a
    else findReg t a

/-- The register at a PF0 BAR0 address, if one stands there (R10, R21). -/
def regAt (a : Nat) : Option (RegInfo × Nat) := findReg (regTableOf a) a

/-- The reset word of a register row: its fields at their reset values; SPR_BMAP and ADC_SEQ count with their last index. -/
def fldsReset (ramp : Bool) (i : Nat) : List Fld → Nat
  | [] => 0
  | f :: r => (if ramp then (f.rst + i) % 2 ^ (f.hi + 1 - f.lo) else f.rst) * 2 ^ f.lo + fldsReset ramp i r

/-- What the register at an address holds after reset (0 where none stands, R10). -/
def resetWord (a : Nat) : Word :=
  match regAt a with
  | some (r, i) => BitVec.ofNat 32 (fldsReset r.ramp i r.flds)
  | none => 0

/-- The word a register holds. -/
def State.reg (s : State) (a : Nat) : Word := mget resetWord s.regs a

/-- The state with a register word replaced. -/
def State.setReg (s : State) (a : Nat) (w : Word) : State := { s with regs := mset resetWord s.regs a w }

/-- Field [lo + w - 1 : lo] of a register. -/
def State.fld (s : State) (a lo w : Nat) : Nat := bitsAt (s.reg a) lo w

/-- The state with a field of a register replaced. -/
def State.setFld (s : State) (a lo w x : Nat) : State := s.setReg a (setBitsAt (s.reg a) lo w x)

/-- A counter field raised by k, stopping at its largest value ("saturates"). -/
def State.addFld (s : State) (a lo w k : Nat) : State := s.setFld a lo w (satAdd (2 ^ w - 1) (s.fld a lo w) k)

/-- A field that keeps the largest value seen. -/
def State.maxFld (s : State) (a lo w x : Nat) : State := s.setFld a lo w (max (s.fld a lo w) (min x (2 ^ w - 1)))

/-- A 64-bit quantity from its two registers (R12). -/
def State.reg64 (s : State) (a : Nat) : Nat := (s.reg a).toNat + 2 ^ 32 * (s.reg (a + 4)).toNat

/-- Store a 64-bit quantity in its two registers. -/
def State.setReg64 (s : State) (a x : Nat) : State :=
  (s.setReg a (BitVec.ofNat 32 x)).setReg (a + 4) (BitVec.ofNat 32 (x / 2 ^ 32))

/-- Partition n. -/
def State.part (s : State) (n : Fin 8) : Part := vget s.parts n

/-- The state with partition n replaced. -/
def State.setPart (s : State) (n : Fin 8) (p : Part) : State := { s with parts := vset s.parts n p }

/-- The state with partition n changed by f. -/
def State.modPart (s : State) (n : Fin 8) (f : Part → Part) : State := s.setPart n (f (s.part n))

/-- The checkpoint engine of partition n. -/
def State.ck (s : State) (n : Fin 8) : Ckp := vget s.ckp n

/-- The state with the checkpoint engine of partition n replaced. -/
def State.setCk (s : State) (n : Fin 8) (c : Ckp) : State := { s with ckp := vset s.ckp n c }

/-- The state with the checkpoint engine of partition n changed by f. -/
def State.modCk (s : State) (n : Fin 8) (f : Ckp → Ckp) : State := s.setCk n (f (s.ck n))

/-- FRM_FRAME as shown: during catch-up the value it held at the fault (R328). -/
def State.shownFrame (s : State) (n : Fin 8) : Nat :=
  match (s.ck n).recov with
  | some r => if r.catchUp then r.shown else (s.part n).frame
  | none => (s.part n).frame

/-- A host-ordered replay runs (R333). -/
def State.replaying (s : State) (n : Fin 8) : Bool := (s.ck n).replay.isSome

/-- Catch-up frames of a hard-fault recovery run (R328). -/
def State.catchingUp (s : State) (n : Fin 8) : Bool :=
  match (s.ck n).recov with
  | some r => r.catchUp
  | none => false

/-- The record entry a frame of a replay or of catch-up takes its inputs from (R328, R333). -/
def State.recEntry (s : State) (n : Fin 8) (f : Nat) : Option RecE :=
  let c := s.ck n
  let l := match c.replay with
    | some l => l
    | none => if s.catchingUp n then runEntries c.record else []
  l.find? fun e => !e.start && e.frame == f

/-- The dies populated on the part (R25). -/
def State.nDies (s : State) : Nat := if s.variant = .d then 2 else 4

/-- A die the part carries. -/
def State.hasDie (s : State) (d : Nat) : Bool := decide (d < s.nDies)

/-- A packed bank address the part carries (R180, R203). -/
def State.hasBank (s : State) (b : Nat) : Bool := decide (b / 256 < s.nDies)

/-- GLB_IDENT (R3). -/
def State.ident (s : State) : Nat := 0xB1E20010 + (match s.variant with | .f => 0 | .r => 0x100 | .d => 0x200)

/-- Vitrine is present (R25). -/
def State.hasVtr (s : State) : Bool := s.variant != .r

/-- A command on a unit of the part acts; on one that the part's variant does not carry (R22, R25) it changes nothing: no such event
reaches the part, and a write is ignored (R10, R378). -/
def guardUnit (s : State) (ok : Bool) (t : State) : Host.Outcome State Fault Refusal := .next (if ok then t else s)

/-- The owner code in VLT_LOAN (R202). -/
def State.loanOwner (s : State) (bank : Nat) : Nat := s.fld (Reg.VLT_LOAN (bank / 256) (bank % 256)) 0 4

/-- The numeric code of an owner (R186). -/
def Owner.code : Owner → Nat
  | .part n => n.val
  | .hdma => 8
  | .phm => 9
  | .cap => 10
  | .adc => 11
  | .doc => 12
  | .cur => 13

/-- The owner of a code; 0xE and 0xF are reserved. -/
def Owner.ofCode (c : Nat) : Option Owner :=
  if h : c < 8 then some (.part ⟨c, h⟩)
  else
    match c with
    | 8 => some .hdma
    | 9 => some .phm
    | 10 => some .cap
    | 11 => some .adc
    | 12 => some .doc
    | 13 => some .cur
    | _ => none

/-- The state code shown in FRM_STATE.STATE (R52). -/
def Part.stateCode (p : Part) : Nat :=
  if p.held.isSome then 6
  else
    match p.state with
    | .empty => 0
    | .loaded => 1
    | .armed => 2
    | .running => 3
    | .halted => 4
    | .fault => 5

/-- Codes of R41. -/
def Stall.code : Stall → Nat
  | .depot => 1
  | .xget => 2
  | .vtrPace => 3
  | .vote => 4
  | .token => 5

/-- Codes of R52. -/
def Halt.code : Halt → Nat
  | .stop => 1
  | .hazard => 2
  | .runFrames => 3
  | .host => 4
  | .frameLimit => 5
  | .safety => 6

/-- Codes of R48. -/
def FaultCause.code : FaultCause → Nat
  | .none => 0
  | .stallLimit => 1
  | .reservedClass => 2
  | .abortLimit => 3
  | .shadowLoss => 4

end Sys2Proof.Machine
end

