-- ==== Sys2Proof/Machine/Mailbox.lean ====
section
/-!
DEFINITION. Mailboxes (R447 to R460): doorbells and stamps, the order of execution, responses, notices, interrupts, the access
log, and the partition state block (R467).
-/
namespace Sys2Proof.Machine

/-- Status encodings of R461. -/
def Status.code : Status → Nat
  | .ok => 0
  | .retry => 1
  | .superseded => 2
  | .cancelled => 3
  | .badFree => 4
  | .notOwner => 5
  | .busy => 6
  | .partFault => 7
  | .authFail => 8
  | .range => 9

/-- Mailbox m. -/
def State.mbx (s : State) (m : Fin 36) : Mbx := vget s.cur.mbxs m
/-- Mailbox m replaced. -/
def State.setMbx (s : State) (m : Fin 36) (x : Mbx) : State := { s with cur := { s.cur with mbxs := vset s.cur.mbxs m x } }

/-- Bytes off … off + len − 1 of a command, little-endian (R448). -/
def Cmd.fld (c : Cmd) (off len : Nat) : Nat := bitsAt c.bytes (8 * off) (8 * len)
/-- OPCODE. -/
def Cmd.op (c : Cmd) : Nat := c.fld 0 2
/-- FLAGS.DESC. -/
def Cmd.desc (c : Cmd) : Bool := c.fld 2 1 % 2 == 1
/-- FLAGS.NOTIFY. -/
def Cmd.notify (c : Cmd) : Bool := c.fld 2 1 / 2 % 2 == 1
/-- TAG. -/
def Cmd.tag (c : Cmd) : Nat := c.fld 4 2
/-- LEN. -/
def Cmd.len (c : Cmd) : Nat := c.fld 6 2
/-- Payload bytes the submitter gave: those at or beyond LEN count as 0 (log entry 11). -/
def Cmd.payload (c : Cmd) : Nat := c.fld 16 (min 48 c.len)
/-- Payload field. -/
def Cmd.pay (c : Cmd) (off len : Nat) : Nat := c.payload / 2 ^ (8 * off) % 2 ^ (8 * len)
/-- Class SAFETY (R463): FORCED_HALT and THERMAL_SHUTDOWN. -/
def Cmd.safety (c : Cmd) : Bool := c.op == 0x0106 || c.op == 0x0405
/-- The header is malformed (R448): a reserved bit, LEN above 48, or DESC with another LEN or with bytes 28–63 nonzero. -/
def Cmd.badHeader (c : Cmd) : Bool :=
  c.fld 2 1 / 4 != 0 || c.fld 3 1 != 0 ||
    (if c.desc then c.len != 16 || c.fld 28 36 != 0 else decide (48 < c.len))

/-- An MSI-X message leaves (R456): function 0 PF0, 1 PF1. -/
def State.msi (s : State) (fn vector : Nat) : State :=
  let k := fn * 64 + vector
  { s with cur := { s.cur with msix := mset dNat s.cur.msix k (mget dNat s.cur.msix k + 1) } }

/-- The interrupt of a message that enters mailbox m (R456). -/
def State.mbxIrq (s : State) (m : Fin 36) (notify : Bool) : State :=
  if notify || s.fld (Reg.MBX_IRQ_EN m) 0 1 == 1 then
    if m.val < 24 then s.msi 0 m.val else if m.val < 32 then s.msi 1 (2 * (m.val - 24)) else s
  else s

/-- The interrupt condition of partition n (R456). -/
def State.frmIrq (s : State) (n : Fin 8) : Bool :=
  decide ((s.reg (Reg.FRM_IRQ_STATUS n)).toNat &&& (s.reg (Reg.FRM_IRQ_EN n)).toNat &&& 15 ≠ 0)

/-- A change of FRM_IRQ_STATUS or FRM_IRQ_EN: one message for each rising edge of the condition (R456). -/
def State.irqEdge (s : State) (n : Fin 8) (before : Bool) : State :=
  if !before && s.frmIrq n then (s.msi 0 (24 + n.val)).msi 1 (2 * n.val + 1) else s

/-- Set a bit of FRM_IRQ_STATUS: 0 HALTED, 1 FAULT, 2 ABORT, 3 STALL_LONG (R52). -/
def State.raiseFrm (s : State) (n : Fin 8) (bit : Nat) : State :=
  (s.setFld (Reg.FRM_IRQ_STATUS n) bit 1 1).irqEdge n (s.frmIrq n)

/-- An entry of the access log (R446), with the offset as the log gives it.  Path 0 PF0, 1 management port, 2 Docent, 8 + n PF1
window n. -/
def State.logRaw (s : State) (reason off : Nat) (value : Word) (path be : Nat) : State :=
  let i := (s.reg Reg.MBX_ACCLOG_COUNT).toNat % 64
  let ws := [(4 * i, BitVec.ofNat 32 (off % 2 ^ 28 + reason * 2 ^ 28)), (4 * i + 1, value),
             (4 * i + 2, BitVec.ofNat 32 (path + be * 16)), (4 * i + 3, BitVec.ofNat 32 s.lnk.timebase)]
  let s1 := { s with cur := { s.cur with accLog := msetAll (fun _ => (0 : Word)) s.cur.accLog ws } }
  (s1.addFld Reg.MBX_ACCLOG_COUNT 0 32 1).msi 0 32

/-- The PF1 BAR2 offset at which the window of partition n shows a PF0 offset (R444). -/
def pf1Off (n a : Nat) : Nat :=
  0x100000 * n +
    match a / 0x100000 with
    | 1 => a % 0x1000
    | 8 => 0x10000 + a % 0x1000
    | 9 => 0x20000 + a % 0x1000
    | 15 => 0x40000 + a % 0x100
    | _ => if a % 0x100000 < 0x10000 then 0x30000 + a % 0x100 else 0x31000 + a % 0x1000

/-- A write at a PF0 offset enters the access log (R446). -/
def State.logAccess (s : State) (reason a : Nat) (value : Word) (path be : Nat) : State :=
  s.logRaw reason (if 8 ≤ path then pf1Off (path - 8) a else a) value path be

/-- Path code of the access log. -/
def Path.code : Path → Nat
  | .pf0 => 0
  | .mgmt => 1
  | .pf1 n => 8 + n.val

/-- The 64 bytes of a response or notice (R449). -/
def rspBytes (op status detail tag len stamp payload : Nat) : BitVec 512 :=
  BitVec.ofNat 512 (op % 2 ^ 16 + status * 2 ^ 16 + detail % 256 * 2 ^ 24 + tag % 2 ^ 16 * 2 ^ 32 + len % 2 ^ 16 * 2 ^ 48 +
    stamp % 2 ^ 64 * 2 ^ 64 + payload % 2 ^ 384 * 2 ^ 128)

/-- Commands queued or begun, plus responses waiting (R450). -/
def Mbx.busy (x : Mbx) : Nat := x.queue.length + x.begun.length + x.rsps.length

/-- A message enters the response queue. -/
def State.enterRsp (s : State) (m : Fin 36) (raw : BitVec 512) (notify : Bool) : State :=
  (s.setMbx m { s.mbx m with rsps := (s.mbx m).rsps ++ [raw] }).mbxIrq m notify

/-- Notices held by the Curator enter while slots are free (R450). -/
def State.releaseHeldNotices (s : State) (m : Fin 36) : List (BitVec 512) → State
  | [] => s
  | raw :: r =>
    if (s.mbx m).busy < 16 then
      State.releaseHeldNotices ((s.setMbx m { s.mbx m with held := (s.mbx m).held.drop 1 }).enterRsp m raw false) m r
    else s

/-- An unsolicited notice (R449, R450): TAG 0xFFFF, STAMP 0, status OK; one that finds no slot free is held. -/
def State.notice1 (s : State) (m : Fin 36) (op len payload : Nat) : State :=
  let raw := rspBytes op 0 0 0xFFFF len 0 payload
  let x := s.mbx m
  if x.held.isEmpty ∧ x.busy < 16 then s.enterRsp m raw false
  else s.setMbx m { x with held := x.held ++ [raw] }

/-- A notice on both privileged event mailboxes (R464), and on the partition's tenant mailbox where R477 says so. -/
def State.notice (s : State) (op len payload : Nat) (tenant : Option (Fin 8)) : State :=
  let s1 := match tenant with
    | some n => s.notice1 ⟨24 + n.val, by omega⟩ op len payload
    | none => s
  (s1.notice1 23 op len payload).notice1 35 op len payload

/-- ALERT_N is asserted (R352, R397, R457); in DORMANT it is released (R539). -/
def State.alertN (s : State) : Bool :=
  s.pwr.phase != .dormant && (s.cur.alert || !(s.mbx 32).rsps.isEmpty || !(s.mbx 33).rsps.isEmpty || !(s.mbx 34).rsps.isEmpty || !(s.mbx 35).rsps.isEmpty)

/-- The partition state block (R467). -/
def State.block (s : State) (n : Fin 8) : Nat :=
  let p := s.part n
  n.val + p.stateCode * 2 ^ 8 + (match p.haltCause with | some h => h.code | none => 0) * 2 ^ 16 +
    p.faultCause.code * 2 ^ 24 + p.remaining % 2 ^ 32 * 2 ^ 32 + s.shownFrame n % 2 ^ 48 * 2 ^ 64 +
    (p.committed % 2 ^ 48 + b2n p.committedValid * 2 ^ 63) * 2 ^ 128

/-- A response with the partition state block. -/
def State.rspBlock (s : State) (n : Fin 8) (status : Status) (detail : Nat) : Rsp := ⟨status, detail, 24, s.block n⟩

/-- SUPERSEDED (R449, R453): the block and the stamp that made the command moot. -/
def State.rspMoot (s : State) (n : Fin 8) (stamp : Nat) : Rsp := ⟨.superseded, 0, 48, s.block n + stamp % 2 ^ 64 * 2 ^ 320⟩

/-- A response without payload. -/
def rspEmpty (status : Status) (detail : Nat) : Rsp := ⟨status, detail, 0, 0⟩

/-- The begun command of lowest stamp when its result is known and nothing earlier of the mailbox is still open (R452). -/
def Mbx.ready (x : Mbx) : Option Begun :=
  match minOf (x.queue.map (·.stamp) ++ x.begun.map fun b => b.cmd.stamp) with
  | some k => x.begun.find? fun b => b.cmd.stamp == k && b.result.isSome
  | none => none

/-- Post results on a mailbox in stamp order (R452); `fuel` bounds the number of begun commands. -/
def State.flushMbx (s : State) (m : Fin 36) : Nat → State
  | 0 => s
  | fuel + 1 =>
    match (s.mbx m).ready with
    | some b =>
      let s1 := s.setMbx m { s.mbx m with begun := (s.mbx m).begun.filter fun x => x.cmd.stamp != b.cmd.stamp }
      let s2 := match b.result with
        | some r =>
          if b.discard then s1.releaseHeldNotices m (s1.mbx m).held
          else s1.enterRsp m (rspBytes b.cmd.op r.status.code r.detail b.cmd.tag r.len b.cmd.stamp r.payload) b.cmd.notify
        | none => s1
      s2.flushMbx m fuel
    | none => s

/-- Fix the result of a begun command and post what can be posted (R449, R452). -/
def State.answer (s : State) (m : Fin 36) (stamp : Nat) (r : Rsp) : State :=
  let x := s.mbx m
  let s1 := s.setMbx m { x with begun := x.begun.map fun b =>
    if b.cmd.stamp == stamp && b.result.isNone then { b with result := some r, wait := .result } else b }
  s1.flushMbx m (x.begun.length + 1)

/-- Begun commands of every mailbox that have no result, with their mailboxes. -/
def State.waiting (s : State) : List (Fin 36 × Begun) :=
  (List.finRange 36).flatMap fun m => ((s.mbx m).begun.filter (·.result.isNone)).map fun b => (m, b)

/-- Answer every waiting command for which `f` gives a result (R466). -/
def State.answerAll (s : State) (f : State → Begun → Option Rsp) : List (Fin 36 × Begun) → State
  | [] => s
  | (m, b) :: r =>
    (match f s b with
     | some x => s.answer m b.cmd.stamp x
     | none => s).answerAll f r

/-- Replace the wait of a begun command. -/
def State.setWait (s : State) (m : Fin 36) (stamp : Nat) (w : Wait) : State :=
  let x := s.mbx m
  s.setMbx m { x with begun := x.begun.map fun b => if b.cmd.stamp == stamp then { b with wait := w } else b }

/-- Change the waits of all waiting commands. -/
def State.mapWaits (s : State) (f : Wait → Wait) : State :=
  { s with cur := { s.cur with mbxs := s.cur.mbxs.map fun x =>
      { x with begun := x.begun.map fun b => { b with wait := f b.wait } } } }

/-- Note that a command put partition n into a state (R453). -/
def State.noteMade (s : State) (n : Fin 8) (stamp made : Nat) (safety : Bool) : State :=
  let k := s.cur.order + 1
  let c : Change := ⟨k, stamp, made⟩
  { s with cur := { s.cur with order := k, made := vset s.cur.made n (some c),
                               safety := if safety then vset s.cur.safety n (some c) else s.cur.safety } }

/-- The stamp of the command that made partition n's state, when it is `what` and was made after the given command was
submitted (R453). -/
def State.madeSince (s : State) (n : Fin 8) (what : Nat) (c : Cmd) : Option Nat :=
  match vget s.cur.made n with
  | some x => if x.made = what ∧ c.ord < x.ord ∧ x.stamp ≠ c.stamp then some x.stamp else none
  | none => none

/-- The stamp of a SAFETY command on partition n executed after the given command was submitted (R453). -/
def State.safetySince (s : State) (n : Fin 8) (c : Cmd) : Option Nat :=
  match vget s.cur.safety n with
  | some x => if c.ord < x.ord ∧ x.stamp ≠ c.stamp then some x.stamp else none
  | none => none

/-- DOCENT of MBX_FW: 0 STOPPED, 1 RUNNING, 2 RESTARTING, 3 RECOVERY. -/
def State.docent (s : State) : Nat := s.fld Reg.MBX_FW 0 2

/-- MBX_FW.DOCENT takes a value; a change is interrupt 33 (R456). -/
def State.setDocent (s : State) (v : Nat) : State :=
  let s1 := s.setFld Reg.MBX_FW 0 2 v
  if s.docent = v then s1 else s1.msi 0 33

/-- A doorbell is accepted (R450, R454). -/
def State.accepts (s : State) (m : Fin 36) (safety : Bool) : Bool :=
  let x := s.mbx m
  decide (x.queue.length < 8) && decide (x.busy < 16) &&
    (safety || (x.held.isEmpty && !s.rgs.userFull && (s.docent == 1 || (s.docent == 3 && m.val == 0))))

/-- The 64 bytes of a mailbox's command buffer. -/
def State.cmdBuf (s : State) (m : Fin 36) : Nat :=
  (List.range 16).foldl (fun a k => a + (s.reg (Reg.MBX_CMD m k)).toNat * 2 ^ (32 * k)) 0

/-- Owner code of a mailbox's own work: HDMA from a privileged one, PARTn from a tenant's (R475). -/
def mbxOwner (m : Fin 36) : Nat := if 24 ≤ m.val ∧ m.val < 32 then m.val - 24 else 8

/-- The MAILBOX task of an accepted command (R480): created at the doorbell.  No rule says where in the Docent's scratch bank its
parameters stand. -/
def State.mailTask (s : State) (m : Fin 36) (stamp : Nat) : State :=
  let param : Word := BitVec.ofNat 32 (Config.freeNat s.freeCtr)
  { s with rgs := s.rgs.create 1 (s.fld Reg.RGS_PRIO 0 3) (mbxOwner m) m.val stamp param .fresh 0, freeCtr := s.freeCtr + 1 }

/-- Ring the doorbell of mailbox m (R450, R451). -/
def State.ring (s : State) (m : Fin 36) : State :=
  let stamp := s.reg64 Reg.MBX_STAMP_LO
  let raw := s.cmdBuf m
  let bytes : BitVec 512 := setBitsAt (BitVec.ofNat 512 raw) 64 64 stamp
  let c : Cmd := ⟨stamp, s.cur.order + 1, bytes⟩
  let ok := s.accepts m c.safety
  let s1 := (s.setReg64 Reg.MBX_STAMP_LO (stamp + 1)).setReg64 (Reg.MBX_DB_STAMP_LO m) stamp
  let s2 := (s1.setReg (Reg.MBX_DB_RESULT m) (BitVec.ofNat 32 ((if ok then 0 else 1) + 2 ^ 31)))
  let s3 := { s2 with cur := { s2.cur with order := s2.cur.order + 1 } }
  if ok then
    let s4 := s3.setMbx m { s3.mbx m with queue := (s3.mbx m).queue ++ [c] }
    if c.safety then s4 else s4.mailTask m stamp
  else if !c.safety && s.rgs.userFull then s3.addFld Reg.RGS_RETRY 0 32 1
  else s3

/-- The oldest response leaves (R460), and a held notice may enter (R450). -/
def State.popRsp (s : State) (m : Fin 36) : State :=
  match (s.mbx m).rsps with
  | [] => s
  | _ :: r => s.setMbx m { s.mbx m with rsps := r }

/-- Opcodes whose payload byte 0 names a partition (R469, R473, R476). -/
def opNamesPart (op : Nat) : Bool :=
  (0x0101 ≤ op && op ≤ 0x0108) || (0x0201 ≤ op && op ≤ 0x0205) || op == 0x0404 || op == 0x0501 || op == 0x0503

/-- The partition a command names (R452); that of a DEPOSIT with DESC stands in its host block. -/
def Cmd.part (c : Cmd) : Option Nat :=
  if opNamesPart c.op && !c.desc && decide (c.pay 0 1 < 8) then some (c.pay 0 1) else none

/-- Insert by stamp. -/
def byStamp (l : List (Fin 36 × Cmd)) : List (Fin 36 × Cmd) := sortBy (fun x => x.2.stamp) l

/-- The first command, by stamp, that nothing holds: neither its mailbox nor the partition it names (R452). -/
def firstFree : List (Fin 36 × Cmd) → List Nat → List Nat → Option (Fin 36 × Cmd)
  | [], _, _ => none
  | (m, c) :: r, heldM, heldP =>
    let hp := match c.part with | some n => heldP.contains n | none => false
    if heldM.contains m.val || hp then
      firstFree r (m.val :: heldM) (match c.part with | some n => n :: heldP | none => heldP)
    else some (m, c)

/-- A recovering partition's tenant mailbox holds its commands (R327). -/
def State.tenantHeld (s : State) (m : Fin 36) : Bool :=
  if h : 24 ≤ m.val ∧ m.val < 32 then (s.ck ⟨m.val - 24, by omega⟩).recov.isSome else false

/-- The command the Curator executes next (R452): none while a long command runs, and none where the
Curator or the Docent does not run (R352, R498, R503). -/
def State.nextCmd (s : State) : Option (Fin 36 × Cmd) :=
  let w := s.waiting
  if (w.any fun x => !x.2.frees) || s.cfg.dead || s.pwr.tripped || s.pwr.phase != .run then none
  else
    let all := (List.finRange 36).flatMap fun m =>
      if (s.docent == 1 || (s.docent == 3 && m.val == 0)) && !s.tenantHeld m then ((s.mbx m).queue.filter fun c => !c.safety).map fun c => (m, c)
      else []
    firstFree (byStamp all) (w.map fun x => x.1.val) (w.filterMap fun x => x.2.part)

/-- The SAFETY command of lowest stamp in mailbox m (R454). -/
def State.safetyCmd (s : State) (m : Fin 36) (op : Nat) : Option Cmd :=
  if s.cfg.dead || s.pwr.tripped || s.pwr.phase == .dormant then none else (s.mbx m).queue.find? fun c => c.safety && c.op == op

/-- The command of mailbox m that a row with this opcode executes now, if it is the Curator's next (R452, R454). -/
def State.due (s : State) (m : Fin 36) (op : Nat) : Option Cmd :=
  if op = 0x0106 ∨ op = 0x0405 then s.safetyCmd m op
  else
    match s.nextCmd with
    | some (m', c) => if m' = m ∧ c.op = op then some c else none
    | none => none

/-- The command leaves the queue and has begun. -/
def State.begin (s : State) (m : Fin 36) (c : Cmd) (part : Option Nat) (frees : Bool) (w : Wait) : State :=
  let x := s.mbx m
  s.setMbx m { x with queue := x.queue.filter (fun q => q.stamp != c.stamp),
                      begun := x.begun ++ [⟨c, part, frees, false, w, none⟩] }

/-- Begin a command and answer it at once. -/
def State.reply (s : State) (m : Fin 36) (c : Cmd) (r : Rsp) : State :=
  (s.begin m c c.part true .result).answer m c.stamp r

/-- Which mailboxes a command is allowed on: letters P, T, M, R of R463; `named` says that the command names the tenant's
partition.  Answers the refusal, if any (R447, R463, R464). -/
def permit (m : Fin 36) (p t mg : Bool) (named : Bool) : Option Status :=
  if m.val = 23 ∨ m.val = 35 then some .range
  else if m.val < 23 then (if p then none else some .range)
  else if m.val < 32 then (if t && named then none else some .notOwner)
  else if p || mg then none else some .range

/-- Tenant partition of a mailbox. -/
def tenantOf (m : Fin 36) : Option (Fin 8) := if h : 24 ≤ m.val ∧ m.val < 32 then some ⟨m.val - 24, by omega⟩ else none

/-- Reserved payload bits (R14, R461): `used` lists (offset, bytes, mask) of the layout; the first offset that carries a
nonzero reserved bit. -/
def badPayload (pay : Nat) (used : List (Nat × Nat × Nat)) : Option Nat :=
  let mask := used.foldl (fun a u => a ||| (u.2.2 % 2 ^ (8 * u.2.1) * 2 ^ (8 * u.1))) 0
  let bad := (List.range 48).filter fun i =>
    decide ((pay / 2 ^ (8 * i) % 256) &&& (255 - mask / 2 ^ (8 * i) % 256) ≠ 0)
  match bad with
  | [] => none
  | i :: _ =>
    match used.find? fun u => decide (u.1 ≤ i) && decide (i < u.1 + u.2.1) with
    | some u => some u.1
    | none => some i

/-- The mask of partitions in a list of numbers. -/
def maskOf (l : List Nat) : Nat := (dedupNat l).foldl (fun a k => a + 2 ^ k) 0

/-- The answer of a FORCED_HALT whose halts have all acted (R469). -/
def State.rspForced (s : State) (all : Bool) (halted : List Nat) : Rsp :=
  if all then ⟨.ok, 0, 25, 0xFF + maskOf halted * 2 ^ 192⟩
  else
    match halted with
    | k :: _ => if h : k < 8 then s.rspBlock ⟨k, h⟩ .ok 0 else rspEmpty .ok 0
    | [] => rspEmpty .ok 0

end Sys2Proof.Machine
end

