-- ==== Sys2Proof/Machine/Boot.lean ====
section
/-!
DEFINITION. Progress and failures of configuration (R380, R381, R397), as the units that take part in it report them.
-/
namespace Sys2Proof.Machine

/-- The record of the first failure not yet read (CFG_FAIL), and what the failures make of the result (R397). -/
def State.cfgFail (s : State) (stage code entry status : Nat) : State :=
  if s.fld Reg.CFG_FAIL 31 1 = 1 then s
  else s.setReg Reg.CFG_FAIL (BitVec.ofNat 32 (stage + code * 2 ^ 4 + entry % 16 * 2 ^ 12 + status * 2 ^ 16 + 2 ^ 31))

/-- The result so far is DEGRADED, or FAILED. -/
def State.cfgBad (s : State) (failed : Bool) : State :=
  { s with cfg := { s.cfg with degraded := true, failed := s.cfg.failed || failed } }

/-- Configuration runs (R380): begun, and neither done nor stopped. -/
def State.configuring (s : State) : Bool := s.fld Reg.CFG_STATUS 0 4 != 0 && s.fld Reg.CFG_STATUS 0 4 != 8 && s.fld Reg.CFG_STATUS 4 4 == 0

/-- Every quad with EN has all four logical lanes in service (R381). -/
def State.quadsUp (s : State) : Bool :=
  (List.range 24).all fun q => s.fld (Reg.LANE_QUAD q) 8 1 == 0 || s.fld (Reg.LANE_QUAD q) 10 4 == 15

/-- Every depot port in use is UP or in FAULT, or its lanes were not there when the wait ran out. -/
def State.portsSettled (s : State) : Bool :=
  (List.range 8).all fun i =>
    let v := s.fld (Reg.DEP_PORT_STATE i) 0 3
    v == 0 || v == 3 || v == 4 || (v == 1 && s.cfg.lanesOver)

/-- The end of stage k is timed (R398). -/
def State.stageEnd (s : State) (k : Nat) : State :=
  if s.reg (Reg.CFG_STAGE_US k) = 0 then
    s.setReg (Reg.CFG_STAGE_US k) (BitVec.ofNat 32 (max 1 ((s.lnk.timebase - s.cfg.t0) / 1000)))
  else s

/-- Stages 3 to 5 end as their units are ready; stage 6 begins when all three have (R380, R381). -/
def State.cfgAdvance (s : State) : State :=
  if s.configuring ∧ s.fld Reg.CFG_STATUS 0 4 < 6 then
    let lanes := s.cfg.lanesOver || s.quadsUp
    let s1 := if lanes then { s with cfg := { s.cfg with lanesOver := true } }.stageEnd 4 else s
    let s2 := if lanes && s.portsSettled then s1.stageEnd 5 else s1
    s2.setFld Reg.CFG_STATUS 0 4
      (if !s.cfg.docentUp then 3 else if !lanes then 4 else if !s.portsSettled then 5 else 6)
  else s

end Sys2Proof.Machine
end

