-- ==== Sys2Proof/Machine/Operands.lean ====
section
/-!
DEFINITION. The instruction word (R58), the operand selectors (R61 to R63), the deep-mode address rule (R73, R74) and the
function lookup (R64).
-/
namespace Sys2Proof.Machine

/-- The canonical NOP of R84, which fills every slot an ephemeris does not write (R165). -/
def canonicalNop : DWord := 0xF000000000000000

/-- Default of an instruction slot. -/
def dSlot : Nat → DWord := fun _ => canonicalNop

/-- Default of a function-table entry. -/
def dFt : Nat → BitVec 16 := fun _ => 0

/-- Class field [63:60]. -/
def wCls (w : DWord) : Nat := bitsAt w 60 4
/-- FNI field [59:54]. -/
def wFni (w : DWord) : Nat := bitsAt w 54 6
/-- SEND, bit 53. -/
def wSend (w : DWord) : Bool := bitsAt w 53 1 == 1
/-- TAP, bit 52. -/
def wTap (w : DWord) : Bool := bitsAt w 52 1 == 1
/-- INV, bit 51. -/
def wInv (w : DWord) : Bool := bitsAt w 51 1 == 1
/-- KEEP, bit 50. -/
def wKeep (w : DWord) : Bool := bitsAt w 50 1 == 1
/-- ECHK, bit 49. -/
def wEchk (w : DWord) : Bool := bitsAt w 49 1 == 1
/-- Selector A, [47:36]. -/
def wSa (w : DWord) : Nat := bitsAt w 36 12
/-- Selector B, [35:24]. -/
def wSb (w : DWord) : Nat := bitsAt w 24 12
/-- Selector C, [23:12]. -/
def wSc (w : DWord) : Nat := bitsAt w 12 12
/-- Selector D or index, [11:0]. -/
def wSd (w : DWord) : Nat := bitsAt w 0 12

/-- The packed tile address of a packed BP address (R16). -/
def bpTile (bp : Nat) : Nat := bp / 1024
/-- The cluster key tile × 16 + c of a packed BP address. -/
def bpCluster (bp : Nat) : Nat := bp / 64
/-- The number b of a BP within its cluster. -/
def bpB (bp : Nat) : Nat := bp % 64
/-- The die of a packed tile address. -/
def tileDie (t : Nat) : Nat := t / 64

/-- The tile belongs to the shape of the ephemeris (R18, R160). -/
def Eph.hasTile (e : Eph) (t : Nat) : Bool :=
  bitOf e.dieMask (tileDie t) && decide (e.tFirst ≤ t % 64) && decide (t % 64 ≤ e.tLast)

/-- The BP executes in this partition: its tile is in the shape, and in deep mode it is even (R73). -/
def Part.hasBp (p : Part) (bp : Nat) : Bool :=
  p.eph.hasTile (bpTile bp) && (!p.eph.deep || bp % 2 == 0)

/-- The instruction word of step `s`; the pair's upper slots are keyed on into the odd BP (R73). -/
def Part.slot (p : Part) (bp s : Nat) : DWord := mget dSlot p.eph.slots (bp * 2048 + s)

/-- FT entry `i` used at step `s`: of BP b, or of b + 1 from step 2,048 on (R73). -/
def Part.ftAt (p : Part) (bp s i : Nat) : BitVec 16 := mget dFt p.eph.ft ((bp + s / 2048) * 64 + i)

/-- Working-store bit at address `a` of a BP, or of a pair (R54, R73). -/
def Img.wsAt (m : Img) (bp a : Nat) : Bool := mget dBit m.ws (bp * 2048 + a)
/-- Receive register n of a BP. -/
def Img.rxAt (m : Img) (bp n : Nat) : Bool := mget dBit m.rx (bp * 8 + n)
/-- VD of a BP. -/
def Img.vdAt (m : Img) (bp : Nat) : DWord := mget dWord64 m.vd bp
/-- XD of a BP. -/
def Img.xdAt (m : Img) (bp : Nat) : DWord := mget dWord64 m.xd bp

/-- Write working-store address `a` (R57). -/
def Img.setWs (m : Img) (bp a : Nat) (v : Bool) : Img := { m with ws := mset dBit m.ws (bp * 2048 + a) v }
/-- Write receive register n (R71). -/
def Img.setRx (m : Img) (bp n : Nat) (v : Bool) : Img := { m with rx := mset dBit m.rx (bp * 8 + n) v }
/-- Replace VD (R72). -/
def Img.setVd (m : Img) (bp : Nat) (v : DWord) : Img := { m with vd := mset dWord64 m.vd bp v }
/-- Replace XD (R72). -/
def Img.setXd (m : Img) (bp : Nat) (v : DWord) : Img := { m with xd := mset dWord64 m.xd bp v }
/-- Write a bit of the boundary output vector (R129). -/
def Img.setOut (m : Img) (i : Nat) (v : Bool) : Img := { m with outv := mset dBit m.outv i v }

/-- Which address a working-store selector with field `x` resolves to at step `s` (R74). -/
def wsAddress (deep : Bool) (depth x s : Nat) : Nat :=
  if deep then
    if x + 2048 < s then x + 2048
    else if x < s then x
    else if x + 2048 < depth then x + 2048
    else x
  else x

/-- Boundary bit `i` is given to the partition by the boundary allocation, in that direction (R129, R131, R162). -/
def Eph.boundBit (e : Eph) (input : Bool) (i : Nat) : Option Nat :=
  (e.bound.find? fun r => r.input == input && decide (r.first ≤ i) && decide (i < r.first + r.count)).map
    fun r => r.vtr + (i - r.first)

/-- Boundary input bit `i` in the frame executing (R131). -/
def Part.bin (p : Part) (i : Nat) : Bool :=
  match p.bins.find? (fun x => x.1 == p.frame) with
  | some x => mget dBit x.2 i
  | none => false

/-- First boundary input index of the window of the BP's cluster (R62). -/
def Part.inBase (p : Part) (bp : Nat) : Nat := 256 * mget dNat p.eph.inWin (bpCluster bp)
/-- First boundary output index of the window of the BP's cluster (R129). -/
def Part.outBase (p : Part) (bp : Nat) : Nat := 256 * mget dNat p.eph.outWin (bpCluster bp)

/-- The operand a 12-bit selector names, as it stands at the start of step `s` (R61 to R63). -/
def Part.operand (p : Part) (bp s sel : Nat) : Bool :=
  if sel < 2048 then p.img.wsAt bp (wsAddress p.eph.deep p.eph.depth sel s)
  else
    match sel / 256 % 8 with
    | 0 => p.img.rxAt bp (sel % 8)
    | 1 => sel % 2 == 1
    | 2 => (p.img.vdAt bp).getLsbD (sel % 64)
    | 3 => (p.img.xdAt bp).getLsbD (sel % 64)
    | 4 => p.bin (p.inBase bp + sel % 256)
    | 5 => if sel % 8 ≤ 4 then bitOf p.status (sel % 8) else false
    | _ => false

/-- The table index of R64: A least significant. -/
def ftIndex (a b c d : Bool) : Nat := 8 * b2n d + 4 * b2n c + 2 * b2n b + b2n a

/-- The function value FT[FNI] at the operands (R64). -/
def Part.lookup (p : Part) (bp s fni : Nat) (a b c d : Bool) : Bool := (p.ftAt bp s fni).getLsbD (ftIndex a b c d)

/-- The selector names a working-store address. -/
def selIsWs (sel : Nat) : Bool := decide (sel < 2048)
/-- The selector names a receive register. -/
def selIsRx (sel : Nat) : Bool := !selIsWs sel && sel / 256 % 8 == 0
/-- The selector names a VD or XD bit. -/
def selIsVdXd (sel : Nat) : Bool := !selIsWs sel && (sel / 256 % 8 == 2 || sel / 256 % 8 == 3)

/-- Bits the selected space does not use are nonzero, or the space is reserved (R60, R61). -/
def selBadEncoding (sel : Nat) : Bool :=
  if sel < 2048 then false
  else
    match sel / 256 % 8 with
    | 0 => sel / 8 % 32 != 0
    | 1 => sel / 2 % 128 != 0
    | 2 => sel / 64 % 4 != 0
    | 3 => sel / 64 % 4 != 0
    | 4 => false
    | 5 => sel / 8 % 32 != 0
    | _ => true

end Sys2Proof.Machine
end

