-- ==== Sys2Proof/Machine/Flags.lean ====
section
/-!
DEFINITION. The result path and the flags SEND, TAP, INV and KEEP (R85 to R89), the toggle count (R77), the monitor's write
history (R107) and the recording of a hazard of the step in progress (R174, R175).
-/
namespace Sys2Proof.Machine

/-- Hazards name the even BP of a pair (R175); the executing BP is the even one. -/
def Part.hazard (p : Part) (code bp opnd detail : Nat) : Part :=
  if p.eph.debug then { p with hazNow := p.hazNow ++ [⟨code, bp, opnd, detail⟩] } else p

/-- Note that a monitored place was written at a step of this frame (R107); kept in debug mode only. -/
def Part.noteAt (p : Part) (bp place step : Nat) : Part :=
  if p.eph.debug then
    { p with img := { p.img with hist := mset (fun _ => ⟨0, 0⟩) p.img.hist (bp * 8192 + place) ⟨p.frame + 2, step⟩ } }
  else p

/-- Note that a monitored place was written now (R107). -/
def Part.note (p : Part) (bp place : Nat) : Part := p.noteAt bp place p.step

/-- The stamp of a monitored place: the frame of the write is counted from 2, and 0 stands for never. -/
def Part.stampOf (p : Part) (bp place : Nat) : Stamp := mget (fun _ => (⟨0, 0⟩ : Stamp)) p.img.hist (bp * 8192 + place)

/-- KEEP = 0 writes address s and counts a toggle when the content changes (R77, R85, R89). -/
def Part.writeResult (p : Part) (bp s : Nat) (keep r : Bool) : Part :=
  if keep then p
  else
    let t := if r != p.img.wsAt bp s then mset dNat p.toggles (bpCluster bp) (mget dNat p.toggles (bpCluster bp) + 1)
             else p.toggles
    Part.note { p with img := p.img.setWs bp s r, toggles := t } bp s

/-- SEND = 1 offers the result to the lattice (R86). -/
def Part.sendResult (p : Part) (bp : Nat) (send r : Bool) : Part :=
  if send then { p with offers := p.offers ++ [(bp, r)] } else p

/-- The collector slots that TAPS allocates to this BP and step (R87, R162). -/
def Part.tapSlots (p : Part) (bp s : Nat) : List TapSlot :=
  p.eph.taps.filter fun t => t.tile == bpTile bp && t.step == s && t.cluster == bpCluster bp % 16 && t.bp == bpB bp

/-- TAP = 1 offers the result to the tile's collector, which takes it into every slot allocated to it (R87, R279, R281). -/
def Part.tapResult (p : Part) (bp s : Nat) (tap r : Bool) : Part :=
  if tap then
    match p.tapSlots bp s with
    | [] => p.hazard 6 bp 0 0
    | l => { p with taps := p.taps ++ l.map fun t => ⟨t.tile, s, t.lane, t.group, r⟩ }
  else p

/-- Steps 3 and 4 of R85: the working-store write, the lattice offer and the tap, all of the same r. -/
def Part.resultPath (p : Part) (w : DWord) (bp s : Nat) (r : Bool) : Part :=
  ((p.writeResult bp s (wKeep w) r).sendResult bp (wSend w) r).tapResult bp s (wTap w) r

end Sys2Proof.Machine
end

