-- ==== Sys2Proof/Machine/Bp.lean ====
section
/-!
DEFINITION. What one slot does in its BP in one evaluation step (R56, R91 to R102, R109 to R136): the class results, the
effects of VPUT, VGET, XPUT, XGET, IPUT, IGET and STOP as far as they stay in the partition, the debug-mode checks of a slot,
and the errors of R76.  What the step does at its end with staged lanes, port issues and output bits stands in Ports.lean.
-/
namespace Sys2Proof.Machine

/-- A monitored place last written between the start of C0 of the previous frame and the end of step s − 1 (R106). -/
def Part.landed (p : Part) (bp s place : Nat) : Bool :=
  let st := p.stampOf bp place
  (st.frame == p.frame + 2 && decide (st.step < s)) || (st.frame == p.frame + 1 && decide (p.eph.depth ≤ st.step))

/-- The timing claim of one operand (R106). -/
def Part.echk (p : Part) (bp s pos sel : Nat) : Part :=
  if sel < 2048 then
    let a := wsAddress p.eph.deep p.eph.depth sel s
    if a < s ∧ p.stampOf bp a = ⟨p.frame + 2, a⟩ then p else p.hazard 2 bp pos a
  else
    match sel / 256 % 8 with
    | 0 => if p.landed bp s (4096 + sel % 8) then p else p.hazard 2 bp pos (0x8000 + sel % 8)
    | 2 => if p.landed bp s 4104 then p else p.hazard 2 bp pos 0x8008
    | 3 => if p.landed bp s 4105 then p else p.hazard 2 bp pos 0x8009
    | _ => p

/-- The checks of one operand read: encoding (R60), unallocated boundary bit (R135), and the ECHK claim. -/
def Part.checkOperand (p : Part) (bp s : Nat) (echk : Bool) (pos sel : Nat) : Part :=
  let p1 := if selBadEncoding sel then p.hazard 1 bp pos 0 else p
  let i := p.inBase bp + sel % 256
  let p2 := if !selIsWs sel && sel / 256 % 8 == 4 && (p.eph.boundBit true i).isNone
            then p1.hazard 18 bp pos (0x8000 + i) else p1
  if echk then p2.echk bp s pos sel else p2

/-- Operand positions and selectors a class reads as R61 states (R83, R109, R112). -/
def readsOf (w : DWord) : List (Nat × Nat) :=
  let abc := [(0, wSa w), (1, wSb w), (2, wSc w)]
  match wCls w with
  | 3 => abc
  | 4 => abc
  | 5 => abc
  | 6 => abc
  | 7 => abc
  | 8 => (if wSa w < 2048 then [] else [(0, wSa w)]) ++ [(1, wSb w), (2, wSc w), (3, wSd w)]
  | 0xF => []
  | _ => abc ++ [(3, wSd w)]

/-- Bits of SD that an index class does not use are nonzero (R60, R114, R124, R129). -/
def sdBad (w : DWord) : Bool :=
  match wCls w with
  | 3 => wSd w / 1024 != 0
  | 4 => wSd w / 256 != 0 || wSd w % 64 != 0
  | 5 => wSd w / 256 != 0
  | 6 => wSd w / 256 != 0
  | 7 => wSd w / 256 != 0
  | _ => false

/-- A VGET or XGET that is not canonical (R110), a NOP or MARK with ignored bits set (R84). -/
def notCanonical (w : DWord) : Bool :=
  match wCls w with
  | 4 => bitsAt w 49 11 != 0 || wSa w != 0x900 || wSb w != 0x900 || wSc w != 0x900
  | 6 => bitsAt w 49 11 != 0 || wSa w != 0x900 || wSb w != 0x900 || wSc w != 0x900
  | 0xA => bitsAt w 50 4 != 0
  | 0xF => bitsAt w 0 60 != 0
  | _ => false

/-- Apply a check to each operand read. -/
def Part.checkReads (p : Part) (bp s : Nat) (echk : Bool) : List (Nat × Nat) → Part
  | [] => p
  | (pos, sel) :: r => (p.checkOperand bp s echk pos sel).checkReads bp s echk r

/-- LATCH_LOOP of each operand of a LATCH (R108). -/
def Part.latchLoop (p : Part) (bp s : Nat) : List (Nat × Nat) → Part
  | [] => p
  | (pos, sel) :: r =>
    (if sel < 2048 ∧ wsAddress p.eph.deep p.eph.depth sel s = s then p.hazard 3 bp pos s else p).latchLoop bp s r

/-- The checks a slot meets in debug mode before it acts (R60, R84, R106, R108, R110, R136). -/
def Part.debugChecks (p : Part) (w : DWord) (bp s : Nat) : Part :=
  if !p.eph.debug then p
  else if wCls w = 0xF then (if notCanonical w then p.hazard 1 bp 0 0 else p)
  else
    let p1 := if bitsAt w 48 1 == 1 then p.hazard 1 bp 0 0 else p
    let p2 := if sdBad w then p1.hazard 1 bp 0 0 else p1
    let p3 := if notCanonical w then p2.hazard 1 bp 0 0 else p2
    let echk := wEchk w && wCls w != 4 && wCls w != 6
    let p4 := p3.checkReads bp s echk (readsOf w)
    let p5 := if wCls w = 2 then p4.latchLoop bp s (readsOf w) else p4
    if wCls w = 8 ∧ wSa w < 2048 ∧ (p5.eph.boundBit true (wSa w)).isNone then p5.hazard 18 bp 0 (0x8000 + wSa w) else p5

/-- What the detectors add to the frame's errors for this slot (R76, R93, R110): a fault is found only on a read made. -/
def slotErr (w : DWord) (debug : Bool) (e : BpErr) : Err :=
  let rs := if wCls w = 0xA ∧ !debug then [] else readsOf w
  let fifth := wCls w == 1 || wCls w == 2
  let looks := !(wCls w == 4 || wCls w == 6 || wCls w == 0xF || (wCls w == 0xA && !debug))
  { wsPar := e.wsPar && (fifth || rs.any fun x => selIsWs x.2),
    latPar := e.rxPar && rs.any fun x => selIsRx x.2,
    vdbe := false,
    unit := (e.ftPar && looks) || (e.vdPar && rs.any fun x => selIsVdXd x.2) }

/-- Operands A to C as selectors, D as given. -/
def Part.opA (p : Part) (w : DWord) (bp s : Nat) : Bool := p.operand bp s (wSa w)
/-- Operand B. -/
def Part.opB (p : Part) (w : DWord) (bp s : Nat) : Bool := p.operand bp s (wSb w)
/-- Operand C. -/
def Part.opC (p : Part) (w : DWord) (bp s : Nat) : Bool := p.operand bp s (wSc w)
/-- Operand D where SD is a selector. -/
def Part.opD (p : Part) (w : DWord) (bp s : Nat) : Bool := p.operand bp s (wSd w)

/-- r of EVAL and STOP (R91, R96). -/
def Part.evalBit (p : Part) (w : DWord) (bp s : Nat) : Bool :=
  Bool.xor (p.lookup bp s (wFni w) (p.opA w bp s) (p.opB w bp s) (p.opC w bp s) (p.opD w bp s)) (wInv w)

/-- r of HOLD and, at stepping B0, of LATCH (R92, R94, R95). -/
def Part.holdBit (p : Part) (w : DWord) (bp s : Nat) : Bool :=
  Bool.xor
    (if p.opA w bp s then p.lookup bp s (wFni w) false (p.opB w bp s) (p.opC w bp s) (p.opD w bp s)
     else p.img.wsAt bp s)
    (wInv w)

/-- r of VPUT, XPUT and IPUT: D = 0 (R111). -/
def Part.putBit (p : Part) (w : DWord) (bp s : Nat) : Bool :=
  Bool.xor (p.lookup bp s (wFni w) (p.opA w bp s) (p.opB w bp s) (p.opC w bp s) false) (wInv w)

/-- r of IGET: SA below 2,048 names a boundary input bit (R112). -/
def Part.igetBit (p : Part) (w : DWord) (bp s : Nat) : Bool :=
  Bool.xor
    (p.lookup bp s (wFni w) (if wSa w < 2048 then p.bin (wSa w) else p.opA w bp s)
      (p.opB w bp s) (p.opC w bp s) (p.opD w bp s))
    (wInv w)

/-- EVAL (R91). -/
def Part.doEval (p : Part) (w : DWord) (bp s : Nat) : Part := p.resultPath w bp s (p.evalBit w bp s)

/-- HOLD (R92). -/
def Part.doHold (p : Part) (w : DWord) (bp s : Nat) : Part := p.resultPath w bp s (p.holdBit w bp s)

/-- LATCH (R94, R95). -/
def Part.doLatch (p : Part) (w : DWord) (bp s : Nat) : Part := p.resultPath w bp s (p.holdBit w bp s)

/-- The port key tile × 4 + P of a BP's vault port. -/
def portKey (bp port : Nat) : Nat := bpTile bp * 4 + port

/-- The staging registers of a port. -/
def Part.stage (p : Part) (port : Nat) : Stage := mget (fun _ => Stage.zero) p.stages port

/-- The lane a VPUT names stages a bit or is WRITE_GO (R114). -/
def laneUsed (group lane : Nat) : Bool :=
  group == 0 || (group == 1 && decide (lane < 40)) || (group == 2 && decide (lane < 7))

/-- VPUT (R115): its lane is written at the end of the step.  One on a reserved lane or group names no memory: its VAULT_RANGE
shows the number staged before the step (DESIGN CHOICE, log entry 122). -/
def Part.doVput (p : Part) (w : DWord) (bp s : Nat) : Part :=
  let r := p.putBit w bp s
  let sd := wSd w
  let g := sd / 256 % 4
  let l := sd % 64
  let pk := portKey bp (sd / 64 % 4)
  let p1 := p.resultPath w bp s r
  if laneUsed g l then { p1 with lanes := p1.lanes ++ [⟨pk, g, l, r, bp⟩] }
  else p1.hazard 9 bp 0 (p1.stage pk).mem.toNat

/-- VGET (R116): the port issues at the end of the step. -/
def Part.doVget (p : Part) (w : DWord) (bp _s : Nat) : Part :=
  { p with gets := p.gets ++ [(portKey bp (wSd w / 64 % 4), bp)] }

/-- The exchange entry of a cluster's slot in one direction (R124). -/
def Eph.xslot (e : Eph) (cl slot : Nat) (incoming : Bool) : Option XSlot :=
  e.xchg.find? fun x => x.tile * 16 + x.cluster == cl && x.slot == slot && x.incoming == incoming

/-- b of the BP whose slot executes (R125): the odd one of a pair from step 2,048 on. -/
def execB (deep : Bool) (bp s : Nat) : Nat := bpB bp + (if deep && decide (2048 ≤ s) then 1 else 0)

/-- XPUT (R125). -/
def Part.doXput (p : Part) (w : DWord) (bp s : Nat) : Part :=
  let r := p.putBit w bp s
  let slot := wSd w % 256
  let cl := bpCluster bp
  let p1 := p.resultPath w bp s r
  match p.eph.xslot cl slot false with
  | none => p1.hazard 14 bp 0 slot
  | some x =>
    if s ≤ x.sendStep then
      let k := cl * 256 + slot
      let old := mget dWord64 p1.xform k
      { p1 with xform := mset dWord64 p1.xform k (setBitsAt old (execB p.eph.deep bp s) 1 (b2n r)) }
    else p1.hazard 15 bp 0 slot

/-- The word an XGET takes: the sender's word for frame n − f, held for the slot (R126); in the start frame after an arm a slot with
f = 1 takes 0 (R128). -/
def Part.xword (p : Part) (x : XSlot) : Option DWord :=
  match p.xheld.find? fun h => h.cl == x.tile * 16 + x.cluster && h.slot == x.slot && h.frame + x.f == p.frame with
  | some h => some h.word
  | none => if p.xinit && x.f == 1 && p.frame == p.first then some 0 else none

/-- XGET (R126). -/
def Part.doXget (p : Part) (w : DWord) (bp s : Nat) : Part :=
  let slot := wSd w % 256
  match p.eph.xslot (bpCluster bp) slot true with
  | none => p.hazard 14 bp 0 slot
  | some x =>
    let p1 := if s + 1 + x.f * (p.eph.depth + 16) ≥ x.sendStep + x.budget then p else p.hazard 16 bp 0 slot
    match p.xword x with
    | some v => Part.note { p1 with img := p1.img.setXd bp v } bp 4105
    | none => p1

/-- IPUT (R129): the output bit is written at the end of the step. -/
def Part.doIput (p : Part) (w : DWord) (bp s : Nat) : Part :=
  let r := p.putBit w bp s
  let i := p.outBase bp + wSd w % 256
  let p1 := p.resultPath w bp s r
  if (p.eph.boundBit false i).isSome then { p1 with outs := p1.outs ++ [(i, r, bp)] } else p1.hazard 18 bp 0 i

/-- IGET (R112). -/
def Part.doIget (p : Part) (w : DWord) (bp s : Nat) : Part := p.resultPath w bp s (p.igetBit w bp s)

/-- STOP (R96): the earliest request of a BP in a frame is kept. -/
def Part.doStop (p : Part) (w : DWord) (bp s : Nat) : Part :=
  let r := p.evalBit w bp s
  let p1 := p.resultPath w bp s r
  if r && !(p1.stops.any fun x => x.1 == bp) then { p1 with stops := p1.stops ++ [(bp, wFni w)] } else p1

/-- MARK (R99, R100): nothing in production; in debug mode a value of 0 records MARK_FAIL. -/
def Part.doMark (p : Part) (w : DWord) (bp s : Nat) : Part :=
  if p.eph.debug then
    (if p.lookup bp s (wFni w) (p.opA w bp s) (p.opB w bp s) (p.opC w bp s) (p.opD w bp s) then p
     else p.hazard 4 bp 0 (wFni w))
  else p

/-- A reserved class (R48): the fault is taken at the end of the step. -/
def Part.doReserved (p : Part) (bp : Nat) : Part :=
  Part.hazard { p with reserved := p.reserved ++ [bp] } 1 bp 0 0

/-- The class's effect (R59). -/
def Part.doClass (p : Part) (w : DWord) (bp s : Nat) : Part :=
  match wCls w with
  | 0 => p.doEval w bp s
  | 1 => p.doHold w bp s
  | 2 => p.doLatch w bp s
  | 3 => p.doVput w bp s
  | 4 => p.doVget w bp s
  | 5 => p.doXput w bp s
  | 6 => p.doXget w bp s
  | 7 => p.doIput w bp s
  | 8 => p.doIget w bp s
  | 9 => p.doStop w bp s
  | 10 => p.doMark w bp s
  | 15 => p
  | _ => p.doReserved bp

/-- One BP executes the slot of the current step (R56, R76, R102): an uncorrectable slot executes as NOP and sets
UNIT_FAULT; otherwise the checks, the detected errors and the class's effect.  An operand read with bad parity is used as read
(R76), and as read it is taken to be the stored value (DESIGN CHOICE, log entry 121). -/
def Part.execSlot (p : Part) (bp : Nat) (e : BpErr) : Part :=
  let w := p.slot bp p.step
  if e.slotUnc then
    { p with done := p.done ++ [bp], nops := p.nops ++ [bp], err := p.err.or ⟨false, false, false, true⟩, errCl := insNat (bpCluster bp) p.errCl }
  else
    let er := slotErr w p.eph.debug e
    let p1 := { p with done := p.done ++ [bp], err := p.err.or er, errCl := if er.any then insNat (bpCluster bp) p.errCl else p.errCl }
    (if 11 ≤ wCls w ∧ wCls w ≤ 14 then p1 else p1.debugChecks w bp p.step).doClass w bp p.step

/-- The BPs of the partition that hold a listed slot at the current step, in ascending packed address. -/
def Part.listedBps (p : Part) : List Nat :=
  ((p.eph.slots.filter fun x => x.1 % 2048 == p.step % 2048).map fun x => x.1 / 2048 - p.step / 2048).filter p.hasBp

/-- Execute the slots of the listed BPs that have not executed in this step. -/
def Part.execBps (p : Part) (env : List (Nat × BpErr)) : List Nat → Part
  | [] => p
  | bp :: r =>
    if p.done.contains bp then p.execBps env r
    else
      let e := match env.find? (fun x => x.1 == bp) with | some x => x.2 | none => {}
      (p.execSlot bp e).execBps env r

/-- Every BP of the partition has executed its slot of the step: those that hold a listed slot, and those whose detectors
reported something; an unlisted slot is a NOP and has no effect (R101). -/
def Part.execAll (p : Part) (env : List (Nat × BpErr)) : Part :=
  (p.execBps env p.listedBps).execBps env ((env.map (·.1)).filter p.hasBp)

/-- The exchange words the slots of this step wait for (R126): an XGET on a declared incoming slot whose word is absent. -/
def Part.xgetAbsent (p : Part) : Bool :=
  p.listedBps.any fun bp =>
    let w := p.slot bp p.step
    wCls w == 6 &&
      match p.eph.xslot (bpCluster bp) (wSd w % 256) true with
      | some x => (p.xword x).isNone
      | none => false

/-- A depot-backed read whose delivery step is the current one has not arrived (R118). -/
def Part.depotAbsent (p : Part) : Bool :=
  p.reads.any fun r => !r.onChip && r.due == p.step && !r.arrived && !r.stale

/-- The lowest absent cause at an evaluation step, if any (R41, R44). -/
def Part.absent (p : Part) : Option Stall :=
  if p.depotAbsent then some .depot else if p.xgetAbsent then some .xget else none

end Sys2Proof.Machine
end

