-- ==== Sys2Proof/Machine/Health.lean ====
section
/-!
DEFINITION. Health scores and what they set off (R338 to R341, R344, R345), the maps between logical and physical units (R80,
R357), and the failures of stack words (R350).
-/
namespace Sys2Proof.Machine

/-- Take a free number (R-silent values; log entry 2). -/
def State.fresh (s : State) : State × Nat := ({ s with freeCtr := s.freeCtr + 1 }, s.freeCtr)

/-- The map register and the bit of logical cluster c of tile t (SPR_CMAP, R357). -/
def cmapAt (t c : Nat) : Nat × Nat :=
  (if c / 6 = 0 then Reg.SPR_CMAP0 t else if c / 6 = 1 then Reg.SPR_CMAP1 t else Reg.SPR_CMAP2 t, 5 * (c % 6))

/-- The physical cluster that holds logical cluster c of tile t. -/
def State.physOf (s : State) (t c : Nat) : Nat := s.fld (cmapAt t c).1 (cmapAt t c).2 5

/-- The logical cluster that a physical cluster holds, if any. -/
def State.logicalOf (s : State) (t p : Nat) : Option Nat := (List.range 16).find? fun c => s.physOf t c == p

/-- SPR_CHEALTH of physical cluster k = 17 t + p. -/
def chealth (k : Nat) : Nat := Reg.SPR_CHEALTH (k / 17) (k % 17)
/-- SPR_BHEALTH of physical bank k = 264 d + p. -/
def bhealth (k : Nat) : Nat := Reg.SPR_BHEALTH (k / 264) (k % 264)

/-- The physical bank (264 d + p) of a packed logical bank. -/
def State.physBank (s : State) (b : Nat) : Nat := b / 256 * 264 + s.fld (Reg.SPR_BMAP (b / 256) (b % 256)) 0 9

/-- The packed logical bank of a physical bank, if it holds one. -/
def State.logicalBank (s : State) (k : Nat) : Option Nat :=
  ((List.range 256).map fun j => k / 264 * 256 + j).find? fun b => s.physBank b == k

/-- WATCH. -/
def State.watch (s : State) : Nat := s.fld Reg.SPR_THRESH 0 8
/-- ACCESSION: a value at or below WATCH acts as WATCH + 1 (R357). -/
def State.accAt (s : State) : Nat := max (s.fld Reg.SPR_THRESH 8 8) (s.watch + 1)
/-- AUTO_EN. -/
def State.autoEn (s : State) : Bool := s.fld Reg.SPR_CTRL 0 1 == 1

/-- The partition that holds a tile (R18). -/
def State.tileHolder (s : State) (t : Nat) : Option (Fin 8) :=
  (List.finRange 8).find? fun n => (s.part n).state != .empty && (s.part n).eph.hasTile t

/-- The partition that holds a unit: the tile's, or the one a bank is lent to. -/
def State.unitHolder (s : State) (q : Pend) : Option (Fin 8) :=
  if q.kind = 1 then s.tileHolder (q.unit / 16)
  else if h : s.loanOwner q.unit < 8 then some ⟨s.loanOwner q.unit, h⟩ else none

/-- A unit entry of R331. -/
def unitEntry (kind id action : Nat) : Nat := kind + id % 2 ^ 22 * 2 ^ 4 + action % 64 * 2 ^ 26

/-- Logical id of a unit in R331: tile and logical cluster, or packed bank. -/
def Pend.id (q : Pend) : Nat := if q.kind = 1 then q.unit / 16 + q.unit % 16 * 256 else q.unit

/-- NO_SPARE on the privileged event mailboxes (R344, R477): no action is stated for its unit entry, so those bits are free. -/
def State.noSpare (s : State) (q : Pend) : State :=
  let f := s.fresh
  f.1.notice 0xF002 4 (unitEntry q.kind q.id (Config.freeNat f.2)) none

/-- SPR_STATUS.PENDING shows the accessions waiting. -/
def State.setPend (s : State) (l : List Pend) : State :=
  { s with spr := { s.spr with pend := l } }.setFld Reg.SPR_STATUS 0 8 (min 255 l.length)

/-- The idle physical cluster of a tile; 0x1F none. -/
def State.idleClu (s : State) (t : Nat) : Nat := s.fld (Reg.SPR_TILE t) 0 5

/-- Tiles of the part with an idle cluster (SPR_STATUS.IDLE). -/
def State.idleTiles (s : State) : Nat := ((List.range 256).filter fun t => s.hasDie (t / 64) && s.idleClu t != 0x1F).length

/-- Begin to stage the image of logical cluster c into the tile's idle cluster (R341): an image of an equal or higher score
stays. -/
def State.stageReq (s : State) (t c : Nat) : State :=
  let has : Option (Nat × Nat) := (s.spr.staging ++ s.spr.staged).find? fun x => x.1 == t
  let score := fun (c : Nat) => s.fld (Reg.SPR_CHEALTH t (s.physOf t c)) 0 8
  let keep := match has with
    | some x => x.2 == c || decide (score c ≤ score x.2)
    | none => false
  if s.idleClu t = 0x1F ∨ (s.tileHolder t).isNone ∨ keep = true then s
  else
    let s1 := { s with spr := { s.spr with staging := s.spr.staging.filter (fun (x : Nat × Nat) => x.1 != t) ++ [(t, c)],
                                           staged := s.spr.staged.filter (fun (x : Nat × Nat) => x.1 != t) } }
    (s1.setFld (Reg.SPR_TILE t) 5 1 0).setFld (Reg.SPR_CHEALTH t (s1.idleClu t)) 8 3 1

/-- The score of the unit a waiting accession is for, with its physical number. -/
def State.pendScore (s : State) (q : Pend) : Nat × Nat :=
  if q.kind = 1 then
    let p := s.physOf (q.unit / 16) (q.unit % 16)
    (s.fld (Reg.SPR_CHEALTH (q.unit / 16) p) 0 8, p)
  else (s.fld (bhealth (s.physBank q.unit)) 0 8, s.physBank q.unit)

/-- Idle spare banks of a die, as physical numbers. -/
def State.idleBanks (s : State) (d : Nat) : List Nat :=
  (List.range 264).filter fun p => s.fld (Reg.SPR_BHEALTH d p) 8 3 == 1

/-- A spare of the unit's kind is left for it (R337, R339). -/
def State.hasSpare (s : State) (q : Pend) : Bool :=
  if q.kind = 1 then s.idleClu (q.unit / 16) != 0x1F
  else decide ((s.spr.pend.filter fun x => x.kind == 2 && x.unit / 256 == q.unit / 256 && x.unit != q.unit).length <
    (s.idleBanks (q.unit / 256)).length)

/-- An accession is due (R339, R344): one cluster of a tile waits, the one of the higher score, or the lower physical number on
a tie; the other posts NO_SPARE. -/
def State.demand (s : State) (q : Pend) : State :=
  if s.spr.pend.contains q then s
  else if s.hasSpare q then
    match s.spr.pend.find? (fun x => x.kind == 1 && q.kind == 1 && x.unit / 16 == q.unit / 16) with
    | some x =>
      let a := s.pendScore q
      let b := s.pendScore x
      if b.1 < a.1 ∨ (a.1 = b.1 ∧ a.2 < b.2) then
        (s.setPend ((s.spr.pend.filter fun y => y != x) ++ [q])).noSpare x
      else s.noSpare q
    | none => s.setPend (s.spr.pend ++ [q])
  else s.noSpare q

/-- SPR_LAST_ACC and SPR_LAST_ACC_DETAIL. -/
def State.lastAcc (s : State) (entry from_ new path result : Nat) : State :=
  (s.setReg Reg.SPR_LAST_ACC (BitVec.ofNat 32 entry)).setReg Reg.SPR_LAST_ACC_DETAIL
    (BitVec.ofNat 32 (from_ % 2 ^ 13 + new % 2 ^ 13 * 2 ^ 13 + path % 4 * 2 ^ 26 + result % 4 * 2 ^ 28 + 2 ^ 31))

/-- The expected generation of a unit rises by one, modulo 16 (R346). -/
def State.genUp (s : State) (addr : Nat) : State := s.setFld addr 12 4 (s.fld addr 12 4 + 1)

/-- An IDLE or STAGED cluster is retired (R345).  It has no logical place: the id of its unit entry and the TO and PATH of the
detail are free. -/
def State.deaccCluster (s : State) (t p : Nat) : State :=
  let a := Reg.SPR_CHEALTH t p
  let s1 := (s.genUp a).setFld a 8 3 3
  let s2 := (s1.setFld (Reg.SPR_TILE t) 0 6 0x1F).setFld (Reg.SPR_TILE t) (8 + p) 1 1
  let s3 := { s2 with spr := { s2.spr with staging := s2.spr.staging.filter (fun (x : Nat × Nat) => x.1 != t),
                                           staged := s2.spr.staged.filter fun x => x.1 != t } }
  let f := s3.fresh
  let g := Config.freeNat f.2
  f.1.lastAcc (unitEntry 1 g 2) (t + p * 256) (g / 2 ^ 22) (g / 2 ^ 35) 0

/-- An idle bank is retired (R345). -/
def State.deaccBank (s : State) (k : Nat) : State :=
  let s1 := (s.genUp (bhealth k)).setFld (bhealth k) 8 3 3
  let f := s1.fresh
  let g := Config.freeNat f.2
  f.1.lastAcc (unitEntry 2 g 2) (k / 264 * 512 + k % 264) (g / 2 ^ 22) (g / 2 ^ 35) 0

/-- What the score of physical cluster k sets off (R339). -/
def State.actCluster (s : State) (k : Nat) : State :=
  let t := k / 17
  let p := k % 17
  let score := s.fld (chealth k) 0 8
  let st := s.fld (chealth k) 8 3
  if s.autoEn then
    if (st = 1 ∨ st = 2) ∧ s.accAt ≤ score then s.deaccCluster t p
    else
      match s.logicalOf t p with
      | some c =>
        let s1 := if s.watch ≤ score ∧ s.fld Reg.SPR_CTRL 1 1 = 1 ∧ st = 0 then s.stageReq t c else s
        if s1.accAt ≤ score ∧ st = 0 then s1.demand ⟨1, t * 16 + c⟩ else s1
      | none => s
  else s

/-- Points are added to the score of physical cluster k (R338). -/
def State.scoreCluster (s : State) (k points : Nat) : State := (s.addFld (chealth k) 0 8 points).actCluster k

/-- What the score of physical bank k sets off (R339). -/
def State.actBank (s : State) (k : Nat) : State :=
  let score := s.fld (bhealth k) 0 8
  let st := s.fld (bhealth k) 8 3
  if s.autoEn ∧ s.accAt ≤ score then
    if st = 1 then s.deaccBank k
    else if st = 0 then
      (match s.logicalBank k with
       | some b => s.demand ⟨2, b⟩
       | none => s)
    else s
  else s

/-- Is the address a SPR_CHEALTH register: its key 17 t + p. -/
def chealthKey (a : Nat) : Option Nat :=
  let b := Reg.SPR_CHEALTH 0 0
  if b ≤ a ∧ a < b + 4 * 4352 ∧ (a - b) % 4 = 0 then some ((a - b) / 4) else none

/-- Is the address a SPR_BHEALTH register: its key 264 d + p. -/
def bhealthKey (a : Nat) : Option Nat :=
  let b := Reg.SPR_BHEALTH 0 0
  if b ≤ a ∧ a < b + 4 * 1056 ∧ (a - b) % 4 = 0 then some ((a - b) / 4) else none

/-- Points are added to the score of physical bank k (R338). -/
def State.scoreBank (s : State) (k points : Nat) : State := (s.addFld (bhealth k) 0 8 points).actBank k

/-- A score calls for an accession, or for staging (R339). -/
def State.scoreCalls (s : State) (score : Nat) : Bool × Bool :=
  (s.autoEn && decide (s.accAt ≤ score), s.autoEn && s.fld Reg.SPR_CTRL 1 1 == 1 && decide (s.watch ≤ score))

/-- SPR_CTRL or SPR_THRESH changed (R339): the scores that now call for what they did not in `old` act. -/
def State.actScores (s old : State) : State :=
  s.regs.foldl (fun (t : State) x =>
    let score := bitsAt x.2 0 8
    let a := s.scoreCalls score
    let b := old.scoreCalls score
    if (a.1 && !b.1) || (a.2 && !b.2 && !b.1) then
      match chealthKey x.1, bhealthKey x.1 with
      | some k, _ => t.actCluster k
      | none, some k => t.actBank k
      | none, none => t
    else t) s

/-- Charge the physical cluster that holds logical cluster tile × 16 + c. -/
def State.chargeCluster (s : State) (cl points : Nat) : State :=
  s.scoreCluster (17 * (cl / 16) + s.physOf (cl / 16) (cl % 16)) points

/-- Charge several clusters. -/
def State.chargeAll (s : State) (points : Nat) : List Nat → State
  | [] => s
  | c :: r => (s.chargeCluster c points).chargeAll points r

/-- A corrected instruction-slot error of logical cluster cl: every 4,096th is a point (R338). -/
def State.slotCorrected (s : State) (cl : Nat) : State :=
  let k := 17 * (cl / 16) + s.physOf (cl / 16) (cl % 16)
  let a := mget dNat s.spr.slotAcc k + 1
  let s1 := { s with spr := { s.spr with slotAcc := mset dNat s.spr.slotAcc k (a % 4096) } }
  if a = 4096 then s1.scoreCluster k 1 else s1

/-- Corrected slots of a step, by executing BP. -/
def State.slotsCorrected (s : State) : List Nat → State
  | [] => s
  | bp :: r => (s.slotCorrected (bp / 64)).slotsCorrected r

/-- A corrected vault error: every 4,096th of a bank is a point (R338). -/
def State.bankCorrected (s : State) (b : Nat) : State :=
  let k := s.physBank b
  let a := mget dNat s.spr.bankAcc k + 1
  let s1 := { s with spr := { s.spr with bankAcc := mset dNat s.spr.bankAcc k (a % 4096) } }
  if a = 4096 then s1.scoreBank k 1 else s1

/-- Key of a stack word: an instruction slot of a BP at a step, or a route word; 128 words of 8 bytes make a row of 1 KiB (R350). -/
def slotWord (bp step : Nat) : Nat := 2 * ((bp + step / 2048) * 2048 + step % 2048)
/-- Key of route word w of entry k of tile t. -/
def routeWord (t k w : Nat) : Nat := 2 * ((t * 2048 + k) * 128 + w) + 1
/-- Row of a stack word. -/
def rowOf (key : Nat) : Nat := key / 2 / 128 * 2 + key % 2
/-- Tile of a row. -/
def rowTile (row : Nat) : Nat := if row % 2 = 0 then row / 2 / 16 / 1024 else row / 2 / 2048
/-- The cluster that a stack word belongs to: the BP's, or that of the descriptor or select that the word begins with (R142); a
select of the tile's own lines is charged to cluster 0 (log entry 64). -/
def wordCluster (key : Nat) : Nat :=
  if key % 2 = 0 then key / 2 / 2048 / 64
  else
    let h := 4 * (key / 2 % 128)
    key / 2 / 128 / 2048 * 16 + (if h < 256 then h / 16 else if h < 320 then (h - 256) / 4 else if h < 400 then (h - 320) / 5 else 0)

/-- A word is noted for its row, unless one of the row is. -/
def addRow (l : List Nat) (key : Nat) : List Nat := if l.any fun x => rowOf x == rowOf key then l else insNat key l

/-- The fetches of one step (R350): words that came uncorrectable, among the words fetched in it; a word that was so the last
time too has its row remapped at the next boundary. -/
def State.stackFetch (s : State) (fetched : Nat → Bool) (bad : List Nat) : State :=
  let twice := bad.filter fun k => s.spr.rowFail.contains k
  { s with spr := { s.spr with rowFail := (s.spr.rowFail.filter fun k => !fetched k) ++ bad,
                               rowDue := twice.foldl addRow s.spr.rowDue } }

/-- The boundary of a partition remaps the rows of words (R350): a repair row of the quarter is used, or the cluster is charged
32. -/
def State.remapRows (s : State) : List Nat → State
  | [] => s
  | k :: t =>
    let a := Reg.SPR_ROWS (rowTile (rowOf k) / 16)
    (if s.fld a 10 10 = 0 then s.chargeCluster (wordCluster k) 32
     else (s.setFld a 10 10 (s.fld a 10 10 - 1)).addFld a 0 10 1).remapRows t

/-- Rows due in the tiles of a shape are remapped. -/
def State.remapDue (s : State) (e : Eph) : State :=
  let mine := s.spr.rowDue.filter fun k => e.hasTile (rowTile (rowOf k))
  let s1 := { s with spr := { s.spr with rowDue := s.spr.rowDue.filter fun k => !e.hasTile (rowTile (rowOf k)) } }
  s1.remapRows mine

end Sys2Proof.Machine
end

