-- ==== Sys2Proof/Machine/Vault.lean ====
section
/-!
DEFINITION. Vault banks (R180 to R202): words in memory, loans (R186 to R190), who reaches a bank (R191), the write log
(R194 to R196), meeting accesses (R197, R198) and the rejection and error registers (R202).  A bank is named by its packed
address, die × 256 + logical bank.
-/
namespace Sys2Proof.Machine

/-- The 64-bit word at a byte address, least significant byte first (R7, R180). -/
def memRd64 (m : List Host.Cell) (a : Nat) : DWord :=
  BitVec.ofNat 64 ((List.range 8).foldl (fun acc i => acc + (mget dByte m (a + i)).toNat * 2 ^ (8 * i)) 0)

/-- The canonical form of vault memory: addresses strictly rising, and no byte listed that equals what an unlisted address reads as. -/
abbrev Memory.wf (m : List Host.Cell) : Bool := mwf dByte m

/-- The bytes of a word. -/
def dwordBytes (a : Nat) (v : DWord) : List (Nat × Byte) :=
  (List.range 8).map fun i => (a + i, BitVec.ofNat 8 (v.toNat / 2 ^ (8 * i)))

/-- Store a 64-bit word. -/
def memWr64 (m : List Host.Cell) (a : Nat) (v : DWord) : List Host.Cell := msetAll dByte m (dwordBytes a v)

/-- Byte address of a word of a bank. -/
def bankAddr (bank word : Nat) : Nat := bank * 65536 + word * 8

/-- The word stored in a bank. -/
def State.vword (s : State) (bank word : Nat) : DWord := memRd64 s.vlt.mem (bankAddr bank word)

/-- A full-word write, with new check bits: it ends a double-bit error (R183). -/
def State.setVword (s : State) (bank word : Nat) (v : DWord) : State :=
  { s with vlt := { s.vlt with mem := memWr64 s.vlt.mem (bankAddr bank word) v,
                               dbe := s.vlt.dbe.filter fun k => k != bank * 8192 + word } }

/-- STATE of a loan: 0 LENT, 1 DRAINING, 2 SCRUBBING. -/
def State.loanState (s : State) (bank : Nat) : Nat := s.fld (Reg.VLT_LOAN (bank / 256) (bank % 256)) 8 2

/-- Count and log a rejection (R191, R202): VLT_REJECT and VLT_LAST_REJECT. -/
def State.vltReject (s : State) (bank requester : Nat) (portE : Bool) : State :=
  let s1 := s.addFld Reg.VLT_REJECT 0 32 1
  s1.setReg Reg.VLT_LAST_REJECT
    (BitVec.ofNat 32 (bank % 1024 + requester * 2 ^ 10 + s.loanOwner bank * 2 ^ 14 + b2n portE * 2 ^ 18 + 2 ^ 31))

/-- A single-bit error corrected on a die (R183), counted for the bank's health (R338). -/
def State.vltCorr (s : State) (bank : Nat) : State := (s.addFld (Reg.VLT_CORR (bank / 256)) 0 32 1).bankCorrected bank

/-- A double-bit error: counted, logged and charged to the bank (R183, R202, R338).  Path 0 port E, 1 NoC input, 2 register input, 3 patrol. -/
def State.vltDbe (s : State) (bank word path : Nat) : State :=
  let s1 := s.addFld (Reg.VLT_DBE (bank / 256)) 0 32 1
  let s2 := s1.setReg Reg.VLT_LAST_DBE (BitVec.ofNat 32 (bank % 1024 + word % 8192 * 2 ^ 10 + path * 2 ^ 23 + 2 ^ 31))
  { s2 with vlt := { s2.vlt with dbe := insNat (bank * 8192 + word) s2.vlt.dbe } }.scoreBank (s2.physBank bank) 32

/-- The word has a double-bit error that nothing has rewritten (R183). -/
def State.isDbe (s : State) (bank word : Nat) : Bool := s.vlt.dbe.contains (bank * 8192 + word)

/-- The low `w` bits of a word, 0 above (R113). -/
def maskWidth (w : Nat) (v : DWord) : DWord := BitVec.ofNat 64 (v.toNat % 2 ^ w)

/-- Bank and word of loan-set word q (R185). -/
def LoanSet.place (l : LoanSet) (q : Nat) : Nat × Nat :=
  let k := l.banks.length
  if l.contiguous then (l.die * 256 + l.banks.getD (q / 8192) 0, q % 8192)
  else (l.die * 256 + l.banks.getD (q % k) 0, q / k)

/-- The loan set of a die. -/
def Eph.loanOn (e : Eph) (die : Nat) : Option LoanSet := e.loans.find? fun l => l.die == die

/-- The log entries of partition n for a word, newest first (R194). -/
def State.logged (s : State) (n : Fin 8) (bank word : Nat) : List LogE :=
  (s.part n).vlog.filter fun x => x.bank == bank && x.word == word

/-- Any partition's log holds the word. -/
def State.wordLogged (s : State) (bank word : Nat) : Bool :=
  (List.finRange 8).any fun n => !(s.logged n bank word).isEmpty

/-- The word as port N sees it: the oldest logged content, else the stored word (R194). -/
def State.vwordN (s : State) (bank word : Nat) : DWord :=
  match ((List.finRange 8).flatMap fun n => s.logged n bank word).getLast? with
  | some x => x.old
  | none => s.vword bank word

/-- VAULT_BUSY_N is released: with EN = 0 (R198), and outside RUN, HOLD and NAP (R539). -/
def State.releaseBusy (s : State) : State := { s with vlt := { s.vlt with busyLow := false, busyLeft := 0 } }

/-- The ball may be driven (R198, R539). -/
def State.busyDriven (s : State) : Bool :=
  s.fld Reg.VLT_BUSY_PIN 0 1 == 1 && s.fld Reg.CFG_STATUS 0 4 == 8 && s.pwr.phase != .dormant && !s.pwr.tripped

/-- A BUSY completion (R198): counted, and on a bank lent to HDMA the ball is driven low for its width. -/
def State.vltBusy (s : State) (bank : Nat) : State :=
  let s1 := s.addFld (Reg.VLT_BUSY (bank / 256)) 0 32 1
  if s.loanOwner bank = 8 ∧ s.busyDriven = true then
    { s1 with vlt := { s1.vlt with busyLow := true, busyLeft := max 16 (s.fld Reg.VLT_BUSY_PIN 8 8) } }
  else s1

/-- How the later of two meeting accesses ends (R197): it proceeds, or completes with BUSY.  The first argument is the earlier access, the second says whether this one writes. -/
inductive MeetEnd where
  | proceeds | busy
  deriving DecidableEq, Repr

/-- The outcome for the later access (R197). -/
def meetLater (m : Meet) (write : Bool) : MeetEnd :=
  match m with
  | .none => .proceeds
  | .read => if write then .busy else .proceeds
  | .fullWrite => .busy
  | .partialWrite => .busy

/-- A recovering partition's banks and segments answer port N with RETRY, but for the Curator and its own engine (R327). -/
def State.fenced (s : State) (ownerCode : Nat) : Bool :=
  if h : ownerCode < 8 then (s.ck ⟨ownerCode, h⟩).recov.isSome else false

/-- Port N refuses a new request because of a handover, a recovery or a full queue (R181, R189, R327); a request that holds a credit
finds its queue entry (R213, R215).  `engine` says that the partition's own checkpoint engine issues it. -/
def State.portNRefuses (s : State) (bank owner : Nat) (engine credited : Bool) : Option Status :=
  if s.loanState bank ≠ 0 then some (if owner = s.loanOwner bank then .retry else .notOwner)
  else if s.fenced (s.loanOwner bank) ∧ owner ≠ 13 ∧ !engine then some .retry
  else if credited = false ∧ 16 ≤ (s.vlt.qNoc.filter fun q => q.bank == bank).length then some .retry
  else none

/-- The status of a refused request, and the state with a rejection counted and logged where its owner code differs (R191). -/
def State.refuse (s : State) (bank owner : Nat) (st : Status) : State :=
  if st = .notOwner then s.vltReject bank owner false else s

/-- A unit's access to a bank at port N (R181, R189, R191, R327): the status that refuses it, if any. -/
def State.unitAsk (s : State) (bank owner : Nat) : Option Status :=
  match s.portNRefuses bank owner false false with
  | some st => some st
  | none => if owner ≠ s.loanOwner bank then some .notOwner else none

/-- A unit of the part writes full words of a bank at port N (R191, R196): all, or none with the refusal counted.  Answers whether it did. -/
def State.unitWrite (s : State) (bank owner word : Nat) (vs : List DWord) : State × Bool :=
  match s.unitAsk bank owner with
  | some st => (s.refuse bank owner st, false)
  | none => ((vs.zip (List.range vs.length)).foldl (fun (t : State) x => t.setVword bank (word + x.2) x.1) s, true)

/-- What SECDED makes of a port N read of a word (R183): counted, and logged when it cannot be corrected.  Answers whether it is a
double-bit error; the marks of earlier ones stand in the state. -/
def State.readEcc (s : State) (bank word path : Nat) (ecc : Ecc) : State × Bool :=
  if s.isDbe bank word || ecc == .double then (s.vltDbe bank word path, true)
  else if ecc = .single then (s.vltCorr bank, false)
  else (s, false)

/-- Replace the bytes a mask enables. -/
def mergeBytes (old new : DWord) (bmask : Nat) : DWord :=
  BitVec.ofNat 64 ((List.range 8).foldl
    (fun acc i => acc + (if bitOf bmask i then bitsAt new (8 * i) 8 else bitsAt old (8 * i) 8) * 2 ^ (8 * i)) 0)

/-- Zero all 8,192 words of a bank (R189): its bytes leave the list and its error marks end. -/
def State.scrubBank (s : State) (bank : Nat) : State :=
  { s with vlt := { s.vlt with mem := s.vlt.mem.filter fun c => !(decide (bank * 65536 ≤ c.1) && decide (c.1 < (bank + 1) * 65536)),
                               dbe := s.vlt.dbe.filter fun k => k / 8192 != bank } }

end Sys2Proof.Machine
end

