-- ==== Sys2Proof/Machine/Photometer.lean ====
section
/-!
DEFINITION. The Photometer (R400 to R423): gathers and handovers, arithmetic and circular addressing, the instructions of its
core, results, and the host's control of it.  A row of the core's instruction set runs the instruction at the program counter
of the named die when that is the instruction the row names.
-/
namespace Sys2Proof.Machine

/-- Photometer of die d. -/
def State.phmOf (s : State) (d : Fin 4) : Phm := vget s.phm d
/-- Photometer of die d replaced. -/
def State.setPhm (s : State) (d : Fin 4) (p : Phm) : State := { s with phm := vset s.phm d p }

/-- Default of a P word. -/
def dProg : Nat → Word := fun _ => 0
/-- Default of an X or Y word. -/
def dPWord : Nat → PWord := fun _ => 0

/-- X at an address (R406): the reserved stretch reads 0. -/
def Phm.x (p : Phm) (a : Nat) : PWord := if 0x0440 ≤ a % 8192 ∧ a % 8192 ≤ 0x07FF then 0 else mget dPWord p.xmem (a % 8192)
/-- Y at an index (R405). -/
def Phm.y (p : Phm) (a : Nat) : PWord := mget dPWord p.ymem (a % 4096)
/-- Store into X. -/
def Phm.putX (p : Phm) (a : Nat) (v : Nat) : Phm := { p with xmem := mset dPWord p.xmem (a % 8192) (BitVec.ofNat 24 v) }

/-- Store several X words. -/
def Phm.putXs (p : Phm) : List (Nat × Nat) → Phm
  | [] => p
  | (a, v) :: r => (p.putX a v).putXs r

/-- A partition's cluster run on a die: first index and count (R406). -/
def Eph.clusterRun (e : Eph) (d : Nat) : Nat × Nat :=
  if bitOf e.dieMask d then (16 * e.tFirst, 16 * (e.tLast + 1 - e.tFirst)) else (0, 0)

/-- A handover of partition n (R403): its gather sums enter the count view, its descriptor is written, its gathers clear and
BATCH_n is pending; a batch of more than k_n frames waited for its view and carries LATE, one that a halt asked for FLUSH.  `k` is the decimation factor that takes effect now. -/
def Phm.handover (p : Phm) (n : Fin 8) (k : Nat) : Phm × Bool :=
  let r := vget p.gRun n
  let g := vget p.gCount n
  let late := decide (vget p.kCur n < g)
  let first := vget p.gFirst n
  let desc := 0x0400 + 8 * n.val
  let q := p.putXs (((List.range r.2).map fun i => (r.1 + i, mget dNat p.gather (r.1 + i))) ++
    [(desc, g), (desc + 1, first), (desc + 2, first / 2 ^ 24),
     (desc + 3, b2n (vget p.gSat n) + 2 * b2n (vget p.flush n) + 4 * b2n late), (desc + 4, r.2), (desc + 5, r.1)])
  ({ q with gather := q.gather.filter fun x => !(decide (r.1 ≤ x.1) && decide (x.1 < r.1 + r.2)),
            gCount := vset q.gCount n 0, gSat := vset q.gSat n false, flush := vset q.flush n false,
            batch := vset q.batch n true, kCur := vset q.kCur n k }, late)

/-- A handover takes place when enough frames are gathered, or a flush is asked for, and the view is free (R403, R404). -/
def State.tryHandover (s : State) (d : Fin 4) (n : Fin 8) : State :=
  let p := s.phmOf d
  let g := vget p.gCount n
  if !(vget p.batch n) ∧ 0 < g ∧ (vget p.kCur n ≤ g ∨ vget p.flush n) then
    let r := p.handover n (s.fld (Reg.PHM_DECIM d n) 0 8)
    let s1 := s.setPhm d r.1
    if r.2 then s1.addFld (Reg.PHM_LATE d n) 0 32 1 else s1
  else s

/-- Add a frame's activity counts to the gathers of a die (R401). -/
def Phm.addCounts (p : Phm) (n : Fin 8) : List (Nat × Nat) → Phm
  | [] => p
  | (i, c) :: r =>
    let v := mget dNat p.gather i + c
    Phm.addCounts { p with gather := mset dNat p.gather i (min v 0xFFFFFF),
                           gSat := if 0xFFFFFF < v then vset p.gSat n true else p.gSat } n r

/-- C12 of a commit of partition n (R401, R403): counts are keyed by packed cluster, die × 1,024 + index. -/
def State.gatherFrame (s : State) (n : Fin 8) (frame : Nat) (acts : List (Nat × Nat)) : State :=
  (List.finRange 4).foldl (fun t (d : Fin 4) =>
    if bitOf (s.part n).eph.dieMask d then
      let p := t.phmOf d
      let g := vget p.gCount n
      let k := if vget p.kCur n = 0 then t.fld (Reg.PHM_DECIM d n) 0 8 else vget p.kCur n
      let p1 := { p with gFirst := if g = 0 then vset p.gFirst n frame else p.gFirst,
                         gCount := vset p.gCount n (min (g + 1) 0xFFFFFF),
                         kCur := vset p.kCur n k, gRun := vset p.gRun n ((s.part n).eph.clusterRun d) }
      let mine := (acts.filter fun a => a.1 / 1024 == d.val).map fun a => (a.1 % 1024, a.2)
      (t.setPhm d (p1.addCounts n mine)).tryHandover d n
    else t) s

/-- Partition n halts, faults, is unloaded or enters NAP (R404): what it gathered is handed over with FLUSH. -/
def State.flushGather (s : State) (n : Fin 8) : State :=
  (List.finRange 4).foldl (fun t d =>
    let p := t.phmOf d
    if 0 < vget p.gCount n then (t.setPhm d { p with flush := vset p.flush n true }).tryHandover d n else t) s

/-- Step clock of a die in twentieths of a GHz (R40): OP0 1.25, OP1 1.00, OP2 0.80, OP3 0.50. -/
def opClock (op : Nat) : Nat :=
  match op with
  | 0 => 25
  | 1 => 20
  | 2 => 16
  | _ => 10

/-- The Curator sets the decimation factors of a die (R402), for its operating point. -/
def State.setDecim (s : State) (d : Fin 4) (op : Nat) : State :=
  let here := (List.finRange 8).filter fun n => (s.part n).state != .empty && bitOf (s.part n).eph.dieMask d
  let w2 := (here.map fun n => ((s.part n).eph.clusterRun d).2 + 2 * s.fld (Reg.PHM_BUDGET d) 0 10).foldl (· + ·) 0
  (List.finRange 8).foldl (fun t n =>
    if here.contains n then
      let den := 40 * ((s.part n).eph.depth + 16)
      let k := max 1 ((w2 * opClock op + den - 1) / den)
      t.setReg (Reg.PHM_DECIM d n) (BitVec.ofNat 32 (min k 255 + 256))
    else if t.fld (Reg.PHM_DECIM d n) 8 1 = 1 then t.setReg (Reg.PHM_DECIM d n) 0 else t) s

/-- Operating point of a die (PWR_DIE_OP.OP). -/
def State.dieOp (s : State) (d : Nat) : Nat := s.fld (Reg.PWR_DIE_OP d) 0 2

/-- The decimation factors of every die, at an arm, a load, an unload or a change of operating point (R402). -/
def State.decimAll (s : State) : State :=
  (List.finRange 4).foldl (fun (t : State) (d : Fin 4) => if t.hasDie d.val then t.setDecim d (t.dieOp d.val) else t) s

/-- The exact product of two operands (R408). -/
def phmProduct (x y : PWord) (signed : Bool) : Int := if signed then x.toInt * y.toInt else (x.toNat : Int) * (y.toNat : Int)

/-- Accumulate exactly and wrap to 56 bits, with OVF when the exact sum lies outside (R408). -/
def Phm.accumulate (p : Phm) (a : Fin 4) (base v : Int) : Phm :=
  let e := base + v
  { p with acc := vset p.acc a (BitVec.ofInt 56 e), ovf := p.ovf || decide (e < -(2 ^ 55)) || decide (2 ^ 55 - 1 < e) }

/-- Narrowing (R409): the value and whether it saturated. -/
def narrow (a : Int) (sh w : Nat) (g : Bool) : Int × Bool :=
  let v := if 0 < sh then (a + 2 ^ (sh - 1)) / 2 ^ sh else a
  let lo : Int := if g then -(2 ^ (w - 1)) else 0
  let hi : Int := if g then 2 ^ (w - 1) - 1 else 2 ^ w - 1
  if v < lo then (lo, true) else if hi < v then (hi, true) else (v, false)

/-- Post-modify of IXi by m (R410). -/
def Phm.circ (p : Phm) (i : Fin 4) (m : Int) : Phm :=
  let ix := (vget p.ix i).toNat
  let bx := (vget p.bx i).toNat
  let lx := (vget p.lx i).toNat
  let lin := ((ix : Int) + m) % 8192
  let off := (ix + 8192 - bx) % 8192
  let v : Int := if lx = 0 then lin else if off < lx then ((bx : Int) + ((off : Int) + m) % lx) % 8192 else lin
  { p with ix := vset p.ix i (BitVec.ofInt 13 v) }

/-- The step a post-modify code names (R410). -/
def pmStep (pm : Nat) : Int :=
  match pm with
  | 0 => 0
  | 1 => 1
  | 2 => 2
  | _ => -1

/-- Two bits of an instruction as an index. -/
def idx2 (w : Word) (lo : Nat) : Fin 4 := ⟨bitsAt w lo 2, Nat.mod_lt _ (by decide)⟩

/-- An operand through its selector (R411): memory through IX, or D. -/
def Phm.opnd (p : Phm) (sel : Nat) (yMem : Bool) : PWord :=
  let i : Fin 4 := ⟨sel % 4, Nat.mod_lt _ (by decide)⟩
  if sel / 4 = 0 then (if yMem then p.y (vget p.ix i).toNat else p.x (vget p.ix i).toNat) else vget p.dreg i

/-- Post-modify of a selector's side (R411, R412). -/
def Phm.sideMod (p : Phm) (sel pm : Nat) : Phm :=
  if sel / 4 = 0 then p.circ ⟨sel % 4, Nat.mod_lt _ (by decide)⟩ (pmStep pm) else p

/-- The core halts with an error, PC naming the instruction (R416). -/
def Phm.stopErr (p : Phm) (e : Nat) : Phm := { p with running := false, waiting := false, err := e, rep := none }

/-- Where the program counter goes after an instruction (R413): on, or round the repeat block. -/
def Phm.advance (p : Phm) : Phm :=
  match p.rep with
  | some r =>
    if p.pc = r.last then
      if 1 < r.left then { p with pc := r.first, rep := some { r with left := r.left - 1 } }
      else { p with pc := (r.last + 1) % 4096, rep := none }
    else { p with pc := (p.pc + 1) % 4096 }
  | none => { p with pc := (p.pc + 1) % 4096 }

/-- The core halts without an error (R416). -/
def Phm.stopOk (p : Phm) : Phm := { p with running := false, waiting := false, err := 0, haltAsked := false, rep := none }

/-- A halt asked for by PHM_CTRL takes effect at the instruction boundary (R422), unless an error has halted the core there. -/
def Phm.boundary (p : Phm) : Phm :=
  if p.haltAsked then (if p.running then p.stopOk else { p with haltAsked := false }) else p

/-- The core can execute: its die has one, and the device is not in DORMANT, where it stops and keeps all state (R421). -/
def State.phmOn (s : State) (d : Fin 4) : Bool := s.hasDie d && s.pwr.phase != .dormant && !s.pwr.tripped

/-- The cycles an instruction takes beyond its base (R415): one when it reads an accumulator written just before. -/
def Phm.interlock (p : Phm) (reads : List Nat) : Nat := if reads.any fun a => p.lastAcc.contains a then 1 else 0

/-- Run the instruction of die d when its opcode is `op` and the core runs; `f` gives the core afterwards and the cycles taken
(R411 to R416). -/
def State.phmRun (s : State) (d : Fin 4) (op : Nat) (f : Phm → Word → Phm × Nat) : Host.Outcome State Fault Refusal :=
  if s.phmOn d then
    let p := s.phmOf d
    if p.running ∧ bitsAt p.word 26 6 = op then
      let r := f p p.word
      .next ((s.setPhm d r.1.boundary).addFld (Reg.PHM_BUSY d) 0 32 r.2)
    else .next s
  else .next s

/-- An instruction that may not stand in a repeat block (R413). -/
def Phm.outsideRep (p : Phm) (f : Phm → Phm) : Phm := if p.rep.isSome then p.stopErr 2 else f p

/-- NOP (R411). -/
def execPhmNop (d : Fin 4) (s : State) : Host.Outcome State Fault Refusal :=
  s.phmRun d 0x00 fun p _ => ({ p with lastAcc := [] }.advance, 1)

/-- CLRA: bit 22 + j clears Aj (R411). -/
def execClra (d : Fin 4) (s : State) : Host.Outcome State Fault Refusal :=
  s.phmRun d 0x01 fun p w =>
    let acc := (List.finRange 4).foldl (fun a j => if bitsAt w (22 + j.val) 1 = 1 then vset a j 0 else a) p.acc
    ({ p with acc := acc, lastAcc := [] }.advance, 1)

/-- MAC (R412). -/
def execMac (d : Fin 4) (s : State) : Host.Outcome State Fault Refusal :=
  s.phmRun d 0x04 fun p w =>
    let x := p.opnd (bitsAt w 21 3) false
    let y := p.opnd (bitsAt w 16 3) true
    let v := phmProduct x y (bitsAt w 13 1 == 1)
    let a := idx2 w 24
    let base := if bitsAt w 11 1 = 1 then 0 else (vget p.acc a).toInt
    let q := p.accumulate a base (if bitsAt w 12 1 = 1 then -v else v)
    ({ (q.sideMod (bitsAt w 21 3) (bitsAt w 19 2)).sideMod (bitsAt w 16 3) (bitsAt w 14 2) with lastAcc := [a.val] }.advance, 1)

/-- MAC2 (R412). -/
def execMac2 (d : Fin 4) (s : State) : Host.Outcome State Fault Refusal :=
  s.phmRun d 0x05 fun p w =>
    let ix := idx2 w 23
    let iy := idx2 w 21
    let ax := (vget p.ix ix).toNat / 2 * 2
    let ay := (vget p.ix iy).toNat % 4096 / 2 * 2
    let e : Fin 4 := if bitsAt w 25 1 = 1 then 2 else 0
    let f : Fin 4 := if bitsAt w 25 1 = 1 then 3 else 1
    let sg := bitsAt w 20 1 == 1
    let clr := bitsAt w 19 1 == 1
    let q := p.accumulate e (if clr then 0 else (vget p.acc e).toInt) (phmProduct (p.x ax) (p.y ay) sg)
    let r := q.accumulate f (if clr then 0 else (vget p.acc f).toInt) (phmProduct (p.x (ax + 1)) (p.y (ay + 1)) sg)
    ({ (r.circ ix 2).circ iy 2 with lastAcc := [e.val, f.val] }.advance, 1)

/-- ADDA (R412). -/
def execAdda (d : Fin 4) (s : State) : Host.Outcome State Fault Refusal :=
  s.phmRun d 0x06 fun p w =>
    let a := idx2 w 24
    let b := idx2 w 22
    let v := (vget p.acc b).toInt
    let q := p.accumulate a (vget p.acc a).toInt (if bitsAt w 21 1 = 1 then -v else v)
    ({ q with lastAcc := [a.val] }.advance, 1 + p.interlock [a.val, b.val])

/-- A program may write the general area of X only (R412). -/
def xWritable (a : Nat) : Bool := decide (0x0C00 ≤ a % 8192)

/-- ST (R412). -/
def execSt (d : Fin 4) (s : State) : Host.Outcome State Fault Refusal :=
  s.phmRun d 0x08 fun p w =>
    let a := idx2 w 24
    let i := idx2 w 22
    let wide := bitsAt w 12 1 == 1
    let r := narrow (vget p.acc a).toInt (bitsAt w 14 6) (if wide then 48 else 24) (bitsAt w 13 1 == 1)
    let v := (BitVec.ofInt 48 r.1).toNat
    let ad := (vget p.ix i).toNat
    let cyc := 1 + p.interlock [a.val]
    if xWritable ad && (!wide || xWritable (ad + 1)) then
      let q := (p.putX ad v)
      let q1 := if wide then q.putX (ad + 1) (v / 2 ^ 24) else q
      ({ q1.circ i (pmStep (bitsAt w 20 2)) with stsat := p.stsat || r.2, lastAcc := [] }.advance, cyc)
    else (p.stopErr 3, cyc)

/-- LD (R412). -/
def execLd (d : Fin 4) (s : State) : Host.Outcome State Fault Refusal :=
  s.phmRun d 0x09 fun p w =>
    let i := idx2 w 21
    let v := if bitsAt w 23 1 = 1 then p.y (vget p.ix i).toNat else p.x (vget p.ix i).toNat
    ({ p.circ i (pmStep (bitsAt w 19 2)) with dreg := vset p.dreg (idx2 w 24) v, lastAcc := [] }.advance, 1)

/-- LDI (R411). -/
def execLdi (d : Fin 4) (s : State) : Host.Outcome State Fault Refusal :=
  s.phmRun d 0x0A fun p w =>
    ({ p with dreg := vset p.dreg (idx2 w 24) (BitVec.ofNat 24 (bitsAt w 0 24)), lastAcc := [] }.advance, 1)

/-- STD (R412). -/
def execStd (d : Fin 4) (s : State) : Host.Outcome State Fault Refusal :=
  s.phmRun d 0x0B fun p w =>
    let i := idx2 w 22
    let ad := (vget p.ix i).toNat
    if xWritable ad then
      ({ (p.putX ad (vget p.dreg (idx2 w 24)).toNat).circ i (pmStep (bitsAt w 20 2)) with lastAcc := [] }.advance, 1)
    else (p.stopErr 3, 1)

/-- SETX (R411); register code 3 is reserved and sets nothing. -/
def execSetx (d : Fin 4) (s : State) : Host.Outcome State Fault Refusal :=
  s.phmRun d 0x0C fun p w =>
    let i := idx2 w 22
    let v := BitVec.ofNat 13 (bitsAt w 0 13)
    let q := match bitsAt w 24 2 with
      | 0 => { p with ix := vset p.ix i v }
      | 1 => { p with bx := vset p.bx i v }
      | 2 => { p with lx := vset p.lx i v }
      | _ => p
    ({ q with lastAcc := [] }.advance, 1)

/-- MODX (R410, R411). -/
def execModx (d : Fin 4) (s : State) : Host.Outcome State Fault Refusal :=
  s.phmRun d 0x0D fun p w =>
    ({ p.circ (idx2 w 24) (BitVec.ofNat 13 (bitsAt w 0 13)).toInt with lastAcc := [] }.advance, 1)

/-- MOVX (R411). -/
def execMovx (d : Fin 4) (s : State) : Host.Outcome State Fault Refusal :=
  s.phmRun d 0x0E fun p w =>
    let v := BitVec.ofNat 13 (vget p.dreg (idx2 w 22)).toNat
    ({ p with ix := vset p.ix (idx2 w 24) v, lastAcc := [] }.advance, 1)

/-- REP (R413). -/
def execRep (d : Fin 4) (s : State) : Host.Outcome State Fault Refusal :=
  s.phmRun d 0x10 fun p w =>
    (p.outsideRep fun p =>
      let len := bitsAt w 22 4 + 1
      let count := if bitsAt w 21 1 = 1 then (vget p.dreg (idx2 w 16)).toNat else bitsAt w 0 16
      let first := (p.pc + 1) % 4096
      if count = 0 then { p with pc := (p.pc + 1 + len) % 4096, lastAcc := [] }
      else { p with pc := first, rep := some ⟨first, (p.pc + len) % 4096, count⟩, cache := some (first, len), lastAcc := [] }, 2)

/-- Condition of BR (R411). -/
def Phm.cond (p : Phm) (c : Nat) : Bool :=
  match c with
  | 0 => true
  | 1 => vget p.dreg 0 == 0
  | 2 => vget p.dreg 0 != 0
  | 3 => decide ((vget p.acc 0).toInt < 0)
  | 4 => vget p.acc 0 == 0
  | 5 => p.ovf
  | _ => false

/-- BR (R411). -/
def execBr (d : Fin 4) (s : State) : Host.Outcome State Fault Refusal :=
  s.phmRun d 0x11 fun p w =>
    let c := bitsAt w 22 4
    let taken := p.cond c
    (p.outsideRep fun p => if taken then { p with pc := bitsAt w 0 12, lastAcc := [] } else { p with lastAcc := [] }.advance,
     (if taken then 2 else 1) + (if c = 3 ∨ c = 4 then p.interlock [0] else 0))

/-- DJNZ (R412). -/
def execDjnz (d : Fin 4) (s : State) : Host.Outcome State Fault Refusal :=
  s.phmRun d 0x12 fun p w =>
    let i := idx2 w 24
    let v := vget p.dreg i - 1
    (p.outsideRep fun p =>
      let q := { p with dreg := vset p.dreg i v, lastAcc := [] }
      if v = 0 then q.advance else { q with pc := bitsAt w 0 12 }, if v = 0 then 1 else 2)

/-- Set D0 to D3. -/
def Phm.setD (p : Phm) (a b c e : Nat) : Phm :=
  let w := BitVec.ofNat 24
  { p with dreg := vset (vset (vset (vset p.dreg 0 (w a)) 1 (w b)) 2 (w c)) 3 (w e) }

/-- WAIT returns an event (R414). -/
def Phm.takeEvent (p : Phm) (e : Nat) : Phm :=
  if e < 8 then
    p.setD e ((p.x (0x0404 + 8 * e)).toNat / 2) (p.x (0x0405 + 8 * e)).toNat (0x0400 + 8 * e)
  else if e = 8 then
    match (List.finRange 4).find? fun k => vget p.taps k != 0 with
    | some k =>
      { p.setD 8 k.val (0x0800 + 256 * k.val + (vget p.tapJ k + 255) % 256) (min (vget p.taps k) 0xFFFFFF) with
        taps := vset p.taps k 0 }
    | none => p
  else { p.setD 9 p.timer 0 0 with timer := 0 }

/-- WAIT (R414): cycles in WAIT are not counted by PHM_BUSY. -/
def execWait (d : Fin 4) (s : State) : Host.Outcome State Fault Refusal :=
  s.phmRun d 0x14 fun p w =>
    (p.outsideRep fun p =>
      match p.pendingEvent (bitsAt w 0 10) with
      | some e => { p.takeEvent e with waiting := false, lastAcc := [] }.advance
      | none => { p with waiting := true, lastAcc := [] }, 0)

/-- The record EMIT makes (R417). -/
def Phm.emitRec (p : Phm) (d : Nat) (n : Nat) (energy : Nat) (stsat : Bool) : PhmRec :=
  let desc := 0x0400 + 8 * n
  let flags := (p.x (desc + 3)).toNat
  { w0 := (p.x (desc + 1)).toNat + (p.x (desc + 2)).toNat * 2 ^ 24 + n * 2 ^ 48 + d * 2 ^ 51 + 2 ^ 56,
    w1 := (p.x desc).toNat + flags % 8 * 2 ^ 24 + b2n p.ovf * 2 ^ 27 + b2n stsat * 2 ^ 28,
    w2 := energy }

/-- EMIT (R415 to R417): it waits while the output queue is full; a batch that is not pending is error 4. -/
def execEmit (d : Fin 4) (s : State) : Host.Outcome State Fault Refusal :=
  if s.phmOn d then
    let p := s.phmOf d
    let w := p.word
    if p.running ∧ bitsAt w 26 6 = 0x18 ∧ p.out.length < 16 then
      let n : Fin 8 := ⟨(vget p.dreg 0).toNat % 8, Nat.mod_lt _ (by decide)⟩
      let a := idx2 w 24
      let cyc := 4 + p.interlock [a.val]
      if vget p.batch n then
        let r := narrow (vget p.acc a).toInt (bitsAt w 16 6) 48 false
        let sat := p.stsat || r.2
        let q := { p with out := p.out ++ [p.emitRec d n r.1.toNat sat], batch := vset p.batch n false, stsat := sat, lastAcc := [] }
        .next (((s.setPhm d q.advance.boundary).tryHandover d n).addFld (Reg.PHM_BUSY d) 0 32 cyc)
      else .next ((s.setPhm d (p.stopErr 4).boundary).addFld (Reg.PHM_BUSY d) 0 32 cyc)
    else .next s
  else .next s

/-- PUT (R415, R417): it waits while the output queue is full. -/
def execPut (d : Fin 4) (s : State) : Host.Outcome State Fault Refusal :=
  if 16 ≤ (s.phmOf d).out.length then .next s
  else
    s.phmRun d 0x19 fun p w =>
      let a := idx2 w 24
      let r := narrow (vget p.acc a).toInt (bitsAt w 16 6) 48 true
      let sat := p.stsat || r.2
      let rec_ : PhmRec := { w0 := d.val * 2 ^ 51 + 2 ^ 57, w1 := b2n p.ovf * 2 ^ 27 + b2n sat * 2 ^ 28 + bitsAt w 0 8 * 2 ^ 32,
                             w2 := (BitVec.ofInt 64 r.1).toNat }
      ({ p with out := p.out ++ [rec_], stsat := sat, lastAcc := [] }.advance, 4 + p.interlock [a.val])

/-- HALT (R411, R416): PC names the instruction. -/
def execPhmHalt (d : Fin 4) (s : State) : Host.Outcome State Fault Refusal :=
  s.phmRun d 0x3F fun p _ => (p.outsideRep fun p => { p.stopOk with lastAcc := [] }, 1)

/-- Opcodes of R411. -/
def phmOps : List Nat := [0x00, 0x01, 0x04, 0x05, 0x06, 0x08, 0x09, 0x0A, 0x0B, 0x0C, 0x0D, 0x0E, 0x10, 0x11, 0x12, 0x14, 0x18, 0x19, 0x3F]

/-- A reserved OP is fetched: error 1 (R416). -/
def execPhmReservedOp (d : Fin 4) (s : State) : Host.Outcome State Fault Refusal :=
  if s.phmOn d then
    let p := s.phmOf d
    if p.running ∧ !phmOps.contains (bitsAt p.word 26 6) then .next (s.setPhm d (p.stopErr 1).boundary) else .next s
  else .next s

/-- START (R407, R421): every register 0, the flags as they are, execution from P address 0; ERR stays that of the last halt (R422). -/
def Phm.start (p : Phm) : Phm :=
  if p.running then p
  else { p with acc := Vector.replicate 4 0, dreg := Vector.replicate 4 0, ix := Vector.replicate 4 0, bx := Vector.replicate 4 0,
                lx := Vector.replicate 4 0, pc := 0, running := true, waiting := false, haltAsked := false, rep := none,
                lastAcc := [] }

/-- Writes of PHM_CTRL and of P, X and Y are taken only while the core is halted, and otherwise logged (R421); HALT and
CLR_FLAGS are PHM_CTRL writes too, and HALT has no use on a halted core, so it is taken while the core runs (log entry 12). -/
def State.phmCtrl (s : State) (d : Fin 4) (v : Word) (path : Nat) : State :=
  let p := s.phmOf d
  if p.running then
    if bitsAt v 1 1 = 1 then s.setPhm d (if p.waiting then p.stopOk else { p with haltAsked := true })
    else s.logAccess 3 (Reg.PHM_CTRL d) v path 15
  else
    let q := if bitsAt v 2 1 = 1 then { p with ovf := false, stsat := false } else p
    s.setPhm d (if bitsAt v 0 1 = 1 then q.start else q)

/-- PHM_START, a write of START (R421). -/
def execPhmStart (d : Fin 4) (s : State) : Host.Outcome State Fault Refusal := guardUnit s (s.hasDie d) (s.phmCtrl d 1 0)

/-- PHM_CTRL_HALT, a write of HALT (R422). -/
def execPhmCtrlHalt (d : Fin 4) (s : State) : Host.Outcome State Fault Refusal := guardUnit s (s.hasDie d) (s.phmCtrl d 2 0)

/-- CLR_FLAGS, a write of CLR_FLAGS (R407). -/
def execClrFlags (d : Fin 4) (s : State) : Host.Outcome State Fault Refusal := guardUnit s (s.hasDie d) (s.phmCtrl d 4 0)

/-- PHM_TIMER: another period has passed (R414). -/
def execPhmTimer (d : Fin 4) (s : State) : Host.Outcome State Fault Refusal :=
  let p := s.phmOf d
  guardUnit s (s.phmOn d) (if s.fld (Reg.PHM_TIMER d) 0 16 = 0 then s else s.setPhm d { p with timer := p.timer + 1 })

/-- A write of PHM_RING_TAIL (R418): forwards and not past the head, as R302 says of a TAIL. -/
def State.phmTail (s : State) (d : Fin 4) (v : Word) (path : Nat) : State :=
  let tail := s.fld (Reg.PHM_RING_TAIL d) 0 11
  let head := s.fld (Reg.PHM_RING_HEAD d) 0 11
  let pos := bitsAt v 0 11
  if (pos + 2048 - tail) % 2048 ≤ (head + 2048 - tail) % 2048 then s.setFld (Reg.PHM_RING_TAIL d) 0 11 pos
  else s.logAccess 3 (Reg.PHM_RING_TAIL d) v path 15

/-- PHM_RING_TAIL_WRITE (R418). -/
def execPhmRingTailWrite (d : Fin 4) (v : Word) (s : State) : Host.Outcome State Fault Refusal :=
  guardUnit s (s.hasDie d) (s.phmTail d v 0)

/-- The bank of the results ring (R418). -/
def State.phmBank (s : State) (d : Fin 4) : Nat := d.val * 256 + s.fld (Reg.PHM_RING d) 0 8

/-- The results ring takes records and has room for one (R418). -/
def State.phmRoom (s : State) (d : Fin 4) : Bool :=
  s.fld (Reg.PHM_RING d) 8 1 == 1 && (s.fld (Reg.PHM_RING_HEAD d) 0 11 + 1) % 2048 != s.fld (Reg.PHM_RING_TAIL d) 0 11

/-- The ring's bank answers RETRY (R181, R189, R327): the record stays in the queue and is offered again. -/
def State.phmRetry (s : State) (d : Fin 4) : Bool := s.phmRoom d && s.unitAsk (s.phmBank d) 9 == some .retry

/-- Write a record's four words into the results ring's bank (R417, R418), or count it as dropped. -/
def State.phmRingWrite (s : State) (d : Fin 4) (r : PhmRec) : State :=
  let head := s.fld (Reg.PHM_RING_HEAD d) 0 11
  if s.phmRoom d then
    let w := s.unitWrite (s.phmBank d) 9 (4 * head) ([r.w0, r.w1, r.w2, s.lnk.timebase].map (BitVec.ofNat 64))
    if w.2 then w.1.setFld (Reg.PHM_RING_HEAD d) 0 11 ((head + 1) % 2048) else w.1.addFld (Reg.PHM_RING_DROP d) 0 32 1
  else s.addFld (Reg.PHM_RING_DROP d) 0 32 1

/-- A tapped converter sample enters its ring and TAP is pending (R420). -/
def State.phmTap (s : State) (d : Fin 4) (k : Fin 4) (word : Nat) : State :=
  if s.fld (Reg.PHM_TAP d k) 8 1 = 1 then
    let p := s.phmOf d
    let j := vget p.tapJ k
    let q := p.putX (0x0800 + 256 * k.val + j % 256) (word % 2 ^ 15)
    s.setPhm d { q with tapJ := vset q.tapJ k (j + 1), taps := vset q.taps k (vget q.taps k + 1) }
  else s

/-- The reference program of R421. -/
def phmReference : List (Nat × Word) :=
  [(0, 0x500000FF), (1, 0x38800000), (2, 0x3A800000), (3, 0x04C00000), (4, 0x40210000), (5, 0x14400000), (6, 0x18400000),
   (7, 0x60040000), (8, 0x44000000)]

/-- The end of configuration (R421): ring on bank 255, reference program, coefficients, budget, start. -/
def State.phmConfigure (s : State) (d : Fin 4) : State :=
  let p := s.phmOf d
  let q := { p with prog := msetAll dProg [] phmReference, ymem := (List.range 4096).map fun i => (i, (0x10 : PWord)), cache := none }
  ((s.setPhm d q.start).setReg (Reg.PHM_RING d) 0x1FF).setReg (Reg.PHM_BUDGET d) 128

end Sys2Proof.Machine
end

