-- ==== Sys2Proof/Machine/Noc.lean ====
section
/-!
DEFINITION. The routers of the NoC (R204 to R217): coordinates, routes and their detours, virtual channels, urgency and the arbiters,
a NoC cycle, and the credits and landing entries of the endpoints' interfaces.
-/
namespace Sys2Proof.Machine

/-- Routers per column (R204, R230). -/
def State.dimY (s : State) : Nat := if s.variant = .d then 8 else 16
/-- X of a packed tile (R204). -/
def nocX (t : Nat) : Nat := 8 * (t / 64 % 2) + t % 8
/-- Y of a packed tile (R204). -/
def nocY (t : Nat) : Nat := 8 * (t / 128) + t % 64 / 8
/-- The packed tile at coordinates. -/
def nocTile (x y : Nat) : Nat := (y / 8 * 2 + x / 8) * 64 + y % 8 * 8 + x % 8

/-- The neighbour in a direction: 0 X+, 1 X−, 2 Y+, 3 Y− (R204). -/
def State.neighbour (s : State) (t dir : Nat) : Nat :=
  match dir with
  | 0 => nocTile ((nocX t + 1) % 16) (nocY t)
  | 1 => nocTile ((nocX t + 15) % 16) (nocY t)
  | 2 => nocTile (nocX t) ((nocY t + 1) % s.dimY)
  | _ => nocTile (nocX t) ((nocY t + s.dimY - 1) % s.dimY)

/-- The opposite direction. -/
def opposite (dir : Nat) : Nat := if dir % 2 = 0 then dir + 1 else dir - 1

/-- A fenced router of whose ring in a dimension (0 X, 1 Y) both links are out: its bypass joins its neighbours there (R351). -/
def State.bypassed (s : State) (t dim : Nat) : Bool :=
  s.fld (Reg.NOC_LINKS t) 4 1 == 0 && s.fld (Reg.NOC_LINKS t) (2 * dim) 2 == 0

/-- A hop from a router in a direction is open: its link is in service, or a bypass stands at one of its ends (R207, R351). -/
def State.linkOpen (s : State) (t dir : Nat) : Bool :=
  s.fld (Reg.NOC_LINKS t) dir 1 == 1 || s.bypassed t (dir / 2) || s.bypassed (s.neighbour t dir) (dir / 2)

/-- Hops to a coordinate in the positive direction of a ring. -/
def ringUp (size at_ dst : Nat) : Nat := (dst + size - at_) % size

/-- Every hop of k from a router in a direction is open. -/
def State.wayOpen (s : State) (dir : Nat) : Nat → Nat → Bool
  | 0, _ => true
  | k + 1, t => s.linkOpen t dir && s.wayOpen dir k (s.neighbour t dir)

/-- The way round a ring (R205, R207): the shorter, the positive at half the ring, and the other when a hop of it is closed; none in
a ring that is split (R351).  `dim` is 0 for X and 1 for Y, `up` the hops in the positive direction. -/
def State.ringWay (s : State) (t dim size up : Nat) : Option Nat :=
  let plus := (2 * dim, up)
  let minus := (2 * dim + 1, size - up)
  let pick := if up ≤ size - up then (plus, minus) else (minus, plus)
  if s.wayOpen pick.1.1 pick.1.2 t then some pick.1.1
  else if s.wayOpen pick.2.1 pick.2.2 t then some pick.2.1
  else none

/-- What a packet does next at a router (R205): it goes out at its destination (4), goes on in the dimension in which it entered, or
enters X, then Y.  `input` is the input it came by. -/
def State.nextDir (s : State) (t input dest : Nat) : Option Nat :=
  let ux := ringUp 16 (nocX t) (nocX dest)
  let uy := ringUp s.dimY (nocY t) (nocY dest)
  if ux ≠ 0 then if input < 2 then some (opposite input) else s.ringWay t 0 16 ux
  else if uy ≠ 0 then if 2 ≤ input ∧ input < 4 then some (opposite input) else s.ringWay t 1 s.dimY uy
  else some 4

/-- The router a hop ends at: the neighbour, or past the bypass of a fenced one that is not the destination (R351). -/
def State.hopTo (s : State) (t dir dest : Nat) : Nat :=
  let u := s.neighbour t dir
  if s.bypassed u (dir / 2) ∧ u ≠ dest then s.neighbour u dir else u

/-- NoC cycles of a hop (R205, R351): 2 across a die boundary or through a bypass, else 1. -/
def State.hopCycles (s : State) (t dir dest : Nat) : Nat :=
  if t / 64 ≠ s.hopTo t dir dest / 64 ∨ s.hopTo t dir dest ≠ s.neighbour t dir then 2 else 1

/-- A hop crosses the wrap link of its ring. -/
def State.wraps (s : State) (t dir : Nat) : Bool :=
  match dir with
  | 0 => nocX t == 15
  | 1 => nocX t == 0
  | 2 => nocY t == s.dimY - 1
  | _ => nocY t == 0

/-- The virtual channel behind a hop (R206): those of CTRL or of the other classes; 0 on entering a dimension, 1 from its wrap link
on (the buffer behind the wrap link is of channel 1: DEDUCED, log entry 131). -/
def State.hopVc (s : State) (p : Pkt) (c : Chan) (dir : Nat) : Nat :=
  let base := if p.cls = 0 then 0 else 2
  let same := decide (c.input < 4) && decide (c.input / 2 = dir / 2)
  if s.wraps c.router dir || (same && c.vc % 2 == 1) then base + 1 else base

/-- Flits of a packet (R208): its header and its data, four words to a flit. -/
def Pkt.flits (p : Pkt) : Nat := 1 + (p.data.length + 3) / 4

/-- The whole route of a packet from a router (R205): the routers it passes with the channel behind each hop; none where no way is open. -/
def State.routeFrom (s : State) (p : Pkt) : Nat → Chan → Option (List Chan)
  | 0, _ => none
  | k + 1, c =>
    match s.nextDir c.router c.input p.dest with
    | none => none
    | some dir =>
      if 4 ≤ dir then some [c]
      else
        let n : Chan := ⟨s.hopTo c.router dir p.dest, opposite dir, s.hopVc p c dir, 0⟩
        (s.routeFrom p k n).map fun r => c :: r

/-- The route of a packet from its source. -/
def State.route (s : State) (p : Pkt) : Option (List Chan) :=
  s.routeFrom p 64 ⟨p.src, 4, if p.cls = 0 then 0 else 2, 0⟩

/-- BASE of a class (R212). -/
def State.urgBase (s : State) (cls : Nat) : Nat := s.fld Reg.NOC_URGENCY (match cls with | 0 => 0 | 1 => 4 | 2 => 8 | _ => 12) 4

/-- A packet's urgency (R212). -/
def State.urgency (s : State) (p : Pkt) : Nat := min 15 (s.urgBase p.cls + p.age / 64)

/-- A flit that wants to cross in this NoC cycle: the arbiter it asks (router × 8 + output; 4 ejection, 5 injection), the input it
comes by, the flight, and the buffer it leaves, counted from the head (past the last: from the source). -/
structure Want where
  link : Nat
  input : Nat
  idx : Nat
  seg : Nat
  next : Option Chan
  deriving DecidableEq, Repr

/-- A channel is free: no packet holds it (R206). -/
def State.chanFree (s : State) (c : Chan) : Bool :=
  !(s.noc.pkts.any fun f => f.chans.any fun x => x.router == c.router && x.input == c.input && x.vc == c.vc)

/-- What a flight's flits want (R205, R206): a buffer of 8 flits takes one more when it has room, a head needs a free channel. -/
def State.wants (s : State) (i : Nat) (f : Flight) : List Want :=
  let n := f.chans.length
  let from_ := f.chans.zip (List.range n)
  let head : List Want :=
    match f.chans with
    | [] => []
    | c :: _ =>
      if c.flits = 0 ∨ f.wait ≠ 0 then []
      else
        match s.nextDir c.router c.input f.pkt.dest with
        | none => []
        | some dir =>
          if 4 ≤ dir then [⟨c.router * 8 + 4, c.input * 4 + c.vc, i, 0, none⟩]
          else
            let d : Chan := ⟨s.hopTo c.router dir f.pkt.dest, opposite dir, s.hopVc f.pkt c dir, 1⟩
            if s.chanFree d then [⟨c.router * 8 + dir, c.input * 4 + c.vc, i, 0, some d⟩] else []
  let body : List Want := from_.filterMap fun (x : Chan × Nat) =>
    if x.2 = 0 ∨ x.1.flits = 0 then none
    else
      match f.chans[x.2 - 1]? with
      | some t => if t.flits < 8 then some ⟨x.1.router * 8 + opposite t.input, x.1.input * 4 + x.1.vc, i, x.2, none⟩ else none
      | none => none
  let inject : List Want :=
    if f.todo = 0 then []
    else
      let d : Chan := ⟨f.pkt.src, 4, if f.pkt.cls = 0 then 0 else 2, 1⟩
      match f.chans.getLast? with
      | none => if f.out = 0 ∧ f.wait = 0 ∧ s.chanFree d then [⟨f.pkt.src * 8 + 5, f.pkt.sep, i, 0, some d⟩] else []
      | some t => if t.router = f.pkt.src ∧ t.input = 4 ∧ t.flits < 8 then [⟨f.pkt.src * 8 + 5, f.pkt.sep, i, n, none⟩] else []
  head ++ body ++ inject

/-- An arbiter serves the first of two (R212): the higher urgency, then the higher AGE, then the input whose turn comes sooner. -/
def State.serves (s : State) (a b : Want) : Bool :=
  match s.noc.pkts[a.idx]?, s.noc.pkts[b.idx]? with
  | some f, some g =>
    let t := mget dNat s.noc.turn a.link
    let ka := (a.input + 64 - t) % 64
    let kb := (b.input + 64 - t) % 64
    if s.urgency f.pkt ≠ s.urgency g.pkt then decide (s.urgency g.pkt < s.urgency f.pkt)
    else if f.pkt.age ≠ g.pkt.age then decide (g.pkt.age < f.pkt.age)
    else decide (ka < kb) || (ka == kb && decide (a.idx < b.idx))
  | _, _ => false

/-- The flits that cross in this cycle: the one that each arbiter serves (R212). -/
def State.served (s : State) : List Want :=
  let ws := (s.noc.pkts.zip (List.range s.noc.pkts.length)).flatMap fun (x : Flight × Nat) => s.wants x.2 x.1
  ws.filter fun a => ws.all fun b => b == a || b.link != a.link || s.serves a b

/-- A flight after the flits of its segments have crossed. -/
def Flight.moved (f : Flight) (cycles : Nat) (ws : List Want) : Flight :=
  let n := f.chans.length
  let went := fun (k : Nat) => ws.any fun w => w.seg == k
  let head := ws.find? fun w => w.seg == 0
  let left := (f.chans.zip (List.range n)).map fun (x : Chan × Nat) =>
    { x.1 with flits := x.1.flits - b2n (went x.2) + b2n (went (x.2 + 1)) }
  let new := match head with | some w => w.next.toList | none => []
  let injected := if n = 0 then head.isSome else went n
  let todo := f.todo - b2n injected
  let all := new ++ left
  let tail := (all.reverse.dropWhile fun (c : Chan) => c.flits == 0 && todo == 0).reverse
  { f with todo := todo, chans := if todo = 0 then tail else all,
           out := f.out + b2n (n != 0 && head.any fun w => w.next.isNone),
           wait := if new.isEmpty then f.wait - 1 else cycles - 1 }

/-- Cycles of the hop that a flight's head makes, injection counting 2 (R205). -/
def State.headCycles (s : State) (f : Flight) : Nat :=
  match f.chans with
  | [] => 2
  | c :: _ => match s.nextDir c.router c.input f.pkt.dest with
    | some dir => if 4 ≤ dir then 1 else s.hopCycles c.router dir f.pkt.dest
    | none => 1

/-- One NoC cycle (R204 to R206, R212): on every link at most one flit crosses each way. -/
def State.nocCycle (s : State) : State :=
  if s.noc.pkts.isEmpty then s
  else
    let ws := s.served
    { s with noc := { s.noc with
        pkts := (s.noc.pkts.zip (List.range s.noc.pkts.length)).map fun (x : Flight × Nat) =>
          x.1.moved (s.headCycles x.1) (ws.filter fun w => w.idx == x.2),
        turn := ws.foldl (fun m w => mset dNat m w.link ((w.input + 1) % 64)) s.noc.turn } }

/-- A packet at its source, before its first flit is injected. -/
def Pkt.launch (p : Pkt) : Flight := { pkt := p, todo := p.flits, chans := [], out := 0, wait := 0 }

/-- A packet enters the network. -/
def State.sendPkt (s : State) (p : Pkt) : State := { s with noc := { s.noc with pkts := s.noc.pkts ++ [p.launch] } }

/-- The network without a packet. -/
def dropPkt (l : List Flight) (p : Pkt) : List Flight := l.eraseP fun f => f.pkt == p

/-- A packet leaves the routers: what was left of its route lies behind it (R205). -/
def State.takePkt (s : State) (p : Pkt) : State := { s with noc := { s.noc with pkts := dropPkt s.noc.pkts p } }

/-- A packet of an opcode, in a class that R210 gives it. -/
def Pkt.isOp (p : Pkt) (op : Nat) : Bool := p.op == op && classOk op p.cls

/-- A packet of a credit unit or to it (R210, R213): CREDIT_REQ or CREDIT_REPLY between an interface and an endpoint; ADDR carries the
credits asked for or granted and WMASK whether they are for CTRL-class requests (the spec gives neither a field: DESIGN CHOICE, log
entry 132). -/
def creditPkt (op : Nat) (k : CreditKey) (n tag age status : Nat) : Pkt :=
  if op = 10 then ⟨k.src, k.sep, k.dest, k.ep, 0, age, .cur, op, 0, tag, status, false, n, b2n k.ctrl, 0, []⟩
  else ⟨k.dest, k.ep, k.src, k.sep, 0, age, .cur, op, 0, tag, status, false, n, b2n k.ctrl, 0, []⟩

/-- The key of the credit that a request uses (R213, R214). -/
def Pkt.creditKey (p : Pkt) : CreditKey := ⟨p.src, p.sep, p.dest, p.ep, p.cls == 0⟩

/-- Landing-buffer entries of an interface in use (R214): of requests that have left, and of credit requests. -/
def State.landingTags (s : State) (src sep : Nat) : List Nat :=
  ((s.noc.landing.filter fun l => l.src == src && l.sep == sep).map (·.tag)) ++
    ((s.noc.asks.filter fun a => a.key.src == src && a.key.sep == sep && !a.refused).map (·.tag))

/-- A free one of the 256 (R214). -/
def State.freeLanding (s : State) (src sep : Nat) : Option Nat :=
  let used := s.landingTags src sep
  (List.range 256).find? fun t => !used.contains t

/-- The ask of an interface that a landing entry names. -/
def State.askOf (s : State) (src sep tag : Nat) : Option Ask :=
  s.noc.asks.find? fun a => a.key.src == src && a.key.sep == sep && a.tag == tag && !a.refused

/-- The asks changed. -/
def State.setAsks (s : State) (l : List Ask) : State := { s with noc := { s.noc with asks := l } }

/-- A unit asks for credit (R211, R213): again after RETRY, with the age its request has, or anew at age 0 where its interface has a
landing entry free.  Answers the ask. -/
def State.askCredit (s : State) (k : CreditKey) (want : Nat) : State × Option Ask :=
  match s.freeLanding k.src k.sep with
  | none => (s, none)
  | some tag =>
    match s.noc.asks.find? fun a => a.key == k && a.refused with
    | some a =>
      let b := { a with want := want, tag := tag, refused := false }
      (s.setAsks (s.noc.asks.erase a ++ [b]), some b)
    | none =>
      let b : Ask := ⟨k, want, tag, 0, false, none⟩
      (s.setAsks (s.noc.asks ++ [b]), some b)

/-- The tile interface asks for the credit of a schedule's read, whose landing entry is its tag (R213, R214). -/
def State.askRead (s : State) (p : Pkt) : State :=
  let a : Ask := ⟨p.creditKey, 1, p.tag, 0, false, some p⟩
  (s.setAsks (s.noc.asks ++ [a])).sendPkt (creditPkt 4 a.key 1 a.tag 0 0)

/-- The credit of an interface at an endpoint. -/
def State.creditOf (s : State) (k : CreditKey) : Credit := (s.noc.credits.find? fun c => c.key == k).getD ⟨k, 0, 0⟩

/-- The credit replaced; one without any left leaves the list. -/
def State.setCredit (s : State) (c : Credit) : State :=
  let rest := s.noc.credits.filter fun x => x.key != c.key
  { s with noc := { s.noc with credits := if c.free = 0 ∧ c.used = 0 then rest else rest ++ [c] } }

/-- A request arrives, or is lost: its credit is spent (R213, R217). -/
def State.spendCredit (s : State) (k : CreditKey) : State :=
  let c := s.creditOf k
  if c.used = 0 then s else s.setCredit { c with used := c.used - 1 }

/-- A request leaves on a credit that its interface holds unused, with the landing entry of its TAG (R213). -/
def State.leave (s : State) (req : Pkt) : State :=
  let c := s.creditOf req.creditKey
  let l : Landing := ⟨req.src, req.sep, req.tag, req.dest, req.ep, req.op, req.cls == 0, false⟩
  let s1 := (s.setCredit { c with free := c.free - 1, used := c.used + 1 }).sendPkt req
  { s1 with noc := { s1.noc with landing := s1.noc.landing ++ [l] } }

/-- A request that its interface may send: an opcode of a request in its class, and a landing entry free (R210, R213). -/
def State.mayLeave (s : State) (req : Pkt) : Bool :=
  (req.isOp 0 || req.isOp 1 || req.isOp 2 || req.isOp 3) && decide (req.tag < 256) && !(s.landingTags req.src req.sep).contains req.tag

end Sys2Proof.Machine
end

