-- ==== Sys2Proof/Machine/Depot.lean ====
section
/-!
DEFINITION. The depot map (R219, R220), the held-write store (R224 to R226) and the depot ports (R221 to R223).
-/
namespace Sys2Proof.Machine

/-- The map entry of a segment. -/
def State.depotEntry (s : State) (seg : Nat) : DWord := mget dWord64 s.dep.map seg

/-- The map entry of a segment replaced. -/
def State.setDepotEntry (s : State) (seg : Nat) (v : DWord) : State :=
  { s with dep := { s.dep with map := mset dWord64 s.dep.map seg v } }

/-- Segment of a depot address. -/
def depotSeg (addr : Nat) : Nat := addr / 2 ^ 30

/-- PORT of an entry. -/
def entryPort (e : DWord) : Fin 8 := ⟨bitsAt e 8 3, Nat.mod_lt _ (by decide)⟩

/-- Node address of a depot address under an entry (R219). -/
def entryNode (e : DWord) (addr : Nat) : Nat := bitsAt e 16 24 * 2 ^ 30 + addr % 2 ^ 30

/-- Port i. -/
def State.port (s : State) (i : Fin 8) : DPort := vget s.dep.ports i

/-- Port i replaced. -/
def State.setPort (s : State) (i : Fin 8) (p : DPort) : State :=
  { s with dep := { s.dep with ports := vset s.dep.ports i p } }

/-- STATE of a port: 0 UNUSED, 1 LANES, 2 ATTACHING, 3 UP, 4 FAULT (R229). -/
def State.portState (s : State) (i : Fin 8) : Nat := s.fld (Reg.DEP_PORT_STATE i) 0 3

/-- STATE of a port replaced. -/
def State.setPortState (s : State) (i : Fin 8) (v : Nat) : State := s.setFld (Reg.DEP_PORT_STATE i) 0 3 v

/-- The port's check of a request against the map (R220): OK, RANGE or NOT_OWNER. -/
def State.depotCheck (s : State) (owner : Owner) (addr : Nat) (write : Bool) : Status :=
  let e := s.depotEntry (depotSeg addr)
  if bitsAt e 0 1 = 0 ∨ s.portState (entryPort e) ≠ 3 then .range
  else if bitsAt e 1 4 ≠ owner.code then .notOwner
  else if write ∧ bitsAt e 5 1 = 1 then .notOwner
  else .ok

/-- Record a request refused with NOT_OWNER in DEP_LAST_REFUSE (R220, R229). -/
def State.depotRefuse (s : State) (owner : Owner) (addr : Nat) (write : Bool) : State :=
  let e := s.depotEntry (depotSeg addr)
  if s.depotCheck owner addr write = .notOwner then
    s.setReg Reg.DEP_LAST_REFUSE
      (BitVec.ofNat 32 (depotSeg addr % 65536 + owner.code * 2 ^ 16 + bitsAt e 1 4 * 2 ^ 20 + b2n write * 2 ^ 24 + 2 ^ 31))
  else s

/-- Words partition n holds in a port's share (R224). -/
def DPort.shareUsed (p : DPort) (n : Fin 8) : Nat := (p.held.filter fun h => h.part == n.val).length

/-- Partition n's share at every port has at least 1,024 free entries (R226). -/
def State.sharesFree (s : State) (n : Fin 8) : Bool :=
  (List.finRange 8).all fun i => decide ((s.port i).shareUsed n + 1024 ≤ 4096)

/-- Enter a depot-backed write into partition n's share (R224, R226): a later entry of the same frame for the word replaces
the earlier one; a full share stores nothing.  Answers whether it was stored. -/
def State.holdWrite (s : State) (n : Fin 8) (frame addr : Nat) (data : DWord) : State × Bool :=
  let i := entryPort (s.depotEntry (depotSeg addr))
  let p := s.port i
  let same := p.held.any fun h => h.part == n.val && h.frame == frame && h.addr == addr && !h.released
  if same then
    (s.setPort i { p with held := p.held.map fun h =>
      if h.part == n.val && h.frame == frame && h.addr == addr && !h.released then { h with data := data } else h }, true)
  else if p.shareUsed n < 4096 then
    let q := { p with held := p.held ++ [⟨n.val, frame, addr, data, false, false⟩] }
    ((s.setPort i q).maxFld (Reg.DEP_HELD_MAX i) 0 16 q.held.length, true)
  else (s.addFld (Reg.DEP_HELD_OVER i) 0 32 1, false)

/-- The newest share entry for a word that a read sees: of the schedule, frames before the reading one; of any other unit,
released frames only (R225). -/
def DPort.heldFor (p : DPort) (addr : Nat) (reader : Option (Nat × Nat)) : Option DWord :=
  let ok := fun (h : HeldW) => h.addr == addr &&
    (match reader with
     | some (n, f) => if h.part == n then decide (h.frame < f) else h.released
     | none => h.released)
  ((p.held.filter ok).getLast?).map (·.data)

/-- The word holds an entry of any partition. -/
def DPort.hasEntry (p : DPort) (addr : Nat) : Bool := p.held.any fun h => h.addr == addr

/-- The header flit of a depot message (R221); a request has STATUS, VALUE and CAPACITY 0. -/
def DMsg.header (m : DMsg) : BitVec 256 :=
  BitVec.ofNat 256 (m.type % 2 ^ 4 + m.tag % 2 ^ 10 * 2 ^ 4 + m.len % 2 ^ 3 * 2 ^ 14 + m.nodeAddr % 2 ^ 54 * 2 ^ 32 + m.wmask % 2 ^ 32 * 2 ^ 96)

/-- READ of the words from a node address on: LEN counts flits of four words less 1, NODE_ADDR is 32-byte aligned (R221). -/
def depotReadMsg (node count : Nat) : DMsg := { type := 1, tag := 0, len := (count + 3) / 4 - 1, nodeAddr := node / 32 * 32, wmask := 0, data := [] }

/-- WRITE of one word: its unit, with the word enabled (R221). -/
def depotWordMsg (node : Nat) (v : DWord) : DMsg :=
  { type := 2, tag := 0, len := 0, nodeAddr := node / 32 * 32, wmask := 2 ^ (node / 8 % 4), data := (List.replicate 4 (0 : DWord)).set (node / 8 % 4) v }

/-- WRITE of the data of a packet (R208, R221): a single word in its unit, or whole flits. -/
def depotWriteMsg (node wmask : Nat) (data : List DWord) : DMsg :=
  match data with
  | [v] => if bitOf wmask 0 then depotWordMsg node v else { depotWordMsg node v with wmask := 0 }
  | _ => { type := 2, tag := 0, len := (data.length + 3) / 4 - 1, nodeAddr := node / 32 * 32, wmask := wmask,
           data := data ++ List.replicate ((4 - data.length % 4) % 4) 0 }

/-- A TAG that no outstanding request uses (R221, R222). -/
def DPort.freeTag (p : DPort) : Nat :=
  (((List.range 1024).map fun k => (p.nextTag + k) % 1024).find? fun t => !(p.outst.any fun r => r.msg.tag == t)).getD 0

/-- The DEPOT flits of a message (R221, R233): its header, and four data words each, whose payload is their 32 bytes. -/
def DMsg.flits (m : DMsg) : List Nat :=
  m.header.toNat :: (List.range (m.data.length / 4)).map fun i =>
    (List.range 4).foldl (fun a j => a + ((m.data[4 * i + j]?).getD 0).toNat * 2 ^ (64 * j)) 0

/-- The next DEPOT payload that lane j of a port sends (R233): all flits of one message travel on one lane, which takes the oldest message
that waits when it has finished one (DESIGN CHOICE, log entry 137). -/
def DPort.take (p : DPort) (j : Fin 4) : Option (BitVec 288 × DPort) :=
  let x := vget p.lanes j
  let go := fun (w : List DMsg) (f : Nat) (r : List Nat) =>
    (flitBits 3 x.seq f, { p with wire := w, lanes := vset p.lanes j ⟨(x.seq + 1) % 4096, r⟩ })
  match x.rest, p.wire with
  | f :: r, w => some (go w f r)
  | [], m :: w => match m.flits with | f :: r => some (go w f r) | [] => none
  | [], [] => none

/-- A request goes to the node (R223). -/
def DPort.send (p : DPort) (r : DReq) : DPort :=
  let t := p.freeTag
  let m := { r.msg with tag := t }
  { p with outst := p.outst ++ [{ r with msg := m }], nextTag := (t + 1) % 1024, wire := p.wire ++ [m] }

/-- Send a request to the node, or let it wait while 1,024 are outstanding or others wait before it (R223). -/
def DPort.submit (p : DPort) (r : DReq) : DPort :=
  if p.queue.isEmpty && decide (p.outst.length < 1024) then p.send r else { p with queue := p.queue ++ [r] }

/-- A held write is sent to the node, and stays in its share until the answer (R224). -/
def DPort.sendHeld (p : DPort) (node : Nat → Nat) (h : HeldW) : DPort :=
  let p1 := p.submit ⟨depotWordMsg (node h.addr) h.data, none, some (h.part, h.frame, h.addr), h.addr, []⟩
  { p1 with held := p1.held.map fun x => if x == h then { h with released := true, sent := true } else x }

/-- The held write that a WRITE_ACK answers leaves its share (R224). -/
def DPort.dropHeld (p : DPort) (e : Nat × Nat × Nat) : DPort :=
  { p with held := p.held.eraseP fun h => h.sent && h.part == e.1 && h.frame == e.2.1 && h.addr == e.2.2 }

/-- The 64 KiB granule of a depot address (R317). -/
def granuleOf (addr : Nat) : Nat := addr / 65536

/-- A granule that the undo area of the checkpoint in progress, or of the latest, does not hold yet (R317). -/
def Ckp.needsUndo (c : Ckp) (g : Nat) : Bool :=
  match c.busy, c.latest with
  | some b, some l => !(b.img.granules.contains g) || !(l.granules.contains g)
  | some b, none => !(b.img.granules.contains g)
  | none, some l => !(l.granules.contains g)
  | none, none => false

/-- Mark released and send the held writes of a released frame, in the order in which they entered (R224); those of a granule
for which `wait` holds stay until its copy is made (R317). -/
def DPort.release (p : DPort) (node : Nat → Nat) (wait : Nat → Bool) (n frame : Nat) : List HeldW → DPort
  | [] => p
  | h :: r =>
    if h.part == n && h.frame == frame && !h.released then
      if wait (granuleOf h.addr) then
        DPort.release { p with held := p.held.map fun x => if x == h then { h with released := true } else x } node wait n frame r
      else DPort.release (p.sendHeld node h) node wait n frame r
    else p.release node wait n frame r

/-- Send the released writes of partition n to a granule that waited for its copy (R317). -/
def DPort.sendWaiting (p : DPort) (node : Nat → Nat) (n g : Nat) : List HeldW → DPort
  | [] => p
  | h :: r =>
    if h.part == n && h.released && !h.sent && granuleOf h.addr == g then DPort.sendWaiting (p.sendHeld node h) node n g r
    else p.sendWaiting node n g r

/-- The state with every depot port changed by f. -/
def State.mapPorts (s : State) (f : DPort → DPort) : State :=
  { s with dep := { s.dep with ports := s.dep.ports.map f } }

/-- Node address of a depot address under the map now. -/
def State.nodeOf (s : State) (a : Nat) : Nat := entryNode (s.depotEntry (depotSeg a)) a

/-- Release the held writes of a frame at every port (R224), where a port in FAULT completes them (R223); granules to copy first begin their copies (R317). -/
def State.releaseHeld (s : State) (n : Fin 8) (frame : Nat) : State :=
  let c := s.ck n
  let mine := (List.finRange 8).flatMap fun i =>
    ((s.port i).held.filter fun h => h.part == n.val && h.frame == frame && !h.released).map fun h => granuleOf h.addr
  let copy := (mine.filter c.needsUndo).foldl (fun a g => insNat g a) c.undoRun
  ((List.finRange 8).foldl (fun (t : State) i =>
    let p := t.port i
    t.setPort i (if t.portState i = 4 then { p with held := p.held.filter fun h => !(h.part == n.val && h.frame == frame && !h.released) }
      else p.release s.nodeOf (fun g => copy.contains g) n.val frame p.held)) s).setCk n { c with undoRun := copy }

/-- The released writes to a granule go to the node. -/
def State.sendWaiting (s : State) (n : Fin 8) (g : Nat) : State :=
  s.mapPorts fun p => p.sendWaiting s.nodeOf n.val g p.held

/-- Remove the held writes of discarded frames (R35, R224). -/
def State.discardHeld (s : State) (n : Fin 8) (fromFrame : Nat) : State :=
  s.mapPorts fun p =>
    { p with held := p.held.filter fun h => !(h.part == n.val && !h.released && decide (fromFrame ≤ h.frame)) }

/-- The DEPOT_MAP range of a segment. -/
def State.rangeOfSeg (s : State) (g : Nat) : Option DepotRange :=
  s.cfg.ranges.find? fun r => decide (r.first ≤ g) && decide (g < r.first + r.count)

/-- A segment is granted (R219, R391, R474). -/
def State.grantSeg (s : State) (owner : Nat) (ro : Bool) (g : Nat) : State :=
  match s.rangeOfSeg g with
  | some r => s.setDepotEntry g (BitVec.ofNat 64 (1 + owner * 2 + b2n ro * 2 ^ 5 + r.port.val * 2 ^ 8 + (r.node + (g - r.first)) % 2 ^ 24 * 2 ^ 16))
  | none => s

/-- The segment belongs to a partition that is not EMPTY, which keeps it (R220). -/
def State.segKept (s : State) (g : Nat) : Bool :=
  let o := bitsAt (s.depotEntry g) 1 4
  if h : o < 8 then bitsAt (s.depotEntry g) 0 1 == 1 && (s.part ⟨o, h⟩).state != .empty else false

/-- A transaction to one of the segments is outstanding (R220): on its way to a port, waiting there, at the node, or held. -/
def State.segBusy (s : State) (first count : Nat) : Bool :=
  let hit := fun (a : Nat) => decide (first ≤ depotSeg a) && decide (depotSeg a < first + count)
  (s.noc.pkts.any fun f => f.pkt.ep == 8 && decide (f.pkt.op < 2) && hit f.pkt.addr) ||
    (List.finRange 8).any fun i =>
      let p := s.port i
      p.arrived.any (fun (x : Pkt) => hit x.addr) || (p.outst ++ p.queue).any (fun (r : DReq) => hit r.addr) ||
        p.held.any fun (h : HeldW) => hit h.addr

/-- Grants and returns that waited for a transaction act once none is outstanding (R220, R474), unless a partition has come to keep a
segment meanwhile. -/
def State.depotMapDue (s : State) : State :=
  s.waiting.foldl (fun (t : State) x =>
    match x.2.wait with
    | .depotMap first count owner ro =>
      if t.segBusy first count then t
      else if (List.range count).any fun k => t.segKept (first + k) then t.answer x.1 x.2.cmd.stamp (rspEmpty .notOwner 0)
      else ((List.range count).foldl (fun (u : State) k => u.grantSeg owner ro (first + k)) t).answer x.1 x.2.cmd.stamp (rspEmpty .ok 0)
    | _ => t) s

end Sys2Proof.Machine
end

