-- ==== Sys2Proof/Machine/Lanes.lean ====
section
/-!
DEFINITION. Quads and lanes (R254 to R275): which physical lane carries a logical lane, service, retraining, and what losing
service does to the link.  A lane is named by its physical number; a logical lane by its working quad and position.
-/
namespace Sys2Proof.Machine

/-- Links the part carries (R253). -/
def State.nLinks (s : State) : Nat := if s.variant = .d then 12 else 24

/-- Link k. -/
def State.link (s : State) (k : Fin 24) : Link := vget s.lnk.links k
/-- Link k replaced. -/
def State.setLink (s : State) (k : Fin 24) (l : Link) : State := { s with lnk := { s.lnk with links := vset s.lnk.links k l } }
/-- The machine of partition n. -/
def State.mach (s : State) (n : Fin 8) : Mach := vget s.lnk.machs n
/-- The machine of partition n replaced. -/
def State.setMach (s : State) (n : Fin 8) (m : Mach) : State := { s with lnk := { s.lnk with machs := vset s.lnk.machs n m } }
/-- Lane i of link k. -/
def State.stream (s : State) (k : Fin 24) (i : Fin 4) : Stream := vget (s.link k).streams i
/-- Lane i of link k replaced. -/
def State.setStream (s : State) (k : Fin 24) (i : Fin 4) (x : Stream) : State :=
  s.setLink k { s.link k with streams := vset (s.link k).streams i x }

/-- STATE of a link: 0 DOWN, 1 TRAINING, 2 UP, 3 FAULT. -/
def State.linkState (s : State) (k : Fin 24) : Nat := s.fld (Reg.LNK_STATE k) 0 2
/-- Lane i of link k is up. -/
def State.laneUp (s : State) (k : Fin 24) (i : Fin 4) : Bool := s.fld (Reg.LNK_STATE k) (2 + i.val) 1 == 1

/-- Lanes the part carries (R278). -/
def State.hasLane (s : State) (l : Nat) : Bool :=
  if s.variant = .d then decide (l < 48) || decide (96 ≤ l) && decide (l < 100) else decide (l < 104)

/-- Working quads the part carries (R278). -/
def State.hasQuad (s : State) (q : Nat) : Bool := decide (q < if s.variant = .d then 12 else 24)

/-- EN of a quad. -/
def State.quadOn (s : State) (q : Nat) : Bool := s.fld (Reg.LANE_QUAD q) 8 1 == 1
/-- MANUAL of a quad. -/
def State.quadManual (s : State) (q : Nat) : Bool := s.fld (Reg.LANE_QUAD q) 9 1 == 1

/-- The quad that spare lane n protects: a quad of its group, or none (R254, R277). -/
def State.protects (s : State) (n : Nat) : Option Nat :=
  let q := s.fld (Reg.LANE_SPARE n) 0 5
  if q / 6 = n / 2 then some q else none

/-- Spare lane n carries logical lane i of quad q. -/
def State.spareCarries (s : State) (q i n : Nat) : Bool :=
  s.fld (Reg.LANE_SPARE n) 7 1 == 1 && s.protects n == some q && s.fld (Reg.LANE_SPARE n) 5 2 == i

/-- The physical lane that carries logical lane i of working quad q (R274). -/
def State.carrier (s : State) (q i : Nat) : Nat :=
  match (List.range 8).find? (s.spareCarries q i) with
  | some n => 96 + n
  | none => 4 * q + i

/-- The logical lane a physical lane carries, if any. -/
def State.carries (s : State) (l : Nat) : Option (Nat × Nat) :=
  if l < 96 then (if s.carrier (l / 4) (l % 4) = l then some (l / 4, l % 4) else none)
  else
    match s.protects (l - 96) with
    | some q => if s.fld (Reg.LANE_SPARE (l - 96)) 7 1 = 1 then some (q, s.fld (Reg.LANE_SPARE (l - 96)) 5 2) else none
    | none => none

/-- The quad a physical lane belongs to (R254). -/
def quadOf (l : Nat) : Nat := l / 4

/-- RX_STATE: 0 OFF, 1 SEEK, 2 LOCK, 3 ADAPT, 4 ALIGN, 5 UP. -/
def State.rx (s : State) (l : Nat) : Nat := s.fld (Reg.LANE_STATE l) 0 3
/-- RX_STATE replaced. -/
def State.setRxState (s : State) (l v : Nat) : State := s.setFld (Reg.LANE_STATE l) 0 3 v

/-- Default of the settings in force: LANE_CFG at reset. -/
def dCfg : Nat → Word := fun l => resetWord (Reg.LANE_CFG l)
/-- Default of the taps in force: those of LANE_FFE at reset. -/
def dTaps : Nat → Taps := fun l => tapsOf (resetWord (Reg.LANE_FFE l))

/-- The transmitter of a lane. -/
def State.sender (s : State) (l : Nat) : LaneTx := mget dTx s.lan.tx l
/-- The transmitter of a lane replaced. -/
def State.setSender (s : State) (l : Nat) (x : LaneTx) : State := { s with lan := { s.lan with tx := mset dTx s.lan.tx l x } }
/-- The receiver of a lane. -/
def State.recv (s : State) (l : Nat) : LaneRx := mget dRx s.lan.rx l
/-- The receiver of a lane replaced. -/
def State.setRecv (s : State) (l : Nat) (x : LaneRx) : State := { s with lan := { s.lan with rx := mset dRx s.lan.rx l x } }

/-- The transmitter of a lane becomes quiet (R266): TX_QUIET. -/
def State.txQuiet (s : State) (l : Nat) : State :=
  (s.setSender l { s.sender l with on := false }).setFld (Reg.LANE_STATE l) 3 1 1

/-- Settings of LANE_CFG in force. -/
def State.cfgNow (s : State) (l : Nat) : Word := mget dCfg s.lan.cfg l

/-- LOOPBACK in force; 0 outside MANUAL (R272). -/
def State.loopback (s : State) (l : Nat) : Nat := if s.quadManual (quadOf l) then bitsAt (s.cfgNow l) 8 2 else 0

/-- The transmitter becomes quiet, and the settings written since take effect (R266, R269). -/
def State.enterQuiet (s : State) (l : Nat) : State :=
  { s with lan := { s.lan with cfg := mset dCfg s.lan.cfg l (s.reg (Reg.LANE_CFG l)),
                               taps := mset dTaps s.lan.taps l (tapsOf (s.reg (Reg.LANE_FFE l))) } }.txQuiet l

/-- An arm that names link k learns that it has left UP (R238). -/
def State.loseLink (s : State) (k : Fin 24) : State :=
  { s with lnk := { s.lnk with machs := Vector.ofFn fun n =>
      let m := s.mach n
      if (s.part n).eph.links.any fun l => l.link == k.val then { m with arming := m.arming.map fun a => { a with lost := true } } else m } }

/-- Link k leaves UP: its INITs are dropped, an arm that waits for it ends (R238), and it trains, or is down with its quad off. -/
def State.linkLeavesUp (s : State) (k : Fin 24) (on : Bool) : State :=
  if s.linkState k = 3 then s
  else ((s.setLink k { s.link k with inits := [] }).setFld (Reg.LNK_STATE k) 0 2 (b2n on)).loseLink k

/-- Logical lane i of quad q leaves service (R268). -/
def State.serviceOut (s : State) (q i : Nat) : State :=
  let s1 := (s.setFld (Reg.LANE_QUAD q) (10 + i) 1 0).setFld (Reg.LANE_STATE (s.carrier q i)) 6 1 0
  if h : s1.fld (Reg.LANE_QUAD q) 0 2 = 1 ∧ s1.fld (Reg.LANE_QUAD q) 2 5 < 24 then
    let k : Fin 24 := ⟨s1.fld (Reg.LANE_QUAD q) 2 5, h.2⟩
    let s2 := s1.setFld (Reg.LNK_STATE k) (2 + i) 1 0
    if s2.fld (Reg.LNK_STATE k) 2 4 = 0 then s2.linkLeavesUp k (s2.quadOn q) else s2
  else s1

/-- A physical lane leaves service. -/
def State.laneOut (s : State) (l : Nat) : State :=
  match s.carries l with
  | some (q, i) => s.serviceOut q i
  | none => s.setFld (Reg.LANE_STATE l) 6 1 0

/-- RX_STATE is SEEK (R267): LOS is set and ABSENT cleared. -/
def State.seeking (s : State) (l : Nat) : State := ((s.setRxState l 1).setFld (Reg.LANE_STATE l) 5 1 0).setFld (Reg.LANE_STATE l) 4 1 1

/-- The receiver enters SEEK (R267), and the entry is counted among those since UP (R274). -/
def State.toSeek (s : State) (l : Nat) : State :=
  let s1 := { s with lan := { s.lan with fails := mset dNat s.lan.fails l (mget dNat s.lan.fails l + 1) } }
  (s1.seeking l).laneOut l

/-- A retrain (R267): quiet, and SEEK; a lane whose receiver is OFF only takes its settings. -/
def State.retrain (s : State) (l : Nat) : State :=
  let s1 := s.enterQuiet l
  if s1.rx l = 0 then s1 else s1.toSeek l

/-- A quad is enabled (R267): its lanes leave service and become quiet, and their receivers seek when the reference is good. -/
def State.laneOn (s : State) (ref : Bool) (l : Nat) : State :=
  let s0 := (s.laneOut l).enterQuiet l
  let s1 := { s0 with lan := { s0.lan with fails := mset dNat s0.lan.fails l (b2n ref) } }
  if ref then s1.seeking l else s1.setRxState l 0

/-- A lane of a quad that is disabled (R266, R267). -/
def State.laneOff (s : State) (l : Nat) : State :=
  ((s.laneOut l).setRxState l 0).txQuiet l

/-- EN and REF_OK of a quad (R262, R267). -/
def State.setQuad (s : State) (q : Nat) (on ref : Bool) : State :=
  let s1 := (s.setFld (Reg.LANE_QUAD q) 8 1 (b2n on)).setFld (Reg.LANE_QUAD q) 14 1 (b2n (on && ref))
  let lanes := (List.range 4).map fun i => 4 * q + i
  if on then lanes.foldl (fun t l => t.laneOn ref l) s1 else lanes.foldl (fun t l => t.laneOff l) s1

end Sys2Proof.Machine
end

