-- ==== Sys2Proof/Machine/Links.lean ====
section
/-!
DEFINITION. The link layer (R231 to R252): placing and queueing flits, go-back-N, exchange words, tokens, votes and epochs,
cross-triggers, and the timebase.
-/
namespace Sys2Proof.Machine

/-- A FRAME flit (R232, R235). -/
def FlitBody.isFrame : FlitBody → Bool
  | .xchg .. => false
  | _ => true

/-- Queue order of a lane: FRAME before XCHG, within one kind in order (R232). -/
def queueFlit (q : List FlitBody) (f : FlitBody) : List FlitBody :=
  if f.isFrame then q.filter (·.isFrame) ++ f :: q.filter fun x => !x.isFrame else q ++ [f]

/-- A flit joins a lane's queue (R232); the lane's flit slots send it (R237). -/
def Stream.enqueue (x : Stream) (f : FlitBody) : Stream := { x with queue := queueFlit x.queue f }

/-- Flits queued for a lane: those not yet given a SEQ, and those to be sent again. -/
def Stream.waiting (x : Stream) : Nat := x.queue.length + (x.replay.length - x.sent)

/-- Stamps taken at sending (R249): t1 of a SYNC and t3 of its reply. -/
def LinkCtl.stamped (now : Nat) : LinkCtl → LinkCtl
  | .sync _ => .sync now
  | .syncReply t1 t2 _ => .syncReply t1 t2 now
  | c => c

/-- What a lane's flit slot takes (R232, R233, R237): a LINKCTL flit first; then the flits to be sent again, from the oldest; then the
next queued flit, while the replay buffer has room. -/
def Stream.take (x : Stream) (now : Nat) : Option (BitVec 288 × Stream) :=
  match x.ctl, x.replay.drop x.sent, x.queue with
  | c :: r, _, _ => some ((c.stamped now).flit, { x with ctl := r })
  | [], (q, f) :: _, _ => some (f.flit q, { x with sent := x.sent + 1 })
  | [], [], f :: r =>
    if x.replay.length < 64 then
      some (f.flit x.txSeq, { x with queue := r, replay := x.replay ++ [(x.txSeq, f)], sent := x.sent + 1, txSeq := (x.txSeq + 1) % 4096 })
    else none
  | [], [], [] => none

/-- The up lane with the fewest flits queued, the lowest on a tie (R232). -/
def State.bestLane (s : State) (k : Fin 24) : Option (Fin 4) :=
  (List.finRange 4).foldl (fun best i =>
    if s.laneUp k i then
      match best with
      | none => some i
      | some b => if (s.stream k i).waiting < (s.stream k b).waiting then some i else some b
    else best) none

/-- Send a sequenced flit on a link (R232). -/
def State.sendFlit (s : State) (k : Fin 24) (f : FlitBody) : State :=
  match s.bestLane k with
  | some i => s.setStream k i ((s.stream k i).enqueue f)
  | none => s.setLink k { s.link k with backlog := (s.link k).backlog ++ [f] }

/-- Send a flit on several links. -/
def State.sendOn (s : State) (f : FlitBody) : List (Fin 24) → State
  | [] => s
  | k :: r => (s.sendFlit k f).sendOn f r

/-- A LINKCTL flit waits to be sent (R236). -/
def Stream.say (x : Stream) (c : LinkCtl) : Stream := { x with ctl := x.ctl ++ [c] }

/-- A LINKCTL flit is to leave on lane i, ahead of its other flits (R232, R236). -/
def State.sendCtl (s : State) (k : Fin 24) (i : Fin 4) (c : LinkCtl) : State :=
  s.setStream k i ((s.stream k i).say c)

/-- The first up lane of a link carries its SYNC and INIT. -/
def State.sendLinkCtl (s : State) (k : Fin 24) (c : LinkCtl) : State :=
  match (List.finRange 4).find? (fun i => s.laneUp k i) with
  | some i => s.sendCtl k i c
  | none => s

/-- The links a partition's ephemeris names (R162, LINKS). -/
def Part.linksOf (p : Part) : List (Fin 24) :=
  p.eph.links.filterMap fun l => if h : l.link < 24 then some ⟨l.link, h⟩ else none

/-- Links of a partition that a replay does not take from its record (R333). -/
def State.liveLinks (s : State) (n : Fin 8) : List (Fin 24) :=
  (s.part n).linksOf.filter fun k => !(s.replaying n && s.fld (Reg.CKP_REPLAY_LINKS n) k.val 1 == 1)

/-- The receiver's part of go-back-N (R237): whether the flit is accepted, and the stream after it with its ACK or NAK. -/
def Stream.receive (x : Stream) (crcOk : Bool) (seq : Nat) : Stream × Bool :=
  if crcOk ∧ seq = x.rxSeq then
    let e := (x.rxSeq + 1) % 4096
    if x.sinceAck + 1 = 8 then
      ({ x with rxSeq := e, nakOut := false, sinceAck := 0, ctl := x.ctl ++ [.ack e] }, true)
    else ({ x with rxSeq := e, nakOut := false, sinceAck := x.sinceAck + 1 }, true)
  else if x.nakOut then (x, false)
  else ({ x with nakOut := true, ctl := x.ctl ++ [.nak x.rxSeq] }, false)

/-- Receive a sequenced flit on a lane; a bad CRC is counted in LNK_CRC_k (R237). -/
def State.receiveSeq (s : State) (k : Fin 24) (i : Fin 4) (crcOk : Bool) (seq : Nat) : State × Bool :=
  let r := (s.stream k i).receive crcOk seq
  let s1 := s.setStream k i r.1
  (if crcOk then s1 else s1.addFld (Reg.LNK_CRC k) 0 32 1, r.2)

/-- How many flits an ACK(e) or NAK(e) frees: those before e in the buffer, none when e names nothing held or next. -/
def freedBy (x : Stream) (e : Nat) : Nat :=
  let k := (e + 4096 - (match x.replay with | (q, _) :: _ => q | [] => x.txSeq)) % 4096
  if k ≤ x.replay.length then k else 0

/-- ACK(e): frees every flit before e (R237). -/
def Stream.acked (x : Stream) (e : Nat) : Stream :=
  let k := freedBy x e
  { x with replay := x.replay.drop k, sent := x.sent - k, resends := if k = 0 then x.resends else 0 }

/-- Eight consecutive resends without progress take the lane down for retraining (R237); its replay buffer is kept. -/
def State.takeDown (s : State) (k : Fin 24) (i : Fin 4) : State :=
  let s1 := s.setStream k i { s.stream k i with resends := 0 }
  s1.retrain (s1.carrier (s1.fld (Reg.LNK_STATE k) 6 5) i.val)

/-- The held flits of a lane are to be sent again from the oldest, which LNK_REPLAY_k counts (R237). -/
def State.fromOldest (s : State) (k : Fin 24) (i : Fin 4) : State :=
  (s.addFld (Reg.LNK_REPLAY k) 0 32 1).setStream k i { s.stream k i with sent := 0 }

/-- Resend the held flits of a lane: counted in LNK_REPLAY_k, and the eighth without progress takes the lane down (R237). -/
def State.resend (s : State) (k : Fin 24) (i : Fin 4) : State :=
  let x := s.stream k i
  let s1 := (s.fromOldest k i).setStream k i { x with sent := 0, resends := x.resends + 1 }
  if x.resends + 1 = 8 then s1.takeDown k i else s1

/-- The local partition a CHAN of link k is mapped to (R238, R239). -/
def State.chanPart (s : State) (k : Fin 24) (chan : Nat) : Option (Fin 8) :=
  let nib := s.fld (Reg.LNK_MAP k) (4 * (chan % 8)) 4
  if nib / 8 = 1 then some ⟨nib % 8, Nat.mod_lt _ (by decide)⟩ else none

/-- The frame whose low byte a flit carries, nearest to the partition's frame as shown (R234, R328). -/
def fullFrame (frame low : Nat) : Nat := frame + (low + 384 - frame % 256) % 256 - 128

/-- Incoming slots of a partition that accept a machine slot id on a link (R127). -/
def Eph.accepting (e : Eph) (k mslot : Nat) : List XSlot := e.xchg.filter fun x => x.incoming && x.link == k && x.mslot == mslot

/-- Hold one exchange word for every slot that accepts it; a word none accepts is counted in LNK_DROP_k (R127, R240, R252). -/
def State.holdWord (s : State) (n : Fin 8) (k : Fin 24) (frame epoch mslot : Nat) (w : DWord) : State :=
  let p := s.part n
  match p.eph.accepting k mslot with
  | [] => s.addFld (Reg.LNK_DROP k) 0 32 1
  | xs =>
    let keep := p.xheld.filter fun h => !(h.frame == frame && xs.any fun x => x.tile * 16 + x.cluster == h.cl && x.slot == h.slot)
    s.setPart n { p with xheld := keep ++ xs.map fun x => ⟨x.tile * 16 + x.cluster, x.slot, frame, epoch, w⟩ }

/-- Hold the words of a flit, of consecutive machine slot ids (R234). -/
def State.holdWords (s : State) (n : Fin 8) (k : Fin 24) (frame epoch mslot : Nat) : List DWord → State
  | [] => s
  | w :: r => (s.holdWord n k frame epoch mslot w).holdWords n k frame epoch (mslot + 1) r

/-- Forward vote entries on the machine's other links, at most 11 in a flit (R243). -/
def State.forwardVotes (s : State) (ks : List (Fin 24)) (chan frame epoch : Nat) (es : List VoteE) : State :=
  if es.isEmpty then s else s.sendOn (.vote chan frame epoch (es.take 11)) ks

/-- Take a vote flit: entries not yet held are kept and forwarded once (R243). -/
def State.takeVotes (s : State) (n : Fin 8) (k : Fin 24) (frame epoch : Nat) (es : List VoteE) : State :=
  let m := s.mach n
  let fresh := es.filter fun e => !(m.votes.any fun v => v.1 == frame && v.2.dev == e.dev)
  let s1 := s.setMach n { m with votes := m.votes ++ fresh.map fun e => (frame, e) }
  s1.forwardVotes ((s.part n).linksOf.filter fun j => j != k) n.val frame epoch fresh

/-- Take a flit of the partition's own epoch (R240). -/
def State.takeFlit (s : State) (n : Fin 8) (k : Fin 24) : FlitBody → State
  | .xchg ws mslot _ frame epoch => s.holdWords n k (fullFrame (s.shownFrame n) frame) epoch mslot ws
  | .token _ frame _ =>
    let m := s.mach n
    s.setMach n { m with tokens := m.tokens ++ [(k.val, frame)] }
  | .vote _ frame epoch es => s.takeVotes n k frame epoch es
  | .xtrig .. => s

/-- CHAN and EPOCH of a flit. -/
def FlitBody.chanEpoch : FlitBody → Nat × Nat
  | .xchg _ _ c _ e => (c, e)
  | .token c _ e => (c, e)
  | .vote c _ e _ => (c, e)
  | .xtrig .. => (0, 0)

/-- An accepted XCHG, TOKEN or VOTE flit (R239, R240): discarded when its CHAN is not mapped or its epoch is neither the
partition's nor the next; held aside when it is the next. -/
def State.chanFlit (s : State) (k : Fin 24) (f : FlitBody) : State :=
  match s.chanPart k f.chanEpoch.1 with
  | none => s.addFld (Reg.LNK_DROP k) 0 32 1
  | some n =>
    let m := s.mach n
    if f.chanEpoch.2 = m.epoch then s.takeFlit n k f
    else if f.chanEpoch.2 = (m.epoch + 1) % 16 then s.setMach n { m with aside := m.aside ++ [(k.val, f)] }
    else s.addFld (Reg.LNK_DROP k) 0 32 1

/-- Take flits held aside. -/
def State.takeAside (s : State) (n : Fin 8) : List (Nat × FlitBody) → State
  | [] => s
  | (k, f) :: r => (if h : k < 24 then s.takeFlit n ⟨k, h⟩ f else s).takeAside n r

/-- The epoch rises by one at an abort or at a decision that halts the machine (R37, R240): words, tokens and votes held for
frames from `from` on are dropped, and flits held aside for the new epoch are taken. -/
def State.raiseEpoch (s : State) (n : Fin 8) (from_ : Nat) : State :=
  let m := s.mach n
  let s1 := s.setMach n { m with epoch := (m.epoch + 1) % 16, tokens := m.tokens.filter (fun t => decide (t.2 < from_)),
                                 votes := m.votes.filter (fun v => decide (v.1 < from_)), aside := [] }
  let s2 := s1.modPart n fun p => { p with xheld := p.xheld.filter fun h => decide (h.frame < from_) }
  s2.takeAside n m.aside

/-- The tick's TOKEN on every link of the machine (R241). -/
def State.sendToken (s : State) (n : Fin 8) : State :=
  let p := s.part n
  if p.eph.spans then s.sendOn (.token n.val p.frame (s.mach n).epoch) (s.liveLinks n) else s

/-- Every linked device's token for the current frame has arrived (R241). -/
def State.tokensHere (s : State) (n : Fin 8) : Bool :=
  (s.liveLinks n).all fun k => (s.mach n).tokens.any fun t => t.1 == k.val && t.2 == (s.part n).cur

/-- Votes held for a frame (R244). -/
def State.votesFor (s : State) (n : Fin 8) (frame : Nat) : List VoteE :=
  ((s.mach n).votes.filter fun v => v.1 == frame).map (·.2)

/-- Entries from all N_DEVICES device indices are held (R244); with every link replayed the partners' are taken as commit (R333). -/
def State.votesHere (s : State) (n : Fin 8) (frame : Nat) : Bool :=
  s.replaying n && (s.liveLinks n).isEmpty ||
  (List.range (s.part n).eph.nDevices).all fun d => (s.votesFor n frame).any fun v => v.dev == d

/-- The device's own vote for the frame in C8 (R243). -/
def State.ownVote (s : State) (n : Fin 8) : VoteE :=
  let p := s.part n
  { dev := p.eph.devIndex, abort := decide (p.errReg.toNat % 16 ≠ 0), stop := bitsAt p.errReg 4 1 == 1,
    cause := bitsAt p.errReg 8 6 }

/-- C8 of a partition that spans devices (R243). -/
def State.sendVote (s : State) (n : Fin 8) : State :=
  let p := s.part n
  if p.eph.spans then
    let e := s.ownVote n
    let m := s.mach n
    let s1 := s.setMach n { m with votes := m.votes ++ [(p.frame, e)] }
    s1.sendOn (.vote n.val p.frame m.epoch [e]) (s.liveLinks n)
  else s

/-- Links whose XTRIG_EN is set (R248). -/
def State.xtrigLinks (s : State) : List (Fin 24) :=
  (List.finRange 24).filter fun k => decide (k.val < s.nLinks) && s.fld (Reg.LNK_CFG k) 0 1 == 1

/-- Originate a cross-trigger (R248). -/
def State.sendXtrig (s : State) (mask : Nat) : State :=
  let x := (s.lnk.xseq + 1) % 65536
  let s1 := { s with lnk := { s.lnk with xseq := x } }
  s1.sendOn (.xtrig (s.fld Reg.LNK_DEVICE_ID 0 8) mask x s.lnk.timebase) s.xtrigLinks

/-- XSEQ is newer than the last taken from its source, in the half-range of 2^15 (R248). -/
def xseqNewer (last : Option Nat) (x : Nat) : Bool :=
  match last with
  | none => true
  | some l => decide ((x + 65536 - l) % 65536 ≠ 0) && decide ((x + 65536 - l) % 65536 < 32768)

/-- Exchange words of a partition sealed at the current step (R125, R234): the outgoing slots whose send step it is. -/
def Part.sealed (p : Part) : List (XSlot × DWord) :=
  (p.eph.xchg.filter fun x => !x.incoming && x.sendStep == p.step).map fun x =>
    (x, mget dWord64 p.xform ((x.tile * 16 + x.cluster) * 256 + x.slot))

/-- Pack words sealed at one step for one link with consecutive machine slot ids, up to three in a flit (R234). -/
def packWords : List (Nat × DWord) → List (Nat × List DWord)
  | [] => []
  | (m, w) :: r =>
    match packWords r with
    | (m', ws) :: t => if m' = m + 1 ∧ ws.length < 3 then (m, w :: ws) :: t else (m, [w]) :: (m', ws) :: t
    | [] => [(m, [w])]

/-- Send packed words. -/
def State.sendWords (s : State) (k : Fin 24) (chan frame epoch : Nat) : List (Nat × List DWord) → State
  | [] => s
  | (m, ws) :: r => (s.sendFlit k (.xchg ws m chan (frame % 256) epoch)).sendWords k chan frame epoch r

/-- Seal and send the step's exchange words on one link. -/
def State.sealLink (s : State) (n : Fin 8) (xs : List (XSlot × DWord)) (k : Fin 24) : State :=
  let mine := sortBy (·.1) ((xs.filter fun x => x.1.link == k.val).map fun x => (x.1.mslot, x.2))
  s.sendWords k n.val (s.part n).frame (s.mach n).epoch (packWords mine)

/-- Seal the exchange words whose send step is the current one (R125). -/
def State.sealStep (s : State) (n : Fin 8) : State :=
  let xs := (s.part n).sealed
  if xs.isEmpty then s else (s.liveLinks n).foldl (fun t k => t.sealLink n xs k) s

end Sys2Proof.Machine
end

