-- ==== Sys2Proof/Machine/Plates.lean ====
section
/-!
DEFINITION. The plate engines (R279 to R309): frame values, the trigger sequencer, capture states, frame blocks, plates, dead
spans and the drain.
-/
namespace Sys2Proof.Machine

/-- Capture of partition n. -/
def State.cap (s : State) (n : Fin 8) : Cap := vget s.plt.caps n
/-- Capture of partition n replaced. -/
def State.setCap (s : State) (n : Fin 8) (c : Cap) : State := { s with plt := { s.plt with caps := vset s.plt.caps n c } }
/-- Capture of partition n changed. -/
def State.modCap (s : State) (n : Fin 8) (f : Cap → Cap) : State := s.setCap n (f (s.cap n))

/-- CAP_STATUS.STATE: 0 IDLE, 1 WAITING, 2 OPEN, 3 DONE (R294, R308). -/
def State.capState (s : State) (n : Fin 8) : Nat := s.fld (Reg.CAP_STATUS n) 0 2
/-- CAP_STATUS.STATE replaced. -/
def State.setCapState (s : State) (n : Fin 8) (v : Nat) : State := s.setFld (Reg.CAP_STATUS n) 0 2 v

/-- Dies of the shape (R18). -/
def Eph.dies (e : Eph) : List Nat := (List.range 4).filter fun d => bitOf e.dieMask d
/-- The home die: the lowest of the shape (R287). -/
def Eph.homeDie (e : Eph) : Nat := (minOf e.dies).getD 0

/-- Group number of a capture group word (R280). -/
def groupNo (w : Word) : Nat := bitsAt w 0 13
/-- Bit position within the group. -/
def groupBit (w : Word) : Nat := bitsAt w 16 6
/-- Group key of a tap. -/
def tapKey (tile : Nat) (w : Word) : Nat := tileDie tile * 8192 + groupNo w

/-- Frame values of the frame's taps, in the frame's order of steps (R281): the later step sets the bit. -/
def Part.groupVals (p : Part) : List (Nat × DWord) :=
  (sortBy (·.step) p.taps).foldl (fun m t =>
    let k := tapKey t.tile t.group
    let v := mget dWord64 m k
    mset dWord64 m k (setBitsAt v (groupBit t.group) 1 (b2n t.bit))) []

/-- The groups of a partition, ascending by key (R280). -/
def Eph.groupKeys (e : Eph) : List Nat := e.taps.foldl (fun a t => insNat (tapKey t.tile t.group) a) []

/-- Largest step among the TAPS records of a group whose bit satisfies a test (R283, R284). -/
def Eph.groupStep (e : Eph) (key : Nat) (f : Nat → Bool) : Nat :=
  ((e.taps.filter fun t => tapKey t.tile t.group == key && f (groupBit t.group)).map (·.step)).foldl max 0

/-- Every group of the frame with its value, its step if changed, and its key step (R283, R284). -/
def Part.frameGroups (p : Part) (q : Seqr) : List GroupVal :=
  let vals := p.groupVals
  p.eph.groupKeys.map fun k =>
    let v := mget dWord64 vals k
    let w := if q.fresh then v else mget dWord64 q.prev k
    { key := k, val := v,
      changed := if v = w then none else some (p.eph.groupStep k fun b => v.getLsbD b != w.getLsbD b),
      keyStep := p.eph.groupStep k fun _ => true }

/-- STOP of the frame: the cause of the STOP in the lowest packed BP address (R97, R290). -/
def Part.stopCause (p : Part) : Option Nat :=
  match minOf (p.stops.map (·.1)) with
  | some b => (p.stops.find? fun x => x.1 == b).map (·.2)
  | none => none

/-- What a frame took at its tick. -/
def Cap.tickOf (c : Cap) (f : Nat) : TickIn := (c.ticks.find? fun t => t.frame == f).getD ⟨f, 0, 0, 0, 0⟩

/-- The value V of a comparator source (R290). -/
def cmpSource (p : Part) (groups : List GroupVal) (t : TickIn) (cfg : Word) : Nat :=
  match bitsAt cfg 0 3 with
  | 0 =>
    let key := bitsAt cfg 8 2 * 8192 + bitsAt cfg 10 13
    match groups.find? fun g => g.key == key with | some g => g.val.toNat | none => 0
  | 1 => p.frame
  | 2 => match p.stopCause with | some c => 1 + 2 * (c % 64) | none => 0
  | 3 => t.xtrig
  | 4 => t.trig
  | _ => 0

/-- FUNC of a comparator (R290). -/
def cmpFunc (func v v' m p : Nat) : Bool :=
  match func with
  | 1 => (v &&& m) == (p &&& m)
  | 2 => (v &&& m) != (p &&& m)
  | 3 => ((v ^^^ v') &&& m) != 0
  | 4 => ((v &&& m) ^^^ (v' &&& v &&& m)) != 0
  | 5 => ((v' &&& m) ^^^ (v' &&& v &&& m)) != 0
  | 6 => decide ((p &&& m) ≤ (v &&& m))
  | 7 => decide ((v &&& m) < (p &&& m))
  | _ => false

/-- One comparator at C5 (R291): its V′ and count after the frame, and its output. -/
def State.cmpStep (s : State) (n : Fin 8) (p : Part) (groups : List GroupVal) (t : TickIn) (q : Seqr) (k : Nat) : Seqr × Bool :=
  let cfg := s.reg (Reg.CAP_CMP_CFG n k)
  let v := cmpSource p groups t cfg
  let v' := if q.fresh then v else mget dNat q.vprev k
  let hit := cmpFunc (bitsAt cfg 4 3) v v' (s.reg64 (Reg.CAP_CMP_MASK n k 0)) (s.reg64 (Reg.CAP_CMP_VALUE n k 0))
  let q1 := { q with vprev := mset dNat q.vprev k v }
  if bitsAt cfg 7 1 = 1 then
    let c := if hit then min (mget dNat q.counts k + 1) 0xFFFFFF else mget dNat q.counts k
    ({ q1 with counts := mset dNat q.counts k c }, decide (s.fld (Reg.CAP_CMP_THRESH n k) 0 24 ≤ c))
  else (q1, hit)

/-- All comparators: the sequencer after, and the outputs as a mask. -/
def State.cmpAll (s : State) (n : Fin 8) (p : Part) (groups : List GroupVal) (t : TickIn) (q : Seqr) : List Nat → Seqr × Nat
  | [] => (q, 0)
  | k :: r =>
    let a := s.cmpStep n p groups t q k
    let b := s.cmpAll n p groups t a.1 r
    (b.1, b.2 + (if a.2 then 2 ^ k else 0))

/-- A condition of a state (R291): a state with an empty mask never holds. -/
def seqHolds (mask c : Nat) (all : Bool) : Bool := mask != 0 && (if all then (mask &&& c) == mask else (mask &&& c) != 0)

/-- Shape of a change record (R282, R285). -/
def State.changeRec (s : State) (n : Fin 8) (f tb : Nat) (key : Bool) (g : GroupVal) : BitVec 256 :=
  let gid := g.key % 8192 + n.val * 2 ^ 13 + g.key / 8192 * 2 ^ 16 + s.fld Reg.LNK_DEVICE_ID 0 8 * 2 ^ 24 +
    (s.part n).eph.machineId * 2 ^ 32
  let step := if key then g.keyStep else g.changed.getD 0
  BitVec.ofNat 256 (gid + g.val.toNat * 2 ^ 64 + (f % 2 ^ 48 + step * 2 ^ 48 + b2n key * 2 ^ 61) * 2 ^ 128 + tb % 2 ^ 64 * 2 ^ 192)

/-- Shape of an event record (R286). -/
def State.evtRec (s : State) (die : Nat) (e : Evt) : BitVec 256 :=
  let w0 := e.code + e.arg * 2 ^ 8 + e.overrun * 2 ^ 16 + e.part * 2 ^ 32 + die * 2 ^ 35 + s.fld Reg.LNK_DEVICE_ID 0 8 * 2 ^ 40
  BitVec.ofNat 256 (w0 + e.payload % 2 ^ 64 * 2 ^ 64 + (e.frame % 2 ^ 48 + e.step % 2 ^ 13 * 2 ^ 48 + 2 ^ 62) * 2 ^ 128 +
    e.tb % 2 ^ 64 * 2 ^ 192)

/-- Share of partition n on die d in units (R297). -/
def State.shareUnits (s : State) (n : Fin 8) (d : Nat) : Nat := s.fld (Reg.CAP_STORE_SIZE n d) 0 21

/-- Ring distance from a position to another. -/
def ringDist (size a b : Nat) : Nat := (b + size - a) % max 1 size

/-- What a share holds on a die, as position and units: blocks and closed parts. -/
def Cap.items (c : Cap) (d : Nat) : List (Nat × Nat) :=
  (c.segs.filter fun x => x.die == d).map (fun x => (x.pos, x.units)) ++ (c.closed.filter fun x => x.die == d).map fun x => (x.pos, x.units)

/-- The oldest position of a share in use (R302): the start of the oldest thing held, TAIL where the host has freed a part of it, HEAD
when nothing is held. -/
def Cap.oldest (c : Cap) (size tail head d : Nat) : Nat :=
  let at_ := fun (x : Nat × Nat) =>
    if ringDist size tail (x.1 + x.2) < ringDist size tail x.1 then 0 else ringDist size tail x.1
  match minOf ((c.items d).map at_) with
  | some m => (tail + m) % max 1 size
  | none => head

/-- The ring has room for `need` units past HEAD (R297, R302): one unit always stays unused. -/
def Cap.room (c : Cap) (size tail head need d : Nat) : Bool :=
  decide (ringDist size (c.oldest size tail head d) head + need + 1 ≤ size)

/-- CAP_STORE_TAIL_d follows what the shares hold (R302). -/
def State.tailsMove (s : State) (n : Fin 8) : State :=
  (List.range 4).foldl (fun (t : State) d =>
    if t.shareUnits n d = 0 then t
    else t.setFld (Reg.CAP_STORE_TAIL n d) 0 20
      ((t.cap n).oldest (t.shareUnits n d) (t.fld (Reg.CAP_STORE_TAIL n d) 0 20) (t.fld (Reg.CAP_STORE_HEAD n d) 0 20) d)) s

/-- Key of a unit of the plate store. -/
def State.unitKey (s : State) (n : Fin 8) (d pos : Nat) : Nat :=
  d * 2 ^ 20 + (s.fld (Reg.CAP_STORE_BASE n d) 0 20 + pos % max 1 (s.shareUnits n d)) % 2 ^ 20

/-- Write consecutive units. -/
def State.putUnits (s : State) (n : Fin 8) (d pos : Nat) : List (BitVec 256) → State
  | [] => s
  | r :: t =>
    State.putUnits { s with plt := { s.plt with store := mset (fun _ => (0 : BitVec 256)) s.plt.store (s.unitKey n d pos) r } }
      n d (pos + 1) t

/-- Reclaim whole key intervals from the oldest pending records of a die while WAITING (R297), until `need` units fit or only
the latest key frame and what follows it is left. -/
def reclaim (size tail head need : Nat) (c : Cap) (d : Nat) : Nat → Cap
  | 0 => c
  | fuel + 1 =>
    if c.room size tail head need d then c
    else
      let mine := c.segs.filter fun x => x.die == d
      match (mine.drop 1).dropWhile (fun x => !x.key) with
      | [] => c
      | k :: _ => reclaim size tail head need { c with segs := c.segs.filter fun x => !(x.die == d && decide (x.frame < k.frame)) } d fuel

/-- The released frame is a key frame by its number, or as the first one recorded (R284). -/
def State.keyDue (s : State) (n : Fin 8) (frame : Nat) : Bool :=
  let k := s.fld (Reg.CAP_KEY_INTERVAL n) 0 24
  (s.cap n).keyNext || (k != 0 && (frame - (s.part n).start) % k == 0)

/-- Asynchronous events that a die's block of frame f takes from its FIFO (R287): those of the home die. -/
def State.blockEvts (s : State) (n : Fin 8) (f d : Nat) : List Evt :=
  if (s.part n).eph.homeDie == d then
    (vget s.plt.fifos ⟨d % 4, Nat.mod_lt _ (by decide)⟩).filter fun e => e.part == n.val && decide (e.frame ≤ f)
  else []

/-- The other records of a die's block (R284 to R287): the DEAD record that goes first, and the change and synchronous event records. -/
def State.blockRecs (s : State) (n : Fin 8) (bd : BlockDue) (isKey : Bool) (d : Nat) : List (BitVec 256) × List (BitVec 256) :=
  let c := s.cap n
  let f := bd.cap.frame
  let t := c.tickOf f
  let dstep := (s.part n).eph.depth
  let mk := fun (code payload step tb : Nat) => s.evtRec d ⟨code, 0, 0, n.val, payload, f, step, tb⟩
  let dead := match c.dead.find? fun x => x.1 == d with
    | some x => [s.evtRec d ⟨8, 0, 0, n.val, x.2.1, f, 0, x.2.2⟩]
    | none => []
  let seqp := bd.cap.st0 + bd.cap.st1 * 16 + b2n bd.cap.condB * 1024
  let sync := if (s.part n).eph.homeDie == d then
      (if bd.trigger then
        let fo := match c.plate with | some pl => pl.forced | none => 0
        [mk 9 (seqp + b2n (fo != 0) * 256 + b2n (fo == 2) * 512) (dstep + 5) t.tb] else []) ++
      (if bitOf bd.cap.act 1 then [mk 10 seqp (dstep + 5) t.tb] else []) ++
      (match bd.cap.stop with
       | some cause => [s.evtRec d ⟨11, cause, 0, n.val, 1, f, dstep + 5, t.tb⟩]
       | none => []) ++
      (bd.outs.map fun o => mk o.1 o.2.1 (dstep + 12) o.2.2)
    else []
  (dead, ((bd.cap.groups.filter fun g => g.key / 8192 == d && (isKey || g.changed.isSome)).map fun g => s.changeRec n f t.tb isKey g) ++ sync)

/-- A die of a partition ends a dead span with its next block (R298). -/
def Cap.inSpan (c : Cap) (d : Nat) : Bool := c.dead.any fun x => x.1 == d

/-- One more dead frame on a die since the last header (R298). -/
def Cap.countDead (c : Cap) (d f : Nat) : Cap :=
  { c with deadRun := c.deadRun ++ [(d, f)],
           deadSince := c.deadSince.map fun x => if x.1 == d then (d, satAdd (2 ^ 32 - 1) x.2.1 1, x.2.2) else x }

/-- Write one die's block of a released frame, or find the frame dead (R284, R287, R297, R298).  A header slot goes before each key block
written while WAITING, and before the first block of the die in an open plate, which a restore or a dead span left without one. -/
def State.writeBlock (s : State) (n : Fin 8) (bd : BlockDue) (key : Bool) (d : Nat) : State :=
  let c := s.cap n
  let f := bd.cap.frame
  let size := s.shareUnits n d
  let tail := s.fld (Reg.CAP_STORE_TAIL n d) 0 20
  let head := s.fld (Reg.CAP_STORE_HEAD n d) 0 20
  let isKey := key || c.inSpan d
  let evts := s.blockEvts n f d
  let r := s.blockRecs n bd isKey d
  let recs := r.1 ++ evts.map (s.evtRec d) ++ r.2
  let slot := if bd.waiting then isKey else !(c.segs.any fun x => x.die == d)
  let need := recs.length + (if slot then 2 else 0)
  let c1 := if bd.waiting then reclaim size tail head need c d c.segs.length else c
  if !(bd.cap.deadDies.contains d) && c1.room size tail head need d then
    let s1 := s.setCap n { c1 with segs := c1.segs ++ [⟨d, head, need, f, isKey, slot⟩], dead := c1.dead.filter fun x => x.1 != d,
                                   filed := c1.filed ++ evts }
    let s2 := (s1.putUnits n d (head + (if slot then 2 else 0)) recs).setFld (Reg.CAP_STORE_HEAD n d) 0 20 ((head + need) % max 1 size)
    let s3 := s2.setFld (Reg.CAP_STORE_TAIL n d) 0 20 (c1.oldest size tail head d)
    if (s.part n).eph.homeDie == d then
      let i : Fin 4 := ⟨d % 4, Nat.mod_lt _ (by decide)⟩
      let keep := (vget s3.plt.fifos i).filter fun e => !(e.part == n.val && decide (e.frame ≤ f))
      { s3 with plt := { s3.plt with fifos := vset s3.plt.fifos i keep } }
    else s3
  else
    let c2 := c1.countDead d f
    (s.setCap n { c2 with dead := if c.inSpan d then c2.dead else c2.dead ++ [(d, f, (c.tickOf f).tb)] }).addFld (Reg.CAP_DEAD_FRAMES n d) 0 32 1

/-- What C5 of a frame does (R283, R291): the change set is fixed and the trigger sequencer acts once.  A die's record buffer
of 65,536 records is shared by the change sets of undecided frames and the records of blocks not yet written (R298). -/
def State.capFix (s : State) (n : Fin 8) : State :=
  let p := s.part n
  let c := s.cap n
  let q := c.seqr
  let groups := p.frameGroups q
  let t := c.tickOf p.frame
  let r := s.cmpAll n p groups t q (List.range 64)
  let ctl := s.reg (Reg.CAP_SEQ_CTRL n q.st)
  let a := seqHolds (s.reg64 (Reg.CAP_SEQ_MASK n q.st 0)) r.2 (bitsAt ctl 0 1 == 1)
  let b := seqHolds (s.reg64 (Reg.CAP_SEQ_MASK n q.st 2)) r.2 (bitsAt ctl 1 1 == 1)
  let act := if a then bitsAt ctl 12 5 else if b then bitsAt ctl 17 5 else 0
  let st1 := if a then bitsAt ctl 4 4 else if b then bitsAt ctl 8 4 else q.st
  let counts := if bitOf act 4 then [] else r.1.counts
  let q1 : Seqr := { st := st1, counts := counts, vprev := r.1.vprev, prev := p.groupVals, fresh := false }
  let held := fun d => ((List.finRange 8).map fun m =>
    let x := s.cap m
    (x.fixed.map fun f => (f.groups.filter fun g => g.key / 8192 == d && g.changed.isSome).length).foldl (· + ·) 0 +
      (match x.due with
       | some bd =>
         let r := s.blockRecs m bd (s.keyDue m bd.cap.frame || x.inSpan d) d
         r.1.length + r.2.length
       | none => 0)).foldl (· + ·) 0
  let dead := p.eph.dies.filter fun d =>
    decide (65536 < held d + (groups.filter fun g => g.key / 8192 == d && g.changed.isSome).length)
  let fc : FrameCap := { frame := p.frame, groups := groups, deadDies := dead, before := q, act := act, condB := !a && b,
                         st0 := q.st, st1 := st1, stop := p.stopCause }
  s.setCap n { c with seqr := q1, fixed := c.fixed ++ [fc] }

/-- Write the block on every die of the shape. -/
def State.writeBlocks (s : State) (n : Fin 8) (bd : BlockDue) (key : Bool) : List Nat → State
  | [] => s
  | d :: r => (s.writeBlock n bd key d).writeBlocks n bd key r

/-- Key frames that every die of the shape still holds, ascending (R295). -/
def Cap.keyFrames (c : Cap) (dies : List Nat) : List Nat :=
  ((c.segs.filter (·.key)).map (·.frame)).foldl (fun a f =>
    if dies.all fun d => c.segs.any fun x => x.die == d && x.key && x.frame == f then insNat f a else a) []

/-- A trigger frame is released (R294, R295): the plate opens and every record older than FIRST_FRAME is reclaimed.  A key frame is
retained when every die holds it; where none is, dead spans having taken them, the oldest that any die holds (DESIGN CHOICE, log
entry 140). -/
def Cap.openPlate (c : Cap) (dies : List Nat) (f forced : Nat) : Cap :=
  let keys := c.keyFrames dies
  let at_ := (keys.filter fun k => decide (k + c.pre ≤ f)).getLast?
  let first := match at_, keys.head?, minOf ((c.segs.filter (·.key)).map (·.frame)) with
    | some k, _, _ => k
    | none, some k, _ => k
    | none, none, some k => k
    | none, none, none => f
  { c with plate := some ⟨f, first, f + c.post, forced, at_.isNone, c.resumed⟩, resumed := false, waited := 0, autoDue := false,
           segs := c.segs.filter fun x => decide (first ≤ x.frame) }

/-- AUTO: the frame that reaches the timeout becomes the trigger frame, FORCED (R294). -/
def State.autoTrigger (s : State) (n : Fin 8) : State :=
  let c := s.cap n
  if c.autoDue ∧ s.capState n = 1 then
    match c.due with
    | some bd =>
      let pl : PlateOpen := ⟨bd.cap.frame, bd.cap.frame, bd.cap.frame + c.post, 1, false, false⟩
      (s.setCap n { c with due := some { bd with trigger := true }, autoDue := false, plate := some pl }).setCapState n 2
    | none => s.setCap n { c with autoDue := false }
  else s

/-- Write the block that is due (R287): nothing in IDLE and DONE. -/
def State.blockWrite (s : State) (n : Fin 8) : State :=
  let s0 := s.autoTrigger n
  let c := s0.cap n
  match c.due with
  | none => s0
  | some bd =>
    let st := s0.capState n
    let s1 := s0.setCap n { c with due := none }
    if st = 1 ∨ st = 2 then
      let key := s0.keyDue n bd.cap.frame
      let s2 := (s1.modCap n fun c => { c with keyNext := false }).writeBlocks n bd key (s0.part n).eph.dies
      if bd.trigger then
        (s2.modCap n fun c => c.openPlate (s0.part n).eph.dies bd.cap.frame (match c.plate with | some pl => pl.forced | none => 0)).tailsMove n
      else s2
    else s1

/-- The header of a plate part (R300). -/
def State.plateHeader (s : State) (n : Fin 8) (d : Nat) (pl : PlateOpen) (last records : Nat) (trunc : Bool)
    (since : Nat × Nat) : Nat :=
  let w0 := 0x54414C50 + 2 ^ 32 + n.val * 2 ^ 40 + d * 2 ^ 43 + b2n (pl.forced != 0) * 2 ^ 45 + b2n trunc * 2 ^ 46 +
    b2n pl.resumed * 2 ^ 47 + s.fld Reg.LNK_DEVICE_ID 0 8 * 2 ^ 48
  w0 + ((s.reg (Reg.CAP_PLATES n)).toNat + (s.part n).eph.machineId * 2 ^ 32) * 2 ^ 64 + pl.first % 2 ^ 48 * 2 ^ 128 +
    pl.trig % 2 ^ 48 * 2 ^ 192 + last % 2 ^ 48 * 2 ^ 256 + (records % 2 ^ 32 + since.1 % 2 ^ 32 * 2 ^ 32) * 2 ^ 320 +
    since.2 % 2 ^ 64 * 2 ^ 384

/-- Records of a stretch of units. -/
def State.unitsAt (s : State) (n : Fin 8) (d pos count : Nat) : List (BitVec 256) :=
  (List.range count).map fun i => mget (fun _ => (0 : BitVec 256)) s.plt.store (s.unitKey n d (pos + i))

/-- One die closes its plate part (R295, R300): its header is written into the slot before FIRST_FRAME.  A die that holds no record of
the plate writes a part of a header alone, where it has room (DESIGN CHOICE, log entry 140). -/
def State.closePart (s : State) (n : Fin 8) (pl : PlateOpen) (last d : Nat) : State :=
  let c := s.cap n
  let mine := c.segs.filter fun x => x.die == d && decide (pl.first ≤ x.frame)
  let size := s.shareUnits n d
  let head := s.fld (Reg.CAP_STORE_HEAD n d) 0 20
  let pos := match mine with | x :: _ => x.pos | [] => head
  let units := if mine.isEmpty then 2 else (mine.map (·.units)).foldl (· + ·) 0
  let recs := mine.flatMap fun x => s.unitsAt n d (x.pos + (if x.slot then 2 else 0)) (x.units - (if x.slot then 2 else 0))
  let since := match c.deadSince.find? fun x => x.1 == d with | some x => (x.2.1, x.2.2) | none => (0, 0)
  let hdr := s.plateHeader n d pl last recs.length pl.trunc since
  let crc := crc32 (numBits 480 hdr ++ recs.flatMap fun r => numBits 256 r.toNat)
  let full := hdr + crc.toNat * 2 ^ 480
  if mine.isEmpty && !c.room size (s.fld (Reg.CAP_STORE_TAIL n d) 0 20) head 2 d then s
  else
    let s1 := s.putUnits n d pos [BitVec.ofNat 256 full, BitVec.ofNat 256 (full / 2 ^ 256)]
    let s2 := if mine.isEmpty then s1.setFld (Reg.CAP_STORE_HEAD n d) 0 20 ((head + 2) % max 1 size) else s1
    s2.setCap n { c with segs := c.segs.filter (fun x => !(x.die == d)),
                         closed := c.closed ++ [⟨d, pos, units, (s.reg (Reg.CAP_PLATES n)).toNat⟩],
                         deadSince := c.deadSince.map fun x => if x.1 == d then (d, 0, 0) else x }

/-- An open plate closes at a frame (R294, R296): SINGLE goes to DONE, the others to WAITING; the next frame is a key frame. -/
def State.closePlate (s : State) (n : Fin 8) (last : Nat) : State :=
  match (s.cap n).plate with
  | none => s
  | some pl =>
    if s.capState n = 2 then
      let s1 := (s.part n).eph.dies.foldl (fun t d => t.closePart n pl last d) s
      let s2 := (s1.modCap n fun c => { c with plate := none, keyNext := true, waited := 0 }).addFld (Reg.CAP_PLATES n) 0 32 1
      s2.setCapState n (if s.fld (Reg.CAP_CFG n) 0 2 = 1 then 3 else 1)
    else s

/-- The plate closes once the frame T + POST is released and its block written (R294). -/
def State.closeDue (s : State) (n : Fin 8) : State :=
  let c := s.cap n
  match c.plate, c.lastRel, c.due with
  | some pl, some f, none => if pl.last ≤ f then s.closePlate n f else s
  | _, _, _ => s

/-- Whatever the last release left to do: the AUTO trigger, the block, the close (R287, R294). -/
def State.capSettle (s : State) (n : Fin 8) : State := (s.blockWrite n).closeDue n

/-- TRIG balls asserted: low from outside, or, of those set as outputs, driven by a pulse of any partition (R289). -/
def State.trigLevels (s : State) : Nat :=
  let ext := (List.finRange 8).foldl (fun a i => a + (if vget s.plt.trigLow i = 0 then 0 else 2 ^ i.val)) 0
  let drive := (List.finRange 8).foldl (fun a n => (vget s.plt.trigDrive n).foldl (· ||| ·) a) 0
  ext ||| (drive &&& s.fld Reg.CAP_TRIG_BALLS 0 8)
/-- CAP_TRIG_BALLS.LEVEL follows the balls. -/
def State.showTrig (s : State) : State := s.setFld Reg.CAP_TRIG_BALLS 8 8 s.trigLevels

/-- Drop ticks no longer needed. -/
def Cap.prune (c : Cap) (f : Nat) : Cap := { c with ticks := c.ticks.filter fun t => decide (f ≤ t.frame + 1) }

/-- C12 of the release of frame f at timebase `tb` (R292, R294, R296, R304): trigger outputs, the capture state, and the block due. -/
def State.capRelease (s : State) (n : Fin 8) (f tb : Nat) : State :=
  let s := s.capSettle n
  let c := s.cap n
  match c.fixed.find? fun x => x.frame == f with
  | none => s.setCap n { c with lastRel := some f }
  | some fc =>
    let act := s.reg (Reg.CAP_SEQ_ACT n fc.st0)
    let balls := if bitOf fc.act 3 then bitsAt act 16 8 &&& s.fld Reg.CAP_TRIG_BALLS 0 8 else 0
    let lines := if bitOf fc.act 2 then bitsAt act 0 16 else 0
    let s1 := if bitOf fc.act 3 then
        { s with plt := { s.plt with trigDrive := vset s.plt.trigDrive n (vget s.plt.trigDrive n ++ [balls]) } }.showTrig
      else s
    let s2 := if bitOf fc.act 2 then s1.sendXtrig lines else s1
    let outs := (if bitOf fc.act 3 then [(12, balls, tb)] else []) ++
      (if bitOf fc.act 2 then [(13, lines + s2.lnk.xseq * 2 ^ 24, tb)] else [])
    let st := s2.capState n
    let hostForced := c.force == some f
    let trig := st == 1 && (bitOf fc.act 0 || hostForced)
    let waited := if st = 1 then c.waited + 1 else c.waited
    let timeout := (s2.reg (Reg.CAP_AUTO_TIMEOUT n)).toNat
    let auto := st == 1 && !trig && s2.fld (Reg.CAP_CFG n) 0 2 == 2 && timeout != 0 && decide (timeout ≤ waited)
    let plate := if trig then some ⟨f, f, f + c.post, if hostForced then 2 else 0, false, false⟩ else c.plate
    let s3 := if st == 2 && bitOf fc.act 0 then s2.addFld (Reg.CAP_TRIG_IGNORED n) 0 32 1 else s2
    let c1 : Cap := { c with
      fixed := c.fixed.filter (fun x => decide (f < x.frame)), waited := waited, autoDue := auto, plate := plate,
      force := if hostForced then none else c.force, lastRel := some f, due := some ⟨fc, st == 1, trig, outs⟩ }
    let s4 := s3.setCap n (c1.prune f)
    let s5 := if trig then s4.setCapState n 2 else s4
    (List.range 64).foldl (fun t k =>
      let v := if bitOf fc.act 4 then 0 else
        match c.fixed.find? (fun x => decide (f < x.frame)) with
        | some nx => mget dNat nx.before.counts k
        | none => mget dNat c.seqr.counts k
      if t.fld (Reg.CAP_CMP_COUNT n k) 0 24 = v then t else t.setFld (Reg.CAP_CMP_COUNT n k) 0 24 v)
      (s5.setFld (Reg.CAP_STATUS n) 2 4 fc.st1)

/-- Discarded frames lose their change sets and actions, and the sequencer returns to where it stood at the first of them
(R35, R293). -/
def State.capDiscard (s : State) (n : Fin 8) (fromF : Nat) : State :=
  let c := s.cap n
  match c.fixed.find? fun x => decide (fromF ≤ x.frame) with
  | some fc => s.setCap n { c with fixed := c.fixed.filter (fun x => decide (x.frame < fromF)), seqr := fc.before }
  | none => s

/-- An asynchronous event enters the FIFO of a partition's home die, or is lost (R286, R288).  A replay takes its asynchronous events
from its entries (R333). -/
def State.pushEvt (s : State) (n : Fin 8) (e : Evt) : State :=
  if (s.capState n = 1 ∨ s.capState n = 2) ∧ s.replaying n = false then
    let d : Fin 4 := ⟨(s.part n).eph.homeDie % 4, Nat.mod_lt _ (by decide)⟩
    let l := vget s.plt.fifos d
    if l.length < 64 then
      let e1 := { e with overrun := min (vget s.plt.overrun d) 0xFFFF }
      ({ s with plt := { s.plt with fifos := vset s.plt.fifos d (l ++ [e1]), overrun := vset s.plt.overrun d 0 } }).maxFld
        (Reg.CAP_FIFO_MAX d) 0 7 (l.length + 1)
    else
      ({ s with plt := { s.plt with overrun := vset s.plt.overrun d (vget s.plt.overrun d + 1) } }).addFld (Reg.CAP_OVERRUN n) 0 32 1
  else s

/-- An event tagged with a partition's frame, step and the timebase now. -/
def State.evtNow (s : State) (n : Fin 8) (code arg payload : Nat) : Evt :=
  ⟨code, arg, 0, n.val, payload, s.shownFrame n, (s.part n).step, s.lnk.timebase⟩

/-- ARM of capture at a tick (R291, R294, R295). -/
def State.capArm (s : State) (n : Fin 8) : State :=
  let w := s.reg (Reg.CAP_WINDOW n)
  let c := s.cap n
  let s1 := s.setCap n { c with
    seqr := { c.seqr with st := 0, counts := [] }, pre := bitsAt w 0 16, post := bitsAt w 16 16 }
  if s.capState n = 0 ∨ s.capState n = 3 then
    (s1.modCap n fun c => { c with waited := 0, keyNext := true, autoDue := false }).setCapState n 1
  else s1

/-- The pending capture actions act at a tick (R296): ARM, then FORCE, then CLOSE, then DISARM. -/
def State.capActions (s : State) (n : Fin 8) (a : Nat) : State :=
  let s1 := if bitOf a 0 then s.capArm n else s
  let s2 := if bitOf a 1 then s1.modCap n fun c => { c with force := some (s1.part n).frame } else s1
  let s3 := if bitOf a 2 then
      (match (s2.cap n).lastRel with | some f => s2.closePlate n f | none => s2) else s2
  if bitOf a 3 then
    let s4 := match (s3.cap n).lastRel with | some f => s3.closePlate n f | none => s3
    (s4.modCap n fun c => { c with segs := [], plate := none, dead := [], autoDue := false }).setCapState n 0 |>.tailsMove n
  else s3

/-- Asynchronous events an entry files (R324). -/
def RecE.asyncs (e : RecE) : List Evt :=
  e.items.filterMap fun x => match x with | .async _ v => some v | _ => none

/-- XTRIG lines an entry files. -/
def RecE.xtrigLines (e : RecE) : Nat :=
  e.items.foldl (fun a x => match x with | .xtrig m => a ||| m | _ => a) 0

/-- Capture actions an entry files. -/
def RecE.capActs (e : RecE) : Nat :=
  e.items.foldl (fun a x => match x with | .capctl m => a ||| m | _ => a) 0

/-- What the comparator source TRIG sees at the tick of a recorded frame: the edges, and the levels last stamped, of the
TRIG_IN events filed for the frame before (R290, R304; log entry 21). -/
def State.replayTrig (s : State) (n : Fin 8) (f : Nat) : Nat :=
  let c := s.ck n
  let l := match c.replay with | some l => l | none => runEntries c.record
  let evs := (l.flatMap RecE.asyncs).filter fun e => e.code == 1 && e.frame + 1 == f
  evs.foldl (fun a e => (a / 256 ||| 2 ^ e.arg) * 256 + e.payload % 256) (s.trigLevels)

/-- The periods of dead frames that have ended, to CAP_DEAD_NS_d (R298): from the tick of the frame to the tick of the next. -/
def State.deadPeriods (s : State) (n : Fin 8) : State :=
  let c := s.cap n
  let tb := fun (f : Nat) => (c.ticks.find? fun t => t.frame == f).map (·.tb)
  let done := c.deadRun.filterMap fun x =>
    match tb x.2, tb (x.2 + 1) with | some a, some b => some (x, b - a) | _, _ => none
  let s1 := done.foldl (fun t x =>
    let a := Reg.CAP_DEAD_NS_LO n x.1.1
    t.setReg64 a ((t.reg64 a + x.2) % 2 ^ 64)) s
  s1.setCap n { c with
    deadRun := c.deadRun.filter fun x => !(done.any fun y => y.1 == x),
    deadSince := c.deadSince.map fun x =>
      (x.1, x.2.1, x.2.2 + ((done.filter fun y => y.1.1 == x.1).map (·.2)).foldl (· + ·) 0) }

/-- Capture actions that act at a tick stand in what its frame took (R296, R304). -/
def Cap.noteActs (c : Cap) (f a : Nat) : Cap :=
  { c with ticks := c.ticks.map fun t => if t.frame == f then { t with capctl := t.capctl ||| a } else t }

/-- A frame is executed again (R293, R296): an ARM that acted at its tick starts the sequencer again. -/
def Cap.armAgain (c : Cap) (f : Nat) : Cap :=
  if bitOf (c.tickOf f).capctl 0 then { c with seqr := { c.seqr with st := 0, counts := [] } } else c

/-- The tick that begins a frame (R248, R290, R296, R298, R304): inputs of a first execution are latched, the pending actions
and marks act, and dead time runs.  A recorded frame takes them from its entry; catch-up leaves the live ones for frame
h + 1 (R327, R328). -/
def State.capTick (s : State) (n : Fin 8) (first : Bool) : State :=
  let s0 := s.capSettle n
  let c := s0.cap n
  let p := s0.part n
  match s0.recEntry n p.frame with
  | some e =>
    let evts := e.asyncs
    let d : Fin 4 := ⟨p.eph.homeDie % 4, Nat.mod_lt _ (by decide)⟩
    let c1 := { c with ticks := c.ticks ++ [⟨p.frame, e.tb, e.xtrigLines, s0.replayTrig n p.frame, e.capActs⟩] }
    let s2 := (s0.setCap n (if first then c1 else c.armAgain p.frame)).deadPeriods n
    if s0.replaying n then
      let s3 := if first then
          { s2 with plt := { s2.plt with fifos := vset s2.plt.fifos d (vget s2.plt.fifos d ++ evts) } }
        else s2
      (s3.modCap n fun c => { c with actions := 0, marks := [], xtrig := 0, edges := 0 }).capActions n (if first then e.capActs else 0)
    else s2
  | none =>
    let tk : TickIn := ⟨p.frame, s0.lnk.timebase, c.xtrig, s0.trigLevels + c.edges * 256, c.actions⟩
    let c1 := if first then { c with ticks := c.ticks ++ [tk], xtrig := 0, edges := 0 } else (c.armAgain p.frame).noteActs p.frame c.actions
    let s2 := (s0.setCap n { c1 with actions := 0, marks := [] }).deadPeriods n
    let s3 := s2.capActions n c.actions
    c.marks.foldl (fun t e => t.pushEvt n e) s3

/-- A partition is armed or restored (R281, R290): the next frame is the first. -/
def State.capFresh (s : State) (n : Fin 8) : State :=
  s.modCap n fun c => { c with seqr := { c.seqr with fresh := true }, fixed := [], ticks := [], due := none, force := none }

/-- The oldest closed part in plate order, and within a plate in ascending die order (R301). -/
def Cap.nextPart (c : Cap) : Option PlatePart := (sortBy (fun x => x.plate * 4 + x.die) c.closed).head?

/-- Start the drain of a part (R301): enabled, no error, none in flight, room for all of it in the ring. -/
def State.drainPart (s : State) (n : Fin 8) : State :=
  let c := s.cap n
  let size := (s.reg (Reg.CAP_DRAIN_SIZE n)).toNat
  let used := ringDist size (s.reg (Reg.CAP_DRAIN_TAIL n)).toNat (s.reg (Reg.CAP_DRAIN_HEAD n)).toNat
  match c.drain, c.nextPart with
  | none, some x =>
    if s.fld (Reg.CAP_CFG n) 2 1 = 1 ∧ s.fld (Reg.CAP_STATUS n) 6 1 = 0 ∧ used + x.units + 1 ≤ size then
      s.setCap n { c with drain := some x }
    else s
  | _, _ => s

/-- Free a part (R301): the store tail follows. -/
def State.freePart (s : State) (n : Fin 8) (x : PlatePart) : State :=
  (s.modCap n fun c => { c with closed := c.closed.filter fun y => !(y == x) }).tailsMove n

/-- The depot address the drain writes next. -/
def State.drainAddr (s : State) (n : Fin 8) : Nat :=
  s.reg64 (Reg.CAP_DRAIN_BASE_LO n) % 2 ^ 46 / 32 * 32 + 32 * (s.reg (Reg.CAP_DRAIN_HEAD n)).toNat

/-- The first and last addresses of the stretches of the drain ring that the next `units` take (R301): two where the ring wraps, each
of less than a segment. -/
def State.drainEnds (s : State) (n : Fin 8) (units : Nat) : List Nat :=
  let size := (s.reg (Reg.CAP_DRAIN_SIZE n)).toNat
  let head := (s.reg (Reg.CAP_DRAIN_HEAD n)).toNat
  let a := s.drainAddr n
  let base := a - 32 * head
  if head + units ≤ size then [a, a + 32 * (units - 1)]
  else [a, base + 32 * (size - 1), base, base + 32 * (head + units - size - 1)]

/-- The completion of a drained part (R301): the map's answer for the partition's own code at every segment it reaches, or the node's. -/
def State.drainAck (s : State) (n : Fin 8) (nodeOk : Bool) : State :=
  let c := s.cap n
  match c.drain with
  | none => s
  | some x =>
    let s1 := s.setCap n { c with drain := none }
    match (s.drainEnds n x.units).find? fun a => s.depotCheck (.part n) a true != .ok with
    | some a => (s1.depotRefuse (.part n) a true).setFld (Reg.CAP_STATUS n) 6 1 1
    | none =>
      if nodeOk then
        let size := (s.reg (Reg.CAP_DRAIN_SIZE n)).toNat
        (s1.setReg (Reg.CAP_DRAIN_HEAD n) (BitVec.ofNat 32 (((s.reg (Reg.CAP_DRAIN_HEAD n)).toNat + x.units) % max 1 size))).freePart n x
      else s1.setFld (Reg.CAP_STATUS n) 6 1 1

/-- A host write of CAP_DRAIN_TAIL (R302): forwards and not past the head, else ignored and logged. -/
def State.drainTail (s : State) (n : Fin 8) (v : Word) (off path : Nat) : State :=
  let size := (s.reg (Reg.CAP_DRAIN_SIZE n)).toNat
  let tail := (s.reg (Reg.CAP_DRAIN_TAIL n)).toNat
  if v.toNat < max 1 size ∧ ringDist size tail v.toNat ≤ ringDist size tail (s.reg (Reg.CAP_DRAIN_HEAD n)).toNat then
    s.setReg (Reg.CAP_DRAIN_TAIL n) v
  else s.logAccess 3 off v path 15

/-- A host write of CAP_STORE_TAIL_d (R301, R302): only without drain, forwards, and not past the last closed part. -/
def State.storeTail (s : State) (n : Fin 8) (d : Nat) (v : Word) (off path : Nat) : State :=
  let c := s.cap n
  let size := s.shareUnits n d
  let tail := s.fld (Reg.CAP_STORE_TAIL n d) 0 20
  let ends := (c.closed.filter fun x => x.die == d).map fun x => ringDist size tail (x.pos + x.units)
  let lim := ends.foldl max 0
  let pos := bitsAt v 0 20
  if s.fld (Reg.CAP_CFG n) 2 1 = 0 ∧ pos < max 1 size ∧ ringDist size tail pos ≤ lim then
    (s.setCap n { c with closed := c.closed.filter fun x =>
      !(x.die == d && decide (ringDist size tail (x.pos + x.units) ≤ ringDist size tail pos)) }).setFld (Reg.CAP_STORE_TAIL n d) 0 20 pos
  else s.logAccess 3 off v path 15

/-- A write of ARM is ignored and logged when the share is 0 on a die of the shape (R294). -/
def State.capNoShare (s : State) (n : Fin 8) : Bool :=
  (s.part n).eph.dies.isEmpty || (s.part n).eph.dies.any fun d => s.shareUnits n d == 0

/-- A write of CAP_CTRL: its actions wait for the next tick (R294, R296). -/
def State.capCtrl (s : State) (n : Fin 8) (v : Nat) (off path : Nat) : State :=
  let bad := bitOf v 0 && s.capNoShare n
  let a := (if bad then v - 1 else v) % 16
  let s1 := s.modCap n fun c => { c with actions := c.actions ||| a }
  if bad then s1.logAccess 3 off (BitVec.ofNat 32 v) path 15 else s1

/-- A write of CAP_MARK_HI posts the mark at the next tick, with its tags fixed now (R286, R296). -/
def State.capMark (s : State) (n : Fin 8) (payload : Nat) : State :=
  if s.fld (Reg.CAP_EVENT_EN n) 9 1 = 1 then
    s.modCap n fun c => { c with marks := c.marks ++ [s.evtNow n 3 0 payload] }
  else s

/-- An accepted cross-trigger reaches the plate engine (R248, R286). -/
def State.xtrigIn (s : State) (mask source xseq : Nat) : State :=
  (List.finRange 8).foldl (fun t n =>
    let t1 := t.modCap n fun c => { c with xtrig := c.xtrig ||| mask }
    if t1.fld (Reg.CAP_EVENT_EN n) 8 1 = 1 then t1.pushEvt n (t1.evtNow n 2 0 (mask + source * 2 ^ 16 + xseq * 2 ^ 24)) else t1) s

/-- FRAME_BLOCK_WRITE (R287). -/
def execFrameBlockWrite (n : Fin 8) (s : State) : Host.Outcome State Fault Refusal := .next (s.blockWrite n)

/-- A TRIG ball is pulled low from outside for `low` ns (R289): an edge of an input ball when that is at least 8; in DORMANT edges are
ignored (R539). -/
def execTrigIn (ball : Fin 8) (low : Word) (s : State) : Host.Outcome State Fault Refusal :=
  let s0 := ({ s with plt := { s.plt with trigLow := vset s.plt.trigLow ball (max (vget s.plt.trigLow ball) low.toNat) } }).showTrig
  if s.fld Reg.CAP_TRIG_BALLS ball.val 1 = 1 ∨ low.toNat < 8 ∨ s.pwr.phase = .dormant ∨ s.pwr.tripped = true then .next s0
  else
    .next ((List.finRange 8).foldl (fun t n =>
      let t1 := t.modCap n fun c => { c with edges := c.edges ||| 2 ^ ball.val }
      if t1.fld (Reg.CAP_EVENT_EN n) ball.val 1 = 1 then t1.pushEvt n (t1.evtNow n 1 ball.val t1.trigLevels) else t1) s0)

/-- The low time of a partition's oldest TRIG_OUT pulse ends (R289): its balls stay low while another pulse drives them. -/
def execTrigPulseEnd (n : Fin 8) (s : State) : Host.Outcome State Fault Refusal :=
  .next ({ s with plt := { s.plt with trigDrive := vset s.plt.trigDrive n (vget s.plt.trigDrive n).tail } }).showTrig

/-- Every TRIG ball is released, in DORMANT and after a trip (R539). -/
def State.trigRelease (s : State) : State := ({ s with plt := { s.plt with trigDrive := Vector.replicate 8 [] } }).showTrig

/-- A nanosecond of the balls that are low from outside (R289). -/
def State.trigNs (s : State) : State :=
  if (List.finRange 8).all fun i => vget s.plt.trigLow i == 0 then s
  else ({ s with plt := { s.plt with trigLow := s.plt.trigLow.map fun k => k - 1 } }).showTrig

/-- AUTO_TIMEOUT (R294). -/
def execAutoTimeout (n : Fin 8) (s : State) : Host.Outcome State Fault Refusal := .next (s.autoTrigger n)

/-- PLATE_CLOSE (R294): the block of the last frame is written first. -/
def execPlateClose (n : Fin 8) (s : State) : Host.Outcome State Fault Refusal := .next (s.capSettle n)

/-- DRAIN_PART (R301). -/
def execDrainPart (n : Fin 8) (s : State) : Host.Outcome State Fault Refusal := .next (s.drainPart n)

/-- DRAIN_ACK (R301). -/
def execDrainAck (n : Fin 8) (nodeOk : Bool) (s : State) : Host.Outcome State Fault Refusal := .next (s.drainAck n nodeOk)

/-- CAPTURE_ARM, a write of ARM (R294). -/
def execCaptureArm (n : Fin 8) (path : Path) (s : State) : Host.Outcome State Fault Refusal :=
  .next (s.capCtrl n 1 (Reg.CAP_CTRL n) path.code)

/-- CAPTURE_FORCE, a write of FORCE (R296). -/
def execCaptureForce (n : Fin 8) (s : State) : Host.Outcome State Fault Refusal := .next (s.capCtrl n 2 (Reg.CAP_CTRL n) 0)

/-- CAPTURE_CLOSE, a write of CLOSE (R296). -/
def execCaptureClose (n : Fin 8) (s : State) : Host.Outcome State Fault Refusal := .next (s.capCtrl n 4 (Reg.CAP_CTRL n) 0)

/-- CAPTURE_DISARM, a write of DISARM (R294). -/
def execCaptureDisarm (n : Fin 8) (s : State) : Host.Outcome State Fault Refusal := .next (s.capCtrl n 8 (Reg.CAP_CTRL n) 0)

/-- HOST_MARK, the write of CAP_MARK_HI with the path's _LO value (R12, R286). -/
def execHostMark (n : Fin 8) (payload : DWord) (s : State) : Host.Outcome State Fault Refusal := .next (s.capMark n payload.toNat)

/-- DRAIN_RESTART: 1 written to DRAIN_ERR (R301). -/
def execDrainRestart (n : Fin 8) (s : State) : Host.Outcome State Fault Refusal := .next (s.setFld (Reg.CAP_STATUS n) 6 1 0)

/-- CAP_DRAIN_TAIL_WRITE (R302). -/
def execCapDrainTailWrite (n : Fin 8) (path : Path) (v : Word) (s : State) : Host.Outcome State Fault Refusal :=
  .next (s.drainTail n v (Reg.CAP_DRAIN_TAIL n) path.code)

/-- CAP_STORE_TAIL_WRITE (R302). -/
def execCapStoreTailWrite (n : Fin 8) (die : Fin 4) (path : Path) (v : Word) (s : State) : Host.Outcome State Fault Refusal :=
  guardUnit s (s.hasDie die) (s.storeTail n die v (Reg.CAP_STORE_TAIL n die) path.code)

end Sys2Proof.Machine
end

