-- ==== Sys2Proof/Machine/Ports.lean ====
section
/-!
DEFINITION. What an evaluation step does at its end outside the BPs (R114 to R123, R125, R129, R192): staged lanes, one issue
per vault port, port E accesses, deliveries into VD, output bits, sealed exchange words.
-/
namespace Sys2Proof.Machine

/-- The OR of the step's writes to one lane of a port (R115). -/
def laneOr (ls : List LaneW) (port group lane : Nat) : Bool :=
  ls.any fun l => l.port == port && l.group == group && l.lane == lane && l.bit

/-- Write one staged lane (R114): WRITE_GO is not staged. -/
def Stage.put (st : Stage) (group lane : Nat) (v : Bool) : Stage :=
  match group with
  | 0 => { st with data := setBitsAt st.data lane 1 (b2n v) }
  | 1 => { st with addr := setBitsAt st.addr lane 1 (b2n v) }
  | _ => if lane = 0 then st else { st with mem := setBitsAt st.mem (lane - 1) 1 (b2n v) }

/-- Stage the step's lane writes (R115). -/
def Part.stageLanes (p : Part) (all : List LaneW) : List LaneW → Part
  | [] => p
  | l :: r =>
    let st := (p.stage l.port).put l.group l.lane (laneOr all l.port l.group l.lane)
    Part.stageLanes { p with stages := mset (fun _ => Stage.zero) p.stages l.port st } all r

/-- A transaction a port issues in a step (R116): a write, or the read of one BP. -/
structure Issue where
  port : Nat
  write : Bool
  bp : Nat
  deriving DecidableEq, Repr

/-- The BPs whose VPUT on WRITE_GO of a port has r = 1 in this step. -/
def Part.writers (p : Part) (port : Nat) : List Nat :=
  (p.lanes.filter fun l => l.port == port && l.group == 2 && l.lane == 0 && l.bit).map (·.bp)

/-- The BPs whose VGET names a port in this step. -/
def Part.getters (p : Part) (port : Nat) : List Nat := (p.gets.filter fun g => g.1 == port).map (·.2)

/-- Ports with a transaction in this step, in ascending tile and port (R192). -/
def Part.issuePorts (p : Part) : List Nat :=
  (((p.lanes.filter fun l => l.group == 2 && l.lane == 0 && l.bit).map (·.port)) ++ p.gets.map (·.1)).foldl
    (fun acc x => insNat x acc) []

/-- The one issue of each port (R116): a write goes before reads; of several reads that of the lowest BP. -/
def Part.issues (p : Part) : List Issue :=
  p.issuePorts.filterMap fun pk =>
    match p.writers pk with
    | b :: _ => some ⟨pk, true, b⟩
    | [] => (minOf (p.getters pk)).map fun b => ⟨pk, false, b⟩

/-- The memory a staged number names (R113). -/
def Eph.mem (e : Eph) (num : Nat) : Option VMem := e.vmem.find? fun m => m.number == num

/-- Where an issue goes (R123): nowhere (undeclared, out of range, another die), to a bank word, or to a depot word. -/
inductive Place where
  | nowhere | bank (bank word width num : Nat) | depot (addr width delta num : Nat)
  deriving DecidableEq, Repr

/-- The word at a place, whichever memory names it: bank and word, or depot address. -/
def Place.word : Place → Option (Nat × Nat)
  | .nowhere => none
  | .bank b w _ _ => some (b, w)
  | .depot a _ _ _ => some (1024, a)

/-- The place a port's staged address names (R113, R123, R185). -/
def Part.place (p : Part) (port : Nat) : Place :=
  let st := p.stage port
  match p.eph.mem st.mem.toNat with
  | none => .nowhere
  | some m =>
    if m.size ≤ st.addr.toNat then .nowhere
    else if m.onChip then
      if m.die ≠ tileDie (port / 4) then .nowhere
      else
        match p.eph.loanOn m.die with
        | none => .nowhere
        | some l => let bw := l.place (m.base + st.addr.toNat); .bank bw.1 bw.2 m.width m.number
    else .depot (m.base + 8 * st.addr.toNat) m.width m.delta m.number

/-- Δ of the declared depot-backed memory that the port's staged number names. -/
def Part.depotDelta (p : Part) (port : Nat) : Option Nat :=
  match p.eph.mem (p.stage port).mem.toNat with
  | some m => if m.onChip then none else some m.delta
  | none => none

/-- A bank on loan to the partition serves at most 4 port E accesses in a step, in rank order (R192). -/
def rankOf (granted : List (Nat × Nat)) (bank port : Nat) : Nat :=
  (granted.filter fun x => x.2 == bank && decide (x.1 < port)).length

/-- The issues whose bank is on loan to the partition: port and bank. -/
def State.grantedE (s : State) (n : Fin 8) (p : Part) (is : List Issue) : List (Nat × Nat) :=
  is.filterMap fun i =>
    match p.place i.port with
    | .bank b _ _ _ => if s.loanOwner b = n.val then some (i.port, b) else none
    | _ => none

/-- Add a read to those in flight. -/
def Part.addRead (p : Part) (r : VRead) : Part := { p with reads := p.reads ++ [r] }

/-- A read that goes nowhere and delivers 0 (R123): `due` is the step at whose end it is written into VD. -/
def Part.fixedRead (p : Part) (bp port due : Nat) : Part :=
  p.addRead ⟨bp, port, true, due, 0, true, false, false, p.frame, 0, 0, 64⟩

/-- Depot-backed reads that a port has outstanding (R120). -/
def Part.portReadsOut (p : Part) (port : Nat) : List VRead := p.reads.filter fun r => r.port == port && !r.onChip

/-- Landing entries of a port in use (R120, R214): those of its outstanding reads, and those whose response, to a read that a load has
made an end of, has not landed. -/
def State.portTags (s : State) (n : Fin 8) (port : Nat) : List Nat :=
  ((s.part n).portReadsOut port).map (·.tag) ++ (s.landingTags (port / 4) 4).filter fun t => t / 64 == port % 4

/-- A landing entry of the port that is free (R214): of a tile's 256 entries, port k has those from 64 k on. -/
def State.freeTag (s : State) (n : Fin 8) (port : Nat) : Option Nat :=
  ((List.range 64).map fun k => port % 4 * 64 + k).find? fun t => !(s.portTags n port).contains t

/-- One port's read (R116 to R123, R191, R192); `granted` ranks the accesses of the step. -/
def State.portRead (s : State) (n : Fin 8) (env : StepEnv) (granted : List (Nat × Nat)) (i : Issue) : State :=
  let p := s.part n
  let num := (p.stage i.port).mem.toNat
  match p.place i.port with
  | .nowhere =>
    let q := p.hazard 9 i.bp 0 num
    match p.depotDelta i.port with
    | some delta =>
      if p.eph.depth ≤ p.step + delta then s.setPart n (q.hazard 10 i.bp 0 num)
      else
        match s.freeTag n i.port with
        | none => s.setPart n (q.hazard 11 i.bp 0 (i.port % 4))
        | some tag => s.setPart n (q.addRead ⟨i.bp, i.port, false, p.step + delta, 0, true, false, false, p.frame, 0, tag, 64⟩)
    | none => s.setPart n (q.fixedRead i.bp i.port (p.step + 5))
  | .bank b w width _ =>
    if s.loanOwner b ≠ n.val then
      (s.vltReject b n.val true).modPart n fun p =>
        Part.fixedRead { p with err := p.err.or ⟨false, false, false, true⟩ } i.bp i.port (p.step + 5)
    else if 4 ≤ rankOf granted b i.port then
      (s.addFld (Reg.VLT_E_OVER (b / 256)) 0 32 1).modPart n fun p => p.fixedRead i.bp i.port (p.step + 5)
    else
      let v := maskWidth width (s.vword b w)
      let s1 := s.modPart n fun p => p.addRead ⟨i.bp, i.port, true, p.step + 5, v, true, false, false, p.frame, b * 8192 + w, 1, width⟩
      if env.vaultDbe.contains (b, w) || s.isDbe b w then
        (s1.vltDbe b w 0).modPart n fun p => { p with err := p.err.or ⟨false, false, true, false⟩ }
      else if env.vaultSbe.contains (b, w) then s1.vltCorr b
      else s1
  | .depot addr width delta num =>
    let due := p.step + delta
    if p.eph.depth ≤ due then s.setPart n (p.hazard 10 i.bp 0 num)
    else
      match s.freeTag n i.port with
      | none => s.setPart n (p.hazard 11 i.bp 0 (i.port % 4))
      | some tag =>
        let e := s.depotEntry (depotSeg addr)
        let att := s.fld (Reg.DEP_PORT_STATE (entryPort e)) 16 8
        let pk : Pkt := ⟨att, 8, i.port / 4, 4, 1, 0, .part n, 0, 0, tag, 0, false, addr, 0, 0, []⟩
        let s1 := s.setPart n (p.addRead ⟨i.bp, i.port, false, due, 0, false, false, false, p.frame, addr, tag, width⟩)
        s1.askRead pk

/-- One port's write (R115, R123, R191 to R194, R220, R224, R226). -/
def State.portWrite (s : State) (n : Fin 8) (granted : List (Nat × Nat)) (i : Issue) : State :=
  let p := s.part n
  let st := p.stage i.port
  match p.place i.port with
  | .nowhere => s.setPart n ((p.writers i.port).foldl (fun q b => q.hazard 9 b 0 st.mem.toNat) p)
  | .bank b w width _ =>
    if s.loanOwner b ≠ n.val then
      (s.vltReject b n.val true).modPart n fun p => { p with err := p.err.or ⟨false, false, false, true⟩ }
    else if 4 ≤ rankOf granted b i.port then s.addFld (Reg.VLT_E_OVER (b / 256)) 0 32 1
    else
      let e : LogE := ⟨i.port / 4, p.frame, b, w, s.vword b w⟩
      let log := e :: p.vlog
      ((s.setVword b w (maskWidth width st.data)).setPart n { p with vlog := log }).maxFld (Reg.VLT_LOG_MAX n) 0 16
        (log.filter fun x => x.tile == i.port / 4).length
  | .depot addr width _ _ =>
    if s.depotCheck (.part n) addr true ≠ .ok then
      (s.depotRefuse (.part n) addr true).modPart n fun p => { p with err := p.err.or ⟨false, false, false, true⟩ }
    else
      let r := s.holdWrite n p.frame addr (maskWidth width st.data)
      if r.2 then r.1 else r.1.modPart n fun p => { p with err := p.err.or ⟨false, false, false, true⟩ }

/-- Reads of the step, on the content at its start, in ascending rank. -/
def State.portReads (s : State) (n : Fin 8) (env : StepEnv) (granted : List (Nat × Nat)) : List Issue → State
  | [] => s
  | i :: r => (if i.write then s else s.portRead n env granted i).portReads n env granted r

/-- Writes of the step, lowest rank first, so that the write of the highest rank persists (R192). -/
def State.portWrites (s : State) (n : Fin 8) (granted : List (Nat × Nat)) : List Issue → State
  | [] => s
  | i :: r =>
    let t := s.portWrites n granted r
    if i.write then t.portWrite n granted i else t

/-- The port hazards of a step (R135, R175): several issues on a port, two BPs on one lane, two writes to one word. -/
def Part.portHazards (p : Part) (is : List Issue) : List Haz :=
  let conflict := p.issuePorts.flatMap fun pk =>
    let bs := (p.writers pk ++ p.getters pk).foldl (fun acc x => insNat x acc) []
    if 1 < (p.writers pk ++ p.getters pk).length then bs.map fun b => (⟨7, b, 0, pk % 4⟩ : Haz) else []
  let lane := p.lanes.filterMap fun l =>
    if p.lanes.any fun m => m.port == l.port && m.group == l.group && m.lane == l.lane && m.bp != l.bp then
      some (⟨8, l.bp, 0, l.group * 256 + l.port % 4 * 64 + l.lane⟩ : Haz)
    else none
  let ws := is.filter (·.write)
  let coll := ws.flatMap fun i =>
    if (p.place i.port).word.isSome ∧ ws.any fun j => j.port != i.port && (p.place j.port).word == (p.place i.port).word then
      (p.writers i.port).map fun b => (⟨12, b, 0, (p.stage i.port).mem.toNat⟩ : Haz)
    else []
  conflict ++ lane ++ coll

/-- Stage, issue and perform the port transactions of an evaluation step. -/
def State.portStep (s : State) (n : Fin 8) (env : StepEnv) : State :=
  let p0 := s.part n
  let p := p0.stageLanes p0.lanes p0.lanes
  let is := p.issues
  let p := if p.eph.debug then { p with hazNow := p.hazNow ++ p.portHazards is } else p
  let s0 := s.setPart n p
  let granted := s0.grantedE n p is
  ((s0.portReads n env granted is).portWrites n granted is).modPart n fun p => { p with lanes := [], gets := [] }

/-- The reads whose delivery falls at the end of counter value k (R117, R118): on-chip reads due at k, and depot-backed reads
due at k + 1. -/
def VRead.falls (r : VRead) (k : Nat) : Bool :=
  (r.onChip && r.due == k) || (!r.onChip && r.due == k + 1 && !r.stale)

/-- The reads among them that are written into VD there: those of a BP none of whose reads is still out (R118, R121). -/
def landing (rs : List VRead) (k : Nat) : List VRead :=
  rs.filter fun r => r.falls k && !(rs.any fun x => x.falls k && x.bp == r.bp && !x.arrived)

/-- The step at whose end a read is written into VD when nothing stalls (R117, R118). -/
def VRead.endsAt (r : VRead) : Nat := if r.onChip then r.due else r.due - 1

/-- Write one read's data into VD (R72, R217).  Data that arrives while the partition stalls counts for the monitor as written at the
step where it would have been written without the stall (R42, R118; DEDUCED, log entry 123). -/
def Part.deliver (p : Part) (r : VRead) : Part :=
  let q := Part.noteAt { p with img := p.img.setVd r.bp r.data } r.bp 4104 r.endsAt
  if r.derr then { q with err := q.err.or ⟨false, false, false, true⟩ } else q

/-- Two deliveries into one VD at the end of one step (R121, R135). -/
def vdDouble (rs : List VRead) : List Haz :=
  (rs.foldl (fun acc r => insNat r.bp acc) []).filterMap fun b =>
    if 1 < (rs.filter fun r => r.bp == b).length then some ⟨13, b, 0, 0⟩ else none

/-- Deliveries into VD at the end of a step, in order of issue, so that the later-issued read's data stays (R121). -/
def Part.deliverVd (p : Part) : Part :=
  let now := landing p.reads p.step
  let p1 := if p.eph.debug then { p with hazNow := p.hazNow ++ vdDouble (p.reads.filter fun r => r.falls p.step) } else p
  now.foldl Part.deliver { p1 with reads := p1.reads.filter fun r => !now.contains r }

/-- Output bits written in the step: OR of the step's writes to a bit (R129). -/
def Part.applyOuts (p : Part) : Part :=
  let bits := (p.outs.map (·.1)).foldl (fun acc x => insNat x acc) []
  let coll := p.outs.filterMap fun o =>
    if p.outs.any fun x => x.1 == o.1 && x.2.2 != o.2.2 then some (⟨17, o.2.2, 0, o.1⟩ : Haz) else none
  let img := bits.foldl (fun m b => Img.setOut m b (p.outs.any fun o => o.1 == b && o.2.1)) p.img
  { p with img := img, outs := [], hazNow := if p.eph.debug then p.hazNow ++ coll else p.hazNow }

end Sys2Proof.Machine
end

