-- ==== Sys2Proof/Machine/Fabric.lean ====
section
/-!
DEFINITION. The fabric of Vitrine (R361 to R363, R374): the crossbar, product terms, steering, carry chains and macrocells, as the
configurations of the regions connect them, and what a home-clock edge makes of a region's registers and drives.
-/
namespace Sys2Proof.Machine

/-- Region r. -/
def State.region (s : State) (r : Fin 8) : VRegion := vget s.vtr.regions r
/-- Region r replaced. -/
def State.setRegion (s : State) (r : Fin 8) (x : VRegion) : State :=
  { s with vtr := { s.vtr with regions := vset s.vtr.regions r x } }
/-- Region by number. -/
def State.regionAt (s : State) (r : Nat) : VRegion := s.vtr.regions.toList.getD r VRegion.reset

/-- STATE of a region: 0 EMPTY, 1 LOADING, 2 SETTLING, 3 RUNNING, 4 FAILED (R377). -/
def State.regState (s : State) (r : Nat) : Nat := s.fld (Reg.VTR_REGION_STATE r) 0 3
/-- The isolation cells are open: the region runs (R373). -/
def State.regOpen (s : State) (r : Nat) : Bool := s.regState r == 3

/-- Macrocell m of the device (R359), where the region's configuration uses it. -/
def State.macro (s : State) (m : Nat) : Option VMac :=
  ((s.regionAt (m / 512)).net.blocks.toList.getD (m % 512 / 128) VBlock.empty).macs.find? (fun x => x.1.val == m % 128) |>.map (·.2)

/-- What storage holds for macrocell m. -/
def State.stored (s : State) (m : Nat) : Bool := (s.regionAt (m / 512)).fabric.storage.getLsbD (m % 512)

/-- What a source of a region whose isolation cells are closed gives (R374): its last value or 0. -/
def State.isoSource (s : State) (r i : Nat) : Bool :=
  (s.regionAt r).isoSources.getLsbD i && (s.regionAt r).isoHeld.getLsbD i

/-- A crossbar source as a block of region r sees it (R363), with the macrocell outputs `out`.  A region's own sources reach it while
its isolation cells are closed (R374). -/
def State.source (s : State) (out : Nat → Bool) (r : Nat) : VSource → Bool
  | .mac m => if r = m.val / 512 ∨ s.regOpen (m.val / 512) then out m.val else s.isoSource (m.val / 512) (m.val % 512)
  | .cell c fall =>
    if r = c.val / 80 ∨ s.regOpen (c.val / 80) then (s.regionAt (c.val / 80)).fabric.cells.getLsbD (6 * (c.val % 80) + b2n fall)
    else s.isoSource (c.val / 80) (512 + 2 * (c.val % 80) + b2n fall)
  | .bout v => (s.regionAt (v.val / 256)).copy.getLsbD (v.val % 256)
  | .strobe q => (s.regionAt q.val).strobe
  | .relseq q b => s.fld (Reg.VTR_REGION_STATE q.val) (16 + b.val) 1 == 1

/-- Input line j of block b (R361); a line without a choice is 0. -/
def State.blockLine (s : State) (out : Nat → Bool) (b j : Nat) : Bool :=
  match ((s.regionAt (b / 4)).net.blocks.toList.getD (b % 4) VBlock.empty).lines.find? fun x => x.1.val == j with
  | some x => s.source out (b / 4) x.2
  | none => false

/-- Product term t of a macrocell of block b (R361): every line taken true is 1 and every line taken complemented 0.  A term that the
configuration does not form is 0. -/
def State.term (s : State) (out : Nat → Bool) (b : Nat) (x : VMac) (t : Nat) : Bool :=
  match x.terms.find? fun y => y.1.val == t with
  | some y => (List.range 80).all fun j =>
      (!y.2.lit.getLsbD j || s.blockLine out b j) && (!y.2.inv.getLsbD j || !s.blockLine out b j)
  | none => false

/-- The terms of a macrocell that its OR takes: those its enable, set and reset do not use (R361; DESIGN CHOICE, log entry 144). -/
def VMac.orTerms (x : VMac) : List Nat :=
  (List.range 5).filter fun t => !([x.enable, x.set, x.reset].any fun y => (y.map Fin.val) == some t)

/-- The OR of a macrocell's own terms and of those that steering brings (R361): `k` macrocells below it may chain. -/
def State.gather (s : State) (out : Nat → Bool) (m : Nat) : Nat → Bool
  | 0 => false
  | fuel + 1 =>
    match s.macro m with
    | some x => x.orTerms.any (s.term out (m / 128) x) || (x.steer && m % 128 != 0 && s.gather out (m - 1) fuel)
    | none => false

/-- Macrocell m gives its terms to the next one of its block (R361). -/
def State.givesTerms (s : State) (m : Nat) : Bool :=
  m % 128 != 127 && (match s.macro (m + 1) with | some x => x.steer | none => false)

/-- The carry into macrocell p of region r (R362): the carry out of the one before it, across blocks where the image links them; a
macrocell that is not in carry mode carries 0 (DESIGN CHOICE, log entry 144). -/
def State.carryInto (s : State) (out : Nat → Bool) (r : Nat) : Nat → Bool
  | 0 => false
  | p + 1 =>
    if (p + 1) % 128 = 0 ∧ ((s.regionAt r).net.blocks.toList.getD ((p + 1) / 128) VBlock.empty).carryIn = false then false
    else
      match s.macro (512 * r + p) with
      | some x =>
        let a := s.term out ((512 * r + p) / 128) x 0
        let b := s.term out ((512 * r + p) / 128) x 1
        x.carry && ((a && b) || (s.carryInto out r p && (a != b)))
      | none => false

/-- What goes into the storage of macrocell m (R361, R362): in carry mode the sum A ⊕ B ⊕ Cin, else the OR in its polarity. -/
def State.macIn (s : State) (out : Nat → Bool) (m : Nat) (x : VMac) : Bool :=
  if x.carry then
    (s.term out (m / 128) x 0 != s.term out (m / 128) x 1) != s.carryInto out (m / 512) (m % 512)
  else (!s.givesTerms m && s.gather out m 16) != x.invert

/-- Output of macrocell m (R361): its storage, or in combinational bypass what would go into it.  Beyond 4,096 macrocells in a row the
path is a loop, whose value is free (log entry 144). -/
def State.macOut (s : State) : Nat → Nat → Bool
  | 0, m => Config.freeBit m
  | fuel + 1, m =>
    match s.macro m with
    | some x => if x.store = .comb then s.macIn (s.macOut fuel) m x else s.stored m
    | none => s.stored m

/-- Output of macrocell m. -/
def State.macVal (s : State) (m : Nat) : Bool := s.macOut 4097 m

/-- The storage of macrocell m after an edge of its clock (R361): set prevails over reset, and both over the enable; they act at the
edge, and a latch takes its input there (DESIGN CHOICE, log entry 144). -/
def State.macNext (s : State) (m : Nat) (x : VMac) : Bool :=
  let on := fun (t : Option (Fin 5)) => match t with | some k => s.term s.macVal (m / 128) x k.val | none => false
  if on x.set then true
  else if on x.reset then false
  else if x.enable.isSome && !on x.enable then s.stored m
  else
    let d := s.macIn s.macVal m x
    match x.store with
    | .dff => d
    | .tff => d != s.stored m
    | .latch => d
    | .comb => s.stored m

/-- The macrocells that a region's configuration uses, by their place in the region. -/
def VRegion.macs (x : VRegion) : List (Nat × VMac) :=
  (List.range 4).flatMap fun b => ((x.net.blocks.toList.getD b VBlock.empty).macs.map fun y => (128 * b + y.1.val, y.2))

/-- Home clock net of a region. -/
def State.homeNet (s : State) (r : Nat) : Nat := s.fld (Reg.VTR_REGION_STATE r) 7 3

/-- A region's macrocell storage after a rising edge of its home clock: those on that net and edge move (R361, R365). -/
def State.edgeStorage (s : State) (r : Fin 8) : BitVec 512 :=
  (((s.region r).macs).filter fun y => y.2.net.val == s.homeNet r.val && !y.2.fall && y.2.store != .comb).foldl
    (fun w y => setBitsAt w y.1 1 (b2n (s.macNext (512 * r.val + y.1) y.2))) (s.region r).fabric.storage

/-- What a region's macrocells drive onto its boundary input bits (R361, R367); a bit that none drives is 0. -/
def State.driven (s : State) (r : Fin 8) : BitVec 256 :=
  (((s.region r).macs).filter fun y => y.2.drives && decide (y.1 % 128 < 64)).foldl
    (fun w y => setBitsAt w (64 * (y.1 / 128) + y.1 % 128) 1 (b2n (s.macVal (512 * r.val + y.1)))) 0

/-- The publish source of a region (R367): always 1, or the macrocell output that its image names. -/
def State.publishSource (s : State) (r : Fin 8) : Bool :=
  s.fld (Reg.VTR_REGION_STATE r.val) 11 1 == 1 ||
    (match (s.region r).net.pub with | some m => s.macVal (512 * r.val + m.val) | none => false)

/-- The ready source of a region (R368). -/
def State.readySource (s : State) (r : Fin 8) : Bool :=
  match (s.region r).net.ready with | some m => s.macVal (512 * r.val + m.val) | none => false

/-- The values of a region's crossbar sources (R363), as its isolation cells keep them: macrocells, then rising and falling samples. -/
def State.sourceBits (s : State) (r : Fin 8) : BitVec 672 :=
  let x := s.region r
  let w := (x.macs.filter fun y => y.2.store == .comb).foldl
    (fun w y => setBitsAt w y.1 1 (b2n (s.macVal (512 * r.val + y.1)))) (BitVec.ofNat 672 x.fabric.storage.toNat)
  (List.range 160).foldl (fun w i => setBitsAt w (512 + i) 1 (b2n (x.fabric.cells.getLsbD (6 * (i / 2) + i % 2)))) w

/-- The I/O cell c as its region's image sets it. -/
def State.cell (s : State) (c : Nat) : VCell :=
  (((s.regionAt (c / 80)).cells.find? fun x => x.1.val == c % 80).map (·.2)).getD VCell.plain

/-- What the registers of cell c drive (R370): nothing without its output enable; a double-rate register shows its falling-edge value
after a falling edge. -/
def State.cellOut (s : State) (c : Nat) (afterFall : Bool) : Option Bool :=
  let w := (s.regionAt (c / 80)).fabric.cells
  let x := s.cell c
  if w.getLsbD (6 * (c % 80) + 4 + b2n (x.oeDouble && afterFall)) then
    some (w.getLsbD (6 * (c % 80) + 2 + b2n (x.outDouble && afterFall)))
  else none

/-- The level that cell c drives onto its ball, if any (R370, R372 to R374): nothing in a bank whose VDDIO does not match, or in a region
that is EMPTY or FAILED; what its isolation field says in a region that is loading or settling. -/
def State.cellBall (s : State) (c : Nat) (afterFall : Bool) : Option Bool :=
  let x := s.regionAt (c / 80)
  if s.fld (Reg.VTR_BANK (c / 64)) 16 1 = 1 ∨ s.regState (c / 80) = 0 ∨ s.regState (c / 80) = 4 then none
  else if s.regOpen (c / 80) then s.cellOut c afterFall
  else
    match bitsAt x.isoCells (2 * (c % 80)) 2 with
    | 1 => some false
    | 2 => some true
    | 3 => if x.isoOut.getLsbD (2 * (c % 80)) then some (x.isoOut.getLsbD (2 * (c % 80) + 1)) else none
    | _ => none

/-- The cell's pull or keeper acts (R370, R372): the keeper is off in a region that is EMPTY or FAILED. -/
def State.cellPull (s : State) (c : Nat) : Nat :=
  if s.regState (c / 80) = 0 ∨ s.regState (c / 80) = 4 then 0 else (s.cell c).pull

/-- What a region's cells drive, as closing isolation cells keep it (R374): the value after the rising edge for a double-rate cell
(DESIGN CHOICE, log entry 144). -/
def State.drivenOut (s : State) (r : Fin 8) : BitVec 160 :=
  (List.range 80).foldl (fun w i =>
    match s.cellOut (80 * r.val + i) false with
    | some v => setBitsAt (setBitsAt w (2 * i) 1 1) (2 * i + 1) 1 (b2n v)
    | none => w) 0

/-- The isolation cells of a region close (R374): what the input bits, the sources and the balls showed is kept. -/
def State.isolate (s : State) (r : Fin 8) : VRegion :=
  let x := s.region r
  if s.regOpen r.val then { x with isoIn := x.stepCopy, isoHeld := s.sourceBits r, isoOut := s.drivenOut r } else x

/-- The registers as edges of other nets have left them since the last command (log entry 10). -/
def State.withFabric (s : State) (pre : List (Fin 8 × FabricRegs)) : State :=
  pre.foldl (fun t x => t.setRegion x.1 { t.region x.1 with fabric := x.2 }) s

/-- A rising edge of the home clock of a running region (R361, R366, R367): its macrocells move, its cell registers are `cells`, the
strobe ends, and with the publish source at 1 the publish register takes what the macrocells drove and starts to move. -/
def State.homeEdge (s : State) (r : Fin 8) (cells : BitVec 480) : State :=
  let x := s.region r
  let y := { x with fabric := ⟨s.edgeStorage r, cells⟩, strobe := false }
  s.setRegion r (if s.publishSource r then { y with pub := s.driven r, transit := some (s.driven r) } else y)

end Sys2Proof.Machine
end

