-- ==== Sys2Proof/Machine/Vitrine.lean ====
section
/-!
DEFINITION. Vitrine (R359 to R378): connection of boundary bits, the exchange at C3 and the release at C12, the crossings of a
region, region load states, calibration and delays.
-/
namespace Sys2Proof.Machine

/-- Regions the part carries (R378). -/
def State.nRegions (s : State) : Nat :=
  match s.variant with
  | .f => 8
  | .r => 0
  | .d => 4

/-- Banks the part carries (R378). -/
def State.nVtrBanks (s : State) : Nat :=
  match s.variant with
  | .f => 10
  | .r => 0
  | .d => 5

/-- OWNER of a region: a partition, or 0xF. -/
def State.regOwner (s : State) (r : Nat) : Nat := s.fld (Reg.VTR_REGION_STATE r) 3 4
/-- Home clock lost now. -/
def State.regLost (s : State) (r : Nat) : Bool := s.fld (Reg.VTR_REGION_STATE r) 12 1 == 1
/-- A Vitrine boundary bit is connected to partition n when the partition holds its region (R360); the part must carry it. -/
def State.vbitHeld (s : State) (n : Fin 8) (v : Nat) : Bool :=
  decide (v / 256 < s.nRegions) && s.regOwner (v / 256) == n.val

/-- What C3 samples for a Vitrine bit: the region's step-domain copy, or what its closed isolation holds (R367, R374). -/
def State.vtrIn (s : State) (v : Nat) : Bool :=
  match (List.finRange 8).find? (fun r => r.val == v / 256) with
  | some r =>
    let x := s.region r
    (if s.regOpen r.val then x.stepCopy else x.isoIn).getLsbD (v % 256)
  | none => false

/-- The partition bits of a boundary range with their Vitrine bits. -/
def BRange.bits (b : BRange) : List (Nat × Nat) := (List.range b.count).map fun i => (b.first + i, b.vtr + i)

/-- The boundary input bits sampled for partition n (R131, R360, R367). -/
def State.sampleIn (s : State) (n : Fin 8) : List (Nat × Bool) :=
  ((s.part n).eph.bound.filter (·.input)).foldl (fun m b =>
    b.bits.foldl (fun m x => mset dBit m x.1 (s.vbitHeld n x.2 && s.vtrIn x.2)) m) []

/-- Regions that take part in the pacing of partition n (R368). -/
def State.pacedRegions (s : State) (n : Fin 8) : List (Fin 8) :=
  if (s.part n).eph.paced then
    (List.finRange 8).filter fun r =>
      decide (r.val < s.nRegions) && s.regOwner r.val == n.val && s.fld (Reg.VTR_REGION_STATE r.val) 10 1 == 1
  else []

/-- VTR_PACE_n as the last C3 check leaves it (R377). -/
def State.notePace (s : State) (n : Fin 8) : State :=
  let rs := s.pacedRegions n
  let mask := rs.foldl (fun a r => a + 2 ^ r.val) 0
  let wait := (rs.filter fun r => s.fld (Reg.VTR_REGION_STATE r.val) 24 1 == 0).foldl (fun a r => a + 2 ^ r.val) 0
  s.setReg (Reg.VTR_PACE n.val) (BitVec.ofNat 32 (mask + wait * 256))

/-- The wait point VTR_PACE is satisfied: READY_OK is 1 in every paced region (R368). -/
def State.paceOk (s : State) (n : Fin 8) : Bool :=
  (s.pacedRegions n).all fun r => s.fld (Reg.VTR_REGION_STATE r.val) 24 1 == 1

/-- A release of partition n reaches its regions (R366, R368): an earlier one not presented counts as skipped; READY_OK
clears. -/
def State.releaseRegions (s : State) (n : Fin 8) : List (Fin 8) → State
  | [] => s
  | r :: t =>
    (if decide (r.val < s.nRegions) && s.regOwner r.val == n.val then
      let x := s.region r
      let s1 := if x.pend then s.addFld (Reg.VTR_REGION_SKIP r.val) 0 32 1 else s
      (s1.setRegion r { x with pend := true }).setFld (Reg.VTR_REGION_STATE r.val) 24 1 0
    else s).releaseRegions n t

/-- The connected output bits of a vector enter the boundary output register (R366). -/
def State.writeBout (s : State) (n : Fin 8) (outv : List (Nat × Bool)) : State :=
  let bits := ((s.part n).eph.bound.filter fun b => !b.input).flatMap BRange.bits
  { s with vtr := { s.vtr with bout := bits.foldl (fun m x =>
      if s.vbitHeld n x.2 then mset dBit m x.2 (mget dBit outv x.1) else m) s.vtr.bout } }

/-- C12 of a release: the staged vector drives, and the release count rises (R366). -/
def State.vtrRelease (s : State) (n : Fin 8) (outv : List (Nat × Bool)) : State :=
  let s1 := s.writeBout n outv
  let s2 := { s1 with vtr := { s1.vtr with rel := vset s1.vtr.rel n ((vget s1.vtr.rel n + 1) % 256) } }
  s2.releaseRegions n (List.finRange 8)

/-- Arm: the vector is taken as release 0 (R366). -/
def State.vtrArm (s : State) (n : Fin 8) : State :=
  let s1 := s.writeBout n (s.part n).img.outv
  let s2 := { s1 with vtr := { s1.vtr with rel := vset s1.vtr.rel n 0 } }
  (List.finRange 8).foldl (fun t r => if t.regOwner r.val = n.val ∧ r.val < t.nRegions then
    t.setFld (Reg.VTR_REGION_STATE r.val) 16 8 0 else t) (s2.releaseRegions n (List.finRange 8))

/-- Regions of a mask pass to partition n at its load, or to none (R360, R377). -/
def State.holdRegions (s : State) (mask owner : Nat) : State :=
  (List.finRange 8).foldl (fun t r =>
    if bitOf mask r.val && decide (r.val < t.nRegions) then
      let x := t.region r
      (t.setRegion r { x with pend := false, copy := if owner = 15 then 0 else x.copy }).setFld
        (Reg.VTR_REGION_STATE r.val) 3 4 owner
    else t) s

/-- Boundary output bit v is mapped by a loaded partition. -/
def State.mapsOut (s : State) (n : Fin 8) (v : Nat) : Bool :=
  (s.part n).state != .empty && (s.part n).eph.bound.any fun b => !b.input && decide (b.vtr ≤ v) && decide (v < b.vtr + b.count)

/-- Boundary output bit v as the fabric sees it (R360, R366): 0 where it is mapped but not connected. -/
def State.boutBit (s : State) (v : Nat) : Bool :=
  mget dBit s.vtr.bout v && !((List.finRange 8).any (fun n => s.mapsOut n v) && !(List.finRange 8).any fun n => s.mapsOut n v && s.vbitHeld n v)

/-- Bits [256 r + 255 : 256 r] of the boundary output as the fabric sees them. -/
def State.boutRegion (s : State) (r : Nat) : BitVec 256 :=
  BitVec.ofNat 256 ((List.range 256).foldl (fun a i => a + b2n (s.boutBit (256 * r + i)) * 2 ^ i) 0)

/-- The third home-clock edge after C12 (R366): the copy, RELSEQ and the strobe; also after a lost home clock returns (R365).  In a
running region it is an edge like any other: the fabric moves, and may publish.  `pre` gives the registers just before the edge,
`cells` the region's cell registers after it. -/
def execRegionCopyUpdate (r : Fin 8) (e : HomeEdge) (s : State) : Host.Outcome State Fault Refusal :=
  if r.val < s.nRegions then
    if (s.region r).pend ∧ s.regOwner r.val < 8 ∧ !s.regLost r.val then
      let n : Fin 8 := ⟨s.regOwner r.val % 8, Nat.mod_lt _ (by decide)⟩
      let s1 := if s.regOpen r.val then (s.withFabric e.pre).homeEdge r e.cells else s
      .next ((s1.setRegion r { s1.region r with copy := s.boutRegion r.val, strobe := true, pend := false }).setFld
        (Reg.VTR_REGION_STATE r.val) 16 8 (vget s.vtr.rel n))
    else .next s
  else .next s

/-- A home-clock edge with publish source 1 (R367): the publish register takes the driven values, and the publish starts to
move, replacing an earlier one under way. -/
def execPublish (r : Fin 8) (pre : List (Fin 8 × FabricRegs)) (cells : BitVec 480) (s : State) : Host.Outcome State Fault Refusal :=
  if r.val < s.nRegions then
    if s.regOpen r.val ∧ !s.regLost r.val then .next ((s.withFabric pre).homeEdge r cells) else .next s
  else .next s

/-- A publish in transit reaches the step-domain copy (R367). -/
def State.movePublish (s : State) (r : Fin 8) : State :=
  let x := s.region r
  match x.transit with
  | some v => (s.setRegion r { x with stepCopy := v, transit := none }).addFld (Reg.VTR_REGION_PUB r.val) 0 32 1
  | none => s

/-- PUBLISH_MOVE (R367). -/
def execPublishMove (r : Fin 8) (s : State) : Host.Outcome State Fault Refusal :=
  guardUnit s (decide (r.val < s.nRegions)) (s.movePublish r)

/-- A sighting arrives with any publish of its edge; READY_OK sets when its tag is the partition's release count (R368). -/
def execReadySighting (r : Fin 8) (tag : BitVec 8) (s : State) : Host.Outcome State Fault Refusal :=
  if r.val < s.nRegions then
    if s.regOpen r.val then
      let s1 := s.movePublish r
      let s2 := s1.setRegion r { s1.region r with strobe := false }
      let o := s.regOwner r.val
      if h : o < 8 then
        (if tag.toNat = vget s.vtr.rel ⟨o, h⟩ then .next (s2.setFld (Reg.VTR_REGION_STATE r.val) 24 1 1) else .next s2)
      else .next s2
    else .next s
  else .next s

/-- CLK_LOST of every region homed on a net (R365). -/
def State.homeLost (s : State) (net : Fin 8) (lost : Bool) : State :=
  (List.finRange 8).foldl (fun t r =>
    if decide (r.val < t.nRegions) && decide (2 ≤ t.regState r.val) && t.fld (Reg.VTR_REGION_STATE r.val) 7 3 == net.val then
      t.setFld (Reg.VTR_REGION_STATE r.val) 12 1 (b2n lost)
    else t) s

/-- A net is lost (R365). -/
def execHomeClockLost (net : Fin 8) (s : State) : Host.Outcome State Fault Refusal :=
  guardUnit s s.hasVtr
    (((s.setFld Reg.VTR_CLK net.val 1 0).setFld Reg.VTR_CLK (8 + net.val) 1 1).homeLost net true)

/-- A net returns (R365). -/
def execHomeClockReturn (net : Fin 8) (s : State) : Host.Outcome State Fault Refusal :=
  guardUnit s s.hasVtr ((s.setFld Reg.VTR_CLK net.val 1 1).homeLost net false)

/-- A load of a region starts (R373, R374): held in reset, isolation closed with the values in force. -/
def State.regionLoad (s : State) (r : Fin 8) (img : VImage) : State :=
  (s.setRegion r { s.isolate r with net := VNet.empty, cells := [], pub := 0, transit := none, stepCopy := 0, fabric := ⟨0, 0⟩,
                                    loading := some img, strobe := false }).setFld (Reg.VTR_REGION_STATE r.val) 0 3 1

/-- Set the delay registers of a region's cells to the image's codes (R377). -/
def State.imageDelays (s : State) (r : Fin 8) : List (Fin 80 × BitVec 16) → State
  | [] => s
  | (c, v) :: t =>
    let cell := 80 * r.val + c.val
    let s1 := s.setReg (Reg.VTR_DELAY cell) (BitVec.ofNat 32 v.toNat)
    State.imageDelays { s1 with vtr := { s1.vtr with delays := mset dNat s1.vtr.delays cell v.toNat,
                                                     edges := s1.vtr.edges.filter fun e => e != cell } } r t

/-- All bytes of a load have arrived (R373): SETTLING with the initial values, or FAILED on a CRC mismatch. -/
def State.regionArrived (s : State) (r : Fin 8) (crcOk : Bool) : State :=
  let x := s.region r
  match x.loading with
  | some img =>
    if s.regState r.val = 1 then
      if crcOk then
        let s1 := s.setRegion r { x with fabric := ⟨img.init, 0⟩, net := img.net, cells := img.cells, pub := 0 }
        let present := s1.fld Reg.VTR_CLK img.home.val 1 == 1
        let w := setBitsAt (setBitsAt (setBitsAt (setBitsAt (setBitsAt (s1.reg (Reg.VTR_REGION_STATE r.val)) 0 3 2)
          7 3 img.home.val) 10 1 (b2n img.pace)) 11 1 (b2n img.pubAlways)) 12 1 (b2n (!present))
        ((s1.setReg (Reg.VTR_REGION_STATE r.val) w).setReg (Reg.VTR_REGION_IMAGE r.val) img.id).imageDelays r img.delays
      else
        ((s.setRegion r { x with loading := none }).setFld (Reg.VTR_REGION_STATE r.val) 0 3 4).setReg
          (Reg.VTR_REGION_IMAGE r.val) 0
    else s
  | none => s

/-- Sixteen home-clock cycles after reset release (R373): the image's isolation values, isolation open, RUNNING. -/
def execRegionSettled (r : Fin 8) (s : State) : Host.Outcome State Fault Refusal :=
  if r.val < s.nRegions then
    let x := s.region r
    if s.regState r.val = 2 then
      let y := match x.loading with
        | some img => { x with isoCells := img.isoCells, isoSources := img.isoSources, loading := none }
        | none => x
      .next ((s.setRegion r y).setFld (Reg.VTR_REGION_STATE r.val) 0 3 3)
    else .next s
  else .next s

/-- START of VTR_CAL: calibrate the banks in BANKS (R371, R377). -/
def State.calStart (s : State) : State :=
  let banks := (List.range 10).filter fun b => decide (b < s.nVtrBanks) && s.fld Reg.VTR_CAL (16 + b) 1 == 1
  if banks.isEmpty then s
  else { s.setFld Reg.VTR_CAL_STATUS 0 1 1 with
         vtr := { s.vtr with calRun := banks.foldl (fun l b => insNat b l) s.vtr.calRun } }

/-- VTR_CAL_START (R371). -/
def execVtrCalStart (banks : BitVec 10) (s : State) : Host.Outcome State Fault Refusal :=
  guardUnit s s.hasVtr (s.setFld Reg.VTR_CAL 16 10 banks.toNat).calStart

/-- One bank's measurement ends (R371): its trims are MEASURED and not yet applied. -/
def execCalibrationDone (bank : Fin 10) (s : State) : Host.Outcome State Fault Refusal :=
  if bank.val < s.nVtrBanks then
    if s.vtr.calRun.contains bank.val then
      let left := s.vtr.calRun.filter fun b => b != bank.val
      let s1 := { s with vtr := { s.vtr with calRun := left } }
      .next ((s1.setFld Reg.VTR_CAL_STATUS (1 + bank.val) 1 1).setFld Reg.VTR_CAL_STATUS 0 1 (b2n (!left.isEmpty)))
    else .next s
  else .next s

/-- APPLY of VTR_CAL: the measured trims apply (R371); DRIFT counts from here. -/
def State.calApply (s : State) : State :=
  let s1 := (List.range 10).foldl (fun t b =>
    if t.fld Reg.VTR_CAL_STATUS (1 + b) 1 = 1 then
      (t.setFld Reg.VTR_CAL_STATUS (1 + b) 1 0).setFld (Reg.VTR_BANK b) 17 1 1
    else t) s
  if s.fld Reg.VTR_CAL_STATUS 1 10 = 0 then s else s1.setFld Reg.VTR_CAL_STATUS 16 8 0

/-- VTR_CAL_APPLY (R371). -/
def execVtrCalApply (s : State) : Host.Outcome State Fault Refusal := guardUnit s s.hasVtr s.calApply

/-- Cells the part carries (R378). -/
def State.nCells (s : State) : Nat := 80 * s.nRegions

/-- A write of VTR_DELAY_c: new codes, PENDING until the cell's next clock edge (R371). -/
def State.delayWrite (s : State) (cell : Nat) (codes : Nat) : State :=
  let s1 := s.setReg (Reg.VTR_DELAY cell) (BitVec.ofNat 32 (codes % 65536 + 65536))
  { s1 with vtr := { s1.vtr with edges := insNat cell s1.vtr.edges } }

/-- VTR_DELAY_WRITE (R371). -/
def execVtrDelayWrite (cell : Fin 640) (inp out : Byte) (s : State) : Host.Outcome State Fault Refusal :=
  guardUnit s (decide (cell.val < s.nCells)) (s.delayWrite cell.val (inp.toNat + 256 * out.toNat))

/-- The next clock edge of every cell whose region runs: written codes take effect (R371). -/
def State.cellEdges (s : State) : List Nat → State
  | [] => s
  | c :: t =>
    (if s.regOpen (c / 80) && !s.regLost (c / 80) then
      let s1 := s.setFld (Reg.VTR_DELAY c) 16 1 0
      { s1 with vtr := { s1.vtr with delays := mset dNat s1.vtr.delays c (s1.fld (Reg.VTR_DELAY c) 0 16),
                                     edges := s1.vtr.edges.filter fun e => e != c } }
    else s).cellEdges t

end Sys2Proof.Machine
end

