-- ==== Sys2Proof/Machine/Consistency.lean ====
section
/-!
DEFINITION. Checkpoints (R315 to R321), the input record (R322 to R325), and the start and failure of hard-fault recovery
(R326 to R331), as far as the frame sequencer calls on them.
-/
namespace Sys2Proof.Machine

/-- STALLED_LAST of a frame (R38, R39): of its first execution, or from its record entry. -/
def State.stalledLast (s : State) (n : Fin 8) (f : Nat) : Bool :=
  match s.recEntry n f with
  | some e => e.stalled
  | none => mget dBit (s.part n).slast f

/-- Status bits of frame f (R38). -/
def State.statusOf (s : State) (n : Fin 8) (f : Nat) : Nat :=
  let p := s.part n
  b2n (f == p.start) + 2 * b2n (s.replaying n) + 4 * b2n p.eph.deep + 8 * b2n (s.stalledLast n f) +
    16 * b2n (p.eph.spans && f != p.start)

/-- Number of clusters of the shape. -/
def Eph.nClusters (e : Eph) : Nat := 16 * (e.dies.length * (e.tLast + 1 - e.tFirst))

/-- Banks on loan to partition n, ascending (R186). -/
def State.banksOf (s : State) (n : Fin 8) : List Nat :=
  (List.range 1024).filter fun b => s.hasBank b && s.loanOwner b == n.val

/-- Regions partition n holds (R360). -/
def State.regionsOf (s : State) (n : Fin 8) : List (Fin 8) :=
  (List.finRange 8).filter fun r => decide (r.val < s.nRegions) && s.regOwner r.val == n.val

/-- Bytes of header, section table and on-chip sections of a checkpoint (R318 to R320), without the tail of CAPTURE. -/
def State.ckFixed (s : State) (n : Fin 8) : Nat :=
  let e := (s.part n).eph
  let vtr := if e.bound.isEmpty then 0 else 512 + 256 * (s.regionsOf n).length
  let xh := if e.spans then 16 * (e.xchg.filter fun x => x.incoming && x.f == 1).length else 0
  let sections := 6 + (if e.bound.isEmpty then 0 else 1) + (if e.spans then 1 else 0)
  128 + 24 * sections + e.nClusters * 64 * 256 + e.nClusters * 64 * 17 + 65536 * (s.banksOf n).length + 64 +
    (32 + 512 + 2048) + vtr + xh

/-- Bytes of header, section table and on-chip sections of a checkpoint (R318 to R320). -/
def State.ckSize (s : State) (n : Fin 8) : Nat := s.ckFixed n + Config.captureTail.val

/-- Bytes of a checkpoint slot. -/
def State.ckSlotBytes (s : State) (n : Fin 8) : Nat := (s.reg (Reg.CKP_SLOT_SIZE n)).toNat * 65536

/-- Granules that fit behind the on-chip sections of a slot (R318, R320). -/
def State.undoRoom (s : State) (n : Fin 8) : Nat := (s.ckSlotBytes n - s.ckSize n) / (65536 + 8)

/-- Depot address of a slot of the checkpoint area. -/
def State.ckSlotAddr (s : State) (n : Fin 8) (slot : Nat) : Nat :=
  s.reg64 (Reg.CKP_AREA_LO n) % 2 ^ 46 / 65536 * 65536 + slot * s.ckSlotBytes n

/-- The checkpoint area lies in segments granted to the partition (R318). -/
def State.ckAreaOk (s : State) (n : Fin 8) : Bool :=
  let a := s.ckSlotAddr n 0
  let len := 2 * s.ckSlotBytes n
  (List.range (len / 2 ^ 30 + 2)).all fun i =>
    let x := min (a + i * 2 ^ 30) (a + (len - 1))
    s.depotCheck (.part n) x true == .ok

/-- Vault memory as port N sees it for partition n: logged words at their oldest content (R194). -/
def Part.releasedMem (p : Part) (m : List Host.Cell) : List Host.Cell :=
  p.vlog.foldl (fun m e => memWr64 m (bankAddr e.bank e.word) e.old) m

/-- The listed bytes of a bank by their offset. -/
def bankCells (m : List Host.Cell) (bank : Nat) : List Host.Cell :=
  (m.filter fun c => c.1 / 65536 == bank).map fun c => (c.1 % 65536, c.2)

/-- Capture registers that the CAPTURE section holds (R303, R320), by offset in the partition's block. -/
def State.capRegs (s : State) (n : Fin 8) : List (Nat × Word) :=
  let base := Reg.CAP_CFG n
  ((s.regs.filter fun r => decide (base ≤ r.1) && decide (r.1 < base + 0x1000)).map fun r => (r.1 - base, r.2)).filter fun r =>
    decide (r.1 < 0x20) || (decide (0x400 ≤ r.1) && decide (r.1 < 0x600)) || decide (0x800 ≤ r.1)

/-- The SEQ section (R320). -/
def State.seqSnap (s : State) (n : Fin 8) (c : Nat) : SeqSnap :=
  let p := s.part n
  { status := s.statusOf n c, stalled := s.stalledLast n c, epoch := (s.mach n).epoch, remaining := p.remaining,
    stallTotal := p.stallTotal,
    stallBy := [(s.reg (Reg.FRM_STALL_DEPOT n)).toNat, (s.reg (Reg.FRM_STALL_XGET n)).toNat, (s.reg (Reg.FRM_STALL_VTR n)).toNat,
                (s.reg (Reg.FRM_STALL_VOTE n)).toNat, (s.reg (Reg.FRM_STALL_TOKEN n)).toNat],
    stallMax := (s.reg (Reg.FRM_STALL_MAX n)).toNat, consec := p.consec, aborts := p.aborts }

/-- The CAPTURE section (R303): the sequencer as it stood at the boundary. -/
def State.capSnap (s : State) (n : Fin 8) (c : Nat) : CapSnap :=
  let x := s.cap n
  let q := match x.fixed.find? fun f => decide (c ≤ f.frame) with | some f => f.before | none => x.seqr
  { regs := s.capRegs n, state := s.capState n, seqr := q, waited := x.waited, plate := x.plate, pre := x.pre, post := x.post }

/-- Snapshot of a region (R376). -/
def State.regionSnap (s : State) (r : Fin 8) : RegionSnap :=
  { region := r.val, image := s.reg (Reg.VTR_REGION_IMAGE r.val), state := s.regState r.val,
    relseq := s.fld (Reg.VTR_REGION_STATE r.val) 16 8, fabric := (s.region r).fabric, pub := (s.region r).pub }

/-- Where the next entry of the record ring goes: past those still to be written (R319). -/
def State.recPos (s : State) (n : Fin 8) : Nat :=
  ((s.reg (Reg.CKP_REC_HEAD n)).toNat + ((s.ck n).due.map RecE.units).foldl (· + ·) 0) % max 1 (s.reg (Reg.CKP_REC_SIZE n)).toNat

/-- The checkpoint at boundary c (R315): the working state and vaults of partition n with frame c − 1 committed. -/
def State.ckImage (s : State) (n : Fin 8) (c : Nat) : CkImg :=
  let p := s.part n
  let spec := p.eph.spans && p.frame != c
  let img := if spec then (if c % 2 = 0 then p.shadow0 else p.shadow1) else p.img
  let mem := if spec then p.releasedMem s.vlt.mem else s.vlt.mem
  { boundary := c, start := p.start, tb := (match (s.cap n).ticks.find? fun t => t.frame == c with | some t => t.tb | none => s.lnk.timebase), digest := (s.ck n).digest, stepping := (s.ck n).stepping,
    recPos := s.recPos n, img := img,
    banks := (s.banksOf n).map fun b => (b, bankCells mem b),
    seq := s.seqSnap n c, cap := s.capSnap n c,
    bins := match p.bins.find? fun x => x.1 == c with | some x => x.2 | none => [],
    regions := (s.regionsOf n).map s.regionSnap,
    xheld := p.xheld.filter fun h => h.frame + 1 == c, xinit := p.xinit && c == p.first, granules := [] }

/-- Begin a checkpoint at boundary c (R315 to R318): until its bytes have been read, the partition begins no frame
(State.boundaryHolds).  Answers whether it began. -/
def State.ckBegin (s : State) (n : Fin 8) (c : Nat) : State × Bool :=
  let k := s.ck n
  if s.ckSlotBytes n = 0 ∨ s.ckSlotBytes n < s.ckSize n then (s, false)
  else
    let slot := if s.fld (Reg.CKP_STATUS n) 0 1 = 1 then 1 - s.fld (Reg.CKP_STATUS n) 2 1 else 0
    ((s.setCk n { k with busy := some ⟨s.ckImage n c, slot, true, s.lnk.timebase⟩, again := false }).setFld
      (Reg.CKP_STATUS n) 1 1 1, true)

/-- The boundary at which the next tick of partition n can take a checkpoint (R315): that after the frame which C9 has committed. -/
def State.boundaryAt (s : State) (n : Fin 8) : Option Nat :=
  match (s.part n).decision with
  | some (c, true) => if c + 1 < 2 ^ 48 then some (c + 1) else none
  | _ => none

/-- A boundary at which a checkpoint is taken without a command (R318): the interval's, or the one owed after UNDO_FULL. -/
def State.ckAuto (s : State) (n : Fin 8) (c : Nat) : Bool :=
  let k := (s.reg (Reg.CKP_INTERVAL n)).toNat
  (s.ck n).again || (k != 0 && decide ((s.part n).start ≤ c) && (c - (s.part n).start) % k == 0)

/-- Answer the CHECKPOINT commands that wait on partition n. -/
def State.answerCkp (s : State) (n : Fin 8) (r : Rsp) : State :=
  s.answerAll (fun _ b => if b.wait = .checkpoint n then some r else none) s.waiting

/-- What a boundary does about checkpoints (R318): an asked-for or automatic one begins; one too large for its slot answers
RANGE, or sets CKP_FAIL; one asked for a boundary that has passed answers RANGE; while the Docent restarts, RETRY (R441). -/
def State.ckBoundary (s : State) (n : Fin 8) (b : Option Nat) : State :=
  let k := s.ck n
  match b with
  | none => s
  | some c =>
    if k.busy.isSome ∨ k.recov.isSome then s
    else
      let asked : Bool := match k.want with | some w => w == 0 || w == c | none => false
      let passed : Bool := match k.want with | some w => w != 0 && decide (w < c) | none => false
      let s := if passed then (s.setCk n { k with want := none }).answerCkp n (rspEmpty .range 0) else s
      if asked ∧ s.docent ≠ 1 then (s.setCk n { s.ck n with want := none }).answerCkp n (rspEmpty .retry 1)
      else if asked then
        let s0 := s.setCk n { s.ck n with want := none }
        let r := s0.ckBegin n c
        if r.2 then r.1 else s0.answerCkp n (rspEmpty .range 0)
      else if s.ckAuto n c then
        let r := s.ckBegin n c
        if r.2 then r.1 else s.setFld (Reg.CKP_STATUS n) 6 1 1
      else s

/-- Every on-chip byte has been read (R316): the hold ends. -/
def State.ckReadDone (s : State) (n : Fin 8) : State :=
  let k := s.ck n
  match k.busy with
  | some b =>
    if b.reading then
      ((s.setCk n { k with busy := some { b with reading := false } }).modPart n fun p =>
        { p with bholds := p.bholds.filter fun h => h != .checkpoint }).setReg (Reg.CKP_HOLD_NS n)
        (BitVec.ofNat 32 (min (s.lnk.timebase - b.since) 0xFFFFFFFF))
    else s
  | none => s

/-- 256-byte output vector as bits (R323). -/
def outBits (o : List (Nat × Bool)) : List Bool := (List.range 2048).map fun i => mget dBit o i

/-- IN_UNITS (R323). -/
def Eph.inUnits (e : Eph) : Nat :=
  (((e.bound.filter (·.input)).map fun b => b.first + b.count).foldl max 0 + 255) / 256

/-- Append a due entry while recording is active (R322). -/
def State.recPush (s : State) (n : Fin 8) (e : RecE) : State :=
  if s.fld (Reg.CKP_STATUS n) 4 1 = 1 then s.modCk n fun k => { k with due := k.due ++ [e] } else s

/-- The start entry of R322 and R323. -/
def State.startEntry (s : State) (n : Fin 8) : RecE :=
  let e := (s.part n).eph
  { start := true, frame := (s.part n).start, stalled := false, tb := e.machineId + e.devIndex * 2 ^ 32 + n.val * 2 ^ 48,
    tbRel := (s.ck n).digest, inUnits := 0, inputs := [], items := [], outCrc := 0, pos := 0 }

/-- Recording begins with a start entry when REC_EN is 1 (R322); a replay records nothing (R333). -/
def State.recStart (s : State) (n : Fin 8) : State :=
  if s.fld (Reg.CKP_CFG n) 0 1 = 1 ∧ s.replaying n = false then
    let s1 := (s.modCk n fun k => { k with stopped := false }).setFld (Reg.CKP_STATUS n) 4 1 1
    s1.recPush n (s1.startEntry n)
  else s.setFld (Reg.CKP_STATUS n) 4 1 0

/-- The deposits filed under a boundary (R49, R470). -/
def Ckp.depItems (k : Ckp) (f : Nat) : List RecItem :=
  (k.depLog.filter fun d => d.1 == f).map fun d => .deposit d.2.key d.2.val d.2.kind d.2.stamp

/-- The entry of released frame f, without its asynchronous events (R322 to R324). -/
def State.frameEntry (s : State) (n : Fin 8) (f : Nat) (outv : List (Nat × Bool)) : RecE :=
  let p := s.part n
  let k := s.ck n
  let t := (s.cap n).tickOf f
  let xs := if s.fld (Reg.CKP_CFG n) 1 1 = 1 then
      (k.xtaken.filter fun x => x.1 == f).map fun x => RecItem.xchg x.2.1 x.2.2.1 x.2.2.2 else []
  let items := k.depItems f ++ (if t.xtrig = 0 then [] else [.xtrig t.xtrig]) ++ (if t.capctl = 0 then [] else [.capctl t.capctl]) ++ xs
  { start := false, frame := f, stalled := s.stalledLast n f, tb := t.tb, tbRel := s.lnk.timebase, inUnits := p.eph.inUnits,
    inputs := match p.bins.find? fun x => x.1 == f with | some x => x.2 | none => [],
    items := items, outCrc := crc32 (outBits outv), pos := 0 }

/-- Insert asynchronous events before the exchange words (R324). -/
def RecE.addAsync (e : RecE) (die : Nat) (evs : List Evt) : RecE :=
  let isX := fun (x : RecItem) => match x with | .xchg .. => true | _ => false
  { e with items := e.items.filter (fun x => !isX x) ++ evs.map (RecItem.async die) ++ e.items.filter isX }

/-- Give the events filed since to the last due frame entry. -/
def State.fileAsync (s : State) (n : Fin 8) : State :=
  let c := s.cap n
  if c.filed.isEmpty then s
  else
    let k := s.ck n
    let s1 := s.setCap n { c with filed := [] }
    match k.due.getLast? with
    | some e => s1.setCk n { k with due := k.due.dropLast ++ [if e.start then e else e.addAsync (s.part n).eph.homeDie c.filed] }
    | none => s1

/-- Units of the record ring in use (R325). -/
def State.recUsed (s : State) (n : Fin 8) : Nat :=
  ringDist (s.reg (Reg.CKP_REC_SIZE n)).toNat (s.reg (Reg.CKP_REC_TAIL n)).toNat (s.reg (Reg.CKP_REC_HEAD n)).toNat

/-- Write due entries while they fit (R322, R325); with REC_FULL = 1 one that does not fit stops the recording until the next complete
checkpoint, whatever a host clears. -/
def State.recWrite (s : State) (n : Fin 8) : List RecE → State
  | [] => s
  | e :: r =>
    let size := (s.reg (Reg.CKP_REC_SIZE n)).toNat
    if s.recUsed n + e.units + 1 ≤ size then
      let pos := (s.reg (Reg.CKP_REC_HEAD n)).toNat
      ((s.modCk n fun k => { k with record := k.record ++ [{ e with pos := pos }], due := k.due.drop 1 }).setReg (Reg.CKP_REC_HEAD n)
        (BitVec.ofNat 32 ((pos + e.units) % max 1 size))).recWrite n r
    else if s.fld (Reg.CKP_CFG n) 2 1 = 1 then
      ((s.modCk n fun k => { k with due := [], stopped := true }).setFld (Reg.CKP_STATUS n) 5 1 1).setFld (Reg.CKP_STATUS n) 4 1 0
    else s

/-- Write what is due to the input record, the block of the last released frame first (R304, R322). -/
def State.recSettle (s : State) (n : Fin 8) : State :=
  let s1 := (s.capSettle n).fileAsync n
  s1.recWrite n (s1.ck n).due

/-- A frame is released with recording active: its entry is due (R322). -/
def State.recRelease (s : State) (n : Fin 8) (f : Nat) (outv : List (Nat × Bool)) : State :=
  let s1 := s.recPush n (s.frameEntry n f outv)
  s1.modCk n fun k => { k with depLog := k.depLog.filter (fun d => decide (f < d.1)), xtaken := k.xtaken.filter fun x => decide (f < x.1) }

/-- At a tick the partition is held while an entry is due that does not fit (R325). -/
def State.recHold (s : State) (n : Fin 8) : State :=
  let s1 := s.recSettle n
  if (s1.ck n).due.isEmpty then s1
  else (s1.addFld (Reg.CKP_REC_HOLD n) 0 32 1).modPart n fun p => { p with bholds := p.bholds ++ [.record] }

/-- Move the record's tail, freeing the entries before it. -/
def State.recTail (s : State) (n : Fin 8) (pos : Nat) : State :=
  let size := (s.reg (Reg.CKP_REC_SIZE n)).toNat
  let tail := (s.reg (Reg.CKP_REC_TAIL n)).toNat
  let d := ringDist size tail pos
  (s.modCk n fun k => { k with record := k.record.filter fun e => decide (d ≤ ringDist size tail e.pos) }).setReg (Reg.CKP_REC_TAIL n)
    (BitVec.ofNat 32 pos)

/-- The checkpoint's on-chip sections are written, or its writing failed (R318). -/
def State.ckComplete (s : State) (n : Fin 8) (ok : Bool) : State :=
  let k := s.ck n
  match k.busy with
  | some b =>
    if b.reading then s
    else
      let s1 := s.setFld (Reg.CKP_STATUS n) 1 1 0
      if ok ∧ s.depotCheck (.part n) (s.ckSlotAddr n b.slot) true = .ok then
        let c := b.img.boundary
        let s2 := (s1.setCk n { k with busy := none, latest := some b.img }).setFld (Reg.CKP_STATUS n) 0 1 1
        let s3 := (s2.setFld (Reg.CKP_STATUS n) 2 1 b.slot).setReg64 (Reg.CKP_LAST_LO n) (c % 2 ^ 48 + 2 ^ 63)
        let s4 := s3.setReg (Reg.CKP_UNDO_USED n) (BitVec.ofNat 32 b.img.granules.length)
        let s5 := if s.fld (Reg.CKP_CFG n) 3 1 = 0 then s4.recTail n b.img.recPos else s4
        let s6 := if k.stopped then s5.recStart n else s5
        s6.answerCkp n ⟨.ok, 0, 9, c % 2 ^ 64 + b.slot * 2 ^ 64⟩
      else
        ((s1.setCk n { k with busy := none }).setFld (Reg.CKP_STATUS n) 6 1 1).answerCkp n (rspEmpty .retry 2)
  | none => s

/-- The latest checkpoint stops being valid (R318). -/
def State.ckInvalid (s : State) (n : Fin 8) : State :=
  let s1 := (s.modCk n fun k => { k with latest := none }).setFld (Reg.CKP_STATUS n) 0 1 0
  s1.setFld (Reg.CKP_LAST_HI n) 31 1 0

/-- A granule copy completes (R317): the granule joins the undo area, or finds it full (R318); the writes that waited go. -/
def State.undoDone (s : State) (n : Fin 8) (g : Nat) : State :=
  let k := s.ck n
  if k.undoRun.contains g then
    let room := s.undoRoom n
    let add := fun (i : CkImg) => if i.granules.contains g then i else { i with granules := i.granules ++ [g] }
    let tooMany := fun (i : CkImg) => decide (room < i.granules.length)
    let b := k.busy.map fun b => { b with img := add b.img }
    let l := k.latest.map add
    let badB := match b with | some b => tooMany b.img | none => false
    let badL := match l with | some l => tooMany l | none => false
    let s1 := s.setCk n { k with undoRun := k.undoRun.filter (fun x => x != g), busy := if badB then none else b, latest := l }
    let s2 := match l with
      | some l => s1.setReg (Reg.CKP_UNDO_USED n) (BitVec.ofNat 32 l.granules.length)
      | none => s1
    let s3 := if badB then
        (((s2.modPart n fun p => { p with bholds := p.bholds.filter fun h => h != .checkpoint }).setFld (Reg.CKP_STATUS n) 1 1 0).setFld
          (Reg.CKP_STATUS n) 3 1 1).answerCkp n (rspEmpty .retry 2)
      else s2
    let s4 := if badL then ((s3.ckInvalid n).setFld (Reg.CKP_STATUS n) 3 1 1).modCk n fun k => { k with again := true } else s3
    s4.sendWaiting n g
  else s

/-- The payload of a recovery notice (R331). -/
def recoveryPayload (path n cause fault ckpt reexec aborts reason us : Nat) (units : List Nat) : Nat :=
  path + n * 2 ^ 8 + cause % 256 * 2 ^ 16 + units.length * 2 ^ 24 + fault % 2 ^ 48 * 2 ^ 32 + ckpt % 2 ^ 48 * 2 ^ 80 +
    reexec % 2 ^ 32 * 2 ^ 128 + aborts % 2 ^ 16 * 2 ^ 160 + reason * 2 ^ 176 + us % 2 ^ 32 * 2 ^ 192 +
    ((units.zip (List.range 5)).foldl (fun a u => a + u.1 % 2 ^ 32 * 2 ^ (32 * u.2)) 0) * 2 ^ 224

/-- Post a recovery notice (R331, R477). -/
def State.recoveryNotice (s : State) (n : Fin 8) (payload : Nat) : State := s.notice 0xF001 48 payload (some n)

/-- The first frame of the run that has not committed. -/
def Part.open_ (p : Part) : Nat := if p.committedValid then p.committed + 1 else p.first

/-- LNK_MAP entries of a partition are cleared (R252). -/
def State.unmap (s : State) (n : Fin 8) : State :=
  (List.finRange 24).foldl (fun t k => (List.range 8).foldl (fun t r =>
    if t.fld (Reg.LNK_MAP k) (4 * r) 4 = 8 + n.val then t.setFld (Reg.LNK_MAP k) (4 * r) 4 0 else t) t) s

/-- Commands that wait on a partition complete with PART_FAULT (R48). -/
def State.failWaits (s : State) (n : Fin 8) : State :=
  let on := fun (w : Wait) =>
    match w with
    | .halt m _ => m == n
    | .deposit m _ _ => m == n
    | .wsRead m _ _ _ => m == n
    | .accession m _ _ _ _ => m == n
    | .tenant m _ _ => m == n
    | .checkpoint m => m == n
    | .nap m => m == n
    | .napExit m => m == n
    | .hold l _ _ => l == [n.val]
    | .forced all l _ => !all && l == [n.val]
    | _ => false
  let s1 := s.answerAll (fun t b => if on b.wait then some (t.rspBlock n .partFault 0) else none) s.waiting
  let s2 := s1.mapWaits fun w => match w with
    | .forced all l done => .forced all (l.filter fun k => k != n.val) done
    | x => x
  s2.answerAll (fun t b => match b.wait with | .forced true [] done => some (t.rspForced true done) | _ => none) s2.waiting

/-- The reasons for which a recovery cannot start (R330), lowest code first. -/
def State.recoveryReason (s : State) (n : Fin 8) (cause : FaultCause) : Option Nat :=
  let k := s.ck n
  let h := (s.part n).open_
  let cfg := Reg.CKP_CFG n
  let missing := match k.latest with
    | some l => (List.range (h - l.boundary)).any fun i => !((runEntries k.record).any fun e => e.frame == l.boundary + i)
    | none => false
  if k.latest.isNone ∨ (k.latest.any fun l => l.digest != k.digest) = true then some 1
  else if s.fld cfg 0 1 = 0 ∨ s.fld (Reg.CKP_STATUS n) 5 1 = 1 ∨ missing = true then some 2
  else if (cause ≠ .abortLimit ∧ cause ≠ .shadowLoss) ∨ s.replaying n then some 6
  else if s.fld cfg 4 1 = 0 then some 7
  else if (s.part n).eph.spans ∧ s.fld cfg 1 1 = 0 then some 8
  else none

/-- Recovery fails (R330): held completions are PART_FAULT, and a notice with PATH 4 is posted. -/
def State.recoveryFail (s : State) (n : Fin 8) (cause : FaultCause) (frame aborts since reason : Nat) (units : List Nat) : State :=
  let r := Reg.CKP_RECOVERY n
  let s0 := s.modPart n fun p => match (s.ck n).recov with | some x => { p with frame := x.shown, cur := x.shown } | none => p
  let s1 := (((s0.setFld r 0 4 0).setFld r 4 4 2).setFld r 8 8 reason).modCk n fun k => { k with recov := none }
  let ckpt := match (s.ck n).latest with | some l => l.boundary | none => 0
  let re := if (s.ck n).recov.isSome then (s.part n).open_ - ckpt else 0
  let us := (s.lnk.timebase - since) / 1000
  let s2 := (s1.failWaits n).unmap n
  s2.recoveryNotice n (recoveryPayload 4 n cause.code frame (if (s.ck n).recov.isSome then ckpt else 0) re aborts reason
    (if (s.ck n).recov.isSome then us else 0) units)

/-- A hard fault begins a recovery, or fails at once (R326, R330). -/
def State.recoveryStart (s : State) (n : Fin 8) (cause : FaultCause) (frame : Nat) : State :=
  let s0 := s.recSettle n
  let p := s0.part n
  match s0.recoveryReason n cause with
  | some reason => s0.recoveryFail n cause frame p.consec s0.lnk.timebase reason []
  | none =>
    let r := Reg.CKP_RECOVERY n
    ((s0.modCk n fun k => { k with recov := some ⟨cause, frame, p.frame, p.consec, s0.lnk.timebase, [], false⟩ }).setFld r 0 4 3).setFld
      r 8 8 0

/-- The i-th bank of each die in a checkpoint goes to the i-th bank of the die on loan now (R321). -/
def restoreBanks (m : List Host.Cell) (now : List Nat) (banks : List (Nat × List Host.Cell)) : List Host.Cell :=
  (List.range 4).foldl (fun m d =>
    let src := banks.filter fun b => b.1 / 256 == d
    let dst := now.filter fun b => b / 256 == d
    (src.zip dst).foldl (fun m x =>
      msetAll dByte (m.filter fun c => c.1 / 65536 != x.2) (x.1.2.map fun c => (x.2 * 65536 + c.1 % 65536, c.2))) m) m

/-- A region whose snapshot ran and whose image matches is reloaded through SETTLING with the snapshot's storage (R376). -/
def State.restoreRegion (s : State) (x : RegionSnap) : State :=
  match (List.finRange 8).find? fun r => r.val == x.region with
  | none => s
  | some r =>
    if x.state = 3 ∧ s.reg (Reg.VTR_REGION_IMAGE r.val) = x.image ∧ r.val < s.nRegions then
      (((s.setRegion r { s.isolate r with fabric := x.fabric, pub := 0, stepCopy := 0, transit := none, strobe := false }).setFld
        (Reg.VTR_REGION_STATE r.val) 0 3 2).setFld (Reg.VTR_REGION_STATE r.val) 16 8 x.relseq)
    else s

/-- Regions of the snapshot that the restore leaves unmatched (R376), as a mask. -/
def State.unmatched (s : State) (i : CkImg) : Nat :=
  (i.regions.filter fun x => !(x.state == 3 && s.reg (Reg.VTR_REGION_IMAGE x.region) == x.image)).foldl (fun a x => a + 2 ^ x.region) 0

/-- The state of R315 that a restore writes on-chip: banks, whose error marks end as every word is written anew (R183), working state and both shadow banks, input latch, held words.  `keep`
names the frames whose latched inputs stay: a recovery keeps those of frame h + 1 (R326). -/
def State.restoreCore (s : State) (n : Fin 8) (i : CkImg) (keep : Nat → Bool) : State :=
  let now := s.banksOf n
  let s1 := { s with vlt := { s.vlt with mem := restoreBanks s.vlt.mem now i.banks, dbe := s.vlt.dbe.filter fun k => !now.contains (k / 8192) } }
  s1.modPart n fun p =>
    { p with
      img := i.img, shadow0 := i.img, shadow1 := i.img, shadowBad0 := [], shadowBad1 := [], carry := false,
      bins := [(i.boundary, i.bins)] ++ p.bins.filter (fun b => keep b.1 && b.1 != i.boundary),
      frame := i.boundary, step := 0, vlog := [], reads := p.reads.filter (·.stale), stages := [], waves := [], xform := [], taps := [], fxs := [],
      done := [], nops := [], offers := [], lanes := [], gets := [], outs := [], hazNow := [], reserved := [], stops := [], err := Err.zero, errCl := [],
      toggles := [], hazHalt := none, decision := none, haltPend := [], faultPend := none, decidesNone := true,
      xinit := i.xinit, bholds := [], bdone := false, wbLeft := 0,
      xheld := i.xheld ++ p.xheld.filter fun h => !(i.xheld.any fun y => y.cl == h.cl && y.slot == h.slot && y.frame == h.frame) }

end Sys2Proof.Machine
end

