-- ==== Sys2Proof/Machine/Hazard.lean ====
section
/-!
DEFINITION. The hazard monitor's records and counters (R173 to R178).
-/
namespace Sys2Proof.Machine

/-- Order of a step's hazards: by code, then by packed BP address (R174). -/
def Haz.rank (h : Haz) : Nat := h.code * 2 ^ 18 + h.bp

/-- The frame being executed is a re-execution after an abort (REEXEC of R176). -/
def Part.isReexec (p : Part) : Bool := decide (p.cur < p.hiFrame)

/-- The record of a hazard (R176). -/
def Part.hazRec (p : Part) (h : Haz) : HazRec :=
  { w0 := BitVec.ofNat 32 p.frame,
    w1 := BitVec.ofNat 32 (p.frame / 2 ^ 32 % 2 ^ 16 + p.step % 2 ^ 13 * 2 ^ 16 + b2n p.isReexec * 2 ^ 29 +
      b2n (bitOf p.status 1) * 2 ^ 30),
    w2 := BitVec.ofNat 32 (h.bp % 2 ^ 18 + h.code * 2 ^ 18 + h.opnd * 2 ^ 24),
    w3 := BitVec.ofNat 32 (h.detail % 2 ^ 16) }

/-- One hazard is recorded (R174, R177, R178): counted, stored or lost, and latched for halting if DBG_HALT_EN selects its
code. -/
def State.recordHaz (s : State) (n : Fin 8) (h : Haz) : State :=
  let p := s.part n
  let s1 := s.addFld (Reg.DBG_TOTAL n) 0 32 1
  let en := bitOf (s.reg (Reg.DBG_REC_EN n)).toNat h.code
  let room := decide (p.hazBuf.length < 256) && s.fld (Reg.DBG_CTRL n) 1 1 == 0
  let s2 := if en && !room then s1.addFld (Reg.DBG_LOST n) 0 32 1 else s1
  let idx := if en && room then some p.hazBuf.length else none
  let p1 := if en && room then { p with hazBuf := p.hazBuf ++ [p.hazRec h] } else p
  let p2 := if bitOf (s.reg (Reg.DBG_HALT_EN n)).toNat h.code && p1.hazHalt.isNone then
      { p1 with hazHalt := some (h.code, idx) } else p1
  s2.setPart n p2

/-- Record hazards in order. -/
def State.recordAll (s : State) (n : Fin 8) : List Haz → State
  | [] => s
  | h :: r => (s.recordHaz n h).recordAll n r

/-- The hazards met in the step go to the buffer at its end, in the order of R174. -/
def State.flushHaz (s : State) (n : Fin 8) : State :=
  let l := (s.part n).hazNow
  (s.modPart n fun p => { p with hazNow := [] }).recordAll n (sortBy Haz.rank l)

/-- A latched halt request whose record no longer stands in the buffer (R177). -/
def unstored (h : Option (Nat × Option Nat)) : Option (Nat × Option Nat) := h.map fun x => (x.1, none)

/-- A write of 1 to DBG_CTRL.CLEAR (R177): the buffer empties and the counts return to 0; halt requests already latched stand,
without a record to name. -/
def State.dbgClear (s : State) (n : Fin 8) : State :=
  if (s.part n).eph.debug then
    ((s.modPart n fun p =>
      { p with hazBuf := [], hazHalt := unstored p.hazHalt, haltHaz := unstored p.haltHaz,
               fxs := p.fxs.map fun f => { f with hazard := unstored f.hazard } }).setReg (Reg.DBG_TOTAL n) 0).setReg (Reg.DBG_LOST n) 0
  else s

/-- DBG_HALT_REC when a latched hazard halt request takes part in a halt (R177, R178). -/
def State.dbgHaltRec (s : State) (n : Fin 8) : Option (Nat × Option Nat) → State
  | none => s
  | some (code, some i) => s.setReg (Reg.DBG_HALT_REC n) (BitVec.ofNat 32 (i + code * 2 ^ 8 + 2 ^ 31))
  | some (code, none) => s.setReg (Reg.DBG_HALT_REC n) (BitVec.ofNat 32 (code * 2 ^ 8))

end Sys2Proof.Machine
end

