-- ==== Sys2Proof/Machine/Lattice.lean ====
section
/-!
DEFINITION. The lattice (R138 to R153).  A line's bit is fixed by the route fields of the steps it passed and by what the
source BP offered, so the lines in transit are held as the last three executed steps (`waves`): at step k a delivery reads
what its chain of fields selected at steps k − 1, k − 2 and k − 3 (R145).  `ws` below lists the step in progress first.
-/
namespace Sys2Proof.Machine

/-- Default of a delivery descriptor: the empty one (R143). -/
def dDesc : Nat → BitVec 16 := fun _ => 0xFE00
/-- Default of the other route halfwords (R165). -/
def dSel : Nat → BitVec 16 := fun _ => 0

/-- Route halfword h of tile t, entry k (R142). -/
def Eph.halfword (e : Eph) (t k h : Nat) : BitVec 16 :=
  if h < 256 then mget dDesc e.desc ((t * 2048 + k) * 256 + h) else mget dSel e.sel ((t * 2048 + k) * 256 + (h - 256))

/-- N of R146. -/
def Eph.modN (e : Eph) : Nat := if e.deep then 4096 else 2048

/-- The entry that step counter value k uses (R146, R150). -/
def Eph.entryOf (e : Eph) (k : Nat) : Nat := k % e.modN % 2048

/-- Elements of this index act at counter value k: in deep mode those of the parity of the half (R150). -/
def Eph.active (e : Eph) (k idx : Nat) : Bool := !e.deep || idx % 2 == k % e.modN / 2048

/-- Where a line's bit comes from: not live; blanked at the select in halfword h of a tile, `back` steps before, which has reserved
bits set (code 1) or which isolation forces not live (`iso`, R144; code 1 where it names its own die, else 22); or live from a BP
with its bit, whether the BP offered it, how many steps back its offering step lies, and the out-line select it left by. -/
inductive Line where
  | dead
  | blocked (iso : Bool) (code tile h back : Nat)
  | live (bp : Nat) (bit offered : Bool) (back : Nat) (via : Option (Nat × Nat))
  deriving DecidableEq, Repr

/-- The step that lies `i` before the one in progress. -/
def waveAt (ws : List Wave) (i : Nat) : Wave := ws.getD i ⟨false, [], []⟩

/-- Halfword h at the step `i` back, unless its word was uncorrectable there (R152).  Before step 0 of the frame lie C3 to C15 of
the one before, which use no entry (R146). -/
def routeAt (e : Eph) (ws : List Wave) (k i t h : Nat) : Option Nat :=
  if k < i || (waveAt ws i).bad.contains (t * 128 + h / 4) then none else some (e.halfword t (e.entryOf (k - i)) h).toNat

/-- A BP as source at the step `i` back: its offer, or a live 0 (R140). -/
def bpLine (ws : List Wave) (i bp : Nat) (via : Option (Nat × Nat)) : Line :=
  let w := waveAt ws i
  if w.eval then
    match w.offers.find? (fun x => x.1 == bp) with
    | some x => .live bp x.2 true i via
    | none => .live bp false false i via
  else .dead

/-- Cluster out-line j as registered at the step `i` back (R139). -/
def outLine (e : Eph) (ws : List Wave) (k i t c j : Nat) : Line :=
  if e.active (k - i) j then
    match routeAt e ws k i t (256 + 4 * c + j / 4) with
    | some hw => bpLine ws i ((t * 16 + c) * 64 + 16 * (j / 4) + hw / 2 ^ (4 * (j % 4)) % 16) (some (t, 256 + 4 * c + j / 4))
    | none => .dead
  else .dead

/-- A die-out or cross-die-out line: an 8-bit select of cluster and out-line (R139, R142).  Both are registered in one step, in
which in deep mode only the lines of one parity act (R150): a select that names an out-line of the other parity is not live.  The
same holds of an in-line 12 to 15 and its die-in line (DESIGN CHOICE, log entry 117). -/
def tileOut (e : Eph) (ws : List Wave) (k i t base line : Nat) : Line :=
  if e.active (k - i) line then
    match routeAt e ws k i t (base + line / 2) with
    | some hw => let x := hw / 2 ^ (8 * (line % 2)) % 256; outLine e ws k i t (x / 16) (x % 16)
    | none => .dead
  else .dead

/-- Die-in line as registered at the step `i` back (R139, R144). -/
def dieIn (e : Eph) (ws : List Wave) (k i t line : Nat) : Line :=
  if e.active (k - i) line then
    match routeAt e ws k i t (448 + line) with
    | some hw =>
      if hw / 2048 ≠ 0 then .blocked false 1 t (448 + line) i
      else
        let src := tileDie t * 64 + hw / 32 % 64
        if e.hasTile src then tileOut e ws k (i + 1) src 400 (hw % 32) else .blocked true 22 t (448 + line) i
    | none => .dead
  else .dead

/-- Cross-die-in line as registered at the step `i` back: the bridge adds one step (R139, R144, R145).  A select that names its own
die, or a die that the part lacks, is isolated and recorded as ENCODING (R153, R155). -/
def crossIn (e : Eph) (ws : List Wave) (k i t line : Nat) : Line :=
  if e.active (k - i) line then
    match routeAt e ws k i t (480 + line) with
    | some hw =>
      if hw / 16384 ≠ 0 then .blocked false 1 t (480 + line) i
      else
        let die := hw / 4096 % 4
        let src := die * 64 + hw / 64 % 64
        if die = tileDie t ∨ (e.dies2 ∧ 2 ≤ die) then .blocked true 1 t (480 + line) i
        else if e.hasTile src then tileOut e ws k (i + 2) src 416 (hw % 64) else .blocked true 22 t (480 + line) i
    | none => .dead
  else .dead

/-- Tile in-line j of a cluster as registered at the step `i` back (R139, R142, R144). -/
def inLine (e : Eph) (ws : List Wave) (k i t c j : Nat) : Line :=
  if !e.active (k - i) j then .dead
  else if j < 12 then
    match routeAt e ws k i t (320 + 5 * c + j / 4) with
    | some hw => outLine e ws k i t (hw / 2 ^ (4 * (j % 4)) % 16) j
    | none => .dead
  else
    match routeAt e ws k i t (320 + 5 * c + 3 + (j - 12) / 2) with
    | some hw =>
      let x := hw / 2 ^ (8 * (j % 2)) % 256
      if x / 64 ≠ 0 then .blocked false 1 t (320 + 5 * c + 3 + (j - 12) / 2) i
      else if x < 32 then dieIn e ws k i t x else crossIn e ws k i t (x - 32)
    | none => .dead

/-- The source line of a delivery descriptor at the step in progress (R143). -/
def descLine (e : Eph) (ws : List Wave) (k t c hw : Nat) : Line :=
  let src := hw / 512
  if src < 64 then bpLine ws 1 ((t * 16 + c) * 64 + src) none
  else if src < 80 then inLine e ws k 1 t c (src - 64)
  else .dead

/-- A delivery descriptor met at a step: receiving BP, register, tile, halfword, descriptor position, its line. -/
structure Deliv where
  bp : Nat
  rx : Nat
  tile : Nat
  hw : Nat
  pos : Nat
  src : Nat
  line : Line
  deriving DecidableEq, Repr

/-- The descriptors that act at counter value k, in ascending tile, cluster and position (R143, R150, R152). -/
def delivs (e : Eph) (ws : List Wave) (k : Nat) : List Deliv :=
  (e.desc.filter fun x => x.1 / 256 % 2048 == e.entryOf k && e.hasTile (x.1 / 256 / 2048)).filterMap fun x =>
    let t := x.1 / 256 / 2048
    let h := x.1 % 256
    let c := h / 16
    let v := x.2.toNat
    if e.active k (h % 16) && !(waveAt ws 0).bad.contains (t * 128 + h / 4) && v / 512 != 127 then
      some ⟨(t * 16 + c) * 64 + v / 8 % 64, v % 8, t, h, h % 16, v / 512, descLine e ws k t c v⟩
    else none

/-- The line is live. -/
def Line.isLive : Line → Bool
  | .live _ _ _ _ _ => true
  | _ => false

/-- The bit a line carries. -/
def Line.bit : Line → Bool
  | .live _ b _ _ _ => b
  | _ => false

/-- Live deliveries taken for one BP: the two of lowest descriptor position (R149). -/
def takenFor (ds : List Deliv) (bp : Nat) : List Deliv := (ds.filter fun d => d.bp == bp && d.line.isLive).take 2

/-- Receiving BPs of live deliveries, ascending. -/
def receivers (ds : List Deliv) : List Nat :=
  (ds.filter fun d => d.line.isLive).foldl (fun acc d => insNat d.bp acc) []

/-- The bit that lands of a delivery (R152): a bit that a parity error reached on its way is as received, which the spec does not
fix: a free value (log entry 118). -/
def landBit (ctr : Nat) (bad : List (Nat × Nat)) (d : Deliv) : Bool :=
  if bad.contains (d.bp, d.rx) then Config.freeBit (ctr * 2 ^ 22 + 2 ^ 21 + d.bp * 8 + d.rx) else d.line.bit

/-- Land the deliveries of one BP at the end of the step (R149): two into one register leave a free value there. -/
def Part.landAt (p : Part) (ctr : Nat) (bad : List (Nat × Nat)) (ds : List Deliv) : Part :=
  match ds with
  | [a] => Part.note { p with img := p.img.setRx a.bp a.rx (landBit ctr bad a) } a.bp (4096 + a.rx)
  | [a, b] =>
    if a.rx = b.rx then Part.note { p with img := p.img.setRx a.bp a.rx (Config.freeBit (ctr * 2 ^ 22 + a.bp * 8)) } a.bp (4096 + a.rx)
    else
      let q := Part.note { p with img := p.img.setRx a.bp a.rx (landBit ctr bad a) } a.bp (4096 + a.rx)
      Part.note { q with img := q.img.setRx b.bp b.rx (landBit ctr bad b) } b.bp (4096 + b.rx)
  | _ => p

/-- The slot of an executed BP reads receive register n in this step: the first operand position that does (R153). -/
def Part.readsRx (p : Part) (bp n : Nat) : Option Nat :=
  let w := p.slot bp p.step
  if wCls w = 0xA ∧ !p.eph.debug then none
  else if 11 ≤ wCls w ∧ wCls w ≤ 14 then none
  else ((readsOf w).find? fun x => selIsRx x.2 && x.2 % 8 == n).map (·.1)

/-- BP 0 of the cluster whose halfword is at fault, or of cluster 0 for a tile-level field (R175). -/
def fieldBp (t h : Nat) : Nat :=
  if h < 256 then (t * 16 + h / 16) * 64
  else if h < 320 then (t * 16 + (h - 256) / 4) * 64
  else if h < 400 then (t * 16 + (h - 320) / 5) * 64
  else t * 16 * 64

/-- The BP that a lattice hazard names (R175): in deep mode the even one of the pair. -/
def Eph.hazBp (e : Eph) (bp : Nat) : Nat := if e.deep then bp - bp % 2 else bp

/-- Keep the first of equal hazards. -/
def dedupHaz (l : List Haz) : List Haz := l.foldl (fun acc h => if acc.contains h then acc else acc ++ [h]) []

/-- The hazards of the routes that leave a BP, or meet a faulty select, in the step in progress (R153): `ws` lists that step
first.  A route is a chain of fields that a delivery reads, and the delivery may lie up to three steps ahead (R145), so the
descriptors of those steps are traced back, with their words taken to be correctable; a select that no delivery reads gives
none (DESIGN CHOICE, log entry 119). -/
def aheadHazards (e : Eph) (ws : List Wave) (k : Nat) : List Haz :=
  let found := ([1, 2, 3].filter fun j => decide (k + j ≤ e.depth + 2)).flatMap fun j =>
    (delivs e (List.replicate j ⟨true, [], []⟩ ++ ws) (k + j)).map fun d => (j, d)
  let missing := found.filterMap fun x =>
    match x.2.line with
    | .live b _ false back _ => if back = x.1 then some (⟨5, e.hazBp b, 0, x.2.bp % 65536⟩ : Haz) else none
    | _ => none
  let sels := found.filterMap fun x =>
    match x.2.line with
    | .blocked _ code t h back =>
      if back = x.1 then some (⟨code, fieldBp t h, 0, if code = 1 then 0x8000 + h else h⟩ : Haz) else none
    | .live b _ _ back (some (t, h)) =>
      if back = x.1 ∧ e.deep ∧ b % 2 = 1 then some ⟨23, fieldBp t h, 0, h⟩ else none
    | _ => none
  missing ++ dedupHaz sels

/-- The lattice hazards of a step (R153): those of its deliveries, and those of the routes that begin or fail in it.  Of more than
two live deliveries into one BP, LAT_COLLISION looks at the two that R149 takes (DESIGN CHOICE, log entry 120). -/
def latHazards (p : Part) (ws : List Wave) (ds : List Deliv) : List Haz :=
  let e := p.eph
  let ofDesc := ds.flatMap fun d =>
    (if 80 ≤ d.src ∧ d.src ≤ 126 then [(⟨1, fieldBp d.tile d.hw, 0, 0x8000 + d.hw⟩ : Haz)] else []) ++
    (if e.deep && (d.bp % 2 == 1 || (decide (d.src < 64) && d.src % 2 == 1)) then [⟨23, fieldBp d.tile d.hw, 0, d.hw⟩] else [])
  let ofBp := (receivers ds).flatMap fun bp =>
    let lv := ds.filter fun d => d.bp == bp && d.line.isLive
    (match lv.take 2 with
     | [a, b] => if a.rx = b.rx then [(⟨19, e.hazBp bp, 0, a.rx⟩ : Haz)] else []
     | _ => []) ++
    (if p.done.contains bp && !p.nops.contains bp then
      ((lv.take 2).foldl (fun acc d => insNat d.rx acc) []).filterMap fun r => (p.readsRx bp r).map fun pos => (⟨21, bp, pos, r⟩ : Haz)
    else []) ++
    ((lv.drop 2).map fun d => (⟨20, e.hazBp bp, 0, d.pos⟩ : Haz))
  ofDesc ++ aheadHazards e ws p.step ++ ofBp

/-- Land the deliveries of every receiving BP; `ctr` numbers the free values (R149, R152). -/
def Part.landAll (p : Part) (ctr : Nat) (bad : List (Nat × Nat)) (ds : List Deliv) : List Nat → Part
  | [] => p
  | bp :: r => (p.landAt ctr bad (takenFor ds bp)).landAll ctr bad ds r

/-- The line is forced not live by isolation. -/
def Line.isIso : Line → Bool
  | .blocked i _ _ _ _ => i
  | _ => false

/-- How many deliveries by descriptors other than the empty one were forced not live by isolation, on a die (LAT_ISO, R154). -/
def isoCount (ds : List Deliv) (die : Nat) : Nat := (ds.filter fun d => d.line.isIso && tileDie d.tile == die).length

/-- The lattice's part of a step that uses a route entry: deliveries land and the step joins the waves (R145, R149); `changed` names
the landing bits that a parity error reached. -/
def Part.latticeStep (p : Part) (ctr : Nat) (eval : Bool) (bad : List Nat) (changed : List (Nat × Nat)) : Part :=
  let cur : Wave := ⟨eval, p.offers, bad⟩
  let ws := cur :: p.waves
  let ds := delivs p.eph ws p.step
  let p1 := if p.eph.debug then { p with hazNow := p.hazNow ++ latHazards p ws ds } else p
  let p2 := p1.landAll ctr (if p.err.latPar then changed else []) ds (receivers ds)
  { p2 with waves := ws.take 3, offers := [] }

end Sys2Proof.Machine
end

