-- ==== Sys2Proof/Machine/PowerOps.lean ====
section
/-!
DEFINITION. Power: holding and releasing a partition (R495), the relock of a die (R504, R508), and the beginning of DORMANT (R497,
R498).
-/
namespace Sys2Proof.Machine

/-- Step frequency and VCORE requirement of an operating point, in MHz and mV (R504). -/
def opMhz : Nat → Nat
  | 0 => 1250
  | 1 => 1000
  | 2 => 800
  | _ => 500

/-- VCORE required, in mV. -/
def opMv : Nat → Nat
  | 0 => 800
  | 1 => 720
  | 2 => 660
  | _ => 600

/-- The power unit replaced. -/
def State.setPwr (s : State) (p : Pwr) : State := { s with pwr := p }

/-- A reason to hold partition n stands. -/
def State.holdWanted (s : State) (n : Fin 8) : Bool :=
  vget s.pwr.own n || vget s.pwr.dev n || vget s.pwr.dorm n || vget s.pwr.relock n || vget s.pwr.nap n != .none

/-- What a held partition shows (R494, PWR_PART). -/
def State.holdKind (s : State) (n : Fin 8) : PHold :=
  if vget s.pwr.dorm n && s.pwr.phase == .dormant then .dormant
  else if vget s.pwr.nap n == .napping || vget s.pwr.nap n == .leaving then .nap
  else .hold

/-- Dies that the partition has tiles on. -/
def State.onDie (s : State) (n : Fin 8) (d : Nat) : Bool := (s.part n).state != .empty && bitOf (s.part n).eph.dieMask d

/-- A die whose relock holds have all acted goes to the bypass, and its PLL locks (R508). -/
def State.relockAdvance (s : State) : State :=
  match s.pwr.change with
  | some c =>
    if c.volt then s
    else
      c.left.foldl (fun (t : State) d =>
        let waits := (List.finRange 8).any fun n => t.onDie n d && (t.part n).holdReq && (t.part n).held.isNone
        if waits || decide (1 < t.fld (Reg.CLK_STEP d) 0 3) then t
        else t.setReg (Reg.CLK_STEP d) (BitVec.ofNat 32 (2 + 500 * 2 ^ 4))) s
  | none => s

/-- The hold of partition n has acted, or is over because the partition left RUNNING: commands that waited for it are answered
(R476), and a relock goes on. -/
def State.answerHold (s : State) (n : Fin 8) : State :=
  let s1 := s.mapWaits fun w =>
    match w with
    | .hold left part code => .hold (left.filter fun k => k != n.val) part code
    | _ => w
  (s1.answerAll (fun t b =>
    match b.wait with
    | .hold left part code =>
      if left.isEmpty then
        some (if h : part < 8 then t.rspBlock ⟨part, h⟩ .ok 0 else ⟨.ok, 0, 1, code⟩)
      else none
    | _ => none) s1.waiting).relockAdvance

/-- A requested hold acts (R495). -/
def State.holdNow (s : State) (n : Fin 8) : State :=
  (s.modPart n fun p => { p with held := some (s.holdKind n), holdReq := false, stalled := false }).answerHold n

/-- Ask for the hold of partition n (R495): it acts at its next evaluation or stall step, or, in a boundary hold, at the tick; a
recovered partition that stands ready for frame h + 1 is held at once. -/
def State.requestHold (s : State) (n : Fin 8) : State :=
  let p := s.part n
  if p.held.isSome then s
  else if p.state = .running ∨ s.catchingUp n then
    if p.bholds.isEmpty || p.bdone then s.modPart n fun p => { p with holdReq := true }
    else s.modPart n fun p => { p with held := some (s.holdKind n) }
  else s

/-- Partition n goes on once no reason to hold it stands, and otherwise shows what still holds it. -/
def State.releaseHold (s : State) (n : Fin 8) : State :=
  if s.holdWanted n then
    s.modPart n fun p => { p with held := if p.held.isSome then some (s.holdKind n) else none }
  else s.modPart n fun p => { p with held := none, holdReq := false }

/-- What SET_POWER asked of a partition ends when it leaves RUNNING (R494). -/
def State.dropHolds (s : State) (n : Fin 8) : State :=
  let q := s.pwr
  s.setPwr { q with own := vset q.own n false, dev := vset q.dev n false, nap := vset q.nap n .none }

/-- An operating-point change is given up (R454, R505): its dies are released, and its command answered. -/
def State.changeOver (s : State) (r : Rsp) : State :=
  match s.pwr.change with
  | some c =>
    let s1 := c.dies.foldl (fun (t : State) d => t.setFld (Reg.PWR_DIE_OP d) 2 3 (t.fld (Reg.PWR_DIE_OP d) 0 2)) s
    let s2 := s1.setPwr { s1.pwr with change := none, relock := Vector.replicate 8 false }
    let s3 := (List.finRange 8).foldl (fun (t : State) n => t.releaseHold n) s2
    s3.answerAll (fun _ b => match b.wait with | .setOp _ => some r | _ => none) s3.waiting
  | none => s

/-- DORMANT entry begins (R498): every partition that runs is held, the Registrar stops dispatch and
holds its sources, and wakes are latched from now on (R500).  A change of operating
point that a thermal shutdown finds under way completes SUPERSEDED (R454). -/
def State.dormantBegin (s : State) : State :=
  let s := match s.pwr.shut with
    | some (k, _) => s.changeOver ⟨.superseded, 0, 48, k % 2 ^ 64 * 2 ^ 320⟩
    | none => s
  let q := s.pwr
  let runs := (List.finRange 8).filter fun n => (s.part n).state == .running || s.catchingUp n
  let s1 := s.setPwr { q with phase := .entering, since := s.lnk.timebase, wake := 0, wakes := 0, during := false, shut := none,
                              dorm := runs.foldl (fun v n => vset v n true) q.dorm,
                              ports := (List.range 8).filter fun i => s.fld (Reg.DEP_PORT_STATE i) 0 3 == 3 }
  let s2 := { s1 with rgs := { s1.rgs with stopped := true } }
  runs.foldl (fun (t : State) n => t.requestHold n) s2

/-- A halt that a thermal shutdown waits for has acted; after the last, DORMANT begins (R497). -/
def State.shutHalted (s : State) (n : Fin 8) : State :=
  match s.pwr.shut with
  | some (k, left) =>
    let rest := left.filter fun m => m != n.val
    if left.contains n.val then
      if rest.isEmpty then s.dormantBegin else s.setPwr { s.pwr with shut := some (k, rest) }
    else s
  | none => s

/-- The device does work: not tripped (R503), and outside DORMANT (R498, R499). -/
def State.awake (s : State) : Bool := !s.pwr.tripped && s.pwr.phase != .dormant

end Sys2Proof.Machine
end

