-- ==== Sys2Proof/Machine/Tally.lean ====
section
/-!
DEFINITION. The Tally (R514 to R520): rows, periods, records, wall-clock time; and how a Photometer's records reach it.
-/
namespace Sys2Proof.Machine

/-- Wall-clock time (R520). -/
def State.wall (s : State) : Nat := s.tly.wallRef + (s.tly.time - s.tly.wallAt) * 10 ^ 9 / 32768

/-- Period length in ticks (R515, R525). -/
def State.periodLen (s : State) : Nat := max 1 (s.fld Reg.TLY_PERIOD 0 24) * 32768

/-- The words of a period record without its MAC (R519). -/
def State.periodWords (s : State) (r : TlyRow) (early : Bool) (endTicks wallEnd : Nat) : List Nat :=
  let flags := b2n s.tly.clockBack + 2 * b2n s.tly.clockSet + 4 * b2n early + 8 * b2n r.unload + 16 * b2n r.merged
  [1 + r.part * 2 ^ 8 + flags * 2 ^ 16 + s.fld Reg.LNK_DEVICE_ID 0 8 * 2 ^ 24 + r.tenant * 2 ^ 32,
   (s.reg Reg.TLY_PERIOD_NO).toNat + s.tly.powerOn * 2 ^ 32, s.tly.startTicks, endTicks, s.tly.wallStart, wallEnd,
   r.run, r.stall, r.frames, r.energy, s.tly.wallSet]

/-- Write one record at the head of the Tally ring, bank 252 of die 0 (R518). -/
def State.writePeriodRec (s : State) (r : TlyRow) (early : Bool) (endTicks wallEnd : Nat) : State :=
  let ws := s.periodWords r early endTicks wallEnd
  let all := ws ++ [Config.tallyMac ws]
  let base := s.tly.head * 12
  let s1 := (List.range 12).foldl (fun t i => t.setVword 252 (base + i) (BitVec.ofNat 64 (all.getD i 0))) s
  { s1 with tly := { s1.tly with head := (s1.tly.head + 1) % 680, unread := s1.tly.unread ++ [(s.tly.head, r.part)] } }

/-- Write records in order. -/
def State.writePeriodRecs (s : State) (early : Bool) (endTicks wallEnd : Nat) : List TlyRow → State
  | [] => s
  | r :: t => (s.writePeriodRec r early endTicks wallEnd).writePeriodRecs early endTicks wallEnd t

/-- Records that the ring takes without overwriting an unread one (R518). -/
def State.tallyRoom (s : State) : Nat :=
  match s.tly.unread with
  | [] => 680
  | (p, _) :: _ => (p + 680 - s.tly.head) % 680

/-- Close the open counting (R517, R518): records in ascending partition and tenant order, or a merge when the ring lacks room. -/
def State.closePeriod (s : State) (early : Bool) : State :=
  let rows := sortBy (fun r => r.part * 2 ^ 32 + r.tenant) s.tly.rows
  let w := s.wall
  if rows.length ≤ s.tallyRoom then
    let s1 := s.writePeriodRecs early s.tly.time w rows
    { s1 with tly := { s1.tly with rows := [], startTicks := s1.tly.time, wallStart := w, lastEnd := w } }
  else
    let s1 : State := { s with tly := { s.tly with rows := s.tly.rows.map fun (r : TlyRow) => { r with merged := true } } }
    s1.addFld Reg.TLY_MERGED 0 32 1

/-- A billing period ends at its boundary (R515, R518): Tally time stands at the boundary.  What a record that will cover both periods
says of the clock goes on (R518, R520). -/
def State.periodBoundary (s : State) : State :=
  let s0 := { s with tly := { s.tly with time := max s.tly.time s.tly.bound } }
  let fits := decide (s0.tly.rows.length ≤ s0.tallyRoom)
  let s1 := s0.closePeriod false
  { s1.setReg Reg.TLY_PERIOD_NO (BitVec.ofNat 32 ((s1.reg Reg.TLY_PERIOD_NO).toNat + 1)) with
    tly := { s1.tly with bound := s1.tly.bound + s1.periodLen, clockBack := s1.tly.clockBack && !fits,
                         clockSet := s1.tly.clockSet && !fits, wallSet := if fits then 0 else s1.tly.wallSet } }

/-- Tally time passes by k ticks: boundaries it meets close their periods (R514, R515). -/
def State.tallyAdvance (s : State) (k : Nat) : Nat → State
  | 0 => s
  | fuel + 1 =>
    if s.tly.bound ≤ s.tly.time + k then
      let left := s.tly.time + k - s.tly.bound
      (s.periodBoundary).tallyAdvance left fuel
    else { s with tly := { s.tly with time := s.tly.time + k } }

/-- Nanoseconds pass on the always-on oscillator. -/
def State.tallyNs (s : State) (ns : Nat) : State :=
  let f := s.tly.frac + ns * 32768
  ({ s with tly := { s.tly with frac := f % 10 ^ 9 } }).tallyAdvance (f / 10 ^ 9) 4

/-- The row of a partition and its current tenant (R516). -/
def State.tenant (s : State) (n : Fin 8) : Nat := (s.reg (Reg.TLY_TENANT n)).toNat

/-- Add counts to the row of a partition's tenant, opening it (R516, R517). -/
def State.tallyAdd (s : State) (n : Fin 8) (run stall frames energy : Nat) : State :=
  let id := s.tenant n
  if run = 0 ∧ stall = 0 ∧ frames = 0 ∧ energy = 0 then s
  else
    let has := s.tly.rows.any fun r => r.part == n.val && r.tenant == id && !r.unload
    let s0 := if !has ∧ 64 ≤ s.tly.rows.length then s.closePeriod true else s
    let add := fun (r : TlyRow) => { r with run := (r.run + run) % 2 ^ 64, stall := (r.stall + stall) % 2 ^ 64,
                                            frames := (r.frames + frames) % 2 ^ 48, energy := (r.energy + energy) % 2 ^ 64 }
    let has0 := s0.tly.rows.any fun r => r.part == n.val && r.tenant == id && !r.unload
    let rows := if has0 then s0.tly.rows.map fun r => if r.part == n.val && r.tenant == id && !r.unload then add r else r
      else s0.tly.rows ++ [add ⟨n.val, id, 0, 0, 0, 0, false, false⟩]
    { s0 with tly := { s0.tly with rows := rows } }

/-- An unload ends the partition's rows at the next close (R517). -/
def State.tallyUnload (s : State) (n : Fin 8) : State :=
  { s with tly := { s.tly with rows := s.tly.rows.map fun (r : TlyRow) => if r.part == n.val then { r with unload := true } else r } }

/-- PERIOD_BOUNDARY (R518). -/
def execPeriodBoundary (s : State) : Host.Outcome State Fault Refusal := .next s.periodBoundary

/-- A result record leaves a Photometer's queue (R417 to R419); while the ring's bank answers RETRY it stays there. -/
def execResultRecordOut (d : Fin 4) (s : State) : Host.Outcome State Fault Refusal :=
  if s.phmOn d && !s.phmRetry d then
    let p := s.phmOf d
    match p.out with
    | [] => .next s
    | r :: t =>
      let s1 := s.setPhm d { p with out := t }
      let s2 := if r.w0 / 2 ^ 56 = 1 then
          s1.tallyAdd ⟨r.w0 / 2 ^ 48 % 8, Nat.mod_lt _ (by decide)⟩ 0 0 0 r.w2 else s1
      .next (s2.phmRingWrite d r)
  else .next s

/-- A TALLY_CLOCK (R520). -/
def State.tallyClock (s : State) (v : Nat) : State :=
  { s with tly := { s.tly with wallRef := v, wallAt := s.tly.time, wallSet := v, clockSet := true,
                               clockBack := s.tly.clockBack || decide (v < s.tly.lastEnd) } }

end Sys2Proof.Machine
end

