-- ==== Sys2Proof/Machine/Sequencer.lean ====
section
/-!
DEFINITION. The frame sequencer (R26 to R52): one step-clock cycle of a partition, with its wait points, evaluation and commit
steps, decisions, halts and faults.
-/
namespace Sys2Proof.Machine

/-- The step clock of the partition acts (R42, R50, R503): it runs, or runs catch-up frames, and nothing holds or stops it. -/
def State.cycling (s : State) (n : Fin 8) : Bool :=
  ((s.part n).state == .running || s.catchingUp n) && (s.part n).held.isNone && (s.part n).bholds.isEmpty && s.awake

/-- The item of lowest cause code that is absent at the step about to execute (R41, R44).  C15 waits for no TOKEN in a frame whose
C9 decided an abort or a halt: what its partners hold for the frames after the decided one is dropped (R240), and the frame
begun anew sends its token again (DESIGN CHOICE, log entry 124).  Catch-up frames wait for no partner and no target (R328, R329). -/
def State.absentAt (s : State) (n : Fin 8) : Option Stall :=
  let p := s.part n
  let d := p.eph.depth
  if p.step < d then p.absent
  else if s.catchingUp n then none
  else if p.step = d + 3 then
    (if p.eph.paced && !p.isReexec && !s.replaying n && !s.paceOk n then some .vtrPace else none)
  else if p.step = d + 9 then
    (if p.eph.spans && !p.decidesNone && !s.votesHere n (p.cur - 1) then some .vote else none)
  else if p.step = d + 15 then
    let aborts := match p.decision with | some x => !x.2 | none => false
    (if p.eph.spans && !aborts && p.haltPend.isEmpty && !s.tokensHere n then some .token else none)
  else none

/-- The counter of a stall cause (R52). -/
def stallReg (n : Fin 8) : Stall → Nat
  | .depot => Reg.FRM_STALL_DEPOT n
  | .xget => Reg.FRM_STALL_XGET n
  | .vtrPace => Reg.FRM_STALL_VTR n
  | .vote => Reg.FRM_STALL_VOTE n
  | .token => Reg.FRM_STALL_TOKEN n

/-- The stall step about to be counted brings the stall to FRM_STALL_WARN (R52). -/
def State.warnDue (s : State) (n : Fin 8) : Bool :=
  let p := s.part n
  let warn := (s.reg (Reg.FRM_STALL_WARN n)).toNat
  warn != 0 && decide (warn ≤ p.stallLen + 1) && (p.stallLen == 0 || !p.warned)

/-- A stall step (R42 to R44): nothing executes; the counters rise, and a stall that has reached FRM_STALL_WARN, as it stands,
raises STALL_LONG once (R52). -/
def State.stallStep (s : State) (n : Fin 8) (c : Stall) : State :=
  let p := s.part n
  let fresh := p.stallLen == 0
  let q := { p with
    limit := if fresh then (s.reg (Reg.FRM_STALL_LIMIT n)).toNat else p.limit,
    warned := !fresh && p.warned,
    stallLen := p.stallLen + 1, stalled := true, stallCause := c.code, stallInFrame := p.stallInFrame || !p.isReexec,
    stallSteps := p.stallSteps + 1, stallTotal := satAdd (2 ^ 64 - 1) p.stallTotal 1 }
  let s1 := ((s.setPart n q).addFld (stallReg n c) 0 32 1).maxFld (Reg.FRM_STALL_MAX n) 0 32 q.stallLen
  if s.warnDue n then (s1.modPart n fun p => { p with warned := true }).raiseFrm n 3 else s1

/-- Remaining cycles of the vault log's write-back of discarded frames after C15 (R195). -/
def Part.writeBackLeft (p : Part) (fromF : Nat) : Nat :=
  let mine := p.vlog.filter fun e => decide (fromF ≤ e.frame)
  let per := (mine.foldl (fun a e => insNat e.tile a) []).map fun t => ((mine.filter fun e => e.tile == t).length + 3) / 4
  per.foldl max 0 - 4

/-- Discard the frames from `fromF` on (R35, R122, R195, R224): the vault log is written back, newest entry first; held writes,
change sets and frame effects go; outstanding depot reads become stale. -/
def State.discard (s : State) (n : Fin 8) (fromF : Nat) : State :=
  let p := s.part n
  let back := p.vlog.filter fun e => decide (fromF ≤ e.frame)
  let s1 := back.foldl (fun (t : State) e => t.setVword e.bank e.word e.old) s
  let s2 := s1.modPart n fun p =>
    { p with
      vlog := p.vlog.filter (fun e => !decide (fromF ≤ e.frame)),
      reads := (p.reads.filter fun r => !((r.onChip || r.arrived) && decide (fromF ≤ r.frame))).map
        (fun r => if decide (fromF ≤ r.frame) then { r with stale := true } else r),
      fxs := p.fxs.filter (fun f => decide (f.frame < fromF)),
      taps := [] }
  ((s2.discardHeld n fromF).capDiscard n fromF).modCk n fun k =>
    { k with xtaken := k.xtaken.filter fun x => decide (x.1 < fromF) }

/-- Bank m of the shadow banks. -/
def Part.shadow (p : Part) (m : Nat) : Img := if m % 2 = 0 then p.shadow0 else p.shadow1
/-- Clusters of bank m whose words were copied in error. -/
def Part.shadowBad (p : Part) (m : Nat) : List Nat := if m % 2 = 0 then p.shadowBad0 else p.shadowBad1
/-- Bank m replaced. -/
def Part.setShadow (p : Part) (m : Nat) (i : Img) (bad : List Nat) : Part :=
  if m % 2 = 0 then { p with shadow0 := i, shadowBad0 := bad } else { p with shadow1 := i, shadowBad1 := bad }

/-- A hold asked for and not yet acting ends when the partition leaves RUNNING for good (R494): the commands that waited for it on
other partitions too are answered. -/
def State.endHoldReq (s : State) (n : Fin 8) : State :=
  if (s.part n).holdReq then ((s.modPart n fun p => { p with holdReq := false }).dropHolds n).answerHold n else s

/-- A partition enters FAULT (R48): its uncommitted frames are discarded, and the state of the last committed frame is restored
from its bank unless that bank is lost.  Then the Curator's recovery begins or fails (R326, R330).  After SHADOW_LOSS at C10 of a
frame whose C9 decided a commit and a halt, FRM_COMMITTED has not advanced (C14), and the decided frame is discarded with the
others (DESIGN CHOICE, log entry 125). -/
def State.enterFault (s : State) (n : Fin 8) (cause : FaultCause) (stall bp frame : Nat) : State :=
  let p := s.part n
  let f0 := p.open_
  let s1 := (s.discard n f0).modPart n fun p =>
    { p with
      state := .fault, faultCause := cause, faultStall := stall, faultStep := p.step, faultBp := bp,
      stalled := false, stallLen := 0, stallCause := 0, faultPend := none, haltPend := [], decision := none, bdone := false, wbLeft := 0,
      frame := f0, cur := f0, img := if cause = .shadowLoss then p.img else p.shadow f0,
      done := [], nops := [], offers := [], lanes := [], gets := [], outs := [], reserved := [], waves := [], stages := [], bholds := [] }
  let s2 := (s1.raiseFrm n 1).flushGather n
  let s3 := s2.recoveryStart n cause frame
  (if (s3.ck n).recov.isSome then s3 else s3.endHoldReq n).shutHalted n

/-- A hard fault while catch-up frames run (R330): the recovery returns to stage 2 once; in the second attempt it fails. -/
def State.catchUpFault (s : State) (n : Fin 8) : State :=
  match (s.ck n).recov with
  | some r =>
    let s1 := (s.discard n 0).modPart n fun p => { p with done := [], nops := [], lanes := [], gets := [], outs := [], bholds := [],
                                                           bdone := false, wbLeft := 0 }
    if s.fld (Reg.CKP_RECOVERY n) 3 1 = 1 then
      (s1.recoveryFail n r.cause r.frame r.aborts r.since 5 r.units).endHoldReq n
    else
      ((s1.modCk n fun k => { k with recov := some { r with catchUp := false } }).setFld (Reg.CKP_RECOVERY n) 3 1 1).setFld
        (Reg.CKP_RECOVERY n) 1 2 1
  | none => s

/-- Take a fault, in catch-up or out of it. -/
def State.faultNow (s : State) (n : Fin 8) (cause : FaultCause) (stall bp frame : Nat) : State :=
  let s := s.flushHaz n
  if s.catchingUp n then s.catchUpFault n else s.enterFault n cause stall bp frame

/-- Route words of the partition's tiles that came uncorrectable in this step. -/
def Part.badRoutes (p : Part) (env : StepEnv) : List (Nat × Nat) := env.routeUnc.filter fun x => p.eph.hasTile x.1

/-- Count lattice errors of a step (R152, R154), and file them in the frame's errors. -/
def State.latErrors (s : State) (n : Fin 8) (env : StepEnv) : State :=
  let p := s.part n
  let bad := p.badRoutes env
  let dies := env.latPar.filter fun d => bitOf p.eph.dieMask d
  let s1 := (env.routeCorr.filter fun x => p.eph.hasTile x.1).foldl (fun (t : State) x => t.addFld (Reg.LAT_CORR (x.1 / 64)) 0 32 1) s
  let s2 := bad.foldl (fun (t : State) x =>
    (t.addFld (Reg.LAT_UNCORR (x.1 / 64)) 0 32 1).setReg Reg.LAT_LAST_UNCORR
      (BitVec.ofNat 32 (x.1 + p.eph.entryOf p.step * 2 ^ 8 + x.2 % 128 * 2 ^ 19 + 2 ^ 31))) s1
  let s3 := dies.foldl (fun (t : State) d => t.addFld (Reg.LAT_PARITY d) 0 32 1) s2
  s3.modPart n fun p => { p with err := p.err.or ⟨false, !dies.isEmpty, false, !bad.isEmpty⟩ }

/-- Deliveries forced not live by isolation (LAT_ISO, R154). -/
def State.countIso (s : State) (ds : List Deliv) : State :=
  (List.range 4).foldl (fun t d => if isoCount ds d = 0 then t else t.addFld (Reg.LAT_ISO d) 0 32 (isoCount ds d)) s

/-- The lattice's part of an evaluation step or of C0 to C2 (R28, R139 to R152). -/
def State.lattice (s : State) (n : Fin 8) (env : StepEnv) (eval : Bool) : State :=
  let s1 := s.latErrors n env
  let p := s1.part n
  let bad := (p.badRoutes env).map fun x => x.1 * 128 + x.2
  let ds := delivs p.eph (⟨eval, p.offers, bad⟩ :: p.waves) p.step
  let s2 := (s1.countIso ds).setPart n (p.latticeStep s1.freeCtr eval bad env.latBad)
  { s2 with freeCtr := s2.freeCtr + 1 }

/-- Stack words fetched at the partition's step (R350): slots in evaluation steps, and the entry's route words. -/
def Part.fetchedWord (p : Part) (key : Nat) : Bool :=
  let x := key / 2
  if key % 2 = 0 then
    decide (p.step < p.eph.depth) && x % 2048 == p.step % 2048 && p.eph.hasTile (x / 2048 / 1024) &&
      (!p.eph.deep || x / 2048 % 2 == p.step / 2048)
  else x / 128 % 2048 == p.eph.entryOf p.step && p.eph.hasTile (x / 128 / 2048)

/-- What the step's fetches say of the stack (R338, R350). -/
def State.noteStack (s : State) (n : Fin 8) (env : StepEnv) : State :=
  let p := s.part n
  let slots := if p.step < p.eph.depth then
      (env.bps.filter fun x => x.2.slotUnc && p.hasBp x.1).map fun x => slotWord x.1 p.step else []
  let words := (p.badRoutes env).map fun x => routeWord x.1 (p.eph.entryOf p.step) x.2
  let corr := if p.step < p.eph.depth then (env.bps.filter fun x => x.2.slotCorr && p.hasBp x.1).map (·.1) else []
  let alone := fun (k : Nat) => k % 2 == 0 && p.done.contains (k / 2 / 2048 / (if p.eph.deep then 2 else 1) * (if p.eph.deep then 2 else 1))
  (s.stackFetch (fun k => p.fetchedWord k && !alone k) (slots ++ words)).slotsCorrected corr

/-- Exchange words that the step's XGETs take are noted for the input record (R322). -/
def State.noteXgets (s : State) (n : Fin 8) : State :=
  let p := s.part n
  if s.fld (Reg.CKP_CFG n) 1 1 = 1 ∧ s.fld (Reg.CKP_STATUS n) 4 1 = 1 ∧ !s.catchingUp n then
    let taken := p.listedBps.filterMap fun bp =>
      let w := p.slot bp p.step
      if wCls w = 6 then
        match p.eph.xslot (bpCluster bp) (wSd w % 256) true with
        | some x => (p.xword x).map fun v => (p.cur, x.mslot, x.link, v)
        | none => none
      else none
    s.modCk n fun k =>
      { k with xtaken := taken.foldl (fun l t => if l.any (fun u => u.1 == t.1 && u.2.1 == t.2.1 && u.2.2.1 == t.2.2.1) then l
                                                 else l ++ [t]) k.xtaken }
  else s

/-- An evaluation step executes (R42, R56, R66): slots, ports, lattice, deliveries, outputs, sealed words, hazards; then a
reserved class faults (R48), or the counter advances. -/
def State.evalStep (s : State) (n : Fin 8) (env : StepEnv) : State :=
  let s0 := (s.noteStack n env).noteXgets n
  let s1 := s0.modPart n fun p => p.execAll env.bps
  let s2 := (s1.portStep n env).lattice n env true
  let s3 := s2.modPart n fun p => p.deliverVd.applyOuts
  let s4 := (if s.catchingUp n then s3 else s3.sealStep n).flushHaz n
  let p := s4.part n
  match minOf p.reserved with
  | some bp => s4.faultNow n .reservedClass 0 bp p.cur
  | none => s4.setPart n { p with step := p.step + 1, done := [], nops := [] }

/-- The key and value writes of deposits and forces (R49, R470): a release writes nothing. -/
def applyDeposits (ws : List (Nat × Bool)) (l : List Deposit) : List (Nat × Bool) :=
  l.foldl (fun m d => if d.kind = 2 then m else mset dBit m d.key d.val) ws

/-- Forces active after deposits, forces and releases apply, in stamp order (R470). -/
def updateForces (f : List Deposit) (l : List Deposit) : List Deposit :=
  l.foldl (fun fs d =>
    if d.kind = 1 then fs.filter (fun x => x.key != d.key) ++ [d]
    else if d.kind = 2 then fs.filter fun x => x.key != d.key
    else fs) f

/-- The items of a record entry that write the working store (R324, R328). -/
def itemWrites (l : List RecItem) : List Deposit :=
  l.filterMap fun x => match x with | .deposit key val op stamp => some ⟨stamp, key, op, val⟩ | _ => none

/-- Bits that a WS_READ reports (R472): of its entries, from a working store. -/
def readEntries (ws : List (Nat × Bool)) (es : List DepEntry) : Nat :=
  ((es.zip (List.range 5)).map fun e => b2n (mget dBit ws (e.1.bp * 2048 + e.1.addr)) * 2 ^ e.2).foldl (· + ·) 0

/-- Commands that wait for this C4 (R466): deposits have acted, and reads take the values that deposits stamped before them
leave. -/
def State.actAtC4 (s : State) (n : Fin 8) (fresh : Bool) (ws : List (Nat × Bool)) (deps : List Deposit) : List (Fin 36 × Begun) → State
  | [] => s
  | (m, b) :: r =>
    let f := (s.part n).cur
    (match b.wait with
     | .deposit k es a => if k = n ∧ fresh ∧ a.isNone then s.setWait m b.cmd.stamp (.deposit k es (some f)) else s
     | .wsRead k es a _ =>
       if k = n ∧ ((fresh ∧ a.isNone) ∨ a = some f) then
         s.setWait m b.cmd.stamp
           (.wsRead k es (some f) (readEntries (applyDeposits ws (deps.filter fun d => decide (d.stamp < b.cmd.stamp))) es))
       else s
     | _ => s).actAtC4 n fresh ws deps r

/-- C4 (R49, R470): forces are written, then deposits in stamp order; a re-execution applies what its first execution did; a
frame of a replay or of catch-up applies the items of the next entry (R328, R333). -/
def State.depositStep (s : State) (n : Fin 8) : State :=
  let p := s.part n
  let f := p.cur
  if s.replaying n ∨ s.catchingUp n then
    let l := match s.recEntry n (f + 1) with
      | some e => itemWrites e.items
      | none => if s.catchingUp n then itemWrites ((s.ck n).depItems (f + 1)) else []
    s.modPart n fun p => { p with img := { p.img with ws := applyDeposits p.img.ws l } }
  else
    let old := p.c4.find? fun c => c.frame == f
    let fresh := decide (p.hiFrame ≤ f + 1)
    let forces := match old with | some c => c.forces | none => p.forces
    let deps := sortBy (·.stamp) ((match old with | some c => c.deps | none => []) ++ (if fresh then p.deps else []))
    let forced := applyDeposits p.img.ws forces
    let filed := (forces ++ deps).map fun d => (f + 1, d)
    let s1 := s.modPart n fun p =>
      { p with
        img := { p.img with ws := applyDeposits forced deps }, forces := updateForces forces deps,
        deps := if fresh then [] else p.deps,
        c4 := p.c4.filter (fun c => c.frame != f) ++ [⟨f, forces, deps⟩] }
    let s2 := s1.modCk n fun k => { k with depLog := k.depLog.filter (fun d => d.1 != f + 1) ++ filed }
    s2.actAtC4 n fresh forced deps s2.waiting

/-- C3 (R32, R130, R131, R368): the pacing is noted and the inputs of the next frame are latched once. -/
def State.exchangeStep (s : State) (n : Fin 8) : State :=
  let p := s.part n
  let s1 := s.notePace n
  if p.bins.any fun b => b.1 == p.cur + 1 then s1
  else
    let v := match s.recEntry n (p.cur + 1) with
      | some e => e.inputs
      | none => s.sampleIn n
    s1.modPart n fun p => { p with bins := p.bins ++ [(p.cur + 1, v)] }

/-- Activity counts and residues of the frame (R78). -/
def Part.activity (p : Part) : List (Nat × Nat) × List (Nat × Nat) :=
  let keys := (p.toggles ++ p.rho).foldl (fun l x => insNat x.1 l) []
  let sum := fun k => mget dNat p.toggles k + mget dNat p.rho k
  (keys.map fun k => (k, min (sum k / 2) 0xFFFF), (keys.map fun k => (k, sum k % 2)).filter fun x => x.2 != 0)

/-- C7 (R32, R97): the gathered errors and STOP are latched in FRM_ERR, and the frame's effects are held until its decision. -/
def State.gatherStep (s : State) (n : Fin 8) : State :=
  s.modPart n fun p =>
    let cause := p.stopCause
    let bits := b2n p.err.wsPar + 2 * b2n p.err.latPar + 4 * b2n p.err.vdbe + 8 * b2n p.err.unit + 16 * b2n cause.isSome +
      32 * bitsAt p.errReg 5 1 + cause.getD 0 * 2 ^ 8
    let a := p.activity
    { p with
      errReg := BitVec.ofNat 32 bits,
      fxs := p.fxs.filter (fun f => f.frame != p.cur) ++
        [⟨p.cur, p.err, cause, p.hazHalt, p.img.outv, a.1, a.2, p.errCl⟩] }

/-- The latched hazard halt request of a frame's execution (R177). -/
def Part.hazardOf (p : Part) (c : Nat) : Option (Nat × Option Nat) :=
  match p.fxs.find? fun f => f.frame == c with
  | some f => f.hazard
  | none => none

/-- The halt causes present for a committing frame c (R46, R471). -/
def State.haltCauses (s : State) (n : Fin 8) (c : Nat) (stop : Bool) : List Halt :=
  let p := s.part n
  let hz := (p.hazardOf c).isSome
  let host := (s.waiting.any fun x => match x.2.wait with | .halt m f => m == n && (f == 0 || f == c) | _ => false) ||
    p.haltReqs.contains .host || p.haltAt == some c
  let safe := (s.waiting.any fun x => match x.2.wait with | .forced _ left _ => left.contains n.val | _ => false) ||
    p.haltReqs.contains .safety
  let last := c == 2 ^ 48 - 1 || (p.eph.spans && c + 1 == 2 ^ 48 - 1)
  (if stop then [.stop] else []) ++ (if hz then [.hazard] else []) ++ (if p.remaining = 1 then [.runFrames] else []) ++
    (if host then [.host] else []) ++ (if last then [.frameLimit] else []) ++ (if safe then [.safety] else [])

/-- The frame's clusters in error are charged when it aborts (R338). -/
def State.chargeAbort (s : State) (n : Fin 8) (c : Nat) : State :=
  match (s.part n).fxs.find? fun f => f.frame == c with
  | some f => s.chargeAll 32 f.clus
  | none => s

/-- C9 (R33, R34, R37, R46, R244).  A machine that begins frame 0xFFFF_FFFF_FFFF with nothing to decide halts on FRAME_LIMIT with that
frame discarded, since no later frame could decide it (R31 gives no case; DESIGN CHOICE, log entry 126). -/
def State.decideStep (s : State) (n : Fin 8) : State :=
  let p := s.part n
  if s.catchingUp n then
    let ok := decide (p.errReg.toNat % 16 = 0)
    (if ok then s else s.chargeAbort n p.cur).modPart n fun p => { p with decision := some (p.cur, ok), haltPend := [] }
  else if !p.eph.spans then
    if p.errReg.toNat % 16 ≠ 0 then
      (s.chargeAbort n p.cur).modPart n fun p => { p with decision := some (p.cur, false), ownAbort := true, haltPend := [] }
    else
      let h := s.haltCauses n p.cur (bitsAt p.errReg 4 1 == 1)
      s.setPart n { p with decision := some (p.cur, true), haltPend := h, haltHaz := p.hazardOf p.cur }
  else if p.decidesNone then
    s.setPart n { p with decision := none, decidesNone := false, haltPend := if p.cur = 2 ^ 48 - 1 then [.frameLimit] else [] }
  else
    let c := p.cur - 1
    let es := s.votesFor n c
    let own := es.any fun e => e.dev == p.eph.devIndex && e.abort
    if es.any (·.abort) then
      let s1 := if own then s.chargeAbort n c else s
      (s1.raiseEpoch n c).modPart n fun p =>
        { p with decision := some (c, false), ownAbort := own, haltPend := [], decidesNone := true,
                 errReg := setBitsAt p.errReg 5 1 (b2n (!own)) }
    else
      let stops := sortBy (·.dev) (es.filter (·.stop))
      let h := s.haltCauses n c (!stops.isEmpty)
      let ownStop := es.any fun e => e.dev == p.eph.devIndex && e.stop
      let s1 := match stops with
        | e :: _ => if ownStop then s else
            s.setReg (Reg.LNK_REMOTE_STOP n) (BitVec.ofNat 32 (e.dev % 256 + e.cause % 64 * 2 ^ 8 + 2 ^ 31))
        | [] => s
      let s2 := if h.isEmpty then s1 else s1.raiseEpoch n (c + 1)
      s2.modPart n fun p => { p with decision := some (c, true), haltPend := h, haltHaz := p.hazardOf c, errReg := setBitsAt p.errReg 5 1 0 }

/-- The bank that C10 and C11 restore, if they restore (R33 to R37). -/
def Part.restoreFrom (p : Part) : Option Nat :=
  match p.decision with
  | some (c, false) => some c
  | some (c, true) => if p.eph.spans && !p.haltPend.isEmpty then some (c + 1) else none
  | none => if p.haltPend.isEmpty then none else some p.cur

/-- Working-store bits whose address in their own BP lies in the half that a copy step moves (R32). -/
def halfWs (low : Bool) (l : List (Nat × Bool)) : List (Nat × Bool) := l.filter fun x => decide (x.1 % 2048 < 1024) == low

/-- Both halves of a working store, in one canonical list. -/
def joinWs (a b : List (Nat × Bool)) : List (Nat × Bool) := msetAll dBit a b

/-- C10 and C11: a copy into the bank of the next frame, or a restore (R33 to R35, R76). -/
def State.shadowStep (s : State) (n : Fin 8) (low : Bool) (env : StepEnv) : State :=
  let p := s.part n
  match p.restoreFrom with
  | some f =>
    let src := p.shadow f
    let bad := p.shadowBad f ++ env.restoreUnc
    if (if low then !bad.isEmpty else !env.restoreUnc.isEmpty) then (s.chargeAll 255 (dedupNat bad)).faultNow n .shadowLoss 0 0 f
    else
      let ws := joinWs (halfWs low src.ws) (halfWs (!low) p.img.ws)
      let img := if low then { p.img with ws := ws } else { src with ws := ws }
      s.setPart n { p with img := img, step := p.step + 1 }
  | none =>
    let m := p.cur + 1
    let old := p.shadow m
    let ws := joinWs (halfWs low p.img.ws) (halfWs (!low) old.ws)
    let img := if low then { old with ws := ws } else { p.img with ws := ws }
    let bad := if low then env.copyPar else (p.shadowBad m) ++ env.copyPar
    (s.setPart n ({ p with step := p.step + 1, carry := p.carry || !env.copyPar.isEmpty }.setShadow m img bad)).chargeAll 32 env.copyPar

/-- Post responses of commands that acted at the boundary of a released frame (R466). -/
def State.answerReleased (s : State) (n : Fin 8) (c : Nat) : State :=
  let done := fun (a : Option Nat) => match a with | some f => decide (f ≤ c) | none => false
  s.answerAll (fun t b =>
    match b.wait with
    | .deposit m _ a => if m = n ∧ done a = true then some (t.rspBlock n .ok 0) else none
    | .wsRead m _ a bits => if m = n ∧ done a = true then some ⟨.ok, 0, 9, (a.getD 0) % 2 ^ 64 + bits * 2 ^ 64⟩ else none
    | .accession m _ _ a last => if m = n ∧ done a = true then some ⟨.ok, 0, 4, last⟩ else none
    | .tenant m _ a => if m = n ∧ done a = true then some (t.rspBlock n .ok 0) else none
    | _ => none) s.waiting

/-- The first OUT_CRC mismatch of a replay is recorded (R333). -/
def State.replayCheck (s : State) (n : Fin 8) (e : RecE) (crc : Word) : State :=
  if e.outCrc = crc ∨ s.fld (Reg.CKP_REPLAY n) 1 1 = 1 then s
  else (s.setFld (Reg.CKP_REPLAY n) 1 1 1).setReg64 (Reg.CKP_DIV_FRAME_LO n) (e.frame % 2 ^ 48)

/-- C12 of catch-up (R328): nothing is released; the log is dropped and the held writes go to the node; an OUT_CRC mismatch fails
the recovery (R330). -/
def State.catchUpRelease (s : State) (n : Fin 8) (c : Nat) (fx : FrameFx) : State :=
  let s0 := s.modCap n fun x => { x with fixed := x.fixed.filter fun f => decide (c < f.frame) }
  let s1 := (s0.modPart n fun p => { p with vlog := [], rho := fx.rhos, fxs := [] }).releaseHeld n c
  match s1.recEntry n c, (s1.ck n).recov with
  | some e, some r =>
    if e.outCrc = crc32 (outBits fx.outv) then s1
    else s1.recoveryFail n r.cause r.frame r.aborts r.since 4 r.units
  | _, _ => s1

/-- C12 of a release (R32, R130, R194, R224, R310): what frame c did leaves the partition. -/
def State.releaseStep (s : State) (n : Fin 8) (c : Nat) : State :=
  match (s.part n).fxs.find? fun f => f.frame == c with
  | none => s
  | some fx =>
    if s.catchingUp n then s.catchUpRelease n c fx
    else
      let e := s.recEntry n c
      let s1 := if s.replaying n ∧ s.fld (Reg.CKP_CFG n) 6 1 = 0 then s else s.vtrRelease n fx.outv
      let s2 := (s1.modPart n fun p =>
        { p with vlog := p.vlog.filter (fun x => decide (c < x.frame)), rho := fx.rhos,
                 fxs := p.fxs.filter fun f => decide (c < f.frame) }).releaseHeld n c
      let tb := match e with | some e => e.tbRel | none => s.lnk.timebase
      let s3 := ((s2.capRelease n c tb).gatherFrame n c fx.acts).recRelease n c fx.outv
      let s4 := match e with | some e => if s.replaying n then s3.replayCheck n e (crc32 (outBits fx.outv)) else s3 | none => s3
      s4.answerReleased n c

/-- C12 of a discard (R35, R122, R195): the cycles of write-back beyond C15 are left for the frame boundary. -/
def State.discardStep (s : State) (n : Fin 8) (c : Nat) : State :=
  let left := (s.part n).writeBackLeft c
  (s.discard n c).modPart n fun p => { p with wbLeft := left }

/-- C12. -/
def State.c12 (s : State) (n : Fin 8) : State :=
  match (s.part n).decision with
  | some (c, true) =>
    let s1 := s.releaseStep n c
    if (s.part n).eph.spans && !(s.part n).haltPend.isEmpty then s1.discardStep n (c + 1) else s1
  | some (c, false) => s.discardStep n c
  | none => if (s.part n).haltPend.isEmpty then s else s.discardStep n (s.part n).cur

/-- C13: run, stall and frame counts pass to the Tally (R516). -/
def State.tallyStep (s : State) (n : Fin 8) : State :=
  let p := s.part n
  let frames := match p.decision with | some (_, true) => if s.catchingUp n then 0 else 1 | _ => 0
  (s.tallyAdd n p.runSteps p.stallSteps frames 0).modPart n fun p => { p with runSteps := 0, stallSteps := 0 }

/-- Drop what no undecided frame needs after frame c committed. -/
def State.prune (s : State) (n : Fin 8) (c : Nat) : State :=
  let s1 := s.modPart n fun p =>
    { p with c4 := p.c4.filter (fun x => decide (c < x.frame)), xheld := p.xheld.filter (fun h => decide (c ≤ h.frame)),
             bins := p.bins.filter (fun b => decide (c ≤ b.1)), slast := p.slast.filter fun x => decide (c ≤ x.1) }
  let m := s1.mach n
  s1.setMach n { m with votes := m.votes.filter fun v => decide (c < v.1 + 8) }

/-- An abort is counted (R30, R47, R331). -/
def State.countAbort (s : State) (n : Fin 8) (c : Nat) : State :=
  let p := s.part n
  let consec := min 255 (p.consec + 1)
  let limit := max 1 (s.fld (Reg.FRM_ABORT_LIMIT n) 0 4)
  let hit := decide (limit ≤ consec)
  let faults := hit && p.ownAbort
  let s1 := s.setPart n { p with
    frame := c, aborts := min 0xFFFFFF (p.aborts + 1), consec := if hit && !p.ownAbort then 0 else consec,
    faultPend := if faults then some .abortLimit else none }
  let s2 := s1.raiseFrm n 2
  if s.fld (Reg.CKP_CFG n) 5 1 = 1 then
    s2.recoveryNotice n (recoveryPayload (if p.eph.spans then 2 else 1) n (p.errReg.toNat % 256) c 0 0 consec 0 0 [])
  else s2

/-- C14 (R30, R31, R38): FRM_FRAME and FRM_COMMITTED, and the status bits of the next frame. -/
def State.counterStep (s : State) (n : Fin 8) : State :=
  let p := s.part n
  let s1 :=
    match p.decision with
    | some (c, true) =>
      if s.catchingUp n then s.setPart n { p with frame := p.cur + 1 }
      else
        let next := if p.eph.spans && !p.haltPend.isEmpty then p.frame else min (p.frame + 1) (2 ^ 48 - 1)
        (s.setPart n { p with committed := c, committedValid := true, consec := 0, remaining := p.remaining - 1, frame := next }).prune n c
    | some (c, false) => if s.catchingUp n then s else s.countAbort n c
    | none => s.setPart n { p with frame := min (p.cur + 1) (2 ^ 48 - 1) }
  s1.modPart n fun p => { p with status := s1.statusOf n p.frame }

/-- Words that a recorded frame takes are put where its XGETs find them (R328, R333). -/
def State.recordWords (s : State) (n : Fin 8) : State :=
  let p := s.part n
  match s.recEntry n p.frame with
  | none => s
  | some e =>
    let from_ := fun (k : Nat) => s.catchingUp n || s.fld (Reg.CKP_REPLAY_LINKS n) k 1 == 1
    let add := fun (l : List XHeld) (i : RecItem) =>
      match i with
      | .xchg mslot link w =>
        if from_ link then
          let xs := (p.eph.accepting link mslot).map fun x => (⟨x.tile * 16 + x.cluster, x.slot, p.frame - x.f, (s.mach n).epoch, w⟩ : XHeld)
          l.filter (fun h => !(xs.any fun y => y.cl == h.cl && y.slot == h.slot && y.frame == h.frame)) ++ xs
        else l
      | _ => l
    s.setPart n { p with xheld := e.items.foldl add p.xheld }

/-- The tick that begins FRM_FRAME (R29, R42, R115, R241): everything of the frame before is cleared. -/
def State.beginFrame (s : State) (n : Fin 8) : State :=
  let s1 := s.modPart n fun p =>
    { p with
      cur := p.frame, step := 0, decision := none, haltPend := [], done := [], stops := [],
      err := ⟨false, false, false, p.carry⟩, carry := false, errCl := [], toggles := [], taps := [], stages := [], xform := [],
      waves := [], hazHalt := none, stallInFrame := false, status := s.statusOf n p.frame }
  let s2 := (s1.recordWords n).capTick n (!(s1.part n).isReexec || s.catchingUp n)
  if s.catchingUp n then s2 else s2.sendToken n

/-- What keeps the next frame of partition n from beginning (R50): write-back of discarded frames (R195), stale reads (R122), a share
of held writes with fewer than 1,024 entries free (R226), a checkpoint whose bytes are being read (R316). -/
def State.boundaryHolds (s : State) (n : Fin 8) : List BHold :=
  let p := s.part n
  (if p.wbLeft = 0 then [] else [.writeback p.wbLeft]) ++ (if p.reads.any (·.stale) then [.stale] else []) ++
    (if s.sharesFree n then [] else [.share]) ++ (if (s.ck n).busy.any (·.reading) then [.checkpoint] else [])

/-- The tick passes (R29, R495): the next frame begins, and a hold asked for in the commit steps acts. -/
def State.passTick (s : State) (n : Fin 8) : State :=
  let s1 := (s.modPart n fun p => { p with bdone := false, wbLeft := 0 }).beginFrame n
  if (s.part n).holdReq then s1.holdNow n else s1

/-- The boundary's duties are done (R29): the tick passes at once, or, while a boundary hold stands, in the first cycle after it
(log entry 127). -/
def State.openFrame (s : State) (n : Fin 8) : State :=
  let holds := (s.part n).bholds ++ s.boundaryHolds n
  let s1 := s.modPart n fun p => { p with bholds := holds, bdone := true }
  if holds.isEmpty then s1.passTick n else s1

/-- Deposits still waiting when a partition halts act at once (R49, R466): on the working store and on the bank of FRM_FRAME. -/
def State.depositHalted (s : State) (n : Fin 8) (deps : List Deposit) : State :=
  let l := sortBy (·.stamp) deps
  let s1 := s.modPart n fun p =>
    let img := { p.img with ws := applyDeposits p.img.ws l }
    let sh := p.shadow p.frame
    { p with img := img, deps := [], forces := updateForces p.forces l }.setShadow p.frame
      { sh with ws := applyDeposits sh.ws l } (p.shadowBad p.frame)
  s1.modCk n fun k => { k with depLog := k.depLog ++ l.map fun d => ((s.part n).frame, d) }

/-- The answers of commands that a halt lets act at once (R466): deposits, reads, tenant changes. -/
def State.answerHalted (s : State) (n : Fin 8) : State :=
  let f := (s.part n).frame
  let ws := (s.part n).img.ws
  let s1 := s.waiting.foldl (fun (t : State) x =>
    match x.2.wait with
    | .tenant m id none => if m = n then t.setReg (Reg.TLY_TENANT n) (BitVec.ofNat 32 id) else t
    | _ => t) s
  s1.answerAll (fun t b =>
    match b.wait with
    | .deposit m _ _ => if m = n then some (t.rspBlock n .ok 0) else none
    | .wsRead m es _ _ => if m = n then some ⟨.ok, 0, 9, (f + 2 ^ 64 - 1) % 2 ^ 64 + readEntries ws es * 2 ^ 64⟩ else none
    | .tenant m _ _ => if m = n then some (t.rspBlock n .ok 0) else none
    | _ => none) s1.waiting

/-- The stamp of a FORCED_HALT or THERMAL_SHUTDOWN that waits for partition n. -/
def State.forcedStamp (s : State) (n : Fin 8) : Option Nat :=
  minOf ((match s.pwr.shut with | some (k, left) => if left.contains n.val then [k] else [] | none => []) ++ (s.waiting.filter fun x => match x.2.wait with | .forced _ left _ => left.contains n.val | _ => false).map fun x => x.2.cmd.stamp)

/-- The wait is for a halt of partition n that frame c makes. -/
def Wait.haltsAt (w : Wait) (n : Fin 8) (c : Nat) : Bool :=
  match w with
  | .halt m f => m == n && (f == 0 || f == c)
  | _ => false

/-- The lowest stamp of a HALT that frame c answers. -/
def State.haltStamp (s : State) (n : Fin 8) (c : Nat) : Option Nat :=
  minOf ((s.waiting.filter fun x => x.2.wait.haltsAt n c).map fun x => x.2.cmd.stamp)

/-- Commands that waited for the halt of partition n at frame c are answered (R471). -/
def State.answerHalts (s : State) (n : Fin 8) (c : Nat) (safety : Bool) : State :=
  let by_ := s.forcedStamp n
  let s0 := match by_ with
    | some k => s.noteMade n k 4 true
    | none =>
      match s.haltStamp n c with
      | some k => s.noteMade n k 4 false
      | none => s
  let s1 := s0.mapWaits fun w =>
    match w with
    | .forced all left halted => if left.contains n.val then .forced all (left.filter fun k => k != n.val) (halted ++ [n.val]) else w
    | _ => w
  s1.answerAll (fun t b =>
    match b.wait with
    | .halt m f =>
      if m = n ∧ safety then some (match by_ with | some k => t.rspMoot n k | none => t.rspBlock n .ok 0)
      else if m = n ∧ (f = 0 ∨ f = c) then some (t.rspBlock n .ok 0) else none
    | .forced all left halted => if left.isEmpty then some (t.rspForced all halted) else none
    | _ => none) s1.waiting

/-- Resume or first start of a partition (R242, R395, R469): it runs from FRM_FRAME, held if a relock or DORMANT holds it;
DBG_HALT_REC.VALID clears (R178). -/
def State.runStart (s : State) (n : Fin 8) (count : Nat) : State :=
  let s1 := ((s.setReg (Reg.LNK_REMOTE_STOP n) 0).setFld (Reg.DBG_HALT_REC n) 31 1 0).modPart n fun p =>
    { p with state := .running, goWait := false, haltCause := none, remaining := count, decidesNone := true,
             runSteps := 0, stallSteps := 0 }
  let s2 := if s1.pwr.phase = .run then s1 else s1.setPwr { s1.pwr with dorm := vset s1.pwr.dorm n true }
  let s3 := s2.openFrame n
  if s3.holdWanted n then
    s3.modPart n fun p => if p.bdone then { p with holdReq := true } else { p with held := some (s3.holdKind n) }
  else s3

/-- The partition halts at the tick (R46, R49, R177), with the status bits of FRM_FRAME completed (R38).  What a discarded
speculative frame latched is gone, and its next execution is no re-execution after an abort (R37, R176). -/
def State.haltNow (s : State) (n : Fin 8) (causes : List Halt) (c : Nat) (hazard : Option (Nat × Option Nat)) : State :=
  let p := s.part n
  let safety := causes.contains .safety
  let cause := if safety then some Halt.safety else causes.head?
  let late := (p.c4.filter fun x => decide (c < x.frame)).flatMap (·.deps)
  let wasHold := p.holdReq
  let s1 := s.setPart n { p with
    state := .halted, haltCause := cause, step := 0, stalled := false, stallLen := 0, stallCause := 0, haltReqs := [],
    haltAt := if p.haltAt = some c ∨ safety then none else p.haltAt, holdReq := false, bholds := [], bdone := false, wbLeft := 0, c4 := [],
    decidesNone := true, status := s.statusOf n p.frame, hiFrame := min p.hiFrame p.frame,
    bins := p.bins.filter fun b => decide (b.1 ≤ p.frame) }
  let s2 := ((s1.dbgHaltRec n hazard).raiseFrm n 0).flushGather n
  let s3 := ((s2.depositHalted n (late ++ p.deps)).answerHalted n).answerHalts n c safety
  let s4 := if wasHold then (s3.dropHolds n).answerHold n else s3
  s4.shutHalted n

/-- The replay has ended: nothing follows in its record (R333). -/
def State.replayEnd (s : State) (n : Fin 8) : State :=
  ((s.setFld (Reg.CKP_REPLAY n) 0 1 0).setFld (Reg.CKP_REPLAY n) 2 1 1).modCk n fun k => { k with replay := none }

/-- A boundary action of the Curator is due on partition n (R29, R342, R466). -/
def State.curatorDue (s : State) (n : Fin 8) : Bool := s.spr.pend.any fun q => s.unitHolder q == some n

/-- Tenant changes act at the frame boundary (R476, R516). -/
def State.tenantTick (s : State) (n : Fin 8) (f : Nat) : State :=
  let s1 := s.waiting.foldl (fun (t : State) x =>
    match x.2.wait with
    | .tenant m id none => if m = n then t.setReg (Reg.TLY_TENANT n) (BitVec.ofNat 32 id) else t
    | _ => t) s
  s1.mapWaits fun w => match w with | .tenant m id none => if m = n then .tenant m id (some f) else w | _ => w

/-- A catch-up frame ends (R326, R328): the next one begins, or frame h + 1 stands ready; an aborted one runs again from its
bank, and an abort count at its limit is a hard fault (R330). -/
def State.catchUpTick (s : State) (n : Fin 8) : State :=
  let p := s.part n
  match p.decision with
  | some (_, false) =>
    if max 1 (s.fld (Reg.FRM_ABORT_LIMIT n) 0 4) ≤ p.consec + 1 then s.catchUpFault n
    else
      let s1 := s.modPart n fun p => { p with consec := p.consec + 1, frame := p.cur }
      (s1.setReg64 (Reg.CKP_RECOVERY_FRAME_LO n) (s1.part n).frame).openFrame n
  | _ =>
    let s1 := (s.modPart n fun p => { p with consec := 0 }).prune n (p.cur - 1)
    if (s.recEntry n p.frame).isSome then (s1.setReg64 (Reg.CKP_RECOVERY_FRAME_LO n) p.frame).openFrame n
    else s1.modPart n fun p => { p with step := 0, bholds := p.bholds ++ [.curator] }

/-- C15 and the tick (R29, R46, R47, R226, R315, R318, R325): a pending fault or halt acts at the tick, or the boundary's work is done
and the next frame begins once no boundary action holds it. -/
def State.tick (s : State) (n : Fin 8) : State :=
  let p := s.part n
  let s1 := s.modPart n fun p =>
    { p with slast := if p.isReexec then p.slast else mset dBit p.slast (p.cur + 1) p.stallInFrame,
             hiFrame := max p.hiFrame (p.cur + 1) }
  if s.catchingUp n then s1.catchUpTick n
  else
    match p.faultPend with
    | some f => s1.faultNow n f 0 0 p.frame
    | none =>
      if !p.haltPend.isEmpty then
        (s1.haltNow n p.haltPend (match p.decision with | some (c, _) => c | none => p.cur - 1) p.haltHaz).ckBoundary n (s.boundaryAt n)
      else if s.replaying n ∧ (s.recEntry n p.frame).isNone then
        ((s1.replayEnd n).haltNow n [] p.cur none).ckBoundary n (s.boundaryAt n)
      else
        let s2 := ((((s1.tenantTick n p.cur).remapDue p.eph).recSettle n).ckBoundary n (s.boundaryAt n)).recHold n
        (if s2.curatorDue n then s2.modPart n fun p => { p with bholds := p.bholds ++ [.curator] } else s2).openFrame n

/-- One commit step Ck executes (R32). -/
def State.commitStep (s : State) (n : Fin 8) (k : Nat) (env : StepEnv) : State :=
  let next := fun (t : State) => t.modPart n fun p => { p with step := p.step + 1 }
  let vd := fun (t : State) => t.modPart n Part.deliverVd
  match k with
  | 0 | 1 | 2 => next ((vd ((s.noteStack n env).lattice n env false)).flushHaz n)
  | 3 => next (((vd s).exchangeStep n).flushHaz n)
  | 4 => next (((vd s).depositStep n).flushHaz n)
  | 5 =>
    next (s.capFix n)
  | 7 => next (s.gatherStep n)
  | 8 => next (if s.catchingUp n then s else s.sendVote n)
  | 9 => next (s.decideStep n)
  | 10 => s.shadowStep n true env
  | 11 => s.shadowStep n false env
  | 12 => next (s.c12 n)
  | 13 => next (s.tallyStep n)
  | 14 => next (s.counterStep n)
  | 15 => s.tick n
  | _ => next s

/-- One step-clock cycle of partition n (R42, R44, R45, R495).  After a boundary hold it passes the tick.  FRM_STALL_LIMIT is not
applied to catch-up frames, whose stalls the Curator's recovery waits out (the spec does not say; DESIGN CHOICE, log entry 128). -/
def State.seqCycle (s : State) (n : Fin 8) (env : StepEnv) : State :=
  if s.cycling n then
    let p := s.part n
    if p.bdone then s.passTick n
    else
      let missing := s.absentAt n
      if missing.isSome ∧ p.limit ≠ 0 ∧ p.limit ≤ p.stallLen ∧ s.catchingUp n = false then s.faultNow n .stallLimit p.stallCause 0 p.cur
      else if p.holdReq && (decide (p.step < p.eph.depth) || missing.isSome) then s.holdNow n
      else
        match missing with
        | some c => s.stallStep n c
        | none =>
          let s1 := s.setPart n { p with stalled := false, stallLen := 0, stallCause := 0, runSteps := p.runSteps + 1 }
          if p.step < p.eph.depth then s1.evalStep n env else s1.commitStep n (p.step - p.eph.depth) env
  else s

end Sys2Proof.Machine
end

