-- ==== Sys2Proof/Machine/Arm.lean ====
section
/-!
DEFINITION. The arm of a partition (R30, R69, R131, R238, R312, R366, R469), and its end on links.
-/
namespace Sys2Proof.Machine

/-- The write history of the monitor under new frame numbers (R106, R107): what the last frame wrote counts as written in the
frame before the start frame; older writes count as never. -/
def restamp (h : List (Nat × Stamp)) (last start : Nat) : List (Nat × Stamp) :=
  (h.filter fun x => x.2.frame == last + 1 || x.2.frame == last + 2).map fun x => (x.1, ⟨start + 1, x.2.step⟩)

/-- The frame sequencer after an arm (R30, R38, R52, R67, R69, R240, R471): the image, with the initial vector after a load, is
copied into the bank of the start frame; a pending halt is cleared. -/
def Part.arm (p : Part) (start : Nat) (goWait : Bool) : Part :=
  let out := if p.state = .loaded then msetAll dBit [] p.eph.initOut else p.img.outv
  let img := { p.img with outv := out, hist := restamp p.img.hist p.frame start }
  { p with
    state := .armed, frame := start, cur := start, start := start, first := start, hiFrame := start, committed := 0,
    committedValid := false, remaining := 0, goWait := goWait, step := 0, slast := [], decidesNone := true, decision := none,
    haltReqs := p.haltReqs.filter (fun (h : Halt) => h != Halt.host), haltAt := none, haltPend := [], haltHaz := none, faultPend := none,
    faultCause := .none, stallLen := 0, stallCause := 0, stalled := false, stallInFrame := false, stallTotal := 0, consec := 0,
    aborts := 0, img := img, deps := [], c4 := [], fxs := [], xheld := [], xinit := true, xform := [], vlog := [], stages := [], waves := [],
    taps := [], err := Err.zero, errCl := [], toggles := [], stops := [], hazHalt := none, carry := false }.setShadow start img []

/-- A partition is armed at a start frame: a run begins (R312). -/
def State.armNow (s : State) (n : Fin 8) (start : Nat) (goWait : Bool) : State :=
  let s1 := s.modPart n fun p => p.arm start goWait
  let s2 := s1.setMach n { s1.mach n with epoch := 0, tokens := [], votes := [], aside := [], arming := none }
  let s3 := s2.vtrArm n
  let s4 := s3.modPart n fun p => { p with bins := [(start, s3.sampleIn n)], status := s3.statusOf n start }
  let s5 := s4.modCk n fun k => { k with depLog := [], xtaken := [], replay := none, restored := none }
  ((s5.capFresh n).recStart n).decimAll

/-- An arm ends (R238, R397): its command is answered, or the autoload entry that asked for it records what it came to. -/
def State.armEnd (s : State) (n : Fin 8) (a : Arming) (st : Status) : State :=
  match a.cmd with
  | some c =>
    let s1 := if st = .ok then s.noteMade n c.stamp 2 false else s
    s1.answer c.mbx c.stamp (s1.rspBlock n st 0)
  | none =>
    match s.cfg.arming.find? (fun (x : Nat × Fin 8) => x.2 == n) with
    | some (i, _) =>
      let s1 := { s with cfg := { s.cfg with arming := s.cfg.arming.filter (fun (x : Nat × Fin 8) => x.2 != n) } }
      let req := match s.cfg.autos[i]? with | some e => e.required | none => false
      if st = .ok then s1 else (s1.cfgFail 7 12 i st.code).cfgBad req
    | none => s

/-- Give up an arm in progress: nothing changes (R238). -/
def State.armDrop (s : State) (n : Fin 8) (st : Status) : State :=
  let m := s.mach n
  match m.arming with
  | some a => (s.setMach n { m with arming := none }).armEnd n a st
  | none => s

/-- The INIT held on a link for a machine (R238). -/
def Link.initFor (l : Link) (machineId : Nat) : Option InitMsg := l.inits.find? fun i => i.machineId == machineId

/-- An INIT matches the local arm (R238). -/
def InitMsg.fits (i : InitMsg) (e : Eph) (start : Nat) : Bool :=
  i.nDevices == e.nDevices && i.start == start && i.depth == e.depth && i.devIndex != e.devIndex

/-- Bind the partner's channel on a link: LNK_MAP, and the INIT held is used up (R238). -/
def State.bindLink (s : State) (n : Fin 8) (k : Fin 24) : State :=
  let id := (s.part n).eph.machineId
  match (s.link k).initFor id with
  | some i =>
    (s.setLink k { s.link k with inits := (s.link k).inits.filter fun x => x.machineId != id }).setFld
      (Reg.LNK_MAP k) (4 * (i.chan % 8)) 4 (8 + n.val)
  | none => s

/-- Bind every link of a machine. -/
def State.bindLinks (s : State) (n : Fin 8) : List (Fin 24) → State
  | [] => s
  | k :: r => (s.bindLink n k).bindLinks n r

/-- An arming partition looks at the INITs held on its links (R238): the arm completes once each matches, and with RANGE when one
differs or a named link is not UP, as no link above 23 is, or has left UP. -/
def State.armCheck (s : State) (n : Fin 8) : State :=
  let m := s.mach n
  match m.arming with
  | none => s
  | some a =>
    let e := (s.part n).eph
    let ks := (s.part n).linksOf
    let held := ks.map fun k => (s.link k).initFor e.machineId
    if a.lost = true ∨ e.links.any (fun l => decide (24 ≤ l.link)) ∨ ks.any (fun k => s.linkState k != 2) ∨ held.any (fun h => match h with | some i => !i.fits e a.start | none => false) then
      s.armDrop n .range
    else if held.all Option.isSome then
      let s1 := s.bindLinks n ks
      (s1.armNow n a.start a.goWait).armEnd n a .ok
    else s

/-- The INIT of an arming partition (R236, R238). -/
def State.initOf (s : State) (n : Fin 8) (start : Nat) : InitMsg :=
  let e := (s.part n).eph
  { chan := n.val, machineId := e.machineId, nDevices := e.nDevices, devIndex := e.devIndex, start := start, depth := e.depth }

/-- INIT is sent on the links from which the partner's has not arrived (R238). -/
def State.sendInits (s : State) (n : Fin 8) : State :=
  match (s.mach n).arming with
  | none => s
  | some a =>
    ((s.part n).linksOf.filter fun k => ((s.link k).initFor (s.part n).eph.machineId).isNone).foldl
      (fun (t : State) k => t.sendLinkCtl k (.init (s.initOf n a.start))) s

/-- The arms in progress look at their links (R238). -/
def State.armsLook (s : State) : State := (List.finRange 8).foldl (fun (t : State) n => t.armCheck n) s

/-- Arm a partition: at once, or, when it spans devices, once its links match (R238, R251). -/
def State.armBegin (s : State) (n : Fin 8) (a : Arming) : State :=
  if (s.part n).eph.spans then
    if 256 < (s.part n).eph.nDevices then s.armEnd n a .range
    else
      let s1 := s.setMach n { s.mach n with arming := some a }
      let s2 := (s.part n).linksOf.foldl (fun (t : State) k => t.sendLinkCtl k (.init (s.initOf n a.start))) s1
      s2.armCheck n
  else (s.armNow n a.start a.goWait).armEnd n a .ok

end Sys2Proof.Machine
end

