-- ==== Sys2Proof/Machine/FlashDir.lean ====
section
/-!
DEFINITION. The directory of the boot flash (R383, R442): its bytes, which of the two copies counts, and its entries.
-/
namespace Sys2Proof.Machine

/-- Bytes of a directory copy. -/
def dirBytes (d : BitVec 32768) (at_ n : Nat) : Nat := bitsAt d (8 * at_) (8 * n)

/-- SEQ of a directory copy. -/
def dirSeq (d : BitVec 32768) : Nat := dirBytes d 4 4

/-- A directory copy is good (R383): "KBDR", 1 to 64 entries, and a CRC-32 of the bytes before it that matches. -/
def dirOk (d : BitVec 32768) : Bool :=
  dirBytes d 0 4 == 0x5244424B && decide (1 ≤ dirBytes d 8 1) && decide (dirBytes d 8 1 ≤ 64) &&
    (crc32 (numBits (8 * 0xFFC) d.toNat)).toNat == dirBytes d 0xFFC 4

/-- The copy that counts (R383): of the good ones, that of the higher SEQ. -/
def dirPick (a b : BitVec 32768) : Option (BitVec 32768) :=
  if dirOk a then some (if dirOk b && decide (dirSeq a < dirSeq b) then b else a) else if dirOk b then some b else none

/-- Entry i of a directory (R383). -/
def dirEntry (d : BitVec 32768) (i : Nat) : DirEntry :=
  let at_ := 0x40 + 32 * i
  { type := dirBytes d at_ 2, active := dirBytes d (at_ + 2) 2 % 2 == 1, slotB := dirBytes d (at_ + 2) 2 / 2 % 2 == 1,
    offset := dirBytes d (at_ + 8) 8, length := dirBytes d (at_ + 16) 8 }

/-- The entries of a directory. -/
def dirEntries (d : BitVec 32768) : List DirEntry := (List.range (dirBytes d 8 1)).map (dirEntry d)

/-- The ACTIVE entry of a type, or the other one. -/
def dirFind (l : List DirEntry) (type : Nat) (active : Bool) : Option DirEntry := l.find? fun e => e.type == type && e.active == active

/-- The entry of a type that is not kept in two slots, or of one whose ACTIVE entry is in use: the ACTIVE entry, else the first. -/
def dirOf (l : List DirEntry) (type : Nat) : Option DirEntry :=
  match dirFind l type true with
  | some e => some e
  | none => dirFind l type false

/-- ACTIVE moves to the slot just written (R442): the inactive slot of the type takes the new length. -/
def dirWritten (l : List DirEntry) (type len : Nat) (slotB : Bool) : List DirEntry :=
  let new : DirEntry := ⟨type, true, slotB, 0, len⟩
  match l.find? fun e => e.type == type && e.slotB == slotB with
  | some o => l.map fun e => if e == o then { o with active := true, length := len } else if e.type == type then { e with active := false } else e
  | none => (l.map fun e => if e.type == type then { e with active := false } else e) ++ [new]

end Sys2Proof.Machine
end

