-- ==== Sys2Proof/Machine/LaneRows.lean ====
section
/-!
DEFINITION. The commands of the lane layer (R265 to R275).
-/
namespace Sys2Proof.Machine

/-- Flits that waited for a lane are sent. -/
def State.sendBacklog (s : State) (k : Fin 24) : List FlitBody → State
  | [] => s
  | f :: r => (s.sendFlit k f).sendBacklog k r

/-- Logical lane i of quad q is in service (R268): when it comes back, the flits held for it are to be sent again from the oldest, which
is a resend (R237; log entry 138); those that waited for a lane join a queue. -/
def State.serviceIn (s : State) (q i l : Nat) : State :=
  let was := s.fld (Reg.LANE_QUAD q) (10 + i) 1 == 1
  let s1 := (s.setFld (Reg.LANE_QUAD q) (10 + i) 1 1).setFld (Reg.LANE_STATE l) 6 1 1
  if h : s1.fld (Reg.LANE_QUAD q) 0 2 = 1 ∧ s1.fld (Reg.LANE_QUAD q) 2 5 < 24 then
    let k : Fin 24 := ⟨s1.fld (Reg.LANE_QUAD q) 2 5, h.2⟩
    let s2 := s1.setFld (Reg.LNK_STATE k) (2 + i) 1 1
    let s3 := if s2.linkState k = 3 then s2 else s2.setFld (Reg.LNK_STATE k) 0 2 2
    let s4 := if h2 : i < 4 then (if was ∨ (s3.stream k ⟨i, h2⟩).replay = [] then s3 else s3.fromOldest k ⟨i, h2⟩) else s3
    let b := (s4.link k).backlog
    (s4.setLink k { s4.link k with backlog := [] }).sendBacklog k b
  else s1

/-- Service of a lane after a filler (R268): UP, and TRAIN = 0 in it. -/
def State.serviceOf (s : State) (l : Nat) : State :=
  match s.carries l with
  | some (q, i) =>
    if s.rx l = 5 ∧ s.fld (Reg.LANE_STATE l) 7 1 = 0 then s.serviceIn q i l else s.serviceOut q i
  | none => s

/-- The fields of a filler are shown in LANE_STATE (R265, R277). -/
def State.peerSeen (s : State) (l : Nat) (lane : Nat) (train spare : Bool) (quad dev : Nat) : State :=
  s.setFld (Reg.LANE_STATE l) 7 17 (b2n train + lane * 2 + b2n spare * 8 + quad * 16 + dev * 512)

/-- A spare lane takes the settings of logical lane i of quad q, which it carries (R274, R390); they act from its next quiet (R269). -/
def State.spareCopies (s : State) (n q i : Nat) : State :=
  (s.setReg (Reg.LANE_CFG (96 + n)) (s.reg (Reg.LANE_CFG (4 * q + i)))).setReg (Reg.LANE_FFE (96 + n)) (s.reg (Reg.LANE_FFE (4 * q + i)))

/-- Spare lane n takes over logical lane i of its protected quad (R274): the former physical lane becomes quiet, and the spare
takes its settings and trains. -/
def State.activate (s : State) (n i : Nat) : State :=
  match s.protects n with
  | some q =>
    let old := s.carrier q i
    let s1 := (s.serviceOut q i).txQuiet old
    ((s1.spareCopies n q i).setFld (Reg.LANE_SPARE n) 5 3 (i + 4)).retrain (96 + n)
  | none => s

/-- An active spare leaves its logical lane, which returns to its own pair and retrains (R275). -/
def State.giveBack (s : State) (n : Nat) : State :=
  match s.carries (96 + n) with
  | some (q, i) => ((s.serviceOut q i).setFld (Reg.LANE_SPARE n) 7 1 0).retrain (4 * q + i)
  | none => s

/-- What fillers with SPARE = 1 do at a spare lane (R275): an idle one activates itself, and the lower lane prevails.  An idle
spare that is UP takes over without a retrain, in both directions. -/
def State.sparePeer (s : State) (l lane : Nat) : State :=
  let n := l - 96
  match s.protects n with
  | none => s
  | some q =>
    if s.fld (Reg.LANE_SPARE n) 7 1 = 0 then
      if s.rx l = 5 then
        let old := s.carrier q lane
        (((s.serviceOut q lane).txQuiet old).spareCopies n q lane).setFld (Reg.LANE_SPARE n) 5 3 (lane + 4)
      else s
    else if lane < s.fld (Reg.LANE_SPARE n) 5 2 then (s.giveBack n).activate n lane
    else s

/-- The elastic buffer at a flit boundary (R264), its fill in 16ths of a flit: none when it is full or empty; else what stays of the fill
when the FILLER at its head is deleted, a FILLER slot is inserted, or one flit is popped. -/
def ebStep (fill : Nat) (fillerAtHead : Bool) : Option Nat :=
  if fill = 0 ∨ 128 ≤ fill then none
  else if 40 < fill ∧ fillerAtHead = true then some (fill - 32)
  else if fill < 24 then some fill
  else some (fill - 16)

/-- A filler arrives on a lane (R264, R265, R268), at whose elastic buffer it meets the fill: its fields are shown, service follows, and a
spare lane follows its partner; or the buffer slips and the lane returns to SEEK.  A deleted FILLER is shown as any other (DESIGN
CHOICE, log entry 136); the clocks then write one flit a slot. -/
def State.filler (s : State) (l : Nat) (f : FillerF) (fill : Nat) : State :=
  if s.rx l ≠ 5 then s
  else
    match ebStep fill true with
    | none => (s.addFld (Reg.LANE_EVENTS l) 24 8 1).toSeek l
    | some left =>
      let s1 := (s.setRecv l { s.recv l with fill := left + 16 }).peerSeen l f.lane f.train f.spare f.quad f.dev
      (if 96 ≤ l ∧ f.spare = true then s1.sparePeer l f.lane else s1).serviceOf l

/-- In a near-end loopback the receiver hears its own transmitter only (R272). -/
def State.hearsSelf (s : State) (l : Nat) : Bool := s.loopback l == 1 || s.loopback l == 2

/-- FILLER (R265), with the fill of the elastic buffer at whose head it stands, in 16ths of a flit (R264). -/
def execFiller (l : BitVec 7) (lane : Fin 4) (train spare : Bool) (quad : BitVec 5) (dev : Byte) (fill : Fin 129) (s : State) :
    Host.Outcome State Fault Refusal :=
  guardUnit s (s.hasLane l.toNat)
    (if s.hearsSelf l.toNat then s else s.filler l.toNat ⟨lane, train, spare, quad.toNat, dev.toNat⟩ fill).cfgAdvance

/-- A transmitter whose lane is enabled and is not replaced by a spare may leave QUIET (R266, R274). -/
def State.mayTalk (s : State) (l : Nat) : Bool :=
  s.rx l != 0 && (decide (96 ≤ l) || s.carrier (l / 4) (l % 4) == l)

/-- The transmitter becomes active (R266), with y[n - 1] = 0 (R258); in a near-end loopback its pads stay quiet (R272). -/
def State.quietEnd (s : State) (l : Nat) : State :=
  if s.mayTalk l then
    let s1 := s.setSender l { s.sender l with on := true, phase := 0, run := 0, prev := [0, 0], syms := [] }
    if s.hearsSelf l then s1 else s1.setFld (Reg.LANE_STATE l) 3 1 0
  else s

/-- QUIET_END (R266). -/
def execQuietEnd (l : BitVec 7) (s : State) : Host.Outcome State Fault Refusal := guardUnit s (s.hasLane l.toNat) (s.quietEnd l.toNat)

/-- SIGNAL_DETECT (R267). -/
def execSignalDetect (l : BitVec 7) (s : State) : Host.Outcome State Fault Refusal :=
  guardUnit s (s.hasLane l.toNat)
    (let s1 := s.setFld (Reg.LANE_STATE l.toNat) 4 1 0
     if s.rx l.toNat = 1 then s1.setRxState l.toNat 2 else s1)

/-- LOCK_ACQUIRED (R267). -/
def execLockAcquired (l : BitVec 7) (s : State) : Host.Outcome State Fault Refusal :=
  guardUnit s (s.hasLane l.toNat) (if s.rx l.toNat = 2 then s.setRxState l.toNat 3 else s)

/-- LOCK_TIMEOUT (R267). -/
def execLockTimeout (l : BitVec 7) (s : State) : Host.Outcome State Fault Refusal :=
  guardUnit s (s.hasLane l.toNat)
    (if s.rx l.toNat = 2 then (s.addFld (Reg.LANE_EVENTS l.toNat) 0 8 1).toSeek l.toNat else s)

/-- ADAPT_DONE (R267, R277): the CTLE peaking chosen is shown; POSITION and RESULT are cleared on entering ALIGN, at whatever boundary the
deserialiser lands on.  In far-end loopback the receiver needs ADAPT only (R272). -/
def execAdaptDone (l : BitVec 7) (found : Fin 19 × Fin 144) (s : State) : Host.Outcome State Fault Refusal :=
  guardUnit s (s.hasLane l.toNat)
    (if s.rx l.toNat = 3 then
       let s1 := s.setFld (Reg.LANE_STATE l.toNat) 24 5 found.1
       if s.loopback l.toNat = 3 then s1
       else ((s1.setRecv l.toNat { s1.recv l.toNat with land := found.2 }).setRxState l.toNat 4).setFld (Reg.LANE_ALIGN_STAT l.toNat) 0 10 0
     else s)

/-- ADAPT_TIMEOUT (R267). -/
def execAdaptTimeout (l : BitVec 7) (s : State) : Host.Outcome State Fault Refusal :=
  guardUnit s (s.hasLane l.toNat) (if s.rx l.toNat = 3 then s.toSeek l.toNat else s)

/-- ALIGN_TIMEOUT (R267). -/
def execAlignTimeout (l : BitVec 7) (s : State) : Host.Outcome State Fault Refusal :=
  guardUnit s (s.hasLane l.toNat)
    (if s.rx l.toNat = 4 then (s.addFld (Reg.LANE_EVENTS l.toNat) 8 8 1).toSeek l.toNat else s)

/-- LOS (R267): a receiver that is UP falls to SEEK, counted. -/
def execLos (l : BitVec 7) (s : State) : Host.Outcome State Fault Refusal :=
  guardUnit s (s.hasLane l.toNat)
    (let s1 := s.setFld (Reg.LANE_STATE l.toNat) 4 1 1
     if s.rx l.toNat = 5 then (s1.addFld (Reg.LANE_EVENTS l.toNat) 16 8 1).toSeek l.toNat else s1)

/-- ABSENT (R267). -/
def execAbsent (l : BitVec 7) (s : State) : Host.Outcome State Fault Refusal :=
  guardUnit s (s.hasLane l.toNat) (if s.rx l.toNat = 1 then s.setFld (Reg.LANE_STATE l.toNat) 5 1 1 else s)

/-- The accept test ends (R271): the receiver enters UP, or stays in ALIGN. -/
def State.acceptEnds (s : State) (l : Nat) (found : Bool) : State :=
  if s.rx l = 4 ∧ s.fld (Reg.LANE_ALIGN_STAT l) 8 2 = 1 then
    let s1 := s.setFld (Reg.LANE_ALIGN_STAT l) 8 2 (if found then 2 else 3)
    if found then { s1.setRxState l 5 with lan := { s1.lan with fails := mset dNat s1.lan.fails l 0 } } else s1
  else s

/-- ACCEPT_RESULT (R271): of what the partner sends; in a near-end loopback the lane's own flits decide. -/
def execAcceptResult (l : BitVec 7) (found : Bool) (s : State) : Host.Outcome State Fault Refusal :=
  guardUnit s (s.hasLane l.toNat) (if s.hearsSelf l.toNat then s else s.acceptEnds l.toNat found)

/-- The lowest idle spare lane that protects a quad. -/
def State.idleSpare (s : State) (q : Nat) : Option Nat :=
  (List.range 8).find? fun n => s.hasLane (96 + n) && s.protects n == some q && s.fld (Reg.LANE_SPARE n) 7 1 == 0

/-- Logical lane i of quad q is out of service for DELAY, or has entered SEEK three times without reaching UP (R274): a spare
takes it over; a lane that cannot return and that no spare replaces puts its link in FAULT (R237). -/
def State.spareFor (s : State) (q i : Nat) (delayed gone : Bool) : State :=
  let l := s.carrier q i
  if s.quadOn q ∧ s.fld (Reg.LANE_QUAD q) (10 + i) 1 = 0 ∧ (delayed = true ∨ 3 ≤ mget dNat s.lan.fails l) then
    match (if l < 96 then s.idleSpare q else none) with
    | some n => s.activate n i
    | none =>
      if h : gone = true ∧ s.fld (Reg.LANE_QUAD q) 0 2 = 1 ∧ s.fld (Reg.LANE_QUAD q) 2 5 < 24 then
        let k : Fin 24 := ⟨s.fld (Reg.LANE_QUAD q) 2 5, h.2.2⟩
        (s.setLink k { s.link k with inits := [] }).setFld (Reg.LNK_STATE k) 0 2 3 |>.loseLink k
      else s
  else s

/-- SPARE_ACTIVATE (R274, R237): `delayed` says that DELAY has run out, `gone` that the lane cannot return to service. -/
def execSpareActivate (q : Fin 24) (i : Fin 4) (delayed gone : Bool) (s : State) : Host.Outcome State Fault Refusal :=
  guardUnit s (s.hasQuad q) (s.spareFor q i delayed gone)

/-- A write to a per-lane register or LANE_CAPT_SEL (R277): firmware's acts; a host write acts on a lane of a MANUAL quad and is
otherwise logged; the registers do not stand in partition windows. -/
def State.laneWrite (s : State) (src : Option Path) (l addr : Nat) (v : Word) (act : State → State) : State :=
  match src with
  | none => act s
  | some (.pf1 _) => s
  | some p => if s.quadManual (quadOf l) then act s else s.logAccess 3 addr v p.code 15

/-- A capture of a lane's bits begins (R271): VALID is cleared. -/
def State.capture (s : State) (l : Nat) : State :=
  { s.setReg Reg.LANE_CAPT_SEL (BitVec.ofNat 32 l) with lan := { s.lan with capt := true } }

/-- LANE_CAPTURE (R271): the write of CAPTURE. -/
def execLaneCapture (src : Option Path) (l : BitVec 7) (s : State) : Host.Outcome State Fault Refusal :=
  guardUnit s (s.hasLane l.toNat)
    (s.laneWrite src l.toNat Reg.LANE_CAPT_SEL (BitVec.ofNat 32 (l.toNat + 2 ^ 31)) fun t => t.capture l.toNat)

/-- Received symbols through polarity, decoder and demapping, with the symbol before them (R257 to R259). -/
def rxBits (cfg : Word) (inv : Bool) (y0 : Nat) (ys : List Nat) : List Bool :=
  let flip := fun (y : Nat) => if inv then 3 - y else y
  let xs := if bitsAt cfg 5 1 = 1 then unprecode (flip y0) (ys.map flip) else ys.map flip
  xs.flatMap (xPair (bitsAt cfg 4 1 == 1))

/-- The 576 bits of a capture (R271), of 318 symbols received from the partner, first in the lowest bits: one symbol for the decoder, 58
bits for the descrambler, and the bits themselves. -/
def captureBits (cfg : Word) (syms : BitVec 636) : List Bool :=
  let ys := (List.range 318).map fun n => bitsAt syms (2 * n) 2
  let b := rxBits cfg (bitsAt cfg 6 1 == 1) (ys.headD 0) ys.tail
  descramble (pushBits 0 (b.take 58)) (b.drop 58)

/-- The boundary of a receiver in its own stream: where it landed, and the slips since (R271). -/
def State.boundaryOf (s : State) (l : Nat) : Nat := ((s.recv l).land + s.fld (Reg.LANE_ALIGN_STAT l) 0 8) % 144

/-- The number that bits spell, the first least significant. -/
def bitsNat : List Bool → Nat
  | [] => 0
  | b :: r => b2n b + 2 * bitsNat r

/-- What a capture of lane l holds (R271): of its own stream in a near-end loopback, else of what the partner sent. -/
def State.captured (s : State) (l : Nat) (syms : BitVec 636) : Nat :=
  if s.hearsSelf l then bitsAt (s.recv l).got (2 * s.boundaryOf l) 576 else bitsNat (captureBits (s.cfgNow l) syms)

/-- LANE_CAPTURE_DONE (R271): the bits are readable, and VALID is set. -/
def execLaneCaptureDone (syms : BitVec 636) (s : State) : Host.Outcome State Fault Refusal :=
  .next (if s.lan.capt then
      let v := s.captured (s.fld Reg.LANE_CAPT_SEL 0 7) syms
      let s1 := (List.range 18).foldl (fun t j => t.setReg (Reg.LANE_CAPT j) (BitVec.ofNat 32 (v / 2 ^ (32 * j))))
        (s.setFld Reg.LANE_CAPT_SEL 30 1 1)
      { s1 with lan := { s1.lan with capt := false } }
    else s)

/-- PRBS_RX_LOCK (R273): the checker of a lane with RX_EN synchronises on what the partner sends, and counts the mismatched bits that
follow. -/
def execPrbsRxLock (l : BitVec 7) (errs : Word) (s : State) : Host.Outcome State Fault Refusal :=
  guardUnit s (s.hasLane l.toNat)
    (if s.quadManual (quadOf l.toNat) ∧ s.fld (Reg.LANE_PRBS l.toNat) 1 1 = 1 ∧ s.hearsSelf l.toNat = false then
       (s.setFld (Reg.LANE_PRBS l.toNat) 2 1 1).addFld (Reg.LANE_PRBS_ERR l.toNat) 0 32 errs.toNat
     else s)

/-- A quad's reference becomes valid (R262, R267): the enabled lanes leave OFF for SEEK. -/
def State.quadRef (s : State) (q : Nat) : State :=
  if s.quadOn q ∧ s.fld (Reg.LANE_QUAD q) 14 1 = 0 then
    ((List.range 4).filter fun i => s.rx (4 * q + i) == 0).foldl (fun (t : State) i => t.toSeek (4 * q + i))
      (s.setFld (Reg.LANE_QUAD q) 14 1 1)
  else s

/-- QUAD_REF_OK (R267). -/
def execQuadRefOk (q : Fin 26) (s : State) : Host.Outcome State Fault Refusal := guardUnit s (s.hasLane (4 * q.val)) (s.quadRef q.val)

/-- ACK_TIMER (R237): 32 ns after a flit was accepted with fewer than eight since the last ACK. -/
def execAckTimer (k : Fin 24) (i : Fin 4) (s : State) : Host.Outcome State Fault Refusal :=
  guardUnit s (decide (k.val < s.nLinks))
    (let x := s.stream k i
     if x.sinceAck = 0 then s else s.setStream k i { x with sinceAck := 0, ctl := x.ctl ++ [.ack x.rxSeq] })

/-- The slip of a write to LANE_SLIP (R271): ignored above 143. -/
def State.slip (s : State) (l count : Nat) : State :=
  if count ≤ 143 then
    s.setFld (Reg.LANE_ALIGN_STAT l) 0 8 ((s.fld (Reg.LANE_ALIGN_STAT l) 0 8 + count) % 144)
  else s

/-- A write to LANE_SLIP: ignored outside ALIGN (R271). -/
def State.slipWrite (s : State) (l count : Nat) (accept : Bool) : State :=
  if s.rx l = 4 then
    let s1 := s.slip l count
    if accept then (s1.setRecv l { s1.recv l with good := 0 }).setFld (Reg.LANE_ALIGN_STAT l) 8 2 1 else s1
  else s

/-- LANE_SLIP (R271). -/
def execLaneSlip (src : Option Path) (l : BitVec 7) (count : Byte) (s : State) : Host.Outcome State Fault Refusal :=
  guardUnit s (s.hasLane l.toNat)
    (s.laneWrite src l.toNat (Reg.LANE_SLIP l.toNat) (BitVec.ofNat 32 count.toNat) fun t => t.slipWrite l.toNat count.toNat false)

/-- LANE_ACCEPT (R271): RESULT is pending until ACCEPT_RESULT. -/
def execLaneAccept (src : Option Path) (l : BitVec 7) (count : Byte) (s : State) : Host.Outcome State Fault Refusal :=
  guardUnit s (s.hasLane l.toNat)
    (s.laneWrite src l.toNat (Reg.LANE_SLIP l.toNat) (BitVec.ofNat 32 (count.toNat + 256))
      fun t => t.slipWrite l.toNat count.toNat true)

/-- A write to LANE_CFG (R269): the fields are stored, and RETRAIN starts a retrain that applies them. -/
def State.cfgWrite (s : State) (l : Nat) (v : Word) : State :=
  let s1 := s.setReg (Reg.LANE_CFG l) (v &&& 0x377#32)
  if bitsAt v 16 1 = 1 then s1.retrain l else s1

/-- LANE_RETRAIN (R267, R269): a write of LANE_CFG with RETRAIN set. -/
def execLaneRetrain (src : Option Path) (l : BitVec 7) (v : Word) (s : State) : Host.Outcome State Fault Refusal :=
  guardUnit s (s.hasLane l.toNat)
    (s.laneWrite src l.toNat (Reg.LANE_CFG l.toNat) (v ||| 0x10000#32) fun t => t.cfgWrite l.toNat (v ||| 0x10000#32))

end Sys2Proof.Machine
end

