-- ==== Sys2Proof/Machine/Load.lean ====
section
/-!
DEFINITION. Containers and the load of a partition (R165 to R168, R384 to R389, R396): the checks in their order, what a load
writes, and the unload.
-/
namespace Sys2Proof.Machine

/-- STEPPING of this part: B0 (R384). -/
def stepB0 : Nat := 0x10

/-- The VARIANTS bit of a part (R160). -/
def Variant.bit : Variant → Nat
  | .f => 0
  | .r => 1
  | .d => 2

/-- Bytes of the largest staging area (R389): depot segments mapped for CUR behind a port that is UP, or banks on loan to CUR
that are not unit banks. -/
def State.stagingBytes (s : State) : Nat :=
  let segs := (s.dep.map.filter fun (e : Nat × DWord) => s.depotCheck .cur (e.1 * 2 ^ 30) true == .ok).length
  let unit := fun (b : Nat) => (decide (224 ≤ b) && decide (b < 240)) || (decide (252 ≤ b) && decide (b < 255)) || b % 256 == 255
  let banks := ((List.range 1024).filter fun b => s.hasBank b && s.loanOwner b == 13 && s.fld (Reg.VLT_LOAN (b / 256) (b % 256)) 8 2 == 0 && !unit b).length
  max (segs * 2 ^ 30) (banks * 65536)

/-- FORMAT of a container (R384). -/
def Cont.format (c : Cont) : Nat := bitsAt c.head 0x20 16
/-- TYPE. -/
def Cont.type (c : Cont) : Nat := bitsAt c.head 0x30 16
/-- STEPPING. -/
def Cont.stepping (c : Cont) : Nat := bitsAt c.head 0x40 8
/-- VARIANTS. -/
def Cont.variants (c : Cont) : Nat := bitsAt c.head 0x48 8
/-- SVN. -/
def Cont.svn (c : Cont) : BitVec 16 := BitVec.ofNat 16 (bitsAt c.head 0x50 16)
/-- N_SEGMENTS. -/
def Cont.nSegments (c : Cont) : Nat := bitsAt c.head 0x60 16
/-- TOTAL_LEN. -/
def Cont.totalLen (c : Cont) : DWord := BitVec.ofNat 64 (bitsAt c.head 0x80 64)
/-- IMAGE_ID. -/
def Cont.imageId (c : Cont) : Word := BitVec.ofNat 32 (bitsAt c.head 0xC0 32)
/-- KEY_SLOT of the signature block (R386). -/
def Cont.keySlot (c : Cont) : Nat := bitsAt c.sig 32 8
/-- ALG. -/
def Cont.alg (c : Cont) : Nat := bitsAt c.sig 40 8

/-- Every segment lies between the table and the signature block, and none is longer than 64 MiB (R384). -/
def Cont.segsOk (c : Cont) : Bool :=
  c.segs.length == c.nSegments && c.segs.all fun x =>
    let off := x.2.2.1.toNat
    let len := x.2.2.2.toNat
    decide (0x20 + 24 * c.nSegments ≤ off) && decide (off + len + 512 ≤ c.totalLen.toNat) && decide (len ≤ 2 ^ 26)

/-- Bytes of the segments of a SEG_TYPE. -/
def Cont.segLen (c : Cont) (t : Nat) : Nat :=
  ((c.segs.filter fun x => x.1.toNat % 2 ^ 16 == t).map fun x => x.2.2.2.toNat).foldl (· + ·) 0

/-- The segments of a payload are those of its TYPE, with the lengths of R390. -/
def Cont.payloadOk (c : Cont) (type : Nat) : Bool :=
  let allOf := fun (l : List Nat) => c.segs.all fun x => l.contains (x.1.toNat % 2 ^ 16)
  match type with
  | 1 => allOf [1]
  | 2 => allOf [2] && decide (c.segLen 2 ≤ 2 ^ 18)
  | 3 => allOf [0x10, 0x11, 0x12, 0x13] && (c.segLen 0x10 == 0 || c.segLen 0x10 == 208) && (c.segLen 0x11 == 0 || c.segLen 0x11 == 16) &&
      c.segLen 0x12 % 16 == 0 && c.segLen 0x13 % 32 == 0 && decide (c.segLen 0x13 ≤ 512)
  | 5 => allOf (3 :: (List.range 8).map fun r => 0x100 + r) && c.segLen 3 == 16 &&
      (List.range 8).all fun r => c.segLen (0x100 + r) == 0 || c.segLen (0x100 + r) == 393216
  | _ => true

/-- Check 1 of a container (R384, R390): MAGIC, FORMAT, TYPE, SVN, N_SEGMENTS, TOTAL_LEN, segments, and the reserved field of the header. -/
def Cont.malformed (c : Cont) (type len : Nat) : Bool :=
  bitsAt c.head 0 32 != 0x4D49424B || c.format != 1 || c.type != type || (c.svn != 0 && type != 1 && type != 2) || c.nSegments == 0 ||
    decide (1024 < c.nSegments) || c.totalLen.toNat % 64 != 0 || decide (len < c.totalLen.toNat) || !c.segsOk || bitsAt c.head 0x70 16 != 0 ||
    !c.payloadOk type

/-- Check 2 (R386, R387): the signature, its slot and the security version. -/
def State.sigBad (s : State) (c : Cont) : Bool :=
  let k := c.keySlot
  let fused := if k = 0 then s.fld Reg.CFG_KEYS 0 1 == 1
    else decide (k ≤ 4) && s.fld Reg.CFG_KEYS k 1 == 1 && s.fld Reg.CFG_KEYS (k + 4) 1 == 0
  let code := c.type == 1 || c.type == 2
  bitsAt c.sig 0 32 != 0x42474953 || !c.sigOk || c.alg != 1 || !fused || (code && (k != 0 || decide (c.svn.toNat < s.fld Reg.CFG_KEYS 16 16)))

/-- Check 5 of a container (R388): STEPPING and VARIANTS. -/
def State.wrongPart (s : State) (stepping variants : Nat) : Bool :=
  stepping != stepB0 || !bitOf variants s.variant.bit

/-- The checks that apply to every container (R388): 1, 2, 3 and 5. -/
def State.contCheck (s : State) (c : Cont) (type len : Nat) : Option (Status × Nat) :=
  if c.malformed type len then some (.range, 1)
  else if s.sigBad c then some (.authFail, 2)
  else if !c.crcOk then some (.authFail, 3)
  else if s.wrongPart c.stepping c.variants then some (.range, 5)
  else none

/-- A header field of R160: `size` bytes at a byte offset. -/
def EphRec.field (e : EphRec) (off size : Nat) : Nat := bitsAt (e.head.getD (off / 8) 0) (8 * (off % 8)) (8 * size)
/-- MAGIC is ASCII "EPHM". -/
def EphRec.magicOk (e : EphRec) : Bool := e.field 0x00 4 == 0x4D485045
/-- FORMAT. -/
def EphRec.format (e : EphRec) : Nat := e.field 0x04 2
/-- HDR_SIZE. -/
def EphRec.hdrSize (e : EphRec) : Nat := e.field 0x06 2
/-- STEPPING. -/
def EphRec.stepping (e : EphRec) : Nat := e.field 0x08 1
/-- VARIANTS. -/
def EphRec.variants (e : EphRec) : Nat := e.field 0x09 1
/-- ATLAS_REV. -/
def EphRec.atlasRev (e : EphRec) : Nat := e.field 0x0A 2
/-- DEPTH. -/
def EphRec.depth (e : EphRec) : Nat := e.field 0x0C 2
/-- FLAGS. -/
def EphRec.flags (e : EphRec) : Nat := e.field 0x0E 2
/-- SHAPE. -/
def EphRec.shape (e : EphRec) : Nat := e.field 0x10 4
/-- OP_FASTEST, which nothing checks. -/
def EphRec.opFastest (e : EphRec) : Nat := e.field 0x14 1
/-- N_DEVICES. -/
def EphRec.nDevices (e : EphRec) : Nat := e.field 0x16 2
/-- DEVICE_INDEX. -/
def EphRec.deviceIndex (e : EphRec) : Nat := e.field 0x18 2
/-- MACHINE_ID. -/
def EphRec.machineId (e : EphRec) : Nat := e.field 0x1C 4
/-- PLATE_KIB. -/
def EphRec.plateKib (e : EphRec) : Nat := e.field 0x20 4
/-- N_SECTIONS. -/
def EphRec.nSections (e : EphRec) : Nat := e.field 0x24 2
/-- TOOL_ID, which nothing checks. -/
def EphRec.toolId (e : EphRec) : Nat := e.field 0x28 8
/-- BUILD_STAMP, which nothing checks. -/
def EphRec.buildStamp (e : EphRec) : Nat := e.field 0x30 8
/-- A reserved byte of the header is nonzero: 0x15, 0x1A and 0x1B, 0x26 and 0x27, 0x38 to 0x7F. -/
def EphRec.headReserved (e : EphRec) : Bool :=
  e.field 0x15 1 != 0 || e.field 0x1A 2 != 0 || e.field 0x26 2 != 0 || (List.range 9).any fun i => e.head.getD (7 + i) 0 != 0

/-- An entry of the section table (R161). -/
structure Sect where
  type : Nat
  reserved : Nat
  crc : Nat
  offset : Nat
  length : Nat
  deriving DecidableEq, Repr

/-- An entry from its words: TYPE and reserved; CRC; OFFSET; LENGTH. -/
def sectOf (w : Word × Word × DWord × DWord) : Sect :=
  { type := w.1.toNat % 2 ^ 16, reserved := w.1.toNat / 2 ^ 16, crc := w.2.1.toNat, offset := w.2.2.1.toNat, length := w.2.2.2.toNat }

/-- The section table: N_SECTIONS entries, at most 16. -/
def EphRec.sections (e : EphRec) : List Sect :=
  if 16 < e.nSections then [] else (List.range e.nSections).map fun i => sectOf (e.table.getD i (0, 0, 0, 0))

/-- The entry of a type. -/
def EphRec.sect (e : EphRec) (t : Nat) : Option Sect := e.sections.find? fun x => x.type == t
/-- A section is present. -/
def EphRec.has (e : EphRec) (t : Nat) : Bool := e.sections.any fun x => x.type == t
/-- LENGTH of a section, 0 where it is absent. -/
def EphRec.len (e : EphRec) (t : Nat) : Nat := match e.sect t with | some x => x.length | none => 0
/-- What an unlisted word of a section holds. -/
def sectFill (t : Nat) : Nat → DWord :=
  if t = 1 then dSlot else if t = 4 then fun i => if i % 128 < 64 then 0xFE00FE00FE00FE00 else 0 else fun _ => 0
/-- The listed words of a section. -/
def EphRec.listed (e : EphRec) (t : Nat) : List (Nat × DWord) :=
  match e.data.find? fun x => x.1 == t with
  | some x => x.2.filter fun w => decide (8 * w.1 < e.len t)
  | none => []
/-- Word i of a section. -/
def EphRec.word (e : EphRec) (t i : Nat) : DWord := mget (sectFill t) (e.listed t) i
/-- The words of a small section, in order. -/
def EphRec.words (e : EphRec) (t : Nat) : List DWord := (List.range (e.len t / 8)).map (e.word t)
/-- The bits of a section's bytes, in order of transmission. -/
def EphRec.sectBits (e : EphRec) (t : Nat) : List Bool :=
  let l := e.listed t
  ((List.range ((e.len t + 7) / 8)).flatMap fun i =>
    let w := mget (sectFill t) l i
    (List.range 64).map fun j => w.getLsbD j).take (8 * e.len t)
/-- Check 14 (R161): a section whose bytes do not give its CRC. -/
def EphRec.badCrc (e : EphRec) : Bool := e.sections.any fun x => (crc32 (e.sectBits x.type)).toNat != x.crc

/-- DEEP. -/
def EphRec.deep (e : EphRec) : Bool := bitOf e.flags 0
/-- DEBUG. -/
def EphRec.debug (e : EphRec) : Bool := bitOf e.flags 1
/-- TARGET_PACED. -/
def EphRec.paced (e : EphRec) : Bool := bitOf e.flags 2
/-- SPANS_DEVICES. -/
def EphRec.spans (e : EphRec) : Bool := bitOf e.flags 3
/-- DIE_MASK. -/
def EphRec.dieMask (e : EphRec) : Nat := e.shape % 2 ^ 4
/-- T_FIRST. -/
def EphRec.tFirst (e : EphRec) : Nat := e.shape / 2 ^ 8 % 2 ^ 6
/-- T_LAST. -/
def EphRec.tLast (e : EphRec) : Nat := e.shape / 2 ^ 16 % 2 ^ 6
/-- Dies of the shape. -/
def EphRec.dies (e : EphRec) : List Nat := (List.range 4).filter fun d => bitOf e.dieMask d
/-- Tiles of the shape, ascending by packed address. -/
def EphRec.tiles (e : EphRec) : List Nat :=
  e.dies.flatMap fun d => (List.range (e.tLast + 1 - e.tFirst)).map fun t => d * 64 + e.tFirst + t
/-- Tiles on each die of the shape. -/
def EphRec.tilesPerDie (e : EphRec) : Nat := e.tLast + 1 - e.tFirst
/-- Tile i of the shape, in the order of R162. -/
def EphRec.tileAt (e : EphRec) (i : Nat) : Nat :=
  let k := max 1 e.tilesPerDie
  e.dies.getD (i / k) 0 * 64 + e.tFirst + i % k
/-- A tile of the shape. -/
def EphRec.hasTile (e : EphRec) (t : Nat) : Bool :=
  bitOf e.dieMask (t / 64) && decide (e.tFirst ≤ t % 64) && decide (t % 64 ≤ e.tLast)
/-- E of R162. -/
def EphRec.entries (e : EphRec) : Nat := min (e.depth + 3) 2048
/-- X of R162. -/
def EphRec.bpsPerCluster (e : EphRec) : Nat := if e.deep then 32 else 64

/-- The LENGTH that R162 gives a section of a type; a section of records gives the record size and what precedes them. -/
def EphRec.lengthOk (e : EphRec) (x : Sect) : Bool :=
  let p := e.tiles.length
  let c := 16 * p
  let n := x.length
  match x.type with
  | 1 => n == c * e.bpsPerCluster * e.depth * 8
  | 2 => n == c * 64 * 128
  | 3 => n == c * 64 * 256
  | 4 => n == p * e.entries * 1024
  | 5 => n == c * 2
  | 6 => n % 32 == 0 && decide (n ≤ 2048)
  | 7 => n % 40 == 0
  | 8 => n % 16 == 0
  | 9 => n % 8 == 0
  | 10 => decide (264 ≤ n) && n % 8 == 0
  | 11 => n % 8 == 0
  | 12 => true
  | _ => false

/-- Two sections overlap.  One of LENGTH 0 holds no byte and overlaps nothing, the header and the table included (R161 does not
say; DESIGN CHOICE, log entry 129). -/
def sectOverlap (a b : Sect) : Bool :=
  a.length != 0 && b.length != 0 && decide (a.offset < b.offset + b.length) && decide (b.offset < a.offset + a.length)

/-- Some earlier and later entry of a list stand in a relation. -/
def anyPair {α : Type} (r : α → α → Bool) : List α → Bool
  | [] => false
  | x :: l => l.any (r x) || anyPair r l

/-- Consecutive records of k words. -/
def recsOf (k : Nat) (l : List DWord) : List (List DWord) := (List.range (l.length / k)).map fun i => (l.drop (k * i)).take k

/-- A VMEM declaration as it stands (R163), from its four words. -/
structure VMemRec where
  number : Nat
  kind : Nat
  width : Nat
  die : Nat
  delta : Nat
  size : Nat
  base : Nat
  reserved : Bool
  deriving DecidableEq, Repr

/-- NUMBER, KIND, WIDTH, DIE and DELTA in word 0, SIZE, BASE, and a reserved word. -/
def vmemOf (l : List DWord) : VMemRec :=
  let w := l.getD 0 0
  { number := bitsAt w 0 8, kind := bitsAt w 8 8, width := bitsAt w 16 8, die := bitsAt w 24 8, delta := bitsAt w 32 16,
    size := (l.getD 1 0).toNat, base := (l.getD 2 0).toNat, reserved := bitsAt w 48 16 != 0 || l.getD 3 0 != 0 }

/-- A LOANS entry (R162). -/
structure LoanRec where
  die : Nat
  mode : Nat
  reserved : Bool
  banks : List Nat
  deriving DecidableEq, Repr

/-- Die, mode and reserved bytes in word 0, and a mask of 256 banks. -/
def loanOf (l : List DWord) : LoanRec :=
  let w := l.getD 0 0
  { die := bitsAt w 0 8, mode := bitsAt w 8 8, reserved := bitsAt w 16 48 != 0,
    banks := (List.range 256).filter fun b => (l.getD (1 + b / 64) 0).getLsbD (b % 64) }

/-- A BOUND section (R162): REGION_MASK and reserved bytes in word 0, 32 words of the initial vector, then ranges. -/
structure BoundRec where
  regions : Nat
  reserved : Bool
  init : List (Nat × Bool)
  ranges : List DWord
  deriving DecidableEq, Repr

/-- A BOUND section from its words. -/
def boundOf (l : List DWord) : BoundRec :=
  let w := l.getD 0 0
  { regions := bitsAt w 0 8, reserved := bitsAt w 8 56 != 0,
    init := ((List.range 2048).filter fun i => (l.getD (1 + i / 64) 0).getLsbD (i % 64)).map fun i => (i, true),
    ranges := l.drop 33 }

/-- VMEM declarations. -/
def EphRec.vmems (e : EphRec) : List VMemRec := (recsOf 4 (e.words 6)).map vmemOf
/-- LOANS entries. -/
def EphRec.loanRecs (e : EphRec) : List LoanRec := (recsOf 5 (e.words 7)).map loanOf
/-- XCHG entries: words 0 and 1. -/
def EphRec.xchgs (e : EphRec) : List (DWord × DWord) := (recsOf 2 (e.words 8)).map fun l => (l.getD 0 0, l.getD 1 0)
/-- TAPS records. -/
def EphRec.tapRecs (e : EphRec) : List DWord := e.words 9
/-- The BOUND section. -/
def EphRec.boundRec (e : EphRec) : Option BoundRec := if e.has 10 then some (boundOf (e.words 10)) else none
/-- LINKS entries. -/
def EphRec.linkRecs (e : EphRec) : List DWord := e.words 11
/-- WINDOWS: a halfword per cluster. -/
def EphRec.windows (e : EphRec) : List Nat := (List.range (e.len 5 / 2)).map fun i => bitsAt (e.word 5 (i / 4)) (16 * (i % 4)) 16

/-- Check 13. -/
def EphRec.badSections (e : EphRec) : Bool :=
  let n := e.nSections
  let l := e.sections
  let onChip := e.vmems.any fun m => m.kind == 1
  let need := [1, 2, 4, 5] ++ (if onChip then [7] else []) ++ (if e.spans then [8, 11] else [])
  n == 0 || decide (16 < n) || l.any (fun x => x.type == 0 || decide (12 < x.type)) ||
    anyPair (fun a b => a.type == b.type) l || l.any (fun x => decide (e.length < x.offset + x.length) || !e.lengthOk x ||
      (x.length != 0 && decide (x.offset < 0x80 + 24 * n))) || anyPair sectOverlap l || need.any (fun t => !e.has t)

/-- Check 15: reserved fields, and the reserved values of LINKS. -/
def EphRec.badReserved (e : EphRec) : Bool :=
  e.headReserved || e.flags / 16 != 0 || e.variants / 8 != 0 || e.shape / 2 ^ 4 % 2 ^ 4 != 0 || e.shape / 2 ^ 14 % 2 ^ 2 != 0 ||
    e.shape / 2 ^ 22 != 0 || e.sections.any (fun x => x.reserved != 0) ||
    e.windows.any (fun w => w / 2 ^ 3 % 2 != 0 || w / 2 ^ 7 != 0) ||
    e.vmems.any (fun m => m.reserved || m.delta / 2 ^ 12 != 0 || (m.kind == 2 && m.base / 2 ^ 46 != 0)) ||
    e.loanRecs.any (fun l => l.reserved) ||
    e.xchgs.any (fun x => bitsAt x.1 22 2 != 0 || bitsAt x.1 30 2 != 0 || bitsAt x.1 56 8 != 0 || bitsAt x.2 12 4 != 0 || bitsAt x.2 32 32 != 0) ||
    e.tapRecs.any (fun w => bitsAt w 45 3 != 0 || bitsAt w 54 10 != 0) ||
    (match e.boundRec with | some b => b.reserved || b.ranges.any (fun r => bitsAt r 34 30 != 0) | none => false) ||
    e.linkRecs.any (fun w => bitsAt w 16 48 != 0 || decide (1 < bitsAt w 6 2) || decide (7 < bitsAt w 8 8))

/-- Check 16. -/
def EphRec.badVmem (e : EphRec) : Bool :=
  let size := fun (d : Nat) => match e.loanRecs.find? fun l => l.die == d with | some l => 8192 * l.banks.length | none => 0
  let bad := fun (m : VMemRec) =>
    decide (63 < m.number) || m.width == 0 || decide (64 < m.width) || m.size == 0 || decide (2 ^ 40 < m.size) ||
      (if m.kind = 1 then !e.dies.contains m.die || m.delta != 0 || decide (size m.die < m.base + m.size)
       else if m.kind = 2 then m.die != 0 || m.delta == 0 || m.base % 8 != 0 || decide (2 ^ 46 - 8 < m.base + 8 * (m.size - 1))
       else true)
  e.vmems.any bad || anyPair (fun a b => a.number == b.number) e.vmems

/-- Check 17. -/
def EphRec.badLoans (e : EphRec) : Bool :=
  e.loanRecs.any (fun l => !e.dies.contains l.die || decide (1 < l.mode)) || anyPair (fun a b => a.die == b.die) e.loanRecs

/-- Banks that LOANS names, packed. -/
def EphRec.loanBanks (e : EphRec) : List Nat := e.loanRecs.flatMap fun l => l.banks.map fun b => l.die * 256 + b

/-- Segments that the depot-backed memories touch, at most 2^16. -/
def EphRec.segments (e : EphRec) : List Nat :=
  (e.vmems.filter fun m => m.kind == 2).flatMap fun m =>
    let a := m.base / 2 ^ 30
    (List.range ((m.base + 8 * m.size - 1) / 2 ^ 30 + 1 - a)).map fun i => a + i

/-- An exchange entry as the part keeps it (R164). -/
def xslotOf (x : DWord × DWord) : XSlot :=
  { tile := bitsAt x.1 0 8, cluster := bitsAt x.1 8 4, slot := bitsAt x.1 12 8, incoming := bitsAt x.1 20 1 == 1, f := bitsAt x.1 21 1,
    link := bitsAt x.1 24 6, mslot := bitsAt x.1 32 24, sendStep := bitsAt x.2 0 12, budget := bitsAt x.2 16 16 }

/-- A tap slot as the part keeps it (R162). -/
def tapOf (w : DWord) : TapSlot :=
  { tile := bitsAt w 0 8, step := bitsAt w 8 12, lane := bitsAt w 20 2, cluster := bitsAt w 22 4, bp := bitsAt w 26 6,
    group := BitVec.ofNat 32 (bitsAt w 32 32) }

/-- A boundary range as the part keeps it (R162). -/
def rangeOf (w : DWord) : BRange :=
  { first := bitsAt w 0 11, vtr := bitsAt w 11 11, count := bitsAt w 22 11 + 1, input := bitsAt w 33 1 == 1 }

/-- A link declaration as the part keeps it (R162). -/
def linkOf (w : DWord) : LinkDecl := { link := bitsAt w 0 6, rate := bitsAt w 6 2, cable := bitsAt w 8 8 }

/-- Where word i of SLOTS goes (R162): tiles, clusters and executing BPs in ascending order, steps within a BP; in deep mode the
words of steps 2,048 and above go to the odd BP (R73).  As a key, BP × 2,048 + step. -/
def EphRec.slotKey (e : EphRec) (i : Nat) : Nat :=
  let d := max 1 e.depth
  let x := i / d
  let c := x / e.bpsPerCluster
  let b := x % e.bpsPerCluster * (if e.deep then 2 else 1)
  ((e.tileAt (c / 16) * 16 + c % 16) * 64 + b) * 2048 + i % d

/-- BP i of the shape, in the order of R162, 64 in every cluster. -/
def EphRec.bpAt (e : EphRec) (i : Nat) : Nat := e.tileAt (i / 1024) * 1024 + i % 1024

/-- The four function-table entries of word i of FTAB, keyed BP × 64 + entry (R162). -/
def EphRec.ftWord (e : EphRec) (i : Nat) (w : DWord) : List (Nat × BitVec 16) :=
  (List.range 4).map fun j => (e.bpAt (i / 16) * 64 + i % 16 * 4 + j, BitVec.ofNat 16 (bitsAt w (16 * j) 16))

/-- The 64 working-store bits of word i of WSINIT, keyed BP × 2,048 + address (R162). -/
def EphRec.wsWord (e : EphRec) (i : Nat) (w : DWord) : List (Nat × Bool) :=
  (List.range 64).map fun j => (e.bpAt (i / 32) * 2048 + i % 32 * 64 + j, w.getLsbD j)

/-- The four halfwords of word i of ROUTE (R142, R162): tile × 2,048 + entry, halfword, value. -/
def EphRec.routeWord (e : EphRec) (i : Nat) (w : DWord) : List (Nat × Nat × BitVec 16) :=
  let n := max 1 e.entries
  (List.range 4).map fun j =>
    (e.tileAt (i / 128 / n) * 2048 + i / 128 % n, i % 128 * 4 + j, BitVec.ofNat 16 (bitsAt w (16 * j) 16))

/-- Check 20. -/
def EphRec.badXchg (e : EphRec) : Bool :=
  let xs := e.xchgs.map xslotOf
  let ks := e.linkRecs.map linkOf
  xs.any (fun x => !e.hasTile x.tile || decide (e.depth ≤ x.sendStep) || !(ks.any fun k => k.link == x.link) ||
    (!x.incoming && (x.f != 0 || x.budget != 0))) ||
    anyPair (fun a b => a.tile == b.tile && a.cluster == b.cluster && a.slot == b.slot) xs ||
    anyPair (fun a b => !a.incoming && !b.incoming && a.link == b.link && a.mslot == b.mslot) xs

/-- The Atlas floor of a link in steps: ⌈1.25 × (F_link + W_class)⌉ (R246). -/
def budgetFloor (k : LinkDecl) : Nat :=
  let w := match k.cable with | 0 => 2 | 1 => 4 | 2 => 6 | 3 => 11 | 4 => 17 | 5 => 55 | 6 => 155 | _ => 505
  (5 * ((if k.rate = 0 then 96 else 140) + w) + 3) / 4

/-- Check 21. -/
def EphRec.badBudget (e : EphRec) : Bool :=
  let ks := e.linkRecs.map linkOf
  (e.xchgs.map xslotOf).any fun x => x.incoming && (ks.any fun k => k.link == x.link && decide (x.budget < budgetFloor k))

/-- Check 22. -/
def EphRec.badTaps (e : EphRec) : Bool :=
  let ts := e.tapRecs.map tapOf
  ts.any (fun t => !e.hasTile t.tile || decide (e.depth ≤ t.step) || (e.deep && t.bp % 2 == 1)) ||
    anyPair (fun a b => a.tile == b.tile && a.step == b.step && a.lane == b.lane) ts

/-- Two spans overlap. -/
def spanOverlap (a n b m : Nat) : Bool := decide (a < b + m) && decide (b < a + n)

/-- Check 23. -/
def State.badBound (s : State) (e : EphRec) : Bool :=
  match e.boundRec with
  | none => false
  | some b =>
    let rs := b.ranges.map rangeOf
    s.variant == .r || rs.any (fun r => decide (2048 < r.first + r.count) || decide (2048 < r.vtr + r.count)) ||
      anyPair (fun x y => x.input == y.input && (spanOverlap x.first x.count y.first y.count || spanOverlap x.vtr x.count y.vtr y.count)) rs

/-- The loaded partitions other than n. -/
def State.others (s : State) (n : Fin 8) : List (Fin 8) :=
  (List.finRange 8).filter fun m => m != n && (s.part m).state != .empty

/-- Check 24. -/
def State.boundTaken (s : State) (n : Fin 8) (e : EphRec) : Bool :=
  match e.boundRec with
  | none => false
  | some b =>
    let rs := b.ranges.map rangeOf
    (s.others n).any fun m =>
      let x := (s.part m).eph
      decide ((x.regions &&& b.regions) ≠ 0) ||
        rs.any fun r => x.bound.any fun y => y.input == r.input && spanOverlap r.vtr r.count y.vtr y.count

/-- Check 25. -/
def State.plateFull (s : State) (n : Fin 8) (e : EphRec) : Bool :=
  e.dies.any fun d =>
    decide (32768 < e.plateKib +
      (((s.others n).filter fun m => bitOf (s.part m).eph.dieMask d).map fun m => (s.part m).eph.plateKib).foldl (· + ·) 0)

/-- The checks of R168 in their order: number, status, whether it fails; `len` is the length the command gives. -/
def State.loadChecks (s : State) (n : Fin 8) (c : Cont) (e : EphRec) (len : Nat) : List (Nat × Status × Bool) :=
  let st := (s.part n).state
  let d := e.depth
  [(1, .range, c.malformed 4 len), (2, .authFail, s.sigBad c), (3, .authFail, !c.crcOk),
   (4, .range, !e.magicOk || e.format != 2 || e.hdrSize != 0x80),
   (5, .range, s.wrongPart c.stepping c.variants || s.wrongPart e.stepping e.variants),
   (6, .range, e.atlasRev != 1 && e.atlasRev != 2),
   (7, .range, (s.part n).held.isSome || st == .armed || st == .running),
   (8, .range, d % 16 != 0 || decide (d < 64) || decide ((if e.deep then 4096 else 2048) < d)),
   (9, .range, (e.paced && s.variant == .r) || (e.spans && decide (e.nDevices < 2)) || (!e.spans && e.nDevices != 1) ||
      decide (e.nDevices ≤ e.deviceIndex)),
   (10, .range, e.debug && e.dies.any fun d => decide (s.dieOp d < 2)),
   (11, .range, e.dies.isEmpty || e.dies.any (fun d => !s.hasDie d) ||
      (if e.dies.length = 1 then decide (e.tLast < e.tFirst) else e.tFirst != 0 || e.tLast != 63)),
   (12, .range, e.tiles.any fun t => s.fld (Reg.SPR_TILE t) 6 1 == 1 || (s.others n).any fun m => (s.part m).eph.hasTile t),
   (13, .range, e.badSections), (14, .authFail, e.badCrc), (15, .range, e.badReserved),
   (16, .range, e.badVmem), (17, .range, e.badLoans),
   (18, .notOwner, e.loanBanks.any fun b => s.loanOwner b != n.val),
   (19, .notOwner, e.segments.any fun g =>
      bitsAt (s.depotEntry g) 0 1 == 0 || bitsAt (s.depotEntry g) 1 4 != n.val),
   (20, .range, e.badXchg), (21, .range, e.badBudget), (22, .range, e.badTaps), (23, .range, s.badBound e),
   (24, .range, s.boundTaken n e), (25, .range, s.plateFull n e)]

/-- The first check that fails between two numbers, with its status. -/
def State.loadCheck (s : State) (n : Fin 8) (c : Cont) (e : EphRec) (len lo hi : Nat) : Option (Status × Nat) :=
  match (s.loadChecks n c e len).find? (fun (x : Nat × Status × Bool) => decide (lo ≤ x.1) && decide (x.1 ≤ hi) && x.2.2) with
  | some x => some (x.2.1, x.1)
  | none => none

/-- The tables of an ephemeris as the part keeps them (R162 to R165): what no section holds keeps its fill. -/
def EphRec.toEph (e : EphRec) (v : Variant) : Eph :=
  let cls := e.tiles.flatMap fun t => (List.range 16).map fun c => t * 16 + c
  let wins := cls.zip e.windows
  let route := (e.listed 4).flatMap fun x => e.routeWord x.1 x.2
  { depth := e.depth, deep := e.deep, debug := e.debug, paced := e.paced, dies2 := v == .d, spans := e.spans,
    dieMask := e.dieMask, tFirst := e.tFirst, tLast := e.tLast, nDevices := e.nDevices, devIndex := e.deviceIndex,
    machineId := e.machineId, plateKib := e.plateKib,
    slots := msetAll dSlot [] ((e.listed 1).map fun x => (e.slotKey x.1, x.2)),
    ft := msetAll dFt [] ((e.listed 2).flatMap fun x => e.ftWord x.1 x.2),
    wsInit := msetAll dBit [] ((e.listed 3).flatMap fun x => e.wsWord x.1 x.2),
    desc := msetAll (fun _ => 0xFE00) [] ((route.filter fun r => decide (r.2.1 < 256)).map fun r => (r.1 * 256 + r.2.1, r.2.2)),
    sel := msetAll (fun _ => 0) [] ((route.filter fun r => decide (256 ≤ r.2.1)).map fun r => (r.1 * 256 + (r.2.1 - 256), r.2.2)),
    inWin := msetAll dNat [] (wins.map fun x => (x.1, x.2 % 2 ^ 3)),
    outWin := msetAll dNat [] (wins.map fun x => (x.1, x.2 / 2 ^ 4 % 2 ^ 3)),
    vmem := e.vmems.map fun m => { number := m.number, onChip := m.kind == 1, width := m.width, die := m.die,
                                   delta := m.delta, size := m.size, base := m.base },
    loans := e.loanRecs.map fun l => { die := l.die, contiguous := l.mode == 1, banks := l.banks },
    xchg := e.xchgs.map xslotOf, taps := e.tapRecs.map tapOf,
    regions := match e.boundRec with | some b => b.regions | none => 0,
    initOut := match e.boundRec with | some b => b.init | none => [],
    bound := match e.boundRec with | some b => b.ranges.map rangeOf | none => [],
    links := e.linkRecs.map linkOf }

/-- Gaps between the shares of a die's plate store, as start and length (R297). -/
def gaps (size : Nat) : Nat → List (Nat × Nat) → List (Nat × Nat)
  | at_, [] => if at_ < size then [(at_, size - at_)] else []
  | at_, (b, n) :: r => (if at_ < b then [(at_, b - at_)] else []) ++ gaps size (max at_ (b + n)) r

/-- The share of partition m on die d moves to another start, with what it holds: positions count from the start (R302). -/
def State.moveShare (s : State) (m : Fin 8) (d to_ : Nat) : State :=
  let old := d * 2 ^ 20 + s.fld (Reg.CAP_STORE_BASE m d) 0 20
  let new := d * 2 ^ 20 + to_
  let size := s.shareUnits m d
  let mine := fun (x : Nat × BitVec 256) => decide (old ≤ x.1) && decide (x.1 < old + size)
  let rest := (s.plt.store.filter fun x => !mine x).filter fun x => !(decide (new ≤ x.1) && decide (x.1 < new + size))
  let store := (s.plt.store.filter mine).foldl (fun r x => mset (fun _ => (0 : BitVec 256)) r (x.1 - old + new) x.2) rest
  { s with plt := { s.plt with store := store } }.setReg (Reg.CAP_STORE_BASE m d) (BitVec.ofNat 32 to_)

/-- The shares of a die, ascending by start: partition, start, units. -/
def State.sharesOn (s : State) (n : Fin 8) (d : Nat) : List (Fin 8 × Nat × Nat) :=
  sortBy (fun (x : Fin 8 × Nat × Nat) => x.2.1) (((s.others n).filter fun m => s.shareUnits m d != 0).map fun (m : Fin 8) =>
    (m, s.fld (Reg.CAP_STORE_BASE m d) 0 20, s.shareUnits m d))

/-- Where the Curator puts a share of `units` on die d: anywhere it fits whole, as a free number says; where no gap takes it, the other
shares move together first, for check 25 leaves room (R168; DESIGN CHOICE, log entry 141). -/
def State.sharePlace (s : State) (n : Fin 8) (d units free : Nat) : Nat × State :=
  let taken := s.sharesOn n d
  let ok := (gaps (2 ^ 20) 0 (taken.map (·.2))).filter fun g => decide (units ≤ g.2)
  match ok[free % max 1 ok.length]? with
  | some g => (g.1 + free / max 1 ok.length % (g.2 - units + 1), s)
  | none => taken.foldl (fun (a : Nat × State) x => (a.1 + x.2.2, a.2.moveShare x.1 d a.1)) (0, s)

/-- The plate-store share of partition n on one die (R297); 0 KiB takes it away. -/
def State.setShare (s : State) (n : Fin 8) (kib d : Nat) : State :=
  let f := s.fresh
  let units := 32 * kib
  let at_ := if units = 0 then (0, f.1) else f.1.sharePlace n d units (Config.freeNat f.2)
  (((at_.2.setReg (Reg.CAP_STORE_BASE n d) (BitVec.ofNat 32 at_.1)).setReg (Reg.CAP_STORE_SIZE n d) (BitVec.ofNat 32 units)).setReg
    (Reg.CAP_STORE_HEAD n d) 0).setReg (Reg.CAP_STORE_TAIL n d) 0

/-- The monitor of a partition without DEBUG is off: its registers hold their reset values (R173, R178). -/
def State.dbgOff (s : State) (n : Fin 8) : State :=
  { s with regs := s.regs.filter fun (r : Nat × Word) => !(decide (Reg.DBG_CTRL n ≤ r.1) && decide (r.1 < Reg.DBG_CTRL n + 0x100)) }

/-- Staged images of the tiles of a shape go with their ephemeris (R341). -/
def State.unstage (s : State) (e : Eph) : State :=
  let mine := fun (x : Nat × Nat) => e.hasTile x.1
  let ts := ((s.spr.staged ++ s.spr.staging).filter mine).map (·.1)
  let s1 := { s with spr := { s.spr with staged := s.spr.staged.filter fun x => !mine x, staging := s.spr.staging.filter fun x => !mine x } }
  ts.foldl (fun (t : State) k =>
    let u := t.setFld (Reg.SPR_TILE k) 5 1 0
    if u.idleClu k = 0x1F then u else u.setFld (Reg.SPR_CHEALTH k (u.idleClu k)) 8 3 1) s1

/-- Everything that belongs to the old content of partition n goes (R48, R252, R396): its regions, channels, plates, staged images. -/
def State.clearPart (s : State) (n : Fin 8) : State :=
  let old := (s.part n).eph
  let s1 := ((s.unstage old).holdRegions ((s.regionsOf n).foldl (fun a r => a + 2 ^ r.val) 0) 15).unmap n
  let s2 := (s1.setMach n Mach.reset).setCap n Cap.reset
  let d : Fin 4 := ⟨old.homeDie % 4, Nat.mod_lt _ (by decide)⟩
  let s3 := { s2 with plt := { s2.plt with fifos := vset s2.plt.fifos d ((vget s2.plt.fifos d).filter fun e => e.part != n.val) } }
  let s4 := (s3.modCk n fun k => { k with due := [], depLog := [], xtaken := [], replay := none, restored := none, want := none,
                                          again := false, busy := none, recov := none }).setFld (Reg.CKP_STATUS n) 1 1 0
  let s4 := s4.setFld (Reg.CKP_RECOVERY n) 0 4 0
  let s4 := (List.range 4).foldl (fun (t : State) k => (t.setReg (Reg.CAP_DEAD_FRAMES n k) 0).setReg64 (Reg.CAP_DEAD_NS_LO n k) 0) s4
  (((s4.setReg (Reg.CAP_STATUS n) 0).setReg (Reg.CAP_PLATES n) 0).setReg (Reg.CKP_RECOVERIES n) 0).setReg (Reg.CKP_REPLAY n) 0

/-- The writes of a load (R165).  A load of a DEBUG ephemeris over a DEBUG one leaves the monitor powered, and its buffer and registers
as they are (R173, R174 do not say; DESIGN CHOICE, log entry 130).  The partition is LOADED, or in FAULT with cause 0 when a write failed (R396) or a SAFETY command
cut the writes short (R454). -/
def State.loadWrite (s : State) (n : Fin 8) (c : Cont) (e : EphRec) (ok : Bool) : State :=
  let x := e.toEph s.variant
  let s0 := s.clearPart n
  let s1 := if x.debug && (s.part n).eph.debug then s0 else s0.dbgOff n
  let p : Part := { Part.reset with
    state := if ok then .loaded else .fault, eph := x, img := { Img.zero with ws := x.wsInit },
    hazBuf := if x.debug && (s.part n).eph.debug then (s.part n).hazBuf else [] }
  let s2 := (s1.setPart n p).modCk n fun k => { k with digest := c.digest.toNat, stepping := e.stepping }
  let s3 := (List.range 4).foldl (fun (t : State) d => t.setShare n (if x.dieMask.testBit d then x.plateKib else 0) d) s2
  let s4 := s3.holdRegions x.regions n.val
  ((if ok then s4 else s4.raiseFrm n 1).setReg (Reg.TLY_TENANT n) 0).decimAll

/-- CFG_LOAD_n (R398). -/
def State.noteLoad (s : State) (n : Fin 8) (st : Status) (detail : Nat) (auto : Bool) : State :=
  s.setReg (Reg.CFG_LOAD n) (BitVec.ofNat 32 (st.code + detail * 2 ^ 8 + b2n auto * 2 ^ 16 + 2 ^ 31))

/-- Waiting commands on a partition that is unloaded answer NOT_OWNER (R466). -/
def State.unloadWaits (s : State) (n : Fin 8) : State :=
  s.answerAll (fun t b => if b.part = some n.val && b.wait != .result then some (t.rspBlock n .notOwner 0) else none) s.waiting

/-- Buffers an owner holds are freed (R455, R458). -/
def State.freeBuffers (s : State) (owner : Nat) : State :=
  let mine := s.cur.bufs.filter fun b => b.2 == owner
  let s1 := { s with cur := { s.cur with bufs := s.cur.bufs.filter fun b => b.2 != owner } }
  s1.addFld Reg.MBX_POOL 16 16 mine.length

/-- The Curator cancels the DATA tasks under the owner code of partition n, which is unloaded (R486). -/
def State.cancelData (s : State) (n : Fin 8) : State :=
  let ids := (s.rgs.tasks.filter fun t => t.kind != 1 && t.owner == n.val).map Task.id
  { s with rgs := { s.rgs with cancels := s.rgs.cancels ++ ids } }

/-- Partition n returns to EMPTY (R396, R404, R458, R486, R517). -/
def State.unloadNow (s : State) (n : Fin 8) : State :=
  let s1 := ((((s.unloadWaits n).flushGather n).tallyUnload n).clearPart n).dbgOff n
  let s2 := (List.range 4).foldl (fun (t : State) d => t.setShare n 0 d) s1
  (((s2.setPart n Part.reset).freeBuffers (24 + n.val)).decimAll).cancelData n

end Sys2Proof.Machine
end

