-- ==== Sys2Proof/Machine/Bank.lean ====
section
/-!
DEFINITION. Port N of the vault banks (R181 to R202): handovers, queued requests, the patrol scrubber and the peek window.
-/
namespace Sys2Proof.Machine

/-- The header of a response (R208, R211): back to the requester, with the request's AGE, OWNER and TAG. -/
def Pkt.response (p : Pkt) (op status : Nat) (derr : Bool) (data : List DWord) : Pkt :=
  { dest := p.src, ep := p.sep, src := p.dest, sep := p.ep, cls := 2, age := p.age, owner := p.owner, op := op,
    len := (data.length + 3) / 4, tag := p.tag, status := status, derr := derr, addr := p.addr, wmask := 0, bmask := 0, data := data }

/-- The response of a request: READ_DATA or WRITE_DONE (R210). -/
def State.respond (s : State) (p : Pkt) (st : Status) (derr : Bool) (data : List DWord) : State :=
  s.sendPkt (p.response (if p.op = 0 then 8 else 9) st.code derr data)

/-- Words that a READ asks for: its LEN in data flits, one word when LEN is 0 (R208). -/
def Pkt.words (p : Pkt) : Nat := if p.len = 0 then 1 else 4 * p.len

/-- The register of a loan. -/
def loanReg (bank : Nat) : Nat := Reg.VLT_LOAN (bank / 256) (bank % 256)

/-- A Curator write to VLT_LOAN (R189, R190). -/
def State.loanWrite (s : State) (bank owner : Nat) (scrub : Bool) : State :=
  let r := loanReg bank
  if s.loanState bank ≠ 0 ∨ 14 ≤ owner then s.setFld r 11 1 1
  else if owner = s.loanOwner bank ∧ scrub = false then s.setFld r 11 1 0
  else
    let old := s.loanOwner bank
    let s1 := ((((s.setFld r 0 4 owner).setFld r 8 2 1).setFld r 10 1 0).setFld r 11 1 0).setFld r 12 4 old
    { s1 with vlt := { s1.vlt with scrub := if scrub then insNat bank s1.vlt.scrub else s1.vlt.scrub.filter fun b => b != bank } }

/-- A handover ends (R189): LENT, DONE, and the LOAN command completes (R474). -/
def State.loanDone (s : State) (bank : Nat) : State :=
  let r := loanReg bank
  let s1 := (s.setFld r 8 2 0).setFld r 10 1 1
  s1.answerAll (fun t b => if b.wait = .loan bank then some ⟨.ok, 0, 4, (t.reg r).toNat⟩ else none) s1.waiting

/-- The queues of a draining bank are empty (R189). -/
def State.loanDrained (s : State) (bank : Nat) : State :=
  if s.loanState bank = 1 ∧ !(s.vlt.qNoc.any fun q => q.bank == bank) then
    if s.vlt.scrub.contains bank then s.setFld (loanReg bank) 8 2 2 else s.loanDone bank
  else s

/-- All words of a scrubbing bank hold 0 (R189). -/
def State.loanScrubbed (s : State) (bank : Nat) : State :=
  if s.loanState bank = 2 then
    let s1 := s.scrubBank bank
    { s1 with vlt := { s1.vlt with scrub := s1.vlt.scrub.filter fun b => b != bank } }.loanDone bank
  else s

/-- A request packet arrives at a bank (R181, R191): queued, or refused. -/
def State.bankArrive (s : State) (bank : Nat) (p : Pkt) (credited : Bool) : State :=
  let o := p.owner.code
  match s.portNRefuses bank o (p.sep == 14) credited with
  | some st => (s.refuse bank o st).respond p st false []
  | none =>
    let q : NReq := ⟨bank, p.addr % 8192, p.words, p⟩
    { s with vlt := { s.vlt with qNoc := s.vlt.qNoc ++ [q] } }

/-- A READ_DATA of a bank that has not left it yet, so of this cycle, and that carries the word: its place in the data. -/
def Flight.carriesWord (f : Flight) (bank word : Nat) : Option Nat :=
  let p := f.pkt
  let k := (word + 8192 - p.addr % 8192) % 8192
  if p.op == 8 && f.chans.isEmpty && f.out == 0 && p.sep < 4 && p.src / 64 * 256 + 4 * (p.src % 64) + p.sep == bank && decide (k < p.data.length)
  then some k else none

/-- That packet with another value for the word. -/
def Flight.withWord (f : Flight) (bank word : Nat) (v : DWord) : Flight :=
  match f.carriesWord bank word with
  | some k => { f with pkt := { f.pkt with data := f.pkt.data.set k v } }
  | none => f

/-- An earlier read of the same word in the same cycle returns undefined data (R197): of port E, or of the NoC input. -/
def State.undefineRead (s : State) (bank word : Nat) : State :=
  let v := Config.freeWord s.freeCtr
  let s1 := { s with freeCtr := s.freeCtr + 1, noc := { s.noc with pkts := s.noc.pkts.map fun f => f.withWord bank word v } }
  if h : s.loanOwner bank < 8 then
    s1.modPart ⟨s.loanOwner bank, h⟩ fun p =>
      { p with reads := p.reads.map fun r =>
          if r.onChip && r.addr == bank * 8192 + word && r.tag == 1 && r.due == p.step + 4 then { r with data := v } else r }
  else s1

/-- The earlier reads that a write of several words meets (R197). -/
def State.undefineReads (s : State) (bank word wmask count : Nat) : State :=
  (List.range count).foldl (fun (t : State) i => if bitOf wmask i then t.undefineRead bank ((word + i) % 8192) else t) s

/-- The data of a port N read of several words, as the last release left them (R194). -/
def State.readWords (s : State) (bank word count : Nat) : List DWord :=
  (List.range count).map fun i => s.vwordN bank ((word + i) % 8192)

/-- Store the enabled words of a port N write (R197, R208). -/
def State.writeWords (s : State) (bank word bmask wmask : Nat) : List DWord → Nat → State
  | [], _ => s
  | v :: r, i =>
    let a := (word + i) % 8192
    let s1 := if bitOf wmask i then s.setVword bank a (if bmask = 255 then v else mergeBytes (s.vword bank a) v bmask) else s
    s1.writeWords bank word bmask wmask r (i + 1)

/-- The words that a write enables hold an entry of a write log (R196). -/
def State.writeLogged (s : State) (bank word : Nat) (p : Pkt) : Bool :=
  (List.range p.data.length).any fun i => bitOf p.wmask i && s.wordLogged bank ((word + i) % 8192)

/-- SECDED on the words of a port N read (R183): `ecc` is what it finds on the first, besides the marks of words in error. -/
def State.readEccs (s : State) (bank word : Nat) (ecc : Ecc) (count : Nat) : State × Bool :=
  (List.range count).foldl (fun (t : State × Bool) i =>
    let r := t.1.readEcc bank ((word + i) % 8192) 1 (if i = 0 then ecc else .good)
    (r.1, t.2 || r.2)) (s, false)

/-- A bank serves a queued request (R183, R191, R194, R196, R197); one that waited when its holder's recovery began is refused (R327). -/
def State.serveN (s : State) (q : NReq) (meet : Meet) (ecc : Ecc) : State :=
  let p := q.pkt
  let o := p.owner.code
  let holder := if s.loanState q.bank = 1 then s.fld (loanReg q.bank) 12 4 else s.loanOwner q.bank
  if s.fenced (s.loanOwner q.bank) ∧ o ≠ 13 ∧ p.sep ≠ 14 then s.respond p .retry false []
  else if o ≠ holder then (s.vltReject q.bank o false).respond p .notOwner false []
  else if p.op = 0 then
    match meetLater meet false with
    | .busy => (s.vltBusy q.bank).respond p .busy false []
    | .proceeds =>
      let r := s.readEccs q.bank q.word ecc q.count
      r.1.respond p .ok r.2 (s.readWords q.bank q.word q.count)
  else if p.derr then s.respond p .ok true []
  else if s.writeLogged q.bank q.word p then (s.vltBusy q.bank).respond p .busy false []
  else
    match meet with
    | .none => (s.writeWords q.bank q.word p.bmask p.wmask p.data 0).respond p .ok false []
    | .read =>
      let s1 := if p.bmask = 255 then s.undefineReads q.bank q.word p.wmask p.data.length else s
      (s1.vltBusy q.bank).respond p .busy false []
    | _ => (s.vltBusy q.bank).respond p .busy false []

/-- The bank belongs to a partition that is not EMPTY: the Curator does not move it (R188). -/
def State.loanHeld (s : State) (bank : Nat) : Bool :=
  if h : s.loanOwner bank < 8 then (s.part ⟨s.loanOwner bank, h⟩).state != .empty else false

/-- VLT_LOAN_WRITE (R189, R190); the Curator makes no write that would move a bank of a partition that is not EMPTY (R188). -/
def execVltLoanWrite (bank : BitVec 10) (owner : BitVec 4) (scrub : Bool) (s : State) : Host.Outcome State Fault Refusal :=
  guardUnit s (s.hasBank bank.toNat)
    (if s.loanHeld bank.toNat ∧ s.loanState bank.toNat = 0 ∧ owner.toNat < 14 then s else s.loanWrite bank.toNat owner.toNat scrub)

/-- LOAN_DRAINED (R189). -/
def execLoanDrained (bank : BitVec 10) (s : State) : Host.Outcome State Fault Refusal :=
  guardUnit s (s.hasBank bank.toNat) (s.loanDrained bank.toNat)

/-- LOAN_SCRUB_DONE (R189). -/
def execLoanScrubDone (bank : BitVec 10) (s : State) : Host.Outcome State Fault Refusal :=
  guardUnit s (s.hasBank bank.toNat) (s.loanScrubbed bank.toNat)

/-- PORT_N_ACCESS (R197): the oldest queued request of a bank, with the access it meets and what SECDED finds. -/
def execPortNAccess (bank : BitVec 10) (meet : Meet) (ecc : Ecc) (s : State) : Host.Outcome State Fault Refusal :=
  guardUnit s (s.hasBank bank.toNat)
    (match s.vlt.qNoc.find? fun q => q.bank == bank.toNat with
     | some q => State.serveN { s with vlt := { s.vlt with qNoc := s.vlt.qNoc.erase q } } q meet ecc
     | none => s)

/-- PATROL_SCRUB (R183, R184): the stored value stays; `meet` says that a port wrote the word before the write-back. -/
def execPatrolScrub (bank : BitVec 10) (word : BitVec 13) (ecc : Ecc) (meet : Bool) (s : State) : Host.Outcome State Fault Refusal :=
  guardUnit s (s.hasBank bank.toNat)
    (if s.fld Reg.VLT_SCRUB 0 1 = 0 ∨ s.loanState bank.toNat ≠ 0 ∨ meet = true then s
     else if s.isDbe bank.toNat word.toNat then s.vltDbe bank.toNat word.toNat 3
     else
       match ecc with
       | .good => s
       | .single => s.vltCorr bank.toNat
       | .double => s.vltDbe bank.toNat word.toNat 3)

/-- VAULT_BUSY_N_RELEASE (R198). -/
def execVaultBusyNRelease (s : State) : Host.Outcome State Fault Refusal :=
  .next s.releaseBusy

/-- Key of a path in the holding and capture registers (R12, R13). -/
def Path.key : Path → Nat
  | .pf0 => 0
  | .pf1 n => 1 + n.val
  | .mgmt => 9

/-- The half a path captured at its last low-half read of a 64-bit quantity (R13). -/
def State.capt (s : State) (p : Path) : Word := mget (fun _ => (0 : Word)) s.capts p.key
/-- The capture register replaced. -/
def State.setCapt (s : State) (p : Path) (w : Word) : State := { s with capts := mset (fun _ => (0 : Word)) s.capts p.key w }
/-- The half a path holds for its next high-half write (R12). -/
def State.holdReg (s : State) (p : Path) : Word := mget (fun _ => (0 : Word)) s.holds p.key
/-- The holding register replaced. -/
def State.setHold (s : State) (p : Path) (w : Word) : State := { s with holds := mset (fun _ => (0 : Word)) s.holds p.key w }

/-- A read returns a value to its master (log entry 8). -/
def State.bus (s : State) (w : Word) : State := { s with busOut := w }

/-- VLT_PEEK_STATUS of a path after a bank access (R200, R202). -/
def State.peekStatus (s : State) (p : Path) (bank : Nat) (st : Status) (dbe : Bool) : State :=
  let w : Word := BitVec.ofNat 32 (st.code + b2n dbe * 2 ^ 8 + bank % 1024 * 2 ^ 9 + 2 ^ 31)
  if p = .mgmt then { s with vlt := { s.vlt with peekMgmt := w } } else { s with vlt := { s.vlt with peekPf0 := w } }

/-- An address of the peek window that the part carries (R199, R203). -/
def State.isPeek (s : State) (a : Nat) : Bool := decide (0x2000000 ≤ a) && decide (a < 0x6000000) && s.hasBank ((a - 0x2000000) / 65536)

/-- A peek access that the bank refuses: owned by DOC or CUR, in handover, or its holder recovers (R189, R191, R327). -/
def State.peekRefuses (s : State) (bank : Nat) : Option Status :=
  let o := s.loanOwner bank
  if o = 12 ∨ o = 13 then some .notOwner
  else if s.loanState bank ≠ 0 then some .retry
  else if s.fenced o then some .retry
  else none

/-- A low-half read of the peek window (R194, R197, R200). -/
def State.peekRead (s : State) (p : Path) (addr : Nat) (meet : Meet) (ecc : Ecc) : State :=
  let x := addr - 0x2000000
  let bank := x / 65536
  let word := x % 65536 / 8
  let refuse := fun (t : State) (st : Status) => (((t.peekStatus p bank st false).setCapt p 0).bus 0)
  match s.peekRefuses bank with
  | some st => refuse s st
  | none =>
    match meetLater meet false with
    | .busy => refuse (s.vltBusy bank) .busy
    | .proceeds =>
      let v := s.vwordN bank word
      let r := s.readEcc bank word 2 ecc
      (((r.1.peekStatus p bank .ok r.2).setCapt p (BitVec.ofNat 32 (v.toNat / 2 ^ 32))).bus (BitVec.ofNat 32 v.toNat))

/-- A high-half write of the peek window commits the word (R196, R197, R200). -/
def State.peekWrite (s : State) (p : Path) (addr : Nat) (hi : Word) (meet : Meet) : State :=
  let x := addr - 0x2000000
  let bank := x / 65536
  let word := x % 65536 / 8
  let v : DWord := BitVec.ofNat 64 ((s.holdReg p).toNat + hi.toNat * 2 ^ 32)
  match s.peekRefuses bank with
  | some st => s.peekStatus p bank st false
  | none =>
    if s.wordLogged bank word then (s.vltBusy bank).peekStatus p bank .busy false
    else
      match meetLater meet true with
      | .proceeds => (s.setVword bank word v).peekStatus p bank .ok false
      | .busy =>
        let s1 := if meet = .read then s.undefineRead bank word else s
        (s1.vltBusy bank).peekStatus p bank .busy false

/-- PEEK_READ (R200): a low-half read; outside the window of the part, or in PF1, the offset is unoccupied and reads 0 (R10). -/
def execPeekRead (path : Path) (addr : Nat) (meet : Meet) (ecc : Ecc) (s : State) : Host.Outcome State Fault Refusal :=
  match path with
  | .pf1 _ => .next (s.bus 0)
  | _ => if s.isPeek addr ∧ addr % 8 = 0 then .next (s.peekRead path addr meet ecc)
         else if s.isPeek addr ∧ addr % 8 = 4 then .next (s.bus (s.capt path)) else .next (s.bus 0)

/-- PEEK_WRITE (R200): a high-half write. -/
def execPeekWrite (path : Path) (addr : Nat) (hi : Word) (meet : Meet) (s : State) : Host.Outcome State Fault Refusal :=
  match path with
  | .pf1 _ => .next s
  | _ => if s.isPeek addr ∧ addr % 8 = 4 then .next (s.peekWrite path addr hi meet) else .next s

end Sys2Proof.Machine
end

