-- ==== Sys2Proof/Machine/Frame.lean ====
section
/-!
DEFINITION. Commands of the frame sequencer and of its BPs: one slot of one BP (R56, R91 to R136), one step-clock cycle (R42), the
duties of the commit steps (R32), halts, faults and boundary holds (R45 to R50).
-/
namespace Sys2Proof.Machine

/-- The partition in which a BP may execute a slot of a class in the cycle now (R42, R59). -/
def State.bpReady (s : State) (cls : Nat → Bool) (bp : Nat) : Option (Fin 8) :=
  (List.finRange 8).find? fun n =>
    let p := s.part n
    s.cycling n && !p.bdone && !p.holdReq && decide (p.step < p.eph.depth) && p.hasBp bp && !p.done.contains bp &&
      cls (wCls (p.slot bp p.step)) && p.absent.isNone

/-- One BP executes its slot of the current step, with what its detectors report (R56, R76, R350). -/
def State.bpStep (s : State) (cls : Nat → Bool) (bp : Nat) (e : BpErr) : State :=
  match s.bpReady cls bp with
  | some n =>
    let p := s.part n
    let k := slotWord bp p.step
    let s1 := s.stackFetch (fun x => x == k) (if e.slotUnc then [k] else [])
    let s2 := if e.slotCorr then s1.slotsCorrected [bp] else s1
    s2.modPart n fun p => p.execSlot bp e
  | none => s

/-- A BP row: the slot's class must be the row's. -/
def bpRow (cls : Nat → Bool) (bp : BpAddr) (e : BpErr) (s : State) : Host.Outcome State Fault Refusal :=
  guardUnit s (s.hasDie (bp.toNat / 65536)) (s.bpStep cls bp.toNat e)

/-- EVAL (R91). -/
def execEval (bp : BpAddr) (e : BpErr) (s : State) : Host.Outcome State Fault Refusal := bpRow (· == 0) bp e s
/-- HOLD (R92). -/
def execHold (bp : BpAddr) (e : BpErr) (s : State) : Host.Outcome State Fault Refusal := bpRow (· == 1) bp e s
/-- LATCH (R94). -/
def execLatch (bp : BpAddr) (e : BpErr) (s : State) : Host.Outcome State Fault Refusal := bpRow (· == 2) bp e s
/-- VPUT (R115). -/
def execVput (bp : BpAddr) (e : BpErr) (s : State) : Host.Outcome State Fault Refusal := bpRow (· == 3) bp e s
/-- VGET (R116). -/
def execVget (bp : BpAddr) (e : BpErr) (s : State) : Host.Outcome State Fault Refusal := bpRow (· == 4) bp e s
/-- XPUT (R125). -/
def execXput (bp : BpAddr) (e : BpErr) (s : State) : Host.Outcome State Fault Refusal := bpRow (· == 5) bp e s
/-- XGET (R126). -/
def execXget (bp : BpAddr) (e : BpErr) (s : State) : Host.Outcome State Fault Refusal := bpRow (· == 6) bp e s
/-- IPUT (R129). -/
def execIput (bp : BpAddr) (e : BpErr) (s : State) : Host.Outcome State Fault Refusal := bpRow (· == 7) bp e s
/-- IGET (R112). -/
def execIget (bp : BpAddr) (e : BpErr) (s : State) : Host.Outcome State Fault Refusal := bpRow (· == 8) bp e s
/-- STOP (R96). -/
def execStop (bp : BpAddr) (e : BpErr) (s : State) : Host.Outcome State Fault Refusal := bpRow (· == 9) bp e s
/-- MARK (R100). -/
def execMark (bp : BpAddr) (e : BpErr) (s : State) : Host.Outcome State Fault Refusal := bpRow (· == 10) bp e s
/-- NOP (R101). -/
def execNop (bp : BpAddr) (e : BpErr) (s : State) : Host.Outcome State Fault Refusal := bpRow (· == 15) bp e s
/-- A reserved class (R48): the fault is taken at the end of the step. -/
def execReservedClass (bp : BpAddr) (e : BpErr) (s : State) : Host.Outcome State Fault Refusal :=
  bpRow (fun c => decide (11 ≤ c) && decide (c ≤ 14)) bp e s

/-- STEP_CYCLE (R42). -/
def execStepCycle (n : Fin 8) (env : StepEnv) (s : State) : Host.Outcome State Fault Refusal := .next (s.seqCycle n env)

/-- A cycle at commit step Ck only. -/
def State.cycleAt (s : State) (n : Fin 8) (k : Nat) (env : StepEnv) : State :=
  if (s.part n).step = (s.part n).eph.depth + k then s.seqCycle n env else s

/-- C0 to C2 (R146). -/
def execLatticeDrain (n : Fin 8) (env : StepEnv) (s : State) : Host.Outcome State Fault Refusal :=
  .next (((s.cycleAt n 0 env).cycleAt n 1 env).cycleAt n 2 env)
/-- C3 (R32). -/
def execVitrineExchange (n : Fin 8) (s : State) : Host.Outcome State Fault Refusal := .next (s.cycleAt n 3 {})
/-- C4 (R49). -/
def execDepositsApplied (n : Fin 8) (s : State) : Host.Outcome State Fault Refusal := .next (s.cycleAt n 4 {})
/-- C5 (R283). -/
def execTapRecordsClosed (n : Fin 8) (s : State) : Host.Outcome State Fault Refusal := .next (s.cycleAt n 5 {})
/-- C6 and C7 (R97). -/
def execErrorGather (n : Fin 8) (s : State) : Host.Outcome State Fault Refusal := .next ((s.cycleAt n 6 {}).cycleAt n 7 {})
/-- C8 (R243). -/
def execVoteSend (n : Fin 8) (s : State) : Host.Outcome State Fault Refusal := .next (s.cycleAt n 8 {})
/-- C9 (R33). -/
def execCommitDecision (n : Fin 8) (s : State) : Host.Outcome State Fault Refusal := .next (s.cycleAt n 9 {})
/-- C10 and C11 (R33, R35). -/
def execShadowCopy (n : Fin 8) (env : StepEnv) (s : State) : Host.Outcome State Fault Refusal :=
  .next ((s.cycleAt n 10 env).cycleAt n 11 env)
/-- C12 (R310). -/
def execRelease (n : Fin 8) (s : State) : Host.Outcome State Fault Refusal := .next (s.cycleAt n 12 {})
/-- C13 (R516). -/
def execTallyUpdate (n : Fin 8) (s : State) : Host.Outcome State Fault Refusal := .next (s.cycleAt n 13 {})
/-- C14 (R30). -/
def execCounterUpdate (n : Fin 8) (s : State) : Host.Outcome State Fault Refusal := .next (s.cycleAt n 14 {})
/-- C15 and the tick (R29). -/
def execFrameTick (n : Fin 8) (s : State) : Host.Outcome State Fault Refusal := .next (s.cycleAt n 15 {})

/-- The tick at which a halt of a given cause is pending. -/
def State.haltTick (s : State) (n : Fin 8) (h : Halt) : State :=
  if (s.part n).haltPend.contains h then s.cycleAt n 15 {} else s

/-- FRAME_LIMIT (R31). -/
def execFrameLimit (n : Fin 8) (s : State) : Host.Outcome State Fault Refusal := .next (s.haltTick n .frameLimit)
/-- RUN_FRAMES_EXPIRY (R46). -/
def execRunFramesExpiry (n : Fin 8) (s : State) : Host.Outcome State Fault Refusal := .next (s.haltTick n .runFrames)

/-- STALL_LIMIT (R45): the count stands at the limit and the items are still absent. -/
def execStallLimit (n : Fin 8) (s : State) : Host.Outcome State Fault Refusal :=
  let p := s.part n
  if p.stallLen ≠ 0 ∧ p.limit ≠ 0 ∧ p.limit ≤ p.stallLen ∧ (s.absentAt n).isSome then .next (s.seqCycle n {}) else .next s

/-- STALL_LONG (R52): the stall step in which a stall reaches FRM_STALL_WARN. -/
def execStallLong (n : Fin 8) (s : State) : Host.Outcome State Fault Refusal :=
  if s.warnDue n ∧ (s.absentAt n).isSome then .next (s.seqCycle n {}) else .next s

/-- ABORT_LIMIT (R47): the tick after the limiting abort. -/
def execAbortLimit (n : Fin 8) (s : State) : Host.Outcome State Fault Refusal :=
  if (s.part n).faultPend.isSome then .next (s.cycleAt n 15 {}) else .next s

/-- A boundary hold ends. -/
def State.endHold (s : State) (n : Fin 8) (f : BHold → Bool) : State :=
  s.modPart n fun p => { p with bholds := p.bholds.filter fun h => !f h }

/-- STALE_READS_RETURNED (R122). -/
def execStaleReadsReturned (n : Fin 8) (s : State) : Host.Outcome State Fault Refusal :=
  if (s.part n).reads.any (·.stale) then .next s else .next (s.endHold n fun h => h == .stale)

/-- WRITEBACK_HOLD_END (R195). -/
def execWritebackHoldEnd (n : Fin 8) (s : State) : Host.Outcome State Fault Refusal :=
  .next (s.endHold n fun h => match h with | .writeback _ => true | _ => false)

/-- HELD_SHARE_FREED (R226). -/
def execHeldShareFreed (n : Fin 8) (s : State) : Host.Outcome State Fault Refusal :=
  if s.sharesFree n then .next (s.endHold n fun h => h == .share) else .next s

end Sys2Proof.Machine
end

