-- ==== Sys2Proof/Machine/Packet.lean ====
section
/-!
DEFINITION. Packets of the NoC that arrive at endpoints (R204 to R217), links and routers out of service (R207, R351), and the
depot ports (R219 to R226).
-/
namespace Sys2Proof.Machine

/-- Routers of unit endpoints (R209): whether endpoint `ep` stands at packed tile `t`. -/
def unitAt (t ep : Nat) : Bool :=
  match ep with
  | 4 | 5 => true
  | 9 => t == 0
  | 10 => t == 8
  | 11 => t % 64 == 27
  | 12 => t % 64 == 36
  | 13 => t == 16
  | 14 => t % 64 == 28
  | _ => false

/-- The depot port whose attach router is a tile, if one in use is (R209). -/
def State.portAt (s : State) (t : Nat) : Option (Fin 8) :=
  (List.finRange 8).find? fun i => s.portState i != 0 && s.fld (Reg.DEP_PORT_STATE i) 16 8 == t

/-- Packed bank address of a bank endpoint (R209). -/
def bankAt (dest ep : Nat) : Nat := dest / 64 * 256 + 4 * (dest % 64) + ep

/-- A request packet arrives at its endpoint (R208 to R210): a bank, a depot port, a unit, or nothing that is listed.  A unit's read
returns what no rule lays out; a write with a flit in error is not performed (R216). -/
def State.requestAt (s : State) (p : Pkt) (credited : Bool) : State :=
  if p.ep < 4 then s.bankArrive (bankAt p.dest p.ep) p credited
  else if p.ep = 8 then
    match s.portAt p.dest with
    | some i => s.setPort i { s.port i with arrived := (s.port i).arrived ++ [p] }
    | none => s.respond p .range false []
  else if unitAt p.dest p.ep then
    if p.op = 0 then
      { s with freeCtr := s.freeCtr + p.words }.respond p .ok false
        ((List.range p.words).map fun i => Config.freeWord (s.freeCtr + i))
    else if p.derr then s.respond p .ok true []
    else { s with noc := { s.noc with msgs := s.noc.msgs ++ [p] } }.respond p .ok false []
  else s.respond p .range false []

/-- A packet reaches its destination: a route is open (R205, R207) and the endpoints of its tile are not lost (R351). -/
def State.reaches (s : State) (p : Pkt) : Bool := s.fld (Reg.SPR_TILE p.dest) 6 1 == 0 && (s.route p).isSome

/-- A request is lost on its way (R216): its landing entry waits for the timeout. -/
def State.loseReq (s : State) (p : Pkt) : State :=
  { s with noc := { s.noc with landing := s.noc.landing.map fun l =>
      if l.src == p.src && l.sep == p.sep && l.tag == p.tag then { l with lost := true } else l } }

/-- A request arrives (R213, R216) and spends its credit; one whose header is in error is dropped. -/
def State.arriveReq (s : State) (p : Pkt) (hdrBad : Bool) : State :=
  let s1 := s.takePkt p
  if hdrBad || !s.reaches p then s1.loseReq p
  else (s1.spendCredit p.creditKey).requestAt p ((s1.creditOf p.creditKey).used != 0)

/-- A request of an opcode; a packet of another opcode or class is none (R210). -/
def State.arriveOp (s : State) (op : Nat) (p : Pkt) (hdrBad : Bool) : Host.Outcome State Fault Refusal :=
  guardUnit s (s.hasDie (p.dest / 64)) (if p.isOp op then s.arriveReq p hdrBad else s)

/-- READ (R210). -/
def execRead (pkt : Pkt) (hdrBad : Bool) (s : State) : Host.Outcome State Fault Refusal := s.arriveOp 0 pkt hdrBad

/-- WRITE (R210). -/
def execWrite (pkt : Pkt) (hdrBad : Bool) (s : State) : Host.Outcome State Fault Refusal := s.arriveOp 1 pkt hdrBad

/-- A request that an endpoint does not take is refused with RANGE (R209). -/
def State.refuseAt (s : State) (p : Pkt) (hdrBad : Bool) : State :=
  let s1 := s.takePkt p
  if hdrBad || !s.reaches p then s1.loseReq p else (s1.spendCredit p.creditKey).respond p .range false []

/-- CFG_WRITE (R210, R396): taken by a tile configuration endpoint. -/
def execCfgWrite (a : Arrival) (s : State) : Host.Outcome State Fault Refusal :=
  if a.pkt.ep = 5 then s.arriveOp 2 a.pkt a.hdrBad
  else guardUnit s (s.hasDie (a.pkt.dest / 64)) (if a.pkt.isOp 2 then s.refuseAt a.pkt a.hdrBad else s)

/-- MSG (R210): taken by a unit endpoint. -/
def execMsg (a : Arrival) (s : State) : Host.Outcome State Fault Refusal :=
  if unitAt a.pkt.dest a.pkt.ep then s.arriveOp 3 a.pkt a.hdrBad
  else guardUnit s (s.hasDie (a.pkt.dest / 64)) (if a.pkt.isOp 3 then s.refuseAt a.pkt a.hdrBad else s)

/-- Entries of an endpoint's request queue in use (R214): a unit performs a request as it arrives, and CTRL-class requests have
entries of their own. -/
def State.queueUsed (s : State) (k : CreditKey) : Nat :=
  if k.ctrl then 0
  else if k.ep < 4 then (s.vlt.qNoc.filter fun q => q.bank == bankAt k.dest k.ep).length
  else if k.ep = 8 then (match s.portAt k.dest with | some i => (s.port i).arrived.length + (s.port i).queue.length | none => 0)
  else 0

/-- Entries of an endpoint's request queue (R214): 16 of a bank, 64 of another, and 4 for CTRL-class requests. -/
def CreditKey.capacity (k : CreditKey) : Nat := if k.ctrl then 4 else if k.ep < 4 then 16 else 64

/-- Credits of an endpoint that are held, used or on their way (R213). -/
def State.creditsOut (s : State) (k : CreditKey) : Nat :=
  ((s.noc.credits.filter fun c => c.key.dest == k.dest && c.key.ep == k.ep && c.key.ctrl == k.ctrl).map fun c => c.free + c.used).foldl (· + ·) 0 +
    ((s.noc.pkts.filter fun f => f.pkt.op == 10 && f.pkt.src == k.dest && f.pkt.sep == k.ep && f.pkt.wmask == b2n k.ctrl).map fun f => f.pkt.addr).foldl (· + ·) 0

/-- A bank in handover, or of a recovering partition, grants nothing (R189, R327). -/
def State.grantsNone (s : State) (dest ep : Nat) : Bool :=
  if ep < 4 then s.loanState (bankAt dest ep) != 0 || s.fenced (s.loanOwner (bankAt dest ep)) else false

/-- What an endpoint's credit unit grants (R213): the credits asked for when the queue has room for them, else none. -/
def State.grant (s : State) (k : CreditKey) (want : Nat) : Nat :=
  if want ≤ k.capacity - s.queueUsed k - s.creditsOut k ∧ s.grantsNone k.dest k.ep = false then want else 0

/-- The credit unit answers an ask (R211, R213, R215): the CREDIT_REPLY, with the request's age, lands in the entry the ask reserved. -/
def State.grantReply (s : State) (a : Ask) : State :=
  let n := s.grant a.key a.want
  s.sendPkt (creditPkt 10 a.key n a.tag a.age (if n = 0 then Status.code .retry else 0))

/-- The CREDIT_REQ of a key that is on its way. -/
def State.heldReq (s : State) (op : Nat) (k : CreditKey) : Option Pkt :=
  (s.noc.pkts.find? fun f => f.pkt.op == op && f.pkt.dest == (creditPkt op k 0 0 0 0).dest && f.pkt.ep == (creditPkt op k 0 0 0 0).ep &&
    f.pkt.src == (creditPkt op k 0 0 0 0).src && f.pkt.sep == (creditPkt op k 0 0 0 0).sep && f.pkt.wmask == b2n k.ctrl).map (·.pkt)

/-- A CREDIT_REQ reaches its endpoint (R213): one that is on its way, or one that a unit sends now, asking anew or again. -/
def State.creditReq (s : State) (k : CreditKey) (want : Nat) (hdrBad : Bool) : State :=
  match s.heldReq 4 k with
  | some p =>
    let s1 := s.takePkt p
    if hdrBad then s1 else (match s.askOf k.src k.sep p.tag with | some a => s1.grantReply a | none => s1)
  | none =>
    match s.askCredit k want with
    | (s1, some a) => if hdrBad then s1 else s1.grantReply a
    | (s1, none) => s1

/-- CREDIT_REQ (R213): `ctrl` asks for an entry of CTRL-class requests. -/
def execCreditReq (src : BitVec 8) (sep : Fin 16) (dest : BitVec 8) (ep : Fin 16) (want : CreditAsk) (s : State) :
    Host.Outcome State Fault Refusal :=
  guardUnit s (s.hasDie (src.toNat / 64) && s.hasDie (dest.toNat / 64)) (s.creditReq ⟨src.toNat, sep.val, dest.toNat, ep.val, want.ctrl⟩ want.credits want.hdrBad)

/-- An interface gains credits. -/
def State.addCredit (s : State) (k : CreditKey) (n : Nat) : State :=
  let c := s.creditOf k
  if n = 0 then s else s.setCredit { c with free := c.free + n }

/-- RETRY reaches the unit that asked (R213): the tile interface asks again; another unit learns it, and its request keeps its age. -/
def State.askRetry (s : State) (a : Ask) : State :=
  match a.pkt with
  | some _ => s.sendPkt (creditPkt 4 a.key a.want a.tag a.age 0)
  | none =>
    let s1 := s.setAsks (s.noc.asks.map fun x => if x == a then { a with refused := true } else x)
    { s1 with noc := { s1.noc with landed := s1.noc.landed ++ [(⟨a.key.src, a.key.sep, a.tag, Status.code .retry, false, []⟩ : Landed)] } }

/-- A unit's request leaves on a credit it holds unused (R213), if it holds one and the request has a landing entry. -/
def State.tryLeave (s : State) (k : CreditKey) (req : Pkt) (age : Nat) : State :=
  let r := { req with src := k.src, sep := k.sep, dest := k.dest, ep := k.ep, age := age }
  if (s.creditOf k).free ≠ 0 ∧ s.mayLeave r = true ∧ r.creditKey = k then s.leave r else s

/-- A CREDIT_REPLY lands (R211, R213): the request leaves with the age it has by then, or the unit receives RETRY.  With no reply on
its way the interface sends a request on a credit it holds. -/
def State.creditReply (s : State) (k : CreditKey) (req : Pkt) (hdrBad : Bool) : State :=
  match s.heldReq 10 k with
  | none => s.tryLeave k req 0
  | some p =>
    let s1 := s.takePkt p
    if hdrBad then s1
    else
      match s1.askOf k.src k.sep p.tag with
      | none => s1.addCredit k p.addr
      | some a =>
        if p.addr = 0 then s1.askRetry a
        else ((s1.setAsks (s1.noc.asks.erase a)).addCredit k p.addr).tryLeave k (a.pkt.getD req) a.age

/-- CREDIT_REPLY (R213). -/
def execCreditReply (src : BitVec 8) (sep : Fin 16) (dest : BitVec 8) (ep : Fin 16) (req : Arrival) (s : State) :
    Host.Outcome State Fault Refusal :=
  guardUnit s (s.hasDie (src.toNat / 64) && s.hasDie (dest.toNat / 64)) (s.creditReply ⟨src.toNat, sep.val, dest.toNat, ep.val, req.pkt.cls == 0⟩ req.pkt req.hdrBad)

/-- CREDIT_RETURN (R213): unused credits go back. -/
def execCreditReturn (src : BitVec 8) (sep : Fin 16) (dest : BitVec 8) (ep : Fin 16 × Bool) (s : State) :
    Host.Outcome State Fault Refusal :=
  guardUnit s (s.hasDie (src.toNat / 64) && s.hasDie (dest.toNat / 64))
    (s.setCredit { s.creditOf ⟨src.toNat, sep.val, dest.toNat, ep.1.val, ep.2⟩ with free := 0 })

/-- An age one tick later (R211). -/
def olderAge (a : Nat) : Nat := min 1023 (a + 1)

/-- AGE_TICK (R211): every packet held in a router ages, and every request that waits for its credit. -/
def execAgeTick (s : State) : Host.Outcome State Fault Refusal :=
  .next { s with noc := { s.noc with pkts := s.noc.pkts.map fun f => { f with pkt := { f.pkt with age := olderAge f.pkt.age } },
                                     asks := s.noc.asks.map fun a => { a with age := olderAge a.age } } }

/-- The depot-backed read of a schedule that a response answers: partition and read. -/
def State.readOf (s : State) (tile tag : Nat) : Option (Fin 8 × VRead) :=
  (List.finRange 8).findSome? fun n =>
    ((s.part n).reads.find? fun r => !r.onChip && !r.arrived && r.port / 4 == tile && r.tag == tag).map fun r => (n, r)

/-- Late reads, and on-chip reads that wait for one, are written into VD in the cycle in which they can be: in order of issue, those of
a BP none of whose due reads is still out (R43, R118, R121). -/
def Part.deliverLate (p : Part) : Part :=
  let due := fun (r : VRead) => if r.onChip then decide (r.due < p.step) else !r.stale && decide (r.due ≤ p.step)
  let now := p.reads.filter fun r => due r && !(p.reads.any fun x => due x && x.bp == r.bp && !x.arrived)
  now.foldl Part.deliver { p with reads := p.reads.filter fun r => !now.contains r }

/-- The response of a depot-backed read arrives at its tile (R118, R122, R217). -/
def State.landRead (s : State) (n : Fin 8) (r : VRead) (st : Nat) (derr : Bool) (data : List DWord) : State :=
  s.modPart n fun p =>
    if r.stale then { p with reads := p.reads.erase r }
    else
      let v := if st = 0 then maskWidth r.width (data.headD 0) else 0
      Part.deliverLate { p with reads := p.reads.map fun x =>
        if x == r then { x with arrived := true, derr := derr || st != 0, data := v } else x }

/-- A landing entry is freed. -/
def State.freeEntry (s : State) (src sep tag : Nat) : State :=
  { s with noc := { s.noc with landing := s.noc.landing.filter fun l => !(l.src == src && l.sep == sep && l.tag == tag) } }

/-- A response lands at an interface (R213, R217): one without a landing entry is discarded. -/
def State.land (s : State) (src sep tag st : Nat) (derr : Bool) (data : List DWord) : State :=
  if s.noc.landing.any fun l => l.src == src && l.sep == sep && l.tag == tag then
    let s1 := s.freeEntry src sep tag
    { s1 with noc := { s1.noc with landed := s1.noc.landed ++ [(⟨src, sep, tag, st, derr, data⟩ : Landed)] } }
  else s

/-- A response arrives (R215 to R217). -/
def State.arriveRsp (s : State) (p : Pkt) (hdrBad : Bool) : State :=
  let s1 := s.takePkt p
  if hdrBad || !s.reaches p then s1
  else if p.ep = 4 ∧ p.op = 8 then
    let s2 := s1.freeEntry p.dest 4 p.tag
    match s1.readOf p.dest p.tag with
    | some (n, r) => s2.landRead n r p.status p.derr p.data
    | none => s2
  else s1.land p.dest p.ep p.tag p.status p.derr p.data

/-- READ_DATA (R210). -/
def execReadData (pkt : Pkt) (hdrBad : Bool) (s : State) : Host.Outcome State Fault Refusal :=
  guardUnit s (s.hasDie (pkt.dest / 64)) (if pkt.isOp 8 then s.arriveRsp pkt hdrBad else s)

/-- WRITE_DONE (R210). -/
def execWriteDone (pkt : Pkt) (hdrBad : Bool) (s : State) : Host.Outcome State Fault Refusal :=
  guardUnit s (s.hasDie (pkt.dest / 64)) (if pkt.isOp 9 then s.arriveRsp pkt hdrBad else s)

/-- A response of a node with an error, or a request timed out, is counted (R229). -/
def State.nodeErr (s : State) (i : Fin 8) (status : Nat) : State :=
  (s.addFld (Reg.DEP_NODE_ERR i) 0 16 1).setFld (Reg.DEP_NODE_ERR i) 16 8 status

/-- A timeout of a request to a depot port is counted there (R229). -/
def State.timeoutCount (s : State) (dest ep : Nat) : State :=
  if ep = 8 then (match s.portAt dest with | some i => s.nodeErr i 0xFF | none => s) else s

/-- A request's response has not landed in time (R217): DERR, BUSY and zero data at its source; the landing entry and, of a request that
was lost, the credit are freed.  A CREDIT_REQ is a request too (R210). -/
def State.nocTimeout (s : State) (src sep tag : Nat) : State :=
  let l? := s.noc.landing.find? fun l => l.src == src && l.sep == sep && l.tag == tag
  let s1 := match l? with
    | some l => if l.lost then s.spendCredit ⟨src, sep, l.dest, l.ep, l.ctrl⟩ else s
    | none => s
  match s.readOf src tag, decide (sep = 4) with
  | some (n, r), true =>
    let s2 := (s1.setAsks (s1.noc.asks.filter fun a => !(a.key.src == src && a.key.sep == 4 && a.tag == tag))).freeEntry src 4 tag
    (s2.landRead n r (Status.code .busy) true [0]).nodeErr (entryPort (s.depotEntry (depotSeg r.addr))) 0xFF
  | _, _ =>
    match l? with
    | some l => (s1.land src sep tag (Status.code .busy) true [0]).timeoutCount l.dest l.ep
    | none =>
      match s.askOf src sep tag with
      | some a =>
        let s2 := s1.setAsks (s1.noc.asks.erase a)
        { s2 with noc := { s2.noc with landed := s2.noc.landed ++ [(⟨src, sep, tag, Status.code .busy, true, [0]⟩ : Landed)] } }
      | none => s1

/-- NOC_TIMEOUT (R217). -/
def execNocTimeout (src : BitVec 8) (sep : Fin 16) (tag : BitVec 8) (s : State) : Host.Outcome State Fault Refusal :=
  guardUnit s (s.hasDie (src.toNat / 64)) (s.nocTimeout src.toNat sep tag.toNat).depotMapDue

/-- The expected generation of a link or router rises at its receivers (R346): link key tile × 4 + direction, router 1,024 + tile. -/
def State.nocGen (s : State) (key : Nat) : State :=
  { s with spr := { s.spr with expNoc := mset dNat s.spr.expNoc key ((mget dNat s.spr.expNoc key + 1) % 16) } }

/-- A NoC link is out of service at both its routers (R207, R346). -/
def State.linkOut (s : State) (t dir : Nat) : State :=
  let u := s.neighbour t dir
  (((s.setFld (Reg.NOC_LINKS t) dir 1 0).setFld (Reg.NOC_LINKS u) (opposite dir) 1 0).nocGen (t * 4 + dir)).nocGen (u * 4 + opposite dir)

/-- Links of the ring that a router's link belongs to which are out of service, named by the router on their negative side. -/
def State.ringOut (s : State) (t dir : Nat) : List Nat :=
  if dir < 2 then (List.range 16).filter fun x => s.fld (Reg.NOC_LINKS (nocTile x (nocY t))) 0 1 == 0
  else (List.range s.dimY).filter fun y => s.fld (Reg.NOC_LINKS (nocTile (nocX t) y)) 2 1 == 0

/-- A partition loses a tile (R351): it enters FAULT, and its recovery fails with NO_SPARE. -/
def State.withdraw (s : State) (t : Nat) : State :=
  let s1 := s.setFld (Reg.SPR_TILE t) 6 1 1
  match s1.tileHolder t with
  | some n =>
    if (s1.part n).state = .fault then s1
    else
      let s2 := s1.enterFault n .abortLimit 0 0 (s1.part n).cur
      match (s2.ck n).recov with
      | some r => s2.recoveryFail n r.cause r.frame r.aborts r.since 3 r.units
      | none => s2
  | none => s1

/-- Fence a router (R351): its two links in the ring are out, its bypass joins its neighbours, and its tile is withdrawn. -/
def State.fenceRouter (s : State) (t : Nat) : State :=
  ((s.setFld (Reg.NOC_LINKS t) 4 1 0).nocGen (1024 + t)).withdraw t

/-- A second failed link of a ring that shares no router with the first splits the ring (R351). -/
def State.linkFails (s : State) (t dir : Nat) : State :=
  if s.fld (Reg.NOC_LINKS t) dir 1 = 0 then s
  else
    let other := s.fld (Reg.NOC_LINKS t) (opposite dir) 1 = 0 ∨ s.fld (Reg.NOC_LINKS (s.neighbour t dir)) dir 1 = 0
    let s1 := s.linkOut t dir
    if (s.ringOut t dir).isEmpty ∨ other then s1 else s1.setFld Reg.SPR_STATUS 17 1 1

/-- LINK_OUT_OF_SERVICE (R207, R351). -/
def execLinkOutOfService (tile : BitVec 8) (dir : Fin 4) (s : State) : Host.Outcome State Fault Refusal :=
  guardUnit s (s.hasDie (tile.toNat / 64)) (s.linkFails tile.toNat dir)

/-- ROUTER_FENCE (R351): both links of the router in one ring have failed. -/
def execRouterFence (tile : BitVec 8) (dir : Fin 4) (s : State) : Host.Outcome State Fault Refusal :=
  guardUnit s (s.hasDie (tile.toNat / 64))
    (if s.fld (Reg.NOC_LINKS tile.toNat) 4 1 = 0 ∨ s.fld (Reg.NOC_LINKS tile.toNat) (opposite dir) 1 = 1 then s
     else (s.linkOut tile.toNat dir).fenceRouter tile.toNat)

/-- Depot ports the part carries (R230). -/
def State.hasPort (s : State) (i : Nat) : Bool := decide (i < if s.variant = .d then 4 else 8)

/-- A message that attaches a port (R221, R223): 6 ECHO, 8 INFO_REQ. -/
def probeMsg (type tag : Nat) : DMsg := { type := type, tag := tag, len := 0, nodeAddr := 0, wmask := 0, data := [] }

/-- DEPOT_ATTACH (R223): once the lanes of the port's quad are in service, the first ECHO is sent. -/
def execDepotAttach (port : Fin 8) (s : State) : Host.Outcome State Fault Refusal :=
  guardUnit s (s.hasPort port)
    (if s.portState port = 1 ∧ s.fld (Reg.LANE_QUAD (s.fld (Reg.DEP_PORT_STATE port) 8 5)) 10 4 = 15 then
       (s.setPort port { s.port port with echoes := 0, bestRtt := 0xFFFF, probe := some (probeMsg 6 0), wire := [probeMsg 6 0] }).setPortState port 2
     else s)

/-- DEPOT_ECHO_REPLY (R223): the smallest round trip less the node's turnaround, over 16 ECHOs; the next ECHO is sent, or INFO_REQ. -/
def execDepotEchoReply (port : Fin 8) (roundTrip turn : Nat) (s : State) : Host.Outcome State Fault Refusal :=
  guardUnit s (s.hasPort port)
    (let p := s.port port
     if s.portState port = 2 ∧ p.echoes < 16 then
       let best := min p.bestRtt (roundTrip - turn)
       let next := if p.echoes + 1 = 16 then probeMsg 8 16 else probeMsg 6 (p.echoes + 1)
       let s1 := s.setPort port { p with echoes := p.echoes + 1, bestRtt := best, probe := some next, wire := p.wire ++ [next] }
       if p.echoes + 1 = 16 then s1.setFld (Reg.DEP_PORT_RTT port) 0 16 best else s1
     else s)

/-- DEPOT_INFO (R223). -/
def execDepotInfo (port : Fin 8) (tNode : BitVec 16) (gib : BitVec 24) (s : State) : Host.Outcome State Fault Refusal :=
  guardUnit s (s.hasPort port)
    (if s.portState port = 2 ∧ (s.port port).echoes = 16 then
       ((((s.setPort port { s.port port with probe := none }).setFld (Reg.DEP_NODE port) 0 16 tNode.toNat).setFld (Reg.DEP_NODE_CAP port) 0 24 gib.toNat).setPortState port 3).cfgAdvance
     else s)

/-- Answer a request that a port gives up with DERR (R223). -/
def State.giveUp (s : State) (r : DReq) : State :=
  match r.pkt with
  | some p => s.respond p .ok true (if p.op = 1 then [] else List.replicate p.words 0)
  | none => s

/-- A port enters FAULT (R223): every outstanding request completes with DERR, held writes that were sent leave. -/
def State.portFault (s : State) (i : Fin 8) : State :=
  let p := s.port i
  let s1 := (s.setPortState i 4).setPort i
    { p with probe := none, outst := [], queue := [], wire := [], held := p.held.filter fun h => !h.sent }
  ((p.outst ++ p.queue).foldl State.giveUp s1).depotMapDue

/-- DEPOT_INFO_TIMEOUT (R223, R397). -/
def execDepotInfoTimeout (port : Fin 8) (s : State) : Host.Outcome State Fault Refusal :=
  guardUnit s (s.hasPort port)
    (if s.portState port = 2 ∧ (s.port port).echoes = 16 then
       let s1 := s.portFault port
       (if s1.configuring then s1.cfgFail 5 8 0 0 else s1).cfgAdvance
     else s)

/-- Depot words of a request packet: addresses of its words, from the 32-byte unit on when it names whole flits. -/
def Pkt.depotWords (p : Pkt) (write : Bool) : List Nat :=
  let n := if write then p.data.length else p.words
  if n = 1 then [p.addr / 8 * 8] else (List.range n).map fun k => p.addr / 32 * 32 + 8 * k

/-- The partition and frame of a schedule's read, by which a share entry is seen (R225). -/
def State.readerOf (s : State) (p : Pkt) : Option (Nat × Nat) :=
  if p.sep = 4 then (s.readOf p.src p.tag).map fun x => (x.1.val, x.2.frame) else none

/-- A read at a depot port (R223, R225): a word that a share entry serves comes from it; the rest from the node. -/
def State.depotRead (s : State) (i : Fin 8) (p : Pkt) : State :=
  let who := s.readerOf p
  let ws := (p.depotWords false).map fun a => (s.port i).heldFor a who
  if ws.all Option.isSome then s.respond p .ok false (ws.map fun w => w.getD 0)
  else s.setPort i ((s.port i).submit ⟨depotReadMsg (s.nodeOf p.addr) p.words, some p, none, p.addr, ws⟩)

/-- A write at a depot port (R223, R225): BUSY on a word that holds a share entry.  The node's WRITE enables whole words (R221), so a
partial write (R208) reads them from the node first (the spec does not say how a port performs one; DESIGN CHOICE, log entry 133). -/
def State.depotWrite (s : State) (i : Fin 8) (p : Pkt) : State :=
  let as := ((p.depotWords true).zip (List.range p.data.length)).filter fun (x : Nat × Nat) => bitOf p.wmask x.2
  if p.derr then s.respond p .ok true []
  else if as.any fun x => (s.port i).hasEntry x.1 then s.respond p .busy false []
  else
    let m := if p.bmask = 255 then depotWriteMsg (s.nodeOf p.addr) p.wmask p.data else depotReadMsg (s.nodeOf p.addr) p.data.length
    s.setPort i ((s.port i).submit ⟨m, some p, none, p.addr, []⟩)

/-- The segment belongs to a recovering partition, whose segments answer RETRY but to the Curator and the checkpoint engine (R327). -/
def State.segFenced (s : State) (p : Pkt) : Bool :=
  let e := s.depotEntry (depotSeg p.addr)
  bitsAt e 0 1 == 1 && s.fenced (bitsAt e 1 4) && p.owner != .cur && p.sep != 14

/-- DEPOT_REQUEST (R220, R223 to R225): the oldest request at the port is checked against the map. -/
def State.depotRequest (s : State) (i : Fin 8) : State :=
  let q := s.port i
  match q.arrived with
  | [] => s
  | p :: r =>
    let s1 := s.setPort i { q with arrived := r }
    let st := s.depotCheck p.owner p.addr (p.op == 1)
    if s1.segFenced p then s1.respond p .retry false []
    else if st ≠ .ok then (s1.depotRefuse p.owner p.addr (p.op == 1)).respond p st false []
    else if p.op = 1 then s1.depotWrite i p else s1.depotRead i p

/-- DEPOT_REQUEST. -/
def execDepotRequest (port : Fin 8) (s : State) : Host.Outcome State Fault Refusal := guardUnit s (s.hasPort port) (s.depotRequest port).depotMapDue

/-- Word k of a packet's words in the node's data: of a single word its place in the unit. -/
def Pkt.nodeWord (p : Pkt) (count : Nat) (data : List DWord) (k : Nat) : DWord :=
  if count = 1 then data.getD (p.addr / 8 % 4) (data.headD 0) else data.getD k 0

/-- The words of a read as its requester receives them: share entries over the node's data. -/
def DReq.words (r : DReq) (p : Pkt) (data : List DWord) : List DWord :=
  (List.range p.words).map fun k => ((r.serve.getD k none).getD (p.nodeWord p.words data k))

/-- The words of a partial write: the enabled bytes over the node's data (R208). -/
def Pkt.merged (p : Pkt) (data : List DWord) : List DWord :=
  (p.data.zip (List.range p.data.length)).map fun (x : DWord × Nat) => mergeBytes (p.nodeWord p.data.length data x.2) x.1 p.bmask

/-- READ_DATA of a node (R222): completes the transaction, with DERR on a bad status; without an outstanding request it is discarded.
What a partial write has read is merged and written. -/
def State.nodeData (s : State) (i : Fin 8) (tag status : Nat) (data : List DWord) : State :=
  let q := s.port i
  match q.outst.find? (fun r => r.msg.tag == tag && r.msg.type == 1) with
  | some r =>
    let s1 := s.setPort i { q with outst := q.outst.erase r }
    let s2 := if status = 0 then s1 else s1.nodeErr i status
    match r.pkt with
    | some p =>
      if p.op = 0 then s2.respond p .ok (status != 0) (r.words p data)
      else if status ≠ 0 then s2.respond p .ok true []
      else s2.setPort i ((s2.port i).submit { r with msg := depotWriteMsg (s2.nodeOf p.addr) p.wmask (p.merged data) })
    | none => s2
  | none => s

/-- DEPOT_READ_DATA (R222). -/
def execDepotReadData (port : Fin 8) (tag : Nat) (status : Fin 3) (data : List DWord) (s : State) : Host.Outcome State Fault Refusal :=
  guardUnit s (s.hasPort port) (s.nodeData port tag status data).depotMapDue

/-- WRITE_ACK of a node (R222, R224): completes the transaction, or frees the held write it was sent for. -/
def State.nodeAck (s : State) (i : Fin 8) (tag status : Nat) : State :=
  let q := s.port i
  match q.outst.find? (fun r => r.msg.tag == tag && r.msg.type == 2) with
  | some r =>
    let s1 := s.setPort i { q with outst := q.outst.erase r }
    let s2 := if status = 0 then s1 else s1.nodeErr i status
    match r.pkt with
    | some p => s2.respond p .ok (status != 0) []
    | none => (match r.entry with | some e => s2.setPort i ((s2.port i).dropHeld e) | none => s2)
  | none => s

/-- DEPOT_WRITE_ACK (R224). -/
def execDepotWriteAck (port : Fin 8) (tag : Nat) (status : Fin 3) (s : State) : Host.Outcome State Fault Refusal :=
  guardUnit s (s.hasPort port) (s.nodeAck port tag status).depotMapDue

/-- DEPOT_QUEUE_SEND (R223): the oldest waiting request is sent when one of 1,024 slots is free. -/
def execDepotQueueSend (port : Fin 8) (s : State) : Host.Outcome State Fault Refusal :=
  guardUnit s (s.hasPort port)
    (let q := s.port port
     match q.queue with
     | r :: t => if q.outst.length < 1024 then s.setPort port (DPort.send { q with queue := t } r) else s
     | [] => s)

/-- UNDO_COPY_DONE (R317). -/
def execUndoCopyDone (n : Fin 8) (granule : BitVec 30) (s : State) : Host.Outcome State Fault Refusal :=
  .next (s.undoDone n granule.toNat)

end Sys2Proof.Machine
end

