-- ==== Sys2Proof/Machine/Reserve.lean ====
section
/-!
DEFINITION. The reserve collection's commands (R201, R338 to R357): accession, staging, ghosts, the reserve record and wear.
-/
namespace Sys2Proof.Machine

/-- The unit's holder stands where an accession may act (R342, R344): a running one in the hold of its boundary, any other at
once. -/
def State.accMay (s : State) (q : Pend) : Bool :=
  match s.unitHolder q with
  | some n => (s.part n).state != .running || (s.part n).bholds.contains .curator
  | none => true

/-- The unit's holder recovers from a hard fault. -/
def State.inRecovery (s : State) (q : Pend) : Bool :=
  match s.unitHolder q with
  | some n => (s.ck n).recov.isSome
  | none => false

/-- Commands that wait for an accession (R466): answered at the release of the frame, or at once when the holder does not run. -/
def State.accAnswer (s : State) (q : Pend) : State :=
  let last := (s.reg Reg.SPR_LAST_ACC).toNat
  let live : Bool := match s.unitHolder q with | some n => (s.part n).state == .running | none => false
  let s1 := s.mapWaits fun w =>
    match w with
    | .accession n k u none l => if k = q.kind ∧ u = q.unit ∧ live then .accession n k u (some (s.part n).frame) last else .accession n k u none l
    | x => x
  if live then s1
  else s1.answerAll (fun _ b =>
    match b.wait with
    | .accession _ k u none _ => if k = q.kind ∧ u = q.unit then some ⟨.ok, 0, 4, last⟩ else none
    | _ => none) s1.waiting

/-- The hold of a boundary ends when no accession of the partition is left. -/
def State.accHoldEnd (s : State) (n : Option (Fin 8)) : State :=
  match n with
  | some n => if s.curatorDue n ∨ (s.ck n).recov.isSome then s else s.endHold n fun h => h == .curator
  | none => s

/-- The spare cluster of a tile takes over logical cluster c (R342 to R346): generation, map, states, and what SPR shows.  The
cluster's state is held by logical place and stays. -/
def State.accCluster (s : State) (t c : Nat) (parity : Bool) : State :=
  let q : Pend := ⟨1, t * 16 + c⟩
  let old := s.physOf t c
  let new := s.idleClu t
  let rec_ := s.inRecovery q
  let path := if rec_ then 2 else if s.spr.staged.contains (t, c) then 0 else 1
  let s1 := (s.genUp (Reg.SPR_CHEALTH t old)).setFld (Reg.SPR_CHEALTH t old) 8 3 3
  let s2 := (s1.setFld (Reg.SPR_CHEALTH t new) 8 3 0).setFld (cmapAt t c).1 (cmapAt t c).2 5 new
  let s3 := (s2.setFld (Reg.SPR_TILE t) 0 6 0x1F).setFld (Reg.SPR_TILE t) (8 + old) 1 1
  let mine := fun (k : Nat) => k % 2 == 0 && k / 2 / 2048 / 64 == t * 16 + c
  let s4 := { s3 with spr := { s3.spr with
    staging := s3.spr.staging.filter (fun (x : Nat × Nat) => x.1 != t), staged := s3.spr.staged.filter (fun (x : Nat × Nat) => x.1 != t),
    rowFail := s3.spr.rowFail.filter (fun k => !mine k), rowDue := s3.spr.rowDue.filter fun k => !mine k } }
  let s5 := (s4.setPend (s4.spr.pend.filter fun x => x != q)).lastAcc (unitEntry 1 q.id 1) (t + old * 256) (t + new * 256) path
    (if parity && !rec_ then 2 else 0)
  let s6 := s5.accAnswer q
  match s6.unitHolder q with
  | some n => if parity ∧ rec_ = false then s6.faultNow n .abortLimit 0 0 (s6.part n).cur else s6.accHoldEnd (some n)
  | none => s6

/-- An accession finds no spare left (R357): RESULT 1, and its command is refused. -/
def State.accNone (s : State) (q : Pend) : State :=
  let old := if q.kind = 1 then q.unit / 16 + s.physOf (q.unit / 16) (q.unit % 16) * 256
    else s.physBank q.unit / 264 * 512 + s.physBank q.unit % 264
  let f := (s.setPend (s.spr.pend.filter fun x => x != q)).fresh
  let s1 := (f.1.lastAcc (unitEntry q.kind q.id 1) old (Config.freeNat f.2) 0 1).noSpare q
  let s2 := s1.answerAll (fun _ b =>
    match b.wait with
    | .accession _ k u _ _ => if k = q.kind ∧ u = q.unit then some (rspEmpty .range 0) else none
    | _ => none) s1.waiting
  s2.accHoldEnd (s2.unitHolder q)

/-- A waiting accession of a cluster is carried out. -/
def State.clusterAccession (s : State) (t c : Nat) (parity : Bool) : State :=
  let q : Pend := ⟨1, t * 16 + c⟩
  if s.spr.pend.contains q ∧ s.accMay q then
    if s.idleClu t = 0x1F then s.accNone q else s.accCluster t c parity
  else s

/-- CLUSTER_ACCESSION (R342, R343): `parity` says that the copy found an error. -/
def execClusterAccession (tile : BitVec 8) (c : Fin 16) (parity : Bool) (s : State) : Host.Outcome State Fault Refusal :=
  guardUnit s (s.hasDie (tile.toNat / 64)) (s.clusterAccession tile.toNat c parity)

/-- A logical bank moves onto physical spare p of its die (R201, R346, R349).  No rule says which PATH a bank shows outside a
recovery. -/
def State.accBank (s : State) (bank p : Nat) : State :=
  let q : Pend := ⟨2, bank⟩
  let old := s.physBank bank
  let new := bank / 256 * 264 + p
  let rec_ := s.inRecovery q
  let s1 := (s.genUp (bhealth old)).setFld (bhealth old) 8 3 3
  let s2 := (s1.setFld (bhealth new) 8 3 0).setFld (Reg.SPR_BMAP (bank / 256) (bank % 256)) 0 9 p
  let f := (s2.setPend (s2.spr.pend.filter fun x => x != q)).fresh
  let s3 := f.1.lastAcc (unitEntry 2 q.id 1) (old / 264 * 512 + old % 264) (bank / 256 * 512 + p)
    (if rec_ then 2 else Config.freeNat f.2) 0
  (s3.accAnswer q).accHoldEnd (s3.unitHolder q)

/-- A waiting accession of a bank is carried out on an idle spare. -/
def State.bankAccession (s : State) (bank p : Nat) : State :=
  let q : Pend := ⟨2, bank⟩
  if s.spr.pend.contains q ∧ s.accMay q then
    if s.fld (Reg.SPR_BHEALTH (bank / 256) p) 8 3 = 1 then s.accBank bank p
    else if (s.idleBanks (bank / 256)).isEmpty then s.accNone q else s
  else s

/-- BANK_SPARE_REMAP (R201): `spare` is one of the die's 8 spare banks. -/
def execBankSpareRemap (bank : BitVec 10) (spare : Fin 8) (s : State) : Host.Outcome State Fault Refusal :=
  guardUnit s (s.hasBank bank.toNat) (s.bankAccession bank.toNat (256 + spare.val))

/-- The staging of a tile's idle cluster is complete (R341). -/
def State.stagingDone (s : State) (t : Nat) : State :=
  match s.spr.staging.find? (fun (x : Nat × Nat) => x.1 == t) with
  | some x =>
    let s1 := { s with spr := { s.spr with staging := s.spr.staging.filter (fun (y : Nat × Nat) => y.1 != t),
                                           staged := s.spr.staged ++ [x] } }
    (s1.setFld (Reg.SPR_TILE t) 5 1 1).setFld (Reg.SPR_CHEALTH t (s.idleClu t)) 8 3 2
  | none => s

/-- STAGING_DONE (R341). -/
def execStagingDone (tile : BitVec 8) (s : State) : Host.Outcome State Fault Refusal :=
  guardUnit s (s.hasDie (tile.toNat / 64)) (s.stagingDone tile.toNat)

/-- WORN of a tile. -/
def State.worn (s : State) (t : Nat) : Bool := s.fld (Reg.SPR_WEAR t) 25 1 == 1

/-- A score falls by 1, for an active cluster of a WORN tile not below WATCH (R338, R356). -/
def State.decay (s : State) (a : Nat) : State :=
  let floor := match chealthKey a with
    | some k => if s.worn (k / 17) && s.fld a 8 3 == 0 then s.watch else 0
    | none => 0
  let x := s.fld a 0 8
  s.setFld a 0 8 (max (x - 1) (min x floor))

/-- HEALTH_DECAY (R338): every score that is not 0 falls. -/
def execHealthDecay (s : State) : Host.Outcome State Fault Refusal :=
  .next (((s.regs.map fun (r : Nat × Word) => r.1).filter fun a => (chealthKey a).isSome || (bhealthKey a).isSome).foldl (fun (t : State) a => t.decay a) s)

/-- A fenced unit emits (R347): dropped, counted and logged; the first ghost of a RETIRED unit makes it QUARANTINED. -/
def State.ghost (s : State) (kind phys : Nat) (gen : Bool) : State :=
  let s1 := (s.addFld (if gen then Reg.SPR_GHOST_GEN else Reg.SPR_GHOST_ISO) 0 32 1).setReg Reg.SPR_GHOST_LAST
    (BitVec.ofNat 32 (kind + phys % 2 ^ 22 * 2 ^ 4 + b2n gen * 2 ^ 26 + 2 ^ 31))
  let unit := if kind = 1 then some (Reg.SPR_CHEALTH (phys % 256) (phys / 256 % 32))
    else if kind = 2 then some (Reg.SPR_BHEALTH (phys / 512 % 4) (phys % 512)) else none
  match unit with
  | some a =>
    let s2 := s1.addFld a 16 16 1
    if s.fld a 8 3 = 3 then (s2.setFld a 8 3 4).notice 0xF005 4 (s2.reg Reg.SPR_GHOST_LAST).toNat none else s2
  | none => s1

/-- The unit exists: a cluster, a bank, or another kind of R331. -/
def State.hasPhys (s : State) (kind phys : Nat) : Bool :=
  if kind = 1 then s.hasDie (phys % 256 / 64) && decide (phys / 256 < 17)
  else if kind = 2 then s.hasDie (phys / 512) && decide (phys % 512 < 264)
  else decide (3 ≤ kind) && decide (kind ≤ 6)

/-- GHOST_TRAFFIC (R347). -/
def execGhostTraffic (kind : BitVec 4) (phys : BitVec 22) (gen : Bool) (s : State) : Host.Outcome State Fault Refusal :=
  guardUnit s (s.hasPhys kind.toNat phys.toNat) (s.ghost kind.toNat phys.toNat gen)

/-- The reserve record is written (R348, R349): maps, states, scores and generations, core roles, rows, and lane activations. -/
def State.writeRecord (s : State) : State :=
  let keep := fun (a : Nat) => (decide (Reg.SPR_CORES ≤ a) && decide (a < 0xB00000)) ||
    (decide (Reg.LANE_SPARE 0 ≤ a) && decide (a < Reg.LANE_SPARE 8))
  { s with spr := { s.spr with recRegs := s.regs.filter fun r => keep r.1, recWear := s.spr.wear } }

/-- RESERVE_RECORD_WRITE (R348). -/
def execReserveRecordWrite (s : State) : Host.Outcome State Fault Refusal := .next s.writeRecord

/-- CURATOR_MISMATCH (R352): a SAFETY halt of every partition at its next boundary, ALERT_N, and a notice. -/
def execCuratorMismatch (s : State) : Host.Outcome State Fault Refusal :=
  let s1 := (List.finRange 8).foldl (fun (t : State) n => t.modPart n fun p => { p with haltReqs := p.haltReqs ++ [.safety] }) s
  .next ({ s1 with cur := { s1.cur with alert := true } }.notice 0xF006 0 0 none)

/-- A wear site. -/
def State.site (s : State) (t : Nat) : WearSite := mget (fun _ => WearSite.reset) s.spr.wear t

/-- DEGR of a site in units of 0.01 % (R354, R355): the mean over the valid windows among the last 16.  A fraction of a half or
more may be rounded either way, and no rule states a site that has sped up; both come from the free number. -/
def WearSite.degr (w : WearSite) (site free : Nat) : Nat :=
  let l := (w.windows.take 16).filterMap id
  let den := l.length * 65536 * Config.wearR0 site
  let num := (l.foldl (· + ·) 0) * 1000000
  if den < num then free % 0xFFFF
  else
    let x := 10000 * (den - num)
    let q := x / den
    if den ≤ 2 * (x % den) then q + free % 2 else q

/-- CONF of a site. -/
def WearSite.conf (w : WearSite) : Nat := (w.windows.filter Option.isSome).length

/-- A tile is WORN (R356): its active clusters' scores rise to WATCH, and the notice is posted. -/
def State.setWorn (s : State) (t degr conf : Nat) : State :=
  let s1 := s.setFld (Reg.SPR_WEAR t) 25 1 1
  let s2 := ((List.range 17).filter fun p => s1.fld (Reg.SPR_CHEALTH t p) 8 3 == 0).foldl (fun (x : State) p =>
    (x.maxFld (Reg.SPR_CHEALTH t p) 0 8 x.watch).actCluster (17 * t + p)) s1
  if s.worn t then s2 else s2.notice 0xF003 4 (t + degr % 65536 * 2 ^ 8 + conf % 256 * 2 ^ 24) none

/-- What SPR_WEAR shows of a site (R356). -/
def State.showWear (s : State) (t : Nat) : State :=
  let f := s.fresh
  let w := f.1.site t
  let drift := f.1.fld (Reg.SPR_WEAR t) 24 1 == 1
  let conf := if drift then 0 else w.conf
  let degr := w.degr t (Config.freeNat f.2)
  let s1 := (f.1.setFld (Reg.SPR_WEAR t) 0 16 (if conf < 32 then 0xFFFF else min 0xFFFF degr)).setFld (Reg.SPR_WEAR t) 16 8 conf
  if s.fld Reg.SPR_THRESH 16 8 ≤ conf ∧ drift = false ∧ w.windows ≠ [] ∧ s.fld Reg.SPR_WEAR_LIMIT 0 16 ≤ degr then s1.setWorn t degr conf
  else s1.setFld (Reg.SPR_WEAR t) 25 1 0

/-- A wear window (R354, R355): its count, when it was valid. -/
def State.wearWindow (s : State) (t count : Nat) (valid : Bool) : State :=
  if s.fld Reg.SPR_CTRL 2 1 = 0 then s
  else
    let w := s.site t
    let w1 : WearSite := ⟨((if valid then some count else none) :: w.windows).take 255, w.since + 1⟩
    let s1 := { s with spr := { s.spr with wear := mset (fun _ => WearSite.reset) s.spr.wear t w1 } }
    (s1.addFld (Reg.SPR_WEAR_AUX t) (if valid then 0 else 16) 16 1).showWear t

/-- WEAR_WINDOW (R354): the stressed oscillator's count, and whether supply, temperature and droop left the window valid. -/
def execWearWindow (site : BitVec 8) (count : BitVec 18) (valid : Bool) (s : State) : Host.Outcome State Fault Refusal :=
  guardUnit s (s.hasDie (site.toNat / 64)) (s.wearWindow site.toNat count.toNat valid)

/-- WEAR_CROSS_CHECK (R356): every 64 windows; a ratio that moved more than 0.20 % sets REF_DRIFT. -/
def execWearCrossCheck (site : BitVec 8) (moved : Bool) (s : State) : Host.Outcome State Fault Refusal :=
  let t := site.toNat
  guardUnit s (s.hasDie (t / 64))
    (let w := s.site t
     if w.since < 64 then s
     else
       let s1 := { s with spr := { s.spr with wear := mset (fun _ => WearSite.reset) s.spr.wear t { w with since := 0 } } }
       if moved then (s1.setFld (Reg.SPR_WEAR t) 24 1 1).showWear t else s1)

end Sys2Proof.Machine
end

