-- ==== Sys2Proof/Machine/ConfigRows.lean ====
section
/-!
DEFINITION. Configuration and start-up (R379 to R399): the stages, the board image, the reserve record at power-up, the autoload
list, and starting together.
-/
namespace Sys2Proof.Machine

/-- What a RESET_N or PWR_OK fall leaves (R379): every unit at reset but the always-on island (R492) with the timebase, the Tally
(R514, R515, R518), a trip and its record (R503), the straps and the TAP, the fuses, and the reserve record in flash (R348). -/
def State.afterReset (s : State) : State :=
  let keep := fun (a : Nat) => a == Reg.CFG_KEYS || a == Reg.PWR_THERMTRIP || a == Reg.TLY_PERIOD || a == Reg.TLY_PERIOD_NO || a == Reg.TLY_MERGED
  { State.reset with
    variant := s.variant, regs := s.regs.filter fun (r : Nat × Word) => keep r.1, freeCtr := s.freeCtr, busOut := s.busOut,
    lnk := { Lnk.reset with timebase := s.lnk.timebase }, tly := { s.tly with unread := [], head := 0 },
    spr := { Spr.reset with recRegs := s.spr.recRegs, recWear := s.spr.recWear, ownClu := s.spr.ownClu, ownBank := s.spr.ownBank,
                            expNoc := s.spr.expNoc, ownNoc := s.spr.ownNoc },
    cfg := { Cfg.reset with hashes := s.cfg.hashes }, pwr := { Pwr.reset with tripped := s.pwr.tripped },
    pin := s.pin, tap := s.tap, pending := s.pending }

/-- RESET_ABANDON (R379). -/
def execResetAbandon (s : State) : Host.Outcome State Fault Refusal := .next s.afterReset

/-- CFG_DONE held low or released by this device (R394, R398). -/
def State.driveDone (s : State) (low : Bool) : State :=
  let s1 := s.setFld Reg.CFG_LINE 1 1 (b2n low)
  if low then s1.setFld Reg.CFG_LINE 2 1 0 else s1

/-- Configuration stops (R397): RESULT, CFG_DONE held low, ALERT_N. -/
def State.cfgStop (s : State) (stage code result : Nat) : State :=
  let s1 := ((s.cfgFail stage code 0 0).setFld Reg.CFG_STATUS 0 4 stage).setFld Reg.CFG_STATUS 4 4 result
  { s1.driveDone true with cur := { s1.cur with alert := true } }

/-- Recovery mode (R397). -/
def State.recoveryMode (s : State) (stage code : Nat) : State := (s.cfgStop stage code 4).setDocent 3

/-- Roles of the control cores after the health check (R352): the Curator pair from the lowest two of the Curator and standby
cores that pass; those that fail are retired; another that passes stands by. -/
def coreRoles (roles : Nat) (bad : Nat) : Option Nat :=
  let role := fun (k : Nat) => roles / 4 ^ k % 4
  let tested := (List.range 8).filter fun k => role k == 0 || role k == 2
  let good := tested.filter fun k => !bitOf bad k
  if good.length < 2 then none
  else some ((List.range 8).foldl (fun a k =>
    a + 4 ^ k * (if !tested.contains k then role k else if bitOf bad k then 3 else if (good.take 2).contains k then 0 else 2)) 0)

/-- A spare cluster passes or fails built-in self-test (R348): IDLE with score 32 and its own generation rewritten, or scored 255,
which retires it (R338, R339); an idle one that passes keeps its score. -/
def State.testCluster (s : State) (bad : List Nat) (t : Nat) : State :=
  (List.range 17).foldl (fun (u : State) p =>
    let a := Reg.SPR_CHEALTH t p
    let st := u.fld a 8 3
    if st = 0 then u
    else if bad.contains (t * 17 + p) then u.scoreCluster (17 * t + p) 255
    else
      let u1 := if st = 3 ∨ st = 4 then u.setFld a 0 8 32 else u
      let u2 := (((u1.setFld a 8 3 1).setFld (Reg.SPR_TILE t) (8 + p) 1 0).setFld (Reg.SPR_TILE t) 0 5 p).setFld (Reg.SPR_TILE t) 5 1 0
      { u2 with spr := { u2.spr with ownClu := mset dNat u2.spr.ownClu (t * 17 + p) (u2.fld a 12 4) } }) s

/-- The same for a spare bank. -/
def State.testBank (s : State) (bad : List Nat) (k : Nat) : State :=
  let a := bhealth k
  let st := s.fld a 8 3
  if st = 0 then s
  else if bad.contains k then s.scoreBank k 255
  else
    let u := (if st = 3 ∨ st = 4 then s.setFld a 0 8 32 else s).setFld a 8 3 1
    { u with spr := { u.spr with ownBank := mset dNat u.spr.ownBank k (u.fld a 12 4) } }

/-- The reserve record at power-up (R348): maps, states, scores and generations restored and spares tested; without a good copy
the factory maps, every unit tested, and an active one that fails scored 255 (R338). -/
def State.restoreReserve (s : State) (ok : Bool) (badC badB : List Nat) : State :=
  let s1 := if ok then
      { s.spr.recRegs.foldl (fun (t : State) r => t.setReg r.1 r.2) s with spr := { s.spr with wear := s.spr.recWear } }
    else s
  let tiles := (List.range 256).filter fun t => s.hasDie (t / 64)
  let banks := (List.range 1056).filter fun k => s.hasDie (k / 264)
  let s3 := banks.foldl (fun (t : State) k => t.testBank badB k) (tiles.foldl (fun (u : State) t => u.testCluster badC t) s1)
  if ok then s3
  else
    let act := fun (t : State) (a : Nat) => t.fld a 8 3 == 0
    let cs := badC.filter fun k => tiles.contains (k / 17) && act s3 (chealth k)
    let bs := badB.filter fun k => banks.contains k && act s3 (bhealth k)
    bs.foldl (fun (t : State) k => t.scoreBank k 255) (cs.foldl (fun (t : State) k => t.scoreCluster k 255) s3)

/-- Lend a bank that nothing uses (R189): the handover completes at once. -/
def State.lendNow (s : State) (bank owner : Nat) : State := (s.loanWrite bank owner false).loanDrained bank

/-- The unit banks of R392 with their owners. -/
def State.unitBanks (s : State) : List (Nat × Nat) :=
  ((List.range 16).map fun i => (224 + i, 8)) ++ [(253, 12), (254, 11)] ++ ((List.range s.nDies).map fun d => (256 * d + 255, 9))

/-- A unit bank: of R392, bank 252 of die 0 among them. -/
def State.isUnitBank (s : State) (b : Nat) : Bool := b == 252 || s.unitBanks.any fun x => x.1 == b

/-- Every bank scrubbed and with CUR, then the unit banks lent, and the buffer pool (R187, R392, R458). -/
def State.scrubAll (s : State) : State :=
  let s1 := { s with vlt := { s.vlt with mem := [], dbe := [] } }
  let s2 := s1.unitBanks.foldl (fun (t : State) x => t.lendNow x.1 x.2) s1
  { s2.setReg Reg.MBX_POOL (BitVec.ofNat 32 (256 + 256 * 2 ^ 16)) with cur := { s2.cur with pool := (List.range 16).map fun i => 224 + i } }

/-- The depot port or link that a quad carried is carried no more. -/
def State.dropUse (s : State) (q : Nat) : State :=
  let use := s.fld (Reg.LANE_QUAD q) 0 2
  let bind := s.fld (Reg.LANE_QUAD q) 2 5
  if h : use = 1 ∧ bind < 24 then
    let k : Fin 24 := ⟨bind, h.2⟩
    ((s.setReg (Reg.LNK_STATE k) 0).setLink k Link.reset).loseLink k
  else if h : use = 2 ∧ bind < 8 then
    let i : Fin 8 := ⟨bind, h.2⟩
    (s.setReg (Reg.DEP_PORT_STATE bind) 0).setPort i { s.port i with wire := [], lanes := Vector.replicate 4 ⟨0, []⟩ }
  else s

/-- A spare quad is enabled whenever a working quad of its groups is (R493). -/
def State.spareQuads (s : State) : State :=
  [24, 25].foldl (fun (t : State) q =>
    let want := (List.range 12).any fun i => t.quadOn (12 * (q - 24) + i)
    if want = t.quadOn q then t else t.setQuad q want (t.fld (Reg.LANE_QUAD q) 14 1 == 1)) s

/-- The active spares of a quad are released (R274): their logical lanes leave service and return to their own pairs. -/
def State.releaseSpares (s : State) (q : Nat) : State :=
  (List.range 8).foldl (fun (t : State) n =>
    match t.carries (96 + n) with
    | some (p, i) => if p = q then ((t.serviceOut q i).setFld (Reg.LANE_SPARE n) 7 1 0).retrain (96 + n) else t
    | none => t) s

/-- A quad takes a use, a binding and a rate (R254, R255): 0 unused, 1 link, 2 depot; a binding that the part has no link or port
for leaves it unused (log entry 25).  Its spares are released, its lanes leave service (R268, R274), and the spare quad follows (R493). -/
def State.useQuad (s : State) (q use bind : Nat) (half manual : Bool) : State :=
  let ref := s.fld (Reg.LANE_QUAD q) 14 1 == 1
  let use := if use = 1 ∧ bind < s.nLinks ∨ use = 2 ∧ s.hasPort bind then use else 0
  let on := use != 0 || manual
  let s1 := (((s.releaseSpares q).setQuad q on (ref && on)).dropUse q).spareQuads
  let s2 := (((s1.setFld (Reg.LANE_QUAD q) 0 2 (if manual then 0 else use)).setFld (Reg.LANE_QUAD q) 2 5 bind).setFld
    (Reg.LANE_QUAD q) 7 1 (b2n half)).setFld (Reg.LANE_QUAD q) 9 1 (b2n manual)
  if manual then s2
  else if use = 1 then s2.setReg (Reg.LNK_STATE bind) (BitVec.ofNat 32 (1 + q * 2 ^ 6 + b2n half * 2 ^ 11))
  else if use = 2 then
    s2.setReg (Reg.DEP_PORT_STATE bind) (BitVec.ofNat 32 (1 + q * 2 ^ 8 + (Config.attachTile q).toNat * 2 ^ 16 + b2n half * 2 ^ 24))
  else s2

/-- A QUADS record from its 8 bytes (R390). -/
def quadRecOf (w : DWord) : QuadRec :=
  { use := bitsAt w 0 2, bind := bitsAt w 2 5, half := bitsAt w 7 1 == 1, pre := bitsAt w 8 4, post := bitsAt w 16 5,
    lanes := (List.range 4).map fun i => bitsAt w (24 + 6 * i) 6 }

/-- A range of DEPOT_MAP from its 16 bytes (R390). -/
def rangeRecOf (w : BitVec 128) : DepotRange :=
  { first := bitsAt w 0 16, count := bitsAt w 16 16 + 1, port := ⟨bitsAt w 32 3, Nat.mod_lt _ (by decide)⟩, node := bitsAt w 64 24 }

/-- An AUTOLOAD entry from its 32 bytes (R391). -/
def autoOf (w : BitVec 256) : AutoEntry :=
  { kind := if bitsAt w 8 8 < 8 then bitsAt w 0 8 else 0, target := ⟨bitsAt w 8 8 % 8, Nat.mod_lt _ (by decide)⟩,
    depot := bitsAt w 16 8 == 1, arm := bitsAt w 24 1 == 1, goWait := bitsAt w 25 1 == 1, required := bitsAt w 26 1 == 1,
    place := bitsAt w 64 64, start := bitsAt w 128 48, segFirst := bitsAt w 192 16, segCount := bitsAt w 208 16 }

/-- The lane settings of a QUADS record (R390). -/
def State.quadLanes (s : State) (q : Nat) (r : QuadRec) : State :=
  (List.range 4).foldl (fun (t : State) i =>
    let l := 4 * q + i
    let x := r.lanes.getD i 0
    let cfg := x % 8 + x / 8 * 16
    let t1 := (t.setFld (Reg.LANE_CFG l) 0 7 cfg).setReg (Reg.LANE_FFE l) (BitVec.ofNat 32 (r.pre + r.post * 16))
    t1.enterQuiet l) s

/-- The BOARD image applied (R380, R390): lanes and quads, spares, the depot map, the autoload list, waits and regulator. -/
def State.applyBoard (s : State) (b : BoardBox) : State :=
  let qs := (List.range 24).filterMap fun q => if s.hasQuad q then (b.quads[q]?).map fun r => (q, quadRecOf r) else none
  let s1 := qs.foldl (fun (t : State) (x : Nat × QuadRec) =>
    let r := x.2
    (t.quadLanes x.1 r).useQuad x.1 r.use r.bind r.half false) s
  let sp := (List.range 8).filterMap fun i => (b.spares[i]?).map fun r => (i, r)
  let s2 := sp.foldl (fun (t : State) (x : Nat × BitVec 16) =>
    (t.setFld (Reg.LANE_SPARE x.1) 0 5 (bitsAt x.2 0 5)).setFld (Reg.LANE_SPARE x.1) 8 8 (bitsAt x.2 8 8)) s1
  let rs := b.ranges.map rangeRecOf
  let s4 := rs.foldl (fun (t : State) (r : DepotRange) => (List.range r.count).foldl (fun (u : State) i =>
    if r.first + i < 65536 then
      u.setDepotEntry (r.first + i) (BitVec.ofNat 64 (1 + 13 * 2 + r.port.val * 2 ^ 8 + (r.node + i) % 2 ^ 24 * 2 ^ 16))
    else u) t) s2
  let autos := (b.autos.take 16).map autoOf
  let s5 := { s4 with cfg := { s4.cfg with autos := autos, ranges := rs } }
  let s6 := match b.laneWait with | some w => s5.setFld Reg.CFG_LANE_WAIT 0 16 w.toNat | none => s5
  s6.setReg Reg.PWR_VR (BitVec.ofNat 32 (b.vrAddr.toNat + b2n b.vrEn * 2 ^ 7))

/-- The clocks run (R504, R512): each die at its operating point, and the fixed PLLs locked. -/
def State.clocksUp (s : State) (ops : Vector (Fin 4) 4) : State :=
  let s1 := (List.finRange 4).foldl (fun (t : State) (d : Fin 4) =>
    if t.hasDie d then
      let op := (vget ops d).val
      ((t.setFld (Reg.PWR_DIE_OP d) 0 2 op).setFld (Reg.PWR_DIE_OP d) 2 2 op).setReg (Reg.CLK_STEP d)
        (BitVec.ofNat 32 (opMhz op * 2 ^ 4))
    else t) s
  let mv := ((List.finRange 4).filter fun (d : Fin 4) => s.hasDie d.val).foldl (fun a (d : Fin 4) => max a (opMv (vget ops d).val)) 600
  ((s1.setReg Reg.CLK_FIXED 15).setFld Reg.CLK_DEVCLK 0 1 1).setFld Reg.PWR_VCORE 0 10 mv

/-- The PATCH entry (R383, R397): in use when every check passes, otherwise failure code 3. -/
def State.applyPatch (s : State) (img : Option Cont) : State :=
  match dirOf s.cfg.dir 2, img with
  | some e, some c =>
    (match s.contCheck c 2 e.length with
     | none => s.setFld Reg.CFG_STATUS 10 1 1
     | some x => (s.cfgFail 2 3 0 x.1.code).cfgBad false)
  | _, _ => s

/-- The BOARD entry (R397): applied when every check passes, otherwise failure code 4. -/
def State.boardStage (s : State) (b : Option BoardBox) : State :=
  let bad := fun (st : Nat) => ((s.cfgFail 2 4 0 st).cfgBad false).setFld Reg.CFG_STATUS 11 1 1
  match dirOf s.cfg.dir 3, b with
  | some e, some b =>
    (match s.contCheck b.cont 3 e.length with
     | none => s.applyBoard b
     | some x => bad x.1.code)
  | _, _ => bad 0

/-- The VDDIO measured for each bank (R372, R377). -/
def State.measureVddio (s : State) (l : List (BitVec 12)) : State :=
  ((List.range s.nVtrBanks).zip l).foldl (fun (t : State) (x : Nat × BitVec 12) => t.setFld (Reg.VTR_BANK x.1) 4 12 x.2.toNat) s

/-- The directory that a flash gives (R383): none when it does not answer or both copies are bad. -/
def Boot.dir (b : Boot) : Option (List DirEntry) := (b.flash.bind fun x => dirPick x.1 x.2).map dirEntries

/-- Stages 1 and 2 (R379, R380, R383). -/
def State.configStart (s : State) (b : Boot) : State :=
  let s0 := { s with cfg := { s.cfg with t0 := s.lnk.timebase } }
  let s1 := (s0.setFld Reg.CFG_LINE 0 1 (b2n b.join)).driveDone b.join
  let roles := if b.dir.isSome && b.record then ((s.spr.recRegs.find? fun (r : Nat × Word) => r.1 == Reg.SPR_CORES).map fun r => r.2.toNat).getD 0x9550
    else 0x9550
  match (if b.curator then coreRoles roles b.badCores.toNat else none) with
  | none =>
    let s2 := s1.cfgStop 1 1 3
    { s2 with cfg := { s2.cfg with dead := true } }
  | some r =>
    let s2 := s1.stageEnd 1
    match b.dir with
    | none => s2.recoveryMode 2 2
    | some dir =>
      let s2 := { s2 with cfg := { s2.cfg with dir := dir } }
      let s3 := ((s2.setFld Reg.CFG_STATUS 0 4 3).applyPatch b.patch).restoreReserve b.record b.badClusters b.badBanks
      let s4 := if b.record then s3 else (s3.cfgFail 2 5 0 0).cfgBad false
      let s5 := ((((s4.setReg Reg.SPR_CORES (BitVec.ofNat 32 r)).scrubAll).clocksUp b.ops).boardStage b.board).measureVddio b.vddio
      let s6 := if s5.hasVtr then s5.calStart else s5
      (s6.stageEnd 2).cfgAdvance

/-- RESET_N is low: the TAP's drive instructions act (R544). -/
def State.inReset (s : State) : Bool := s.fld Reg.CFG_STATUS 0 4 == 0

/-- EXTEST, EXTEST_PULSE, EXTEST_TRAIN, HIGHZ and CLAMP (R544). -/
def tapDrives (ir : Byte) : Bool := decide (3 ≤ ir.toNat) && decide (ir.toNat ≤ 7)

/-- The TAP loads BYPASS when RESET_N rises with one of them loaded (R544). -/
def State.tapRelease (s : State) : State := if tapDrives s.tap.ir then { s with tap := { s.tap with ir := 0xFF, data := 0 } } else s

/-- CONFIGURATION_START (R379): RESET_N rises with PWR_OK high; nothing starts after a trip (R503). -/
def execConfigurationStart (b : Boot) (s : State) : Host.Outcome State Fault Refusal :=
  .next (if s.inReset ∧ s.pin.pwrOk = true ∧ s.pwr.tripped = false then s.tapRelease.configStart b else s)

/-- A stage exceeds its limit (R381, R397): stage 3 leads to recovery mode, stage 5 puts the port that attaches in FAULT.  Stages 1
and 2 pass within CONFIGURATION_START, and the other stages have no limit or one of their own (R238). -/
def execStageTimeout (stage port : Fin 8) (s : State) : Host.Outcome State Fault Refusal :=
  if s.configuring then
    if stage = 3 ∧ s.cfg.docentUp = false then .next (s.recoveryMode 3 6)
    else if stage = 5 ∧ s.portState port = 2 then .next ((s.portFault port).cfgAdvance)
    else .next s
  else .next s

/-- LENGTH of the directory's ACTIVE or other DOCENT entry (R383); `len` where the directory as read names none. -/
def State.docentLen (s : State) (active : Bool) (len : Nat) : Nat := ((dirFind s.cfg.dir 1 active).map (·.length)).getD len

/-- Slot of the directory's ACTIVE or other DOCENT entry; without one the ACTIVE one stands in `slotB`, and the other in the other. -/
def State.docentSlot (s : State) (active slotB : Bool) : Bool :=
  ((dirFind s.cfg.dir 1 active).map (·.slotB)).getD (if active then slotB else !((dirFind s.cfg.dir 1 true).map (·.slotB)).getD slotB)

/-- The DOCENT image that passes its checks, of the ACTIVE entry or else of the other (R383), and whether it is the other. -/
def State.docentPick (s : State) (a b : Option (Cont × Nat)) : Option (Bool × Cont) :=
  let good := fun (act : Bool) (x : Option (Cont × Nat)) => match x with
    | some (c, len) => if (s.contCheck c 1 (s.docentLen act len)).isNone then some c else none
    | none => none
  match good true a with
  | some c => some (false, c)
  | none => (good false b).map fun c => (true, c)

/-- The Docent starts (R380, R383): both images bad is failure code 6. -/
def execDocentStarted (slotB : Bool) (active other : Option (Cont × Nat)) (s : State) : Host.Outcome State Fault Refusal :=
  if s.configuring ∧ s.cfg.docentUp = false then
    match s.docentPick active other with
    | some (fell, c) =>
      let slot := s.docentSlot (!fell) slotB
      let s1 := (((s.setFld Reg.CFG_STATUS 8 1 (b2n slot)).setFld Reg.CFG_STATUS 9 1 (b2n fell)).setFld Reg.MBX_FW 2 1 (b2n slot)).setFld
        Reg.MBX_FW 16 16 c.svn.toNat
      let s2 := { s1 with cfg := { s1.cfg with docentUp := true } }
      .next ((s2.setDocent 1).stageEnd 3).cfgAdvance
    | none => .next (s.recoveryMode 3 6)
  else .next s

/-- CFG_LANE_WAIT elapses (R381, R397). -/
def execCfgLaneWaitExpiry (s : State) : Host.Outcome State Fault Refusal :=
  if s.configuring ∧ s.cfg.lanesOver = false then
    let s1 := if s.quadsUp then s else s.cfgFail 4 7 0 0
    .next { s1 with cfg := { s1.cfg with lanesOver := true } }.cfgAdvance
  else .next s

/-- An autoload entry fails (R397). -/
def State.autoFail (s : State) (code i : Nat) (e : AutoEntry) (st : Status) : State := (s.cfgFail 6 code i st.code).cfgBad e.required

/-- An ephemeris entry (R391): checks 1 to 17, grants and loans, checks 18 to 25, writes, and the arm it asks for. -/
def State.autoEph (s : State) (i : Nat) (a : AutoEntry) (c : Cont) (len : Nat) (e : EphRec) (ok : Bool) : State :=
  let n := a.target
  let fail := fun (t : State) (st : Status) (k : Nat) => (t.noteLoad n st k true).autoFail 9 i a st
  if a.depot ∧ s.stagingBytes < c.totalLen.toNat then fail s .range 0
  else
    match s.loadCheck n c e len 1 17 with
    | some x => fail s x.1 x.2
    | none =>
      let s1 := ((List.range a.segCount).map fun k => a.segFirst + k).foldl (fun (t : State) g =>
        if t.segKept g then t else t.grantSeg n.val false g) s
      let s2 := e.loanBanks.foldl (fun (t : State) b =>
        if t.loanOwner b = 13 ∧ !t.isUnitBank b then t.lendNow b n.val else t) s1
      match s2.loadCheck n c e len 18 25 with
      | some x => fail s2 x.1 x.2
      | none =>
        let s3 := s2.loadWrite n c e ok
        if !ok then (s3.noteLoad n .partFault 26 true).autoFail 10 i a .partFault
        else
          let s4 := s3.noteLoad n .ok 0 true
          if a.arm then
            { s4 with cfg := { s4.cfg with arming := s4.cfg.arming ++ [(i, n)] } }.armBegin n ⟨a.start, [], none, a.goWait, false⟩
          else s4

/-- Declared VDDIO in mV of a code of VTR_BANK (R372, R377). -/
def vddioMv : Nat → Nat
  | 0 => 1200
  | 1 => 1500
  | 2 => 1800
  | 3 => 2500
  | _ => 3300

/-- The check of each bank's VDDIO against its declaration (R372): more than 10 % apart is a MISMATCH, and so is a code that names no
voltage. -/
def State.checkVddio (s : State) (i : Nat) (codes : List Nat) : State :=
  ((List.range s.nVtrBanks).zip codes).foldl (fun (t : State) (x : Nat × Nat) =>
    let t1 := t.setFld (Reg.VTR_BANK x.1) 0 3 x.2
    let want := vddioMv (x.2 % 8)
    let got := t1.fld (Reg.VTR_BANK x.1) 4 12
    if 4 < x.2 ∨ 10 * got < 9 * want ∨ 11 * want < 10 * got then ((t1.setFld (Reg.VTR_BANK x.1) 16 1 1).cfgFail 6 11 i 0).cfgBad false
    else t1.setFld (Reg.VTR_BANK x.1) 16 1 0) s

/-- The declared VDDIO codes of banks 0 to 9 (R390). -/
def VBox.vddio (v : VBox) : List Nat := (List.range 10).map fun b => bitsAt v.desc (8 * b) 8

/-- The configurations that a Vitrine container carries, in its region mask (R390), each with the container's identifier (R376). -/
def VBox.loads (v : VBox) : List (Fin 8 × VImage) :=
  (v.images.filter fun x => bitsAt v.desc (80 + x.1.val) 1 == 1).map fun x => (x.1, { x.2 with id := v.cont.imageId })

/-- The checks of a Vitrine container (R388, R390): one for a region that the part lacks fails check 1, and any on KBH-BLH2-R check
5. -/
def State.vtrCheck (s : State) (v : VBox) : Option (Status × Nat) :=
  if v.cont.malformed 5 v.len ∨ (s.variant ≠ .r ∧ (v.loads.any fun x => decide (s.nRegions ≤ x.1.val)) = true) then some (.range, 1)
  else
    match s.contCheck v.cont 5 v.len with
    | some x => some x
    | none => if s.variant = .r then some (.range, 5) else none

/-- A Vitrine entry (R391): every region it carries loads, and the VDDIO of each bank is checked; BUSY while an earlier load of a region is
under way (R375). -/
def State.autoVtr (s : State) (i : Nat) (a : AutoEntry) (v : VBox) : State :=
  match s.vtrCheck v with
  | some x => s.autoFail 9 i a x.1
  | none =>
    if v.loads.any fun x => s.regState x.1.val == 1 || s.regState x.1.val == 2 then s.autoFail 9 i a .busy
    else
      let s1 := v.loads.foldl (fun (t : State) x => t.regionLoad x.1 x.2) (s.checkVddio i v.vddio)
      { s1 with cfg := { s1.cfg with vtrs := s1.cfg.vtrs ++ v.loads.map fun x => (x.1, i) } }

/-- Stage 7 follows the last entry of the autoload list, once the regions it loads are there (R380). -/
def State.autoStage (s : State) : State :=
  if s.configuring ∧ s.fld Reg.CFG_STATUS 0 4 = 6 ∧ s.cfg.autos.length ≤ s.cfg.next ∧ s.cfg.vtrs = [] then
    (s.stageEnd 6).setFld Reg.CFG_STATUS 0 4 7
  else s

/-- The next entry of the autoload list is done (R380, R391). -/
def State.autoNext (s : State) : State := { s with cfg := { s.cfg with next := s.cfg.next + 1 } }.autoStage

/-- The bytes of a region that an autoload entry loads have arrived: a CRC that does not match is failure code 9 (R374, R397). -/
def State.autoRegion (s : State) (r : Fin 8) (crcOk : Bool) : State :=
  match s.cfg.vtrs.find? fun x => x.1 == r with
  | some x =>
    let s1 := { s with cfg := { s.cfg with vtrs := s.cfg.vtrs.filter fun y => y.1 != r } }
    (match s.cfg.autos[x.2]?, crcOk with
     | some a, false => s1.autoFail 9 x.2 a .authFail
     | _, _ => s1).autoStage
  | none => s

/-- Length of the image of an autoload entry, where it can be read (R391, R397): that of its directory entry, or `len` behind a depot port
that is UP, in a segment of CUR. -/
def State.autoLen (s : State) (a : AutoEntry) (len : Nat) : Option Nat :=
  if a.depot then (if s.depotCheck .cur (a.place % 2 ^ 46) false = .ok then some len else none)
  else s.cfg.dir[a.place]?.map (·.length)

/-- AUTOLOAD_ENTRY (R391): entries in order once stage 5 has ended; an image that cannot be read fails with RANGE. -/
def execAutoloadEntry (img : AutoImg) (s : State) : Host.Outcome State Fault Refusal :=
  if s.configuring ∧ s.fld Reg.CFG_STATUS 0 4 = 6 then
    match s.cfg.autos[s.cfg.next]? with
    | none => .next s
    | some a =>
      let i := s.cfg.next
      let miss := if a.kind = 1 then (s.noteLoad a.target .range 0 true).autoFail 9 i a .range else s.autoFail 9 i a .range
      let s1 := if a.kind = 0 ∨ 2 < a.kind then s
        else
          match img with
          | .absent => miss
          | .eph c len e ok =>
            (match s.autoLen a len with
             | some n => if a.kind = 1 then s.autoEph i a c n e ok else miss
             | none => miss)
          | .vtr v =>
            (match s.autoLen a v.len with
             | some n => if a.kind = 2 then s.autoVtr i a { v with len := n } else miss
             | none => miss)
      .next s1.autoNext
  else .next s

/-- The end of configuration (R380, R394, R397, R421, R434, R489): RESULT, CFG_DONE, and the units' rings and programs. -/
def State.configDone (s : State) : State :=
  let result := if s.cfg.failed then 3 else if s.cfg.degraded then 2 else 1
  let s1 := (((s.stageEnd 6).stageEnd 7).setFld Reg.CFG_STATUS 0 4 8).setFld Reg.CFG_STATUS 4 4 result
  let s2 := s1.driveDone (s.cfg.failed && !s.cfg.released)
  let s3 := (List.finRange 4).foldl (fun (t : State) d => if t.hasDie d.val then t.phmConfigure d else t) s2
  (s3.setReg Reg.ADC_RING (BitVec.ofNat 32 (254 + 2 ^ 10))).setReg Reg.RGS_TRACE (BitVec.ofNat 32 (253 + 2 ^ 10))

/-- CONFIGURATION_DONE (R380): every entry done and no arm left. -/
def execConfigurationDone (s : State) : Host.Outcome State Fault Refusal :=
  if s.configuring ∧ 6 ≤ s.fld Reg.CFG_STATUS 0 4 ∧ s.cfg.autos.length ≤ s.cfg.next ∧ s.cfg.arming = [] ∧ s.cfg.vtrs = [] then .next s.configDone else .next s

/-- FRAME_GO (R395). -/
def execFrameGo (s : State) : Host.Outcome State Fault Refusal := .next (s.setFld Reg.CFG_LINE 4 1 1)

/-- Partitions in ARMED with GO_WAIT. -/
def State.goWaiters (s : State) : List (Fin 8) := (List.finRange 8).filter fun n => (s.part n).state == .armed && (s.part n).goWait

/-- The go acts (R395, R398). -/
def State.goAct (s : State) : State :=
  let ns := s.goWaiters
  let s1 := (s.setFld Reg.CFG_LINE 4 1 0).addFld Reg.CFG_GO_COUNT 0 16 1
  let s2 := if ns.isEmpty then s1.addFld Reg.CFG_GO_COUNT 16 16 1 else s1
  let s3 := s2.setReg64 Reg.CFG_GO_TIME_LO s.lnk.timebase
  ns.foldl (fun (t : State) n => t.runStart n (t.part n).remaining) s3

/-- GO_ACT (R394, R395): CFG_DONE has been high for 1 µs, which it is not while this device holds it low. -/
def execGoAct (s : State) : Host.Outcome State Fault Refusal :=
  if s.fld Reg.CFG_LINE 1 1 = 1 then .next s
  else
    let s1 := s.setFld Reg.CFG_LINE 2 1 1
    .next (if s.fld Reg.CFG_LINE 4 1 = 1 then s1.goAct else s1)

/-- RELEASE of CFG_LINE (R394, R398). -/
def State.releaseDone (s : State) : State :=
  { s.driveDone false with cfg := { s.cfg with released := true } }

/-- CFG_DONE_RELEASE (R394). -/
def execCfgDoneRelease (s : State) : Host.Outcome State Fault Refusal := .next s.releaseDone

/-- The bytes of a region's configuration have arrived (R373, R374): the waits of VTR_LOAD on it are answered once none is left. -/
def State.regionLoaded (s : State) (r : Fin 8) (crcOk : Bool) : State :=
  if s.regState r.val = 1 then
    let s1 := (s.regionArrived r crcOk).mapWaits fun w =>
      match w with
      | .vtrLoad left failed =>
        if bitOf left r.val then .vtrLoad (left - 2 ^ r.val) (if crcOk then failed else failed + 2 ^ r.val) else .vtrLoad left failed
      | x => x
    (s1.autoRegion r crcOk).answerAll (fun t b =>
      match b.wait with
      | .vtrLoad 0 failed =>
        let states := (List.range 8).foldl (fun a r => a + t.regState r * 2 ^ (8 * r)) 0
        some ⟨if failed = 0 then .ok else .authFail, 0, 8, states⟩
      | _ => none) s1.waiting
  else s

/-- REGION_LOAD_DONE (R373). -/
def execRegionLoadDone (r : Fin 8) (crcOk : Bool) (s : State) : Host.Outcome State Fault Refusal :=
  guardUnit s (decide (r.val < s.nRegions)) (s.regionLoaded r crcOk)

/-- HANDOVER (R403): the gathered counts of a partition go to the Photometer once their number is due and its view is free. -/
def execHandover (d : Fin 4) (n : Fin 8) (s : State) : Host.Outcome State Fault Refusal :=
  guardUnit s (s.hasDie d.val) (s.tryHandover d n)

end Sys2Proof.Machine
end

