-- ==== Sys2Proof/Machine/Registrar.lean ====
section
/-!
DEFINITION. The Registrar (R480 to R491): tasks, the cycle of R484, the delay list, cancels and the decision trace.
-/
namespace Sys2Proof.Machine

/-- The Registrar replaced. -/
def State.setRgs (s : State) (r : Rgs) : State := { s with rgs := r }

/-- SPR_CORES gives core k the Docent role (R482). -/
def State.docentCore (s : State) (k : Nat) : Bool := decide (2 ≤ k) && s.fld Reg.SPR_CORES (2 * k) 2 == 1

/-- A Docent core that has failed is RETIRED and a standby takes its role (R352, R441). -/
def State.coreFails (s : State) (k : Fin 8) : State :=
  if s.docentCore k.val = false then s
  else
    let s1 := s.setFld Reg.SPR_CORES (2 * k.val) 2 3
    match (List.finRange 8).find? fun j => decide (2 ≤ j.val) && s.fld Reg.SPR_CORES (2 * j.val) 2 == 2 with
    | some j => s1.setFld Reg.SPR_CORES (2 * j.val) 2 1
    | none => s1

/-- The default priority of a kind (R480, R491). -/
def State.kindPrio (s : State) (kind : Nat) : Nat := s.fld Reg.RGS_PRIO (3 * kind - 3) 3

/-- The effective priority of a READY task (R483); a task in another state shows its PRIO (log entry 27). -/
def State.effPrio (s : State) (t : Task) : Nat :=
  let age := s.fld Reg.RGS_CFG 16 16
  if age = 0 ∨ t.st ≠ .ready then t.prio else min 7 (t.prio + (s.rgs.cycle - t.readyAt) / (age * 1000))

/-- A record of the decision trace (R489): dropped and counted when the ring does not take it. -/
def State.rgsTrace (s : State) (w0 : Nat) : State :=
  let bank := s.fld Reg.RGS_TRACE 0 10
  let head := s.fld Reg.RGS_TRACE_HEAD 0 12
  let tail := s.fld Reg.RGS_TRACE_TAIL 0 12
  if s.fld Reg.RGS_TRACE 10 1 = 1 ∧ s.hasBank bank ∧ (head + 1) % 4096 ≠ tail then
    let w := s.unitWrite bank 12 (2 * head) [BitVec.ofNat 64 w0, BitVec.ofNat 64 s.lnk.timebase]
    if w.2 then w.1.setFld Reg.RGS_TRACE_HEAD 0 12 ((head + 1) % 4096) else w.1.addFld Reg.RGS_TRACE_DROP 0 24 1
  else s.addFld Reg.RGS_TRACE_DROP 0 24 1

/-- Trace a decision about a DATA task (R488, R489). -/
def State.traceTask (s : State) (t : Task) (event core prio detail : Nat) : State :=
  if t.kind = 1 then s
  else s.rgsTrace (t.id + event * 2 ^ 11 + core * 2 ^ 15 + prio * 2 ^ 18 + t.kind * 2 ^ 21 + t.owner * 2 ^ 25 + min detail (2 ^ 32 - 1) * 2 ^ 32)

/-- Trace the hold or release of a source (R481, R489). -/
def State.traceHeld (s : State) (h : Held) (event : Nat) : State :=
  s.rgsTrace (0x7FF + event * 2 ^ 11 + s.kindPrio h.kind * 2 ^ 18 + h.kind * 2 ^ 21 + h.owner * 2 ^ 25 + h.kind * 2 ^ 32)

/-- The Curator creates a task (R480, R481, R485): READY at step 3 of the next cycle, or on the delay list; a request that finds the
DATA list full is held.  A task for the delay list enters no DATA list, so only a descriptor that is FREE matters to it. -/
def State.taskCreate (s : State) (kind owner : Nat) (param : Word) (delay : Nat) : State :=
  let prio := s.kindPrio kind
  if s.rgs.stopped ∨ s.rgs.free = 0 ∨ (delay = 0 ∧ (s.rgs.dataFull || s.rgs.held.any fun h => h.kind == kind)) then
    let h : Held := ⟨kind, owner, param⟩
    (s.setRgs { s.rgs with held := s.rgs.held ++ [h] }).traceHeld h 7
  else if delay = 0 then s.setRgs (s.rgs.create kind prio owner 0 0 param .fresh 0)
  else if 256 ≤ s.rgs.delayed then s
  else
    let r := s.rgs.create kind prio owner 0 0 param .delayed ((s.rgs.now + delay) % 2 ^ 32)
    match s.rgs.freeId with
    | some i =>
      match r.tasks.find? (fun t => t.id == i) with
      | some t => (s.setRgs r).traceTask t 3 0 prio delay
      | none => s
    | none => s

/-- TASK_CREATE (R480): a DATA task of kind 2 to 5; a MAILBOX task is created by its doorbell. -/
def execTaskCreate (kind : Fin 4) (owner : BitVec 4) (param : Word) (delay : BitVec 23) (s : State) : Host.Outcome State Fault Refusal :=
  .next (s.taskCreate (kind.val + 2) owner.toNat param delay.toNat)

/-- A completion takes effect (R482, R484). -/
def State.stepDone (s : State) (k : Fin 8) (status : Nat) : State :=
  match s.rgs.taskOn k with
  | some t => (s.setRgs (s.rgs.freeTask t.id)).traceTask t 5 k.val t.prio status
  | none => s

/-- A yield takes effect (R485). -/
def State.stepYield (s : State) (k : Fin 8) (delay : Nat) : State :=
  match s.rgs.taskOn k with
  | some t =>
    if delay = 0 then
      s.setRgs { s.rgs.mapTask t.id (fun x => { x with st := .fresh }) with refused := vset s.rgs.refused k false }
    else if 256 ≤ s.rgs.delayed then
      (s.setRgs { s.rgs with refused := vset s.rgs.refused k true }).traceTask t 10 k.val t.prio 0
    else
      let r := s.rgs.mapTask t.id fun x => { x with st := .delayed, expiry := (s.rgs.now + delay) % 2 ^ 32 }
      (s.setRgs { r with refused := vset r.refused k false }).traceTask t 3 0 t.prio delay
  | none => s

/-- A MAILBOX task is cancelled: its command, if not begun, completes with CANCELLED (R486). -/
def State.cancelCmd (s : State) (t : Task) : State :=
  if h : t.kind = 1 ∧ t.source < 36 then
    let m : Fin 36 := ⟨t.source, h.2⟩
    match (s.mbx m).queue.find? (fun c => c.stamp == t.stamp) with
    | some c => (s.begin m c none true .result).answer m c.stamp (rspEmpty .cancelled 0)
    | none => s
  else s

/-- A cancel takes effect (R486): `due` are the tasks that expire in this cycle. -/
def State.stepCancel (s : State) (id : Nat) : State :=
  match s.rgs.tasks.find? (fun t => t.id == id) with
  | none => s.addFld Reg.RGS_CANCELS 16 16 1
  | some t =>
    match t.st with
    | .running _ => s.setRgs (s.rgs.mapTask id fun x => { x with cancelReq := true })
    | _ => ((((s.setRgs (s.rgs.freeTask id)).addFld Reg.RGS_CANCELS 0 16 1).traceTask t 6 0 (s.effPrio t) 3)).cancelCmd t

/-- Whether a delayed task's EXPIRY is reached on the 32-bit count (R485). -/
def expired (now expiry : Nat) : Bool := decide ((now + 2 ^ 32 - expiry) % 2 ^ 32 < 2 ^ 31)

/-- Step 3: a task becomes READY (R484). -/
def State.stepReady (s : State) (tick : Bool) (t : Task) : State :=
  let due := t.st == .delayed && tick && expired s.rgs.now t.expiry
  if t.st = .fresh ∨ due = true then
    (s.setRgs (s.rgs.mapTask t.id fun x => { x with st := .ready, readyAt := s.rgs.cycle, expiry := 0 })).traceTask t (if due then 4 else 1) 0 t.prio 0
  else s

/-- Core k may take task t (R483, R484). -/
def State.mayTake (s : State) (k : Fin 8) (t : Task) : Bool :=
  t.st == .ready &&
    (t.lastCore == k.val || t.lastCore == 0 || !s.docentCore t.lastCore ||
      decide (t.readyAt + s.fld Reg.RGS_CFG 0 12 ≤ s.rgs.cycle))

/-- First by effective priority, then READY_TIME, then id (R484). -/
def State.before (s : State) (a b : Task) : Bool :=
  let x := s.effPrio a
  let y := s.effPrio b
  decide (y < x) || (x == y && (decide (a.readyAt < b.readyAt) || (a.readyAt == b.readyAt && decide (a.id < b.id))))

/-- The bin of RGS_WAIT for a wait in cycles (R488). -/
def waitBin (ns : Nat) : Nat := if ns < 1000 then 0 else min 15 (Nat.log2 (ns / 1000) + 1)

/-- Step 4 for one free core (R484, R488). -/
def State.dispatch (s : State) (k : Fin 8) : State :=
  let cand := s.rgs.tasks.filter (s.mayTake k)
  match cand with
  | [] => s
  | c :: cs =>
    let t := cs.foldl (fun a b => if s.before b a then b else a) c
    let wait := s.rgs.cycle - t.readyAt
    let s1 := s.setRgs (s.rgs.mapTask t.id fun x => { x with st := .running k, lastCore := k.val })
    let s2 := s1.addFld (Reg.RGS_DISPATCH k) 0 16 1
    let s3 := if t.lastCore = k.val then s2.addFld (Reg.RGS_DISPATCH k) 16 16 1 else s2
    let s4 := if t.kind = 1 then s3.addFld (Reg.RGS_WAIT t.prio (waitBin wait)) 0 32 1 else s3
    s4.traceTask t 2 k.val (s.effPrio t) wait

/-- Free Docent cores in ascending LOAD, then number. -/
def State.freeCores (s : State) : List (Fin 8) :=
  sortBy (fun k => s.rgs.load k) ((List.finRange 8).filter fun k => s.docentCore k.val && (s.rgs.taskOn k).isNone)

/-- One cycle of the Registrar (R484). -/
def State.rgsCycle (s : State) : State :=
  let r := s.rgs
  let tick := (r.cycle + 1) % 1000 == 0
  let s0 := s.setRgs { r with cycle := r.cycle + 1, now := if tick then (r.now + 1) % 2 ^ 32 else r.now, dones := [], yields := [], cancels := [] }
  let s1 := r.dones.foldl (fun (t : State) x => t.stepDone x.1 x.2) s0
  let s2 := r.yields.foldl (fun (t : State) x => t.stepYield x.1 x.2) s1
  let s3 := (dedupNat r.cancels).foldl (fun (t : State) i => t.stepCancel i) s2
  let s4 := s3.rgs.tasks.foldl (fun (t : State) x => t.stepReady tick x) s3
  let s5 := if s.docent = 1 ∧ r.stopped = false then s4.freeCores.foldl (fun (t : State) k => t.dispatch k) s4 else s4
  (List.finRange 8).foldl (fun (t : State) k =>
    if (t.rgs.taskOn k).isSome then (t.setRgs (t.rgs.countBusy k)).addFld (Reg.RGS_BUSY k) 0 32 1 else t) s5

/-- REGISTRAR_CYCLE (R484). -/
def execRegistrarCycle (s : State) : Host.Outcome State Fault Refusal := .next s.rgsCycle

/-- DELAY_EXPIRY (R485): the cycle of a tick at which a delayed task expires. -/
def execDelayExpiry (s : State) : Host.Outcome State Fault Refusal :=
  .next (if (s.rgs.cycle + 1) % 1000 = 0 ∧ (s.rgs.tasks.any fun t => t.st == .delayed && expired (s.rgs.now + 1) t.expiry) = true
    then s.rgsCycle else s)

/-- A write of RGS_DONE_k (R482, R491): it takes effect at step 1 of the next cycle. -/
def State.coreDone (s : State) (k : Fin 8) (status : Nat) : State :=
  if (s.rgs.taskOn k).isSome ∧ !(s.rgs.dones.any fun x => x.1 == k) ∧ !(s.rgs.yields.any fun x => x.1 == k) then
    s.setRgs { s.rgs with dones := insertBy (fun x => x.1.val) (k, status) s.rgs.dones }
  else s

/-- TASK_DONE (R482). -/
def execTaskDone (core : Fin 8) (status : Byte) (s : State) : Host.Outcome State Fault Refusal := .next (s.coreDone core status.toNat)

/-- A write of RGS_YIELD_k (R485). -/
def State.coreYield (s : State) (k : Fin 8) (delay : Nat) : State :=
  if (s.rgs.taskOn k).isSome ∧ !(s.rgs.dones.any fun x => x.1 == k) ∧ !(s.rgs.yields.any fun x => x.1 == k) then
    s.setRgs { s.rgs with yields := insertBy (fun x => x.1.val) (k, delay) s.rgs.yields }
  else s

/-- TASK_YIELD (R485). -/
def execTaskYield (core : Fin 8) (delay : BitVec 23) (s : State) : Host.Outcome State Fault Refusal := .next (s.coreYield core delay.toNat)

/-- A cancel is issued (R486): by the Curator, or by a core whose running task has the same OWNER. -/
def State.cancelTask (s : State) (core : Option (Fin 8)) (id : Nat) : State :=
  let own := fun (k : Fin 8) => match s.rgs.taskOn k, s.rgs.tasks.find? (fun t => t.id == id) with
    | some t, some x => t.owner == x.owner
    | some _, none => true
    | none, _ => false
  let ok := match core with
    | none => true
    | some k => own k
  if ok then s.setRgs { s.rgs with cancels := s.rgs.cancels ++ [id] } else s

/-- TASK_CANCEL (R486). -/
def execTaskCancel (core : Option (Fin 8)) (task : BitVec 10) (s : State) : Host.Outcome State Fault Refusal :=
  .next (s.cancelTask core task.toNat)

/-- Room frees in the DATA list and the oldest held request of a kind enters it (R481). -/
def State.releaseSource (s : State) (kind : Nat) : State :=
  match s.rgs.held.find? (fun h => h.kind == kind) with
  | some h =>
    if s.rgs.dataFull ∨ s.rgs.stopped then s
    else
      let s1 := s.setRgs ({ s.rgs with held := s.rgs.held.erase h }.create h.kind (s.kindPrio h.kind) h.owner 0 0 h.param .fresh 0)
      s1.traceHeld h 8
  | none => s

/-- DATA_SOURCE_RELEASE (R481). -/
def execDataSourceRelease (kind : Fin 4) (s : State) : Host.Outcome State Fault Refusal := .next (s.releaseSource (kind.val + 2))

/-- The tasks of cores for which `f` holds are abandoned (R487): READY again with their READY_TIME, LAST_CORE cleared. -/
def State.abandon (s : State) (f : Nat → Bool) : State :=
  s.rgs.tasks.foldl (fun (u : State) t =>
    match t.st with
    | .running k =>
      if f k.val then (u.setRgs (u.rgs.mapTask t.id fun x => { x with st := .ready, lastCore := 0 })).traceTask t 9 k.val t.prio 0 else u
    | _ => u) { s with rgs := { s.rgs with dones := s.rgs.dones.filter fun x => !f x.1.val, yields := s.rgs.yields.filter fun x => !f x.1.val } }

/-- A write of RGS_TRACE_TAIL (R302, R489). -/
def State.rgsTail (s : State) (v : Word) (path : Nat) : State :=
  let tail := s.fld Reg.RGS_TRACE_TAIL 0 12
  let head := s.fld Reg.RGS_TRACE_HEAD 0 12
  let pos := bitsAt v 0 12
  if (pos + 4096 - tail) % 4096 ≤ (head + 4096 - tail) % 4096 then s.setFld Reg.RGS_TRACE_TAIL 0 12 pos
  else s.logAccess 3 Reg.RGS_TRACE_TAIL v path 15

/-- RGS_TRACE_TAIL_WRITE (R489). -/
def execRgsTraceTailWrite (path : Path) (v : Word) (s : State) : Host.Outcome State Fault Refusal :=
  match path with
  | .pf1 _ => .next s
  | _ => .next (s.rgsTail v path.code)

/-- A read of the trace window (R490): byte offset `off` of the bank, a word of 32 bits.  A refused read other than BUSY has no
stated result (log entry 28). -/
def State.traceRead (s : State) (off : Nat) (meet : Meet) (ecc : Ecc) : State :=
  let bank := s.fld Reg.RGS_TRACE 0 10
  let word := off / 8
  let free := fun (t : State) => { t.bus (BitVec.ofNat 32 (Config.freeNat t.freeCtr)) with freeCtr := t.freeCtr + 1 }
  if !s.hasBank bank then free s
  else match s.unitAsk bank 12 with
  | some st => free (s.refuse bank 12 st)
  | none =>
    match meetLater meet false with
    | .busy => (((s.vltBusy bank).addFld Reg.RGS_TRACE_DROP 24 8 1).bus 0)
    | .proceeds =>
      let v := s.vwordN bank word
      (s.readEcc bank word 1 ecc).1.bus (BitVec.ofNat 32 (v.toNat / 2 ^ (32 * (off / 4 % 2))))

/-- TRACE_WINDOW_READ (R490). -/
def execTraceWindowRead (path : Path) (off : BitVec 14) (meet : Meet) (ecc : Ecc) (s : State) : Host.Outcome State Fault Refusal :=
  match path with
  | .pf1 _ => .next (s.bus 0)
  | _ => .next (s.traceRead (4 * off.toNat) meet ecc)

end Sys2Proof.Machine
end

