-- ==== Sys2Proof/Machine/CmdOps.lean ====
section
/-!
DEFINITION. How a mailbox command row acts (R448, R452, R453, R461 to R466): the command of its opcode that the Curator executes
now is refused, or acts.
-/
namespace Sys2Proof.Machine

/-- A command form: the opcode, the letters P, T, M and R of R463, whether DESC may be set (R465), and the fields of its payload
as (offset, bytes, mask of defined bits). -/
structure Form where
  op : Nat
  p : Bool := false
  t : Bool := false
  mg : Bool := false
  r : Bool := false
  desc : Bool := false
  used : List (Nat × Nat × Nat) := []

/-- Partition byte of a payload. -/
def fPart : Nat × Nat × Nat := (0, 1, 0xFF)

/-- The mailbox may not carry the command (R447, R463, R464): in recovery mode only letter R passes (R397). -/
def State.notAllowed (s : State) (m : Fin 36) (f : Form) (named : Bool) : Option Status :=
  if m.val = 23 ∨ m.val = 35 then (if f.op = 1 then none else some .range)
  else if s.docent = 3 ∧ f.r = false then some .range
  else permit m f.p f.t f.mg named

/-- The refusals that precede a command's own rules: its header, its mailbox, a tenant whose partition is EMPTY (R453), and the
reserved bits of its payload (R14). -/
def State.refusal (s : State) (m : Fin 36) (f : Form) (named : Fin 8 → Bool) (c : Cmd) : Option Rsp :=
  if c.badHeader || (c.desc && !f.desc) then some (rspEmpty .range 0)
  else
    let mine : Bool := match tenantOf m with | some n => named n | none => false
    match s.notAllowed m f mine with
    | some st => some (rspEmpty st 0)
    | none =>
      let gone : Bool := match tenantOf m with
        | some n => (s.part n).state == .empty && f.op != 1 && f.op != 0x0101
        | none => false
      if gone then some (rspEmpty .notOwner 0)
      else if c.desc then none
      else (badPayload c.payload f.used).map fun k => rspEmpty .range (1 + k)

/-- A command row: the command of mailbox m that has this opcode, for which `sel` holds, and which the Curator executes now, is
answered with its refusal or acts. -/
def State.cmdRow (s : State) (m : Fin 36) (f : Form) (sel : Cmd → Bool) (named : Fin 8 → Cmd → Bool)
    (act : State → Cmd → State) : State :=
  match s.due m f.op with
  | some c =>
    if sel c then
      match s.refusal m f (fun n => named n c) c with
      | some r => s.reply m c r
      | none => act s c
    else s
  | none => s

/-- The tenant's partition is the one in payload byte 0. -/
def namesPart (n : Fin 8) (c : Cmd) : Bool := c.pay 0 1 == n.val

/-- A command that names a partition in payload byte 0; another number is out of range. -/
def State.partRow (s : State) (m : Fin 36) (f : Form) (act : State → Cmd → Fin 8 → State) : State :=
  s.cmdRow m { f with used := fPart :: f.used } (fun _ => true) namesPart fun s c =>
    if h : c.pay 0 1 < 8 then act s c ⟨c.pay 0 1, h⟩ else s.reply m c (rspEmpty .range 1)

/-- Reply with the partition's block. -/
def State.replyBlock (s : State) (m : Fin 36) (c : Cmd) (n : Fin 8) (st : Status) (detail : Nat) : State :=
  s.reply m c (s.rspBlock n st detail)

/-- Begin a command that waits, and hold later commands until it is answered or, when `frees`, only those of R452. -/
def State.wait (s : State) (m : Fin 36) (c : Cmd) (frees : Bool) (w : Wait) : State := s.begin m c c.part frees w

/-- The stopped Docent restarts (R441): dispatch stops, and running tasks are abandoned (R487). -/
def State.docentRestart (s : State) (cause : Nat) : State :=
  let s1 := (s.abandon fun k => s.docentCore k).setDocent 2
  { s1 with cur := { s1.cur with restart := some cause } }

end Sys2Proof.Machine
end

