-- ==== Sys2Proof/Machine/Transmit.lean ====
section
/-!
DEFINITION. What the lanes send with time (R232, R233, R237, R256 to R258, R263, R265, R266, R272, R273): one flit in every flit slot of an
active transmitter, as symbols; and a near-end loopback, in which a lane's receiver hears its own transmitter.
-/
namespace Sys2Proof.Machine

/-- The logical lane that a physical lane carries, and the rate it runs at (R255). -/
def State.halfRate (s : State) (l : Nat) : Bool :=
  match s.carries l with
  | some (q, _) => s.fld (Reg.LANE_QUAD q) 7 1 == 1
  | none => s.fld (Reg.LANE_QUAD (quadOf l)) 7 1 == 1

/-- The FILLER a lane sends (R265, R266): TRAIN while its own receiver is not UP; a spare lane names the logical lane it carries, and an
idle one sends SPARE = 0 with its protected quad (DEDUCED, log entry 139). -/
def State.ownFiller (s : State) (l : Nat) : FillerF :=
  let train := s.rx l != 5
  let dev := s.fld Reg.LNK_DEVICE_ID 0 8
  match s.carries l with
  | some (q, i) => ⟨i, train, decide (96 ≤ l), q, dev⟩
  | none => ⟨0, train, false, if 96 ≤ l then s.fld (Reg.LANE_SPARE (l - 96)) 0 5 else quadOf l, dev⟩

/-- What the link layer or the depot port gives a lane in service for its flit slot (R232, R266, R268); none leaves it to a FILLER. -/
def State.laneFlit (s : State) (l : Nat) : Option (BitVec 288 × State) :=
  match s.carries l with
  | some (q, i) =>
    let b := s.fld (Reg.LANE_QUAD q) 2 5
    if hi : i < 4 ∧ s.fld (Reg.LANE_STATE l) 6 1 = 1 then
      if h : s.fld (Reg.LANE_QUAD q) 0 2 = 1 ∧ b < 24 then
        ((s.stream ⟨b, h.2⟩ ⟨i, hi.1⟩).take s.lnk.timebase).map fun x => (x.1, s.setStream ⟨b, h.2⟩ ⟨i, hi.1⟩ x.2)
      else if h : s.fld (Reg.LANE_QUAD q) 0 2 = 2 ∧ b < 8 then
        ((s.port ⟨b, h.2⟩).take ⟨i, hi.1⟩).map fun x => (x.1, s.setPort ⟨b, h.2⟩ x.2)
      else none
    else none
  | none => none

/-- The flit of a slot (R263): a FILLER after 2,048 flits that were not, or when there is nothing else to send. -/
def State.slotFlit (s : State) (l : Nat) : BitVec 288 × Nat × State :=
  let run := (s.sender l).run
  match (if 2048 ≤ run then none else s.laneFlit l) with
  | some (f, t) => (f, run + 1, t)
  | none => ((s.ownFiller l).flit, 0, s)

/-- PRBS-31, x^31 + x^28 + 1 (R273). -/
def prbsBits : Nat → BitVec 31 → List Bool
  | 0, _ => []
  | k + 1, h => let b := h.getLsbD 27 ^^ h.getLsbD 30; b :: prbsBits k (pushBit h b)

/-- A flit through scrambler, pattern test, mapping and precoder (R256 to R258, R273): the transmitter after it. -/
def LaneTx.code (x : LaneTx) (cfg : Word) (pattern : Bool) (f : BitVec 288) : LaneTx :=
  let b := scramble x.scr (numBits 288 f.toNat)
  let pat := prbsBits 288 x.prbs
  let xs := toX (bitsAt cfg 0 1 == 1) (if pattern then pat else b)
  let ys := if bitsAt cfg 1 1 = 1 then precode (x.syms.getLastD 0) xs else xs
  { x with scr := pushBits x.scr b, prbs := if pattern then pushBits x.prbs pat else x.prbs,
           prev := (x.prev ++ x.syms).drop x.syms.length, syms := ys, flit := f }

/-- The levels on a lane's transmit pair for its last flit slot, one symbol late, in 192nds of the peak amplitude (R257, R260). -/
def State.txLevels (s : State) (l : Nat) : List Int :=
  drive (mget dTaps s.lan.taps l) (bitsAt (s.cfgNow l) 2 1 == 1) ((s.sender l).prev ++ (s.sender l).syms)

/-- The PRBS checker takes a bit (R273): it synchronises on 31 bits that follow the polynomial, then runs on by itself (DESIGN CHOICE, log
entry 135) and counts each mismatch.  Answers the receiver, whether it is locked, and the mismatches. -/
def LaneRx.check (x : LaneRx) (lock : Bool) (errs : Nat) : List Bool → LaneRx × Bool × Nat
  | [] => (x, lock, errs)
  | b :: r =>
    let want := x.prbs.getLsbD 27 ^^ x.prbs.getLsbD 30
    if lock then LaneRx.check { x with prbs := pushBit x.prbs want } true (errs + b2n (b != want)) r
    else
      let n := if b == want then x.clean + 1 else 0
      LaneRx.check { x with prbs := pushBit x.prbs b, clean := n % 31 } (decide (31 ≤ n)) errs r

/-- The checker of a lane with RX_EN (R273). -/
def State.checkPrbs (s : State) (l : Nat) (b : List Bool) : State :=
  if s.fld (Reg.LANE_PRBS l) 1 1 = 1 then
    let r := (s.recv l).check (s.fld (Reg.LANE_PRBS l) 2 1 == 1) 0 b
    ((s.setRecv l r.1).setFld (Reg.LANE_PRBS l) 2 1 (b2n r.2.1)).addFld (Reg.LANE_PRBS_ERR l) 0 32 r.2.2
  else s

/-- A received flit at the boundary: the accept test and, when UP, the FILLER seen (R264, R265, R271). -/
def State.hearFlit (s : State) (l : Nat) (f : BitVec 288) : State :=
  if s.rx l = 4 ∧ s.fld (Reg.LANE_ALIGN_STAT l) 8 2 = 1 then
    let x := s.recv l
    if flitOk f = false then s.acceptEnds l false
    else if x.good + 1 = 16 then s.acceptEnds l true
    else s.setRecv l { x with good := x.good + 1 }
  else
    match fillerOf f with
    | some g => s.filler l g (s.recv l).fill
    | none => s

/-- A slot of a lane in near-end loopback reaches its own receiver (R272): after the driver in mode 1, where both polarities act (DESIGN
CHOICE, log entry 135), and as symbols in mode 2. -/
def State.hearSelf (s : State) (l : Nat) : State :=
  let cfg := s.cfgNow l
  let inv := s.loopback l == 1 && (bitsAt cfg 2 1 != bitsAt cfg 6 1)
  let ys := (s.sender l).syms
  let x := s.recv l
  let b := rxBits cfg inv x.y ys
  let d := bitsNat (descramble x.scr b)
  let got : BitVec 864 := (x.got >>> 288) ||| BitVec.ofNat 864 (d * 2 ^ 576)
  let s1 := (s.setRecv l { x with scr := pushBits x.scr b, y := ys.getLastD x.y, got := got }).checkPrbs l b
  s1.hearFlit l (BitVec.ofNat 288 (bitsAt got (288 + 2 * s1.boundaryOf l) 288))

/-- A flit slot of an active transmitter (R263, R266): in far-end loopback the lane's own flits are not sent (R272). -/
def State.laneSlot (s : State) (l : Nat) : State :=
  if s.loopback l = 3 then s
  else
    let (f, run, t) := s.slotFlit l
    let x := (t.sender l).code (t.cfgNow l) (t.quadManual (quadOf l) && t.fld (Reg.LANE_PRBS l) 0 1 == 1) f
    let t1 := t.setSender l { x with run := run }
    if t1.hearsSelf l then t1.hearSelf l else t1

/-- Length of a flit slot in 425ths of a nanosecond: 288 bits at 106.25 or 53.125 Gb/s (R232). -/
def slotTime (half : Bool) : Nat := if half then 2304 else 1152

/-- A nanosecond of one lane. -/
def State.laneNs (s : State) (l : Nat) : State :=
  let x := s.sender l
  if x.on then
    let k := slotTime (s.halfRate l)
    if k ≤ x.phase + 425 then (s.setSender l { x with phase := x.phase + 425 - k }).laneSlot l
    else s.setSender l { x with phase := x.phase + 425 }
  else s

/-- A nanosecond of every lane whose transmitter is active (R266). -/
def State.lanesNs (s : State) : State := s.lan.tx.foldl (fun (t : State) x => t.laneNs x.1) s

end Sys2Proof.Machine
end

