-- ==== Sys2Proof/Machine/Clock.lean ====
section
/-!
DEFINITION. What happens with time, whatever is commanded: a nanosecond of the timebase and of Tally time passes (R249, R250, R514),
packets move in the NoC (R204 to R206, R212), lanes send flits (R232, R263) and arms look at their links (R238),
and the Curator refuses a command whose opcode it does not know.  DESIGN CHOICE (log entry 31): this is the step of an empty queue.
-/
namespace Sys2Proof.Machine

/-- A nanosecond of the timebase (R249, R250): a correction is slewed by 1 ns in every 10,000, which is 100 ppm, and the
timebase never decreases. -/
def State.timebaseNs (s : State) : State :=
  let l := s.lnk
  if l.slew = 0 ∨ l.slewNs + 1 < 10000 then
    { s with lnk := { l with timebase := (l.timebase + 1) % 2 ^ 64, slewNs := if l.slew = 0 then 0 else l.slewNs + 1 } }
  else if 0 < l.slew then { s with lnk := { l with timebase := (l.timebase + 2) % 2 ^ 64, slew := l.slew - 1, slewNs := 0 } }
  else { s with lnk := { l with slew := l.slew + 1, slewNs := 0 } }

/-- A nanosecond of the low time of VAULT_BUSY_N (R198). -/
def State.busyNs (s : State) : State :=
  if s.vlt.busyLow then
    { s with vlt := { s.vlt with busyLeft := s.vlt.busyLeft - 1, busyLow := decide (1 < s.vlt.busyLeft) } }
  else s

/-- Opcodes of the command tables (R468 to R476). -/
def knownOp (op : Nat) : Bool :=
  (1 ≤ op && op ≤ 9) || (0x101 ≤ op && op ≤ 0x109) || (0x201 ≤ op && op ≤ 0x205) || (0x301 ≤ op && op ≤ 0x306) ||
    (0x401 ≤ op && op ≤ 0x405) || (0x501 ≤ op && op ≤ 0x504)

/-- The Curator's next command has no opcode of the tables: RANGE with detail 0 (R448, R462). -/
def State.refuseUnknown (s : State) : State :=
  match s.nextCmd with
  | some (m, c) => if knownOp c.op then s else s.reply m c (rspEmpty .range 0)
  | none => s

/-- A nanosecond passes, two cycles of the NoC's 2.0 GHz (R204); without VAON nothing does (R514). -/
def State.nanosecond (s : State) : State :=
  if s.pin.vaon then (s.timebaseNs.busyNs.trigNs.nocCycle.nocCycle.lanesNs.armsLook.tallyNs 1).refuseUnknown.cellEdges s.vtr.edges else s

end Sys2Proof.Machine
end

