-- ==== Sys2Proof/Machine/Recover.lean ====
section
/-!
DEFINITION. Commands of checkpoints, the input record, hard-fault recovery and replay (R315 to R333).
-/
namespace Sys2Proof.Machine

/-- AUTO_CHECKPOINT (R318): the tick at a boundary of the interval, or at the one owed after UNDO_FULL. -/
def execAutoCheckpoint (n : Fin 8) (s : State) : Host.Outcome State Fault Refusal :=
  .next (match s.boundaryAt n with | some c => if s.ckAuto n c then s.cycleAt n 15 {} else s | none => s)

/-- CHECKPOINT_READ_DONE (R316). -/
def execCheckpointReadDone (n : Fin 8) (s : State) : Host.Outcome State Fault Refusal := .next (s.ckReadDone n)

/-- CHECKPOINT_COMPLETE (R318): `ok` says that no write of it met DERR or a refusal. -/
def execCheckpointComplete (n : Fin 8) (ok : Bool) (s : State) : Host.Outcome State Fault Refusal := .next (s.ckComplete n ok)

/-- INPUT_RECORD_ENTRY (R322). -/
def execInputRecordEntry (n : Fin 8) (s : State) : Host.Outcome State Fault Refusal := .next (s.recSettle n)

/-- Due entries are written as the ring takes them; with none left the hold of the boundary ends (R325). -/
def State.recSpace (s : State) (n : Fin 8) : State :=
  let s1 := s.recWrite n (s.ck n).due
  if (s1.ck n).due.isEmpty then s1.endHold n fun h => h == .record else s1

/-- REC_RING_SPACE (R325). -/
def execRecRingSpace (n : Fin 8) (s : State) : Host.Outcome State Fault Refusal := .next (s.recSpace n)

/-- A host write of CKP_REC_TAIL (R302, R325): forwards, not past REC_POS of the latest complete checkpoint, or, with none, not
past the head; else ignored and logged. -/
def State.recTailWrite (s : State) (n : Fin 8) (v : Word) (path : Nat) : State :=
  let size := (s.reg (Reg.CKP_REC_SIZE n)).toNat
  let tail := (s.reg (Reg.CKP_REC_TAIL n)).toNat
  let lim := match (s.ck n).latest with
    | some l => l.recPos
    | none => (s.reg (Reg.CKP_REC_HEAD n)).toNat
  if v.toNat < max 1 size ∧ ringDist size tail v.toNat ≤ ringDist size tail lim then s.recTail n v.toNat
  else s.logAccess 3 (Reg.CKP_REC_TAIL n) v path 15

/-- CKP_REC_TAIL_WRITE (R325). -/
def execCkpRecTailWrite (n : Fin 8) (path : Path) (v : Word) (s : State) : Host.Outcome State Fault Refusal :=
  .next (s.recTailWrite n v path.code)

/-- PHASE of a recovery. -/
def State.recovPhase (s : State) (n : Fin 8) : Nat := s.fld (Reg.CKP_RECOVERY n) 1 2

/-- The unit can be what a recovery of partition n locates: the partition holds it, and a bank goes to an idle spare while one
is left. -/
def State.locatable (s : State) (n : Fin 8) (l : Located) : Bool :=
  match l with
  | .cluster t _ => s.tileHolder t.toNat == some n
  | .bank b p => s.loanOwner b.toNat == n.val &&
      (s.fld (Reg.SPR_BHEALTH (b.toNat / 256) (256 + p.val)) 8 3 == 1 || (s.idleBanks (b.toNat / 256)).isEmpty)
  | .lane q _ => s.quadOn q
  | .row bp _ => s.tileHolder (bp.toNat / 1024) == some n
  | .link .. => true
  | .router _ => true
  | .core k => s.docentCore k.val

/-- The unit's entry in the notice (R331).  Ids the spec does not spell (DESIGN CHOICE, log entry 143): a lane 4 × quad + lane, a row 16
× packed BP + row, a link 4 × packed tile + direction, a router 1,024 + packed tile, a core its number. -/
def Located.word (l : Located) : Nat :=
  match l with
  | .cluster t c => unitEntry 1 (t.toNat + c.val * 256) 1
  | .bank b _ => unitEntry 2 b.toNat 1
  | .lane q i => unitEntry 3 (4 * q.val + i.val) 1
  | .row bp r => unitEntry 4 (16 * bp.toNat + r.val) 1
  | .link t d => unitEntry 5 (4 * t.toNat + d.val) 3
  | .router t => unitEntry 5 (1024 + t.toNat) 2
  | .core k => unitEntry 6 k.val 1

/-- One located unit leaves service, and whether the recovery of partition n can go on (R326, R330): a cluster, bank, lane, row or core
goes to a spare, if one is left (R342, R349, R274, R350, R352); a link is routed around (R207); a router is fenced, which no
spare makes good for the partition that holds its tile (R351). -/
def State.locateOne (s : State) (n : Fin 8) (l : Located) : State × Bool :=
  match l with
  | .cluster t c =>
    if s.idleClu t.toNat = 0x1F then (s, false)
    else ((s.setPend (s.spr.pend.filter fun x => x != ⟨1, t.toNat * 16 + c.val⟩)).accCluster t.toNat c.val false, true)
  | .bank b p => if (s.idleBanks (b.toNat / 256)).isEmpty then (s, false) else (s.accBank b.toNat (256 + p.val), true)
  | .lane q i =>
    match s.idleSpare q with
    | some x => if s.carrier q i < 96 then (s.activate x i, true) else (s, false)
    | none => (s, false)
  | .row bp r =>
    let key := slotWord bp.toNat (128 * r.val)
    if s.fld (Reg.SPR_ROWS (rowTile (rowOf key) / 16)) 10 10 = 0 then (s, false) else (s.remapRows [key], true)
  | .link t d => (s.linkFails t.toNat d, true)
  | .router t => (s.fenceRouter t.toNat, s.tileHolder t.toNat != some n)
  | .core k => (s.coreFails k, (List.range 8).any fun j => decide (2 ≤ j) && s.fld Reg.SPR_CORES (2 * j) 2 == 2)

/-- The located units, the first first; with none to spare the recovery fails (R330). -/
def State.locate (s : State) (n : Fin 8) : List Located → State
  | [] =>
    s.setFld (Reg.CKP_RECOVERY n) 1 2 2
  | l :: r =>
    match (s.ck n).recov with
    | none => s
    | some x =>
      let note := fun (t : State) => t.modCk n fun k => { k with recov := some { x with units := (x.units ++ [l.word]).take 5 } }
      let y := s.locateOne n l
      if y.2 then (note y.1).locate n r
      else y.1.recoveryFail n x.cause x.frame x.aborts x.since 3 (x.units ++ [l.word] |>.take 5)

/-- The variant carries the unit. -/
def State.hasLocated (s : State) (l : Located) : Bool :=
  match l with
  | .cluster t _ => s.hasDie (t.toNat / 64)
  | .bank b _ => s.hasBank b.toNat
  | .lane q _ => s.hasQuad q
  | .row bp _ => s.hasDie (bp.toNat / 65536)
  | .link t _ => s.hasDie (t.toNat / 64)
  | .router t => s.hasDie (t.toNat / 64)
  | .core _ => true

/-- UNIT_LOCATED (R326): stage 2 of a recovery. -/
def execUnitLocated (n : Fin 8) (units : List Located) (s : State) : Host.Outcome State Fault Refusal :=
  guardUnit s (units.all s.hasLocated)
    (if (s.ck n).recov.isSome ∧ s.recovPhase n = 1 ∧ units.all (s.locatable n) = true then s.locate n units else s)

/-- Capture registers of a checkpoint are written back; `keep` names those that stay as they are. -/
def State.restoreCapRegs (s : State) (n : Fin 8) (regs : List (Nat × Word)) (keep : Nat → Bool) : State :=
  let base := Reg.CAP_CFG n
  let inSection := fun (r : Nat) => decide (r < 0x20) || (decide (0x400 ≤ r) && decide (r < 0x600)) || (decide (0x800 ≤ r) && decide (r < 0x1000))
  let s1 := { s with regs := s.regs.filter fun (r : Nat × Word) =>
    !(decide (base ≤ r.1) && inSection (r.1 - base) && !keep (r.1 - base)) }
  (regs.filter fun r => inSection r.1 && !keep r.1).foldl (fun (t : State) r => t.setReg (base + r.1) r.2) s1

/-- Capture registers that a recovery leaves as they are (R327, R328): CAP_STATUS and the plate number. -/
def capLive (r : Nat) : Bool := r == 8 || r == 0x1C

/-- Stage 3 of a recovery (R326, R328): the checkpoint is on-chip again, with the sequencer's counters of the fault, the inputs of
frame h + 1 and live capture kept, the undo granules are at the node again, and catch-up begins. -/
def State.recoveryRestore (s : State) (n : Fin 8) : State :=
  match (s.ck n).recov, (s.ck n).latest with
  | some r, some i =>
    if s.recovPhase n = 2 then
      let s1 := (s.restoreCore n i fun f => decide (r.shown ≤ f)).restoreCapRegs n i.cap.regs capLive
      let s2 := s1.modCap n fun c => { c with seqr := { i.cap.seqr with fresh := true }, fixed := [] }
      let s3 := s2.modPart n fun p => { p with start := i.start, consec := 0, stalled := false, stallLen := 0, stallCause := 0 }
      let s4 := (s3.modCk n fun k => { k with recov := some { r with catchUp := true }, back := i.granules }).setFld (Reg.CKP_RECOVERY n) 1 2 3
      let s5 := s4.setReg64 (Reg.CKP_RECOVERY_FRAME_LO n) i.boundary
      if i.boundary < r.shown then s5.openFrame n
      else s5.modPart n fun p => { p with bholds := p.bholds ++ [.curator] }
    else s
  | _, _ => s

/-- RECOVERY_RESTORE_DONE (R326). -/
def execRecoveryRestoreDone (n : Fin 8) (s : State) : Host.Outcome State Fault Refusal := .next (s.recoveryRestore n)

/-- Cycles of a catch-up frame until it ends, stalls or fails. -/
def State.catchUpCycles (s : State) (n : Fin 8) : Nat → State
  | 0 => s
  | fuel + 1 =>
    let t := s.seqCycle n {}
    if t.catchingUp n = false ∨ (t.part n).step = 0 ∨ (t.part n).stalled = true ∨ (t.part n).bdone = true then t
    else t.catchUpCycles n fuel

/-- CATCH_UP_FRAME (R328): the rest of the frame in execution, without errors. -/
def execCatchUpFrame (n : Fin 8) (s : State) : Host.Outcome State Fault Refusal :=
  let t := if (s.part n).bdone then s.seqCycle n {} else s
  .next (if !s.catchingUp n then s else if t.catchingUp n then t.catchUpCycles n ((t.part n).eph.depth + 16) else t)

/-- An open plate continues as a new part that begins with frame f, and f is written as a key frame (R328). -/
def State.resumePlate (s : State) (n : Fin 8) (f : Nat) : State :=
  let s1 := match (s.cap n).plate with
    | some pl =>
      if s.capState n = 2 then
        ((s.part n).eph.dies.foldl (fun (t : State) d => t.closePart n pl (f - 1) d) s).modCap n fun c =>
          { c with plate := some { pl with first := f, trunc := decide (pl.trig < f + c.pre), resumed := true } }
      else s
    | none => s
  s1.modCap n fun c => { c with keyNext := true }

/-- Stage 5 of a recovery (R326, R328, R329): frame h + 1 runs live. -/
def State.recoveryDone (s : State) (n : Fin 8) : State :=
  match (s.ck n).recov with
  | some r =>
    if s.catchingUp n ∧ (s.part n).bholds.contains .curator = true then
      let f := (s.part n).frame
      let ckpt := match (s.ck n).latest with | some l => l.boundary | none => 0
      let us := (s.lnk.timebase - r.since) / 1000
      let s1 := (s.modCk n fun k => { k with recov := none }).setReg (Reg.CKP_RECOVERY n) (BitVec.ofNat 32 (2 ^ 4))
      let s2 := (s1.addFld (Reg.CKP_RECOVERIES n) 0 32 1).modPart n fun p =>
        { p with state := .running, faultCause := .none, consec := r.aborts, decidesNone := true,
                 bholds := p.bholds.filter fun h => h != .curator }
      let s3 := (s2.resumePlate n f).openFrame n
      s3.recoveryNotice n (recoveryPayload 3 n r.cause.code r.frame ckpt (f - ckpt) r.aborts 0 us r.units)
    else s
  | none => s

/-- RECOVERY_DONE (R326). -/
def execRecoveryDone (n : Fin 8) (s : State) : Host.Outcome State Fault Refusal := .next (s.recoveryDone n)

/-- REPLAY_END (R333): the tick at which the record holds no further entry. -/
def execReplayEnd (n : Fin 8) (s : State) : Host.Outcome State Fault Refusal :=
  .next (if s.replaying n ∧ (s.recEntry n (s.part n).frame).isNone = true then s.cycleAt n 15 {} else s)

/-- The SEQ section goes back to the sequencer and its registers (R320, R321). -/
def State.restoreSeq (s : State) (n : Fin 8) (i : CkImg) : State :=
  let q := i.seq
  let cnt := fun (k : Nat) => BitVec.ofNat 32 (q.stallBy[k]?.getD 0)
  let s1 := ((((s.setReg (Reg.FRM_STALL_DEPOT n) (cnt 0)).setReg (Reg.FRM_STALL_XGET n) (cnt 1)).setReg (Reg.FRM_STALL_VTR n) (cnt 2)).setReg
    (Reg.FRM_STALL_VOTE n) (cnt 3)).setReg (Reg.FRM_STALL_TOKEN n) (cnt 4)
  let s2 := (s1.setReg (Reg.FRM_STALL_MAX n) (BitVec.ofNat 32 q.stallMax)).modPart n fun p =>
    { p with state := .armed, start := i.start, cur := i.boundary, first := i.boundary, hiFrame := i.boundary, committed := 0,
             committedValid := false, remaining := q.remaining, goWait := false, slast := mset dBit [] i.boundary q.stalled,
             stallTotal := q.stallTotal, consec := q.consec, aborts := q.aborts, stalled := false, stallLen := 0, stallCause := 0,
             haltReqs := p.haltReqs.filter (fun (h : Halt) => h != Halt.host), haltAt := none, faultCause := .none, deps := [], c4 := [], bholds := [],
             status := q.status }
  s2.setMach n { s2.mach n with epoch := q.epoch, tokens := [], votes := [], aside := [], arming := none }

/-- The CAPTURE section goes back (R303): the first frame is a key frame, and an open plate continues with RESUMED. -/
def State.restoreCap (s : State) (n : Fin 8) (x : CapSnap) (boundary : Nat) : State :=
  let s1 := (s.restoreCapRegs n x.regs fun _ => false).setCapState n x.state
  (s1.modCap n fun c =>
    { c with waited := x.waited, pre := x.pre, post := x.post, keyNext := true, autoDue := false, segs := [], dead := [], actions := 0,
             plate := x.plate.map fun pl => { pl with first := boundary, trunc := decide (pl.trig < boundary + x.pre), resumed := true },
             lastRel := none }).capFresh n |>.tailsMove n
    |>.modCap n fun c => { c with seqr := { x.seqr with fresh := true } }

/-- A restore of an accepted checkpoint by command (R321, R376): every section is written, the granules go to the node, and the
partition is ARMED at the boundary; a recording starts anew (R322). -/
def State.restoreAll (s : State) (n : Fin 8) (i : CkImg) : State :=
  let s1 := ((s.restoreCore n i fun _ => false).restoreSeq n i).restoreCap n i.cap i.boundary
  let s2 := i.regions.foldl (fun (t : State) x => t.restoreRegion x) (s1.writeBout n i.img.outv)
  let s3 := s2.modCk n fun k => { k with depLog := [], xtaken := [], replay := none, restored := some i, back := i.granules }
  s3.recStart n

end Sys2Proof.Machine
end

