-- ==== Sys2Proof/Machine/PartCmds.lean ====
section
/-!
DEFINITION. Partition commands (R469 to R472) and capture, checkpoint and replay commands (R473).
-/
namespace Sys2Proof.Machine

/-- The partition is in a hard-fault recovery (R326). -/
def State.recovering (s : State) (n : Fin 8) : Bool := (s.ck n).recov.isSome

/-- The partition is in FAULT for good: no recovery runs (R466). -/
def State.faulted (s : State) (n : Fin 8) : Bool := (s.part n).state == .fault && !s.recovering n

/-- The partition executes frames now, or will when its recovery ends (R466). -/
def State.live (s : State) (n : Fin 8) : Bool := (s.part n).state == .running || s.recovering n

/-- A SAFETY command that has been accepted and not executed, on partition n or on all (R454). -/
def State.safetyDue (s : State) (n : Fin 8) : Option Nat :=
  minOf (((List.finRange 36).flatMap fun m => (s.mbx m).queue.filter fun c =>
    c.op == 0x0405 || (c.op == 0x0106 && (c.pay 0 1 == n.val || c.pay 0 1 == 0xFF))).map fun c => c.stamp)

/-- LOAD (R167, R168, R396, R469): `img` is the container at the address, `fin` how its writes end. -/
def State.loadCmd (s : State) (m : Fin 36) (c : Cmd) (n : Fin 8) (img : Option (Cont × EphRec)) (fin : LoadEnd) : State :=
  let fail := fun (st : Status) (k : Nat) => (s.noteLoad n st k false).replyBlock m c n st k
  if s.recovering n then s.replyBlock m c n .range 0
  else if 1 < c.pay 1 1 then s.reply m c (rspEmpty .range 2)
  else if c.pay 8 8 % 8 ≠ 0 then s.reply m c (rspEmpty .range 9)
  else
    match img with
    | none => fail .range 1
    | some (k, e) =>
      if s.stagingBytes < k.totalLen.toNat then fail .range 0
      else
        match s.loadCheck n k e (c.pay 16 8) 1 25 with
        | some x => fail x.1 x.2
        | none =>
          let cut := fun (t : State) =>
            match s.safetyDue n with
            | some k => t.reply m c (t.rspMoot n k)
            | none => s
          match fin with
          | .written => (((s.loadWrite n k e true).noteLoad n .ok 0 false).noteMade n c.stamp 1 false).replyBlock m c n .ok 0
          | .failed => ((s.loadWrite n k e false).noteLoad n .partFault 26 false).replyBlock m c n .partFault 26
          | .cutBefore => cut s
          | .cutAfter => cut (s.loadWrite n k e false)

/-- LOAD. -/
def execLoad (m : Fin 36) (img : Option (Cont × EphRec)) (fin : LoadEnd) (s : State) : Host.Outcome State Fault Refusal :=
  .next (s.partRow m { op := 0x0101, p := true, t := true, used := [(1, 1, 0xFF), (8, 8, 2 ^ 64 - 1), (16, 8, 2 ^ 64 - 1)] } fun s c n =>
    s.loadCmd m c n img fin)

/-- UNLOAD (R396, R469). -/
def execUnload (m : Fin 36) (s : State) : Host.Outcome State Fault Refusal :=
  .next (s.partRow m { op := 0x0102, p := true } fun s c n =>
    if (s.part n).state = .running then s.replyBlock m c n .range 0
    else if (s.part n).state = .empty then s.replyBlock m c n .ok 0
    else ((s.unloadNow n).noteMade n c.stamp 0 false).replyBlock m c n .ok 0)

/-- ARM (R69, R238, R469). -/
def State.armCmd (s : State) (m : Fin 36) (c : Cmd) (n : Fin 8) : State :=
  let p := s.part n
  let start := c.pay 8 6
  let go := c.pay 1 1 == 1
  if s.recovering n then s.replyBlock m c n .range 0
  else if p.state = .armed ∧ p.start = start ∧ p.goWait = go ∧ (s.madeSince n 2 c).isSome = true then
    s.reply m c (s.rspMoot n ((s.madeSince n 2 c).getD 0))
  else if p.state ≠ .loaded ∧ p.state ≠ .halted then s.replyBlock m c n .range 0
  else (s.wait m c false (.arm n)).armBegin n ⟨start, [], some ⟨m, c.stamp⟩, go, false⟩

/-- ARM. -/
def execArm (m : Fin 36) (s : State) : Host.Outcome State Fault Refusal :=
  .next (s.partRow m { op := 0x0103, p := true, t := true, used := [(1, 1, 1), (8, 8, 2 ^ 48 - 1)] } fun s c n => s.armCmd m c n)

/-- A partition that halted at the end of the frame numbers: only a new arm resumes it (R31). -/
def Part.atLimit (p : Part) : Bool :=
  p.state == .halted && (p.haltCause == some .frameLimit ||
    p.committedValid && decide ((if p.eph.spans then 2 ^ 48 - 2 else 2 ^ 48 - 1) ≤ p.committed))

/-- RUN (R31, R395, R453, R469): one that a SAFETY command contradicts, or that finds its state made since, is SUPERSEDED. -/
def State.runCmd (s : State) (m : Fin 36) (c : Cmd) (n : Fin 8) : State :=
  let st := (s.part n).state
  let moot := if st = .armed ∨ st = .running ∨ st = .halted then
      (match s.safetySince n c with
       | some k => some k
       | none => if st = .running then s.madeSince n 3 c else none)
    else none
  match moot with
  | some k => s.reply m c (s.rspMoot n k)
  | none =>
    if (st = .armed ∨ st = .halted) ∧ (s.part n).atLimit = false then ((s.runStart n (c.pay 4 4)).noteMade n c.stamp 3 false).replyBlock m c n .ok 0
    else s.replyBlock m c n .range 0

/-- RUN. -/
def execRun (m : Fin 36) (s : State) : Host.Outcome State Fault Refusal :=
  .next (s.partRow m { op := 0x0104, p := true, t := true, used := [(4, 4, 2 ^ 32 - 1)] } fun s c n => s.runCmd m c n)

/-- HALT (R453, R466, R471). -/
def State.haltCmd (s : State) (m : Fin 36) (c : Cmd) (n : Fin 8) : State :=
  let p := s.part n
  let f := c.pay 8 8
  if s.faulted n then s.replyBlock m c n .partFault 0
  else if s.live n = false ∧ p.state ≠ .armed ∧ p.state ≠ .halted then s.replyBlock m c n .range 0
  else if p.eph.spans ∧ f = 0 then s.replyBlock m c n .range 9
  else if p.state = .halted then
    if p.haltCause = some .host ∨ p.haltCause = some .safety then
      match s.madeSince n 4 c with
      | some k => s.reply m c (s.rspMoot n k)
      | none => s.replyBlock m c n .ok 0
    else s.replyBlock m c n .ok 0
  else if f ≠ 0 ∧ f < s.shownFrame n then s.replyBlock m c n .range 9
  else if p.state = .armed then
    (s.modPart n fun p => if f = 0 then { p with haltReqs := .host :: p.haltReqs } else { p with haltAt := some f }).replyBlock m c n .ok 0
  else s.wait m c true (.halt n f)

/-- HALT. -/
def execHalt (m : Fin 36) (s : State) : Host.Outcome State Fault Refusal :=
  .next (s.partRow m { op := 0x0105, p := true, t := true, used := [(8, 8, 2 ^ 48 - 1)] } fun s c n => s.haltCmd m c n)

/-- A SAFETY command has been executed on partition n (R453). -/
def State.noteSafety (s : State) (n : Fin 8) (stamp : Nat) : State :=
  let k := s.cur.order + 1
  { s with cur := { s.cur with order := k, safety := vset s.cur.safety n (some ⟨k, stamp, 4⟩) } }

/-- The partitions that are loaded. -/
def State.loadedParts (s : State) : List (Fin 8) := (List.finRange 8).filter fun n => (s.part n).state != .empty

/-- FORCED_HALT (R454, R466, R469, R471): of a partition that does not run it changes nothing. -/
def State.forcedHalt (s : State) (m : Fin 36) (c : Cmd) : State :=
  if h : c.pay 0 1 < 8 then
    let n : Fin 8 := ⟨c.pay 0 1, h⟩
    if (s.part n).state = .empty then s.replyBlock m c n .range 0
    else
      let s1 := s.noteSafety n c.stamp
      if s.faulted n then s1.replyBlock m c n .partFault 0
      else if s.live n then s1.begin m c (some n.val) true (.forced false [n.val] [])
      else s1.replyBlock m c n .ok 0
  else if c.pay 0 1 = 0xFF then
    let s1 := s.loadedParts.foldl (fun (t : State) n => t.noteSafety n c.stamp) s
    let left := (s.loadedParts.filter s.live).map fun n => n.val
    let s2 := s1.begin m c none true (.forced true left [])
    if left.isEmpty then s2.answer m c.stamp (s2.rspForced true []) else s2
  else s.reply m c (rspEmpty .range 1)

/-- FORCED_HALT. -/
def execForcedHalt (m : Fin 36) (s : State) : Host.Outcome State Fault Refusal :=
  .next (s.cmdRow m { op := 0x0106, p := true, used := [fPart] } (fun _ => true) namesPart fun s c => s.forcedHalt m c)

/-- A deposit entry (R470). -/
def depEntry (w : DWord) : DepEntry := ⟨bitsAt w 0 18, bitsAt w 18 12, bitsAt w 30 1 == 1, bitsAt w 31 2⟩

/-- An entry that the partition cannot take (R470, R472). -/
def Part.badEntry (p : Part) (reading : Bool) (w : DWord) : Bool :=
  let e := depEntry w
  bitsAt w 33 31 != 0 || !p.hasBp e.bp || decide (p.eph.depth ≤ e.addr) || (if reading then e.val || e.op != 0 else e.op == 3)

/-- The entries of a payload (R469). -/
def Cmd.entries (c : Cmd) (count : Nat) : List DWord := (List.range count).map fun i => BitVec.ofNat 64 (c.pay (8 + 8 * i) 8)

/-- The deposits of a list of entries. -/
def depositsOf (stamp : Nat) (l : List DWord) : List Deposit :=
  l.map fun w => let e := depEntry w; ⟨stamp, e.bp * 2048 + e.addr, e.op, e.val⟩

/-- The position of the first entry for which `f` holds. -/
def firstBad (f : DWord → Bool) : Nat → List DWord → Option Nat
  | _, [] => none
  | k, w :: r => if f w then some k else firstBad f (k + 1) r

/-- A DEPOSIT of entries on partition n (R49, R466, R470); `inl` says that they stand in the payload. -/
def State.deposit (s : State) (m : Fin 36) (c : Cmd) (n : Fin 8) (l : List DWord) (inl : Bool) : State :=
  let p := s.part n
  let deps := depositsOf c.stamp l
  if p.state = .empty ∨ s.replaying n = true then s.replyBlock m c n .range 0
  else if s.faulted n then s.replyBlock m c n .partFault 0
  else
    match firstBad (p.badEntry false) 0 l with
    | some j => s.replyBlock m c n .range (if inl then 9 + 8 * j else 0)
    | none =>
      if 256 < (updateForces (updateForces p.forces (sortBy (·.stamp) p.deps)) deps).length then s.replyBlock m c n .range 0
      else if s.live n then
        (s.modPart n fun p => { p with deps := p.deps ++ deps }).begin m c (some n.val) true (.deposit n (l.map depEntry) none)
      else (s.depositHalted n deps).replyBlock m c n .ok 0

/-- DEPOSIT (R470): with DESC, `block` is the host's block: its partition, its entries, and whether its count and reserved bytes
are as R470 says. -/
def State.depositCmd (s : State) (m : Fin 36) (c : Cmd) (block : Option (Byte × Bool × List DWord)) : State :=
  if c.desc then
    if c.pay 0 8 % 8 ≠ 0 then s.reply m c (rspEmpty .range 1)
    else
      match block with
      | none => s.reply m c (rspEmpty .range 9)
      | some (b, ok, l) =>
        if h : b.toNat < 8 then
          if !ok || l.isEmpty || decide (4096 < l.length) || decide (c.pay 8 4 < 8 + 8 * l.length) then s.reply m c (rspEmpty .range 0)
          else s.deposit m c ⟨b.toNat, h⟩ l false
        else s.reply m c (rspEmpty .range 0)
  else if h : c.pay 0 1 < 8 then
    let n : Fin 8 := ⟨c.pay 0 1, h⟩
    let k := c.pay 1 1
    if k = 0 ∨ 5 < k then s.replyBlock m c n .range 2 else s.deposit m c n (c.entries k) true
  else s.reply m c (rspEmpty .range 1)

/-- Fields of DEPOSIT and WS_READ. -/
def entryFields : List (Nat × Nat × Nat) := [fPart, (1, 1, 0xFF), (8, 40, 2 ^ 320 - 1)]

/-- DEPOSIT. -/
def execDeposit (m : Fin 36) (block : Option (Byte × Bool × List DWord)) (s : State) : Host.Outcome State Fault Refusal :=
  .next (s.cmdRow m { op := 0x0107, p := true, t := true, desc := true, used := entryFields } (fun _ => true)
    (fun n c => if c.desc then (match block with | some (b, _, _) => b.toNat == n.val | none => false) else namesPart n c)
    fun s c => s.depositCmd m c block)

/-- WS_READ (R466, R472): at once on a partition that does not run, one in FAULT included. -/
def State.wsRead (s : State) (m : Fin 36) (c : Cmd) (n : Fin 8) : State :=
  let p := s.part n
  let k := c.pay 1 1
  let l := c.entries k
  if k = 0 ∨ 5 < k then s.reply m c (rspEmpty .range 2)
  else if p.state = .empty then s.reply m c (rspEmpty .range 0)
  else
    match firstBad (p.badEntry true) 0 l with
    | some j => s.reply m c (rspEmpty .range (9 + 8 * j))
    | none =>
      let es := l.map depEntry
      if s.live n then s.wait m c true (.wsRead n es none 0)
      else s.reply m c ⟨.ok, 0, 9, (p.frame + 2 ^ 48 - 1) % 2 ^ 48 + readEntries p.img.ws es * 2 ^ 64⟩

/-- WS_READ. -/
def execWsRead (m : Fin 36) (s : State) : Host.Outcome State Fault Refusal :=
  .next (s.partRow m { op := 0x0108, p := true, t := true, used := [(1, 1, 0xFF), (8, 40, 2 ^ 320 - 1)] } fun s c n => s.wsRead m c n)

/-- The states of the Vitrine regions, as VTR_LOAD answers them (R469). -/
def State.regStates (s : State) : Nat := (List.range 8).foldl (fun a r => a + s.regState r * 2 ^ (8 * r)) 0

/-- VTR_LOAD (R373 to R375, R469, R479): `img` is the container at the address. -/
def State.vtrLoad (s : State) (m : Fin 36) (c : Cmd) (img : Option VBox) : State :=
  let mask := c.pay 0 1
  if s.variant = .r then s.reply m c (rspEmpty .range 0)
  else if (List.range 8).any (fun r => bitOf mask r && decide (s.nRegions ≤ r)) then s.reply m c (rspEmpty .range 1)
  else if 1 < c.pay 1 1 then s.reply m c (rspEmpty .range 2)
  else if c.pay 8 8 % 8 ≠ 0 then s.reply m c (rspEmpty .range 9)
  else if (List.range 8).any (fun r => bitOf mask r && (s.regState r == 1 || s.regState r == 2)) then s.reply m c (rspEmpty .busy 0)
  else
    match img with
    | none => s.reply m c (rspEmpty .range 1)
    | some v =>
      if s.stagingBytes < v.cont.totalLen.toNat then s.reply m c (rspEmpty .range 0)
      else
        match s.vtrCheck { v with len := c.pay 16 8 } with
        | some x => s.reply m c (rspEmpty x.1 x.2)
        | none =>
          let go := v.loads.filter fun (x : Fin 8 × VImage) => bitOf mask x.1.val
          let s1 := (s.wait m c false (.vtrLoad (maskOf (go.map fun (x : Fin 8 × VImage) => x.1.val)) 0))
          let s2 := go.foldl (fun (t : State) x => t.regionLoad x.1 x.2) s1
          if go.isEmpty then s2.answer m c.stamp ⟨.ok, 0, 8, s2.regStates⟩ else s2

/-- VTR_LOAD: a tenant names regions that its partition holds. -/
def execVtrLoad (m : Fin 36) (img : Option VBox) (s : State) : Host.Outcome State Fault Refusal :=
  .next (s.cmdRow m { op := 0x0109, p := true, t := true, used := [(0, 1, 0xFF), (1, 1, 0xFF), (8, 8, 2 ^ 64 - 1), (16, 8, 2 ^ 64 - 1)] }
    (fun _ => true)
    (fun n c => c.pay 0 1 != 0 && (List.range 8).all fun r => !bitOf (c.pay 0 1) r || (s.regionsOf n).any fun x => x.val == r)
    fun s c => s.vtrLoad m c img)

/-- CAPTURE_READ (R302, R473): the copy leaves the store as it is. -/
def State.captureRead (s : State) (m : Fin 36) (c : Cmd) (n : Fin 8) : State :=
  let d := c.pay 1 1
  let len := c.pay 16 4
  if !s.hasDie d then s.reply m c (rspEmpty .range 2)
  else if c.pay 8 8 % 8 ≠ 0 then s.reply m c (rspEmpty .range 9)
  else if len % 32 ≠ 0 ∨ 2 ^ 24 < len then s.reply m c (rspEmpty .range 17)
  else if s.shareUnits n d < c.pay 4 4 + len / 32 then s.reply m c (rspEmpty .range 5)
  else s.reply m c ⟨.ok, 0, 4, len⟩

/-- CAPTURE_READ. -/
def execCaptureRead (m : Fin 36) (s : State) : Host.Outcome State Fault Refusal :=
  .next (s.partRow m { op := 0x0201, p := true, t := true,
                       used := [(1, 1, 0xFF), (4, 4, 2 ^ 32 - 1), (8, 8, 2 ^ 64 - 1), (16, 4, 2 ^ 32 - 1)] } fun s c n => s.captureRead m c n)

/-- A checkpoint engine that takes no request now (R318, R441). -/
def State.ckBusy (s : State) (n : Fin 8) : Bool := (s.ck n).busy.isSome || s.recovering n

/-- The lowest boundary that a running partition has still to pass (R315): that after the frame which C9 of this frame decides or
has decided; after C15's duties, or where C9 decides nothing or an abort, the one behind it. -/
def State.nextBoundary (s : State) (n : Fin 8) : Nat :=
  let p := s.part n
  if p.step ≤ p.eph.depth + 9 then (if p.eph.spans && !p.decidesNone then p.cur else p.cur + 1)
  else
    match p.decision with
    | some (c, true) => if p.bdone then c + 2 else c + 1
    | some (c, false) => c + 1
    | none => p.cur + 1

/-- CHECKPOINT (R318, R466, R473): at the boundary named, at the next, or at once on a partition that stands at a boundary. -/
def State.checkpointCmd (s : State) (m : Fin 36) (c : Cmd) (n : Fin 8) : State :=
  let p := s.part n
  let b := c.pay 8 8
  let runs := p.state == .running
  let first := if runs then s.nextBoundary n else p.frame
  if s.ckBusy n then s.reply m c (rspEmpty .retry 1)
  else if p.state = .empty then s.reply m c (rspEmpty .range 0)
  else if s.faulted n then s.replyBlock m c n .partFault 0
  else if s.ckSlotBytes n = 0 ∨ s.ckSlotBytes n < s.ckSize n then s.reply m c (rspEmpty .range 0)
  else if !s.ckAreaOk n then s.reply m c (rspEmpty .notOwner 0)
  else if b ≠ 0 ∧ b < first then s.reply m c (rspEmpty .range 9)
  else
    let s1 := s.wait m c true (.checkpoint n)
    if runs ∨ (b ≠ 0 ∧ b ≠ first) then s1.modCk n fun k => { k with want := some b }
    else ((s1.recSettle n).ckBegin n first).1

/-- CHECKPOINT. -/
def execCheckpoint (m : Fin 36) (s : State) : Host.Outcome State Fault Refusal :=
  .next (s.partRow m { op := 0x0202, p := true, t := true, used := [(8, 8, 2 ^ 48 - 1)] } fun s c n => s.checkpointCmd m c n)

/-- Granules of the partition's depot-backed memories (R320). -/
def State.depotGranules (s : State) (n : Fin 8) : Nat :=
  (((s.part n).eph.vmem.filter fun v => !v.onChip).flatMap fun v =>
    let a := v.base / 65536
    (List.range ((v.base + 8 * v.size - 1) / 65536 + 1 - a)).map fun i => a + i).eraseDups.length

/-- Bytes of an exported checkpoint (R319, R320): the DEPOT section stands in place of UNDO. -/
def State.exportSize (s : State) (n : Fin 8) (i : CkImg) : Nat :=
  let e := (s.part n).eph
  s.ckSize n + 65536 * i.banks.length - 65536 * (s.banksOf n).length + 256 * i.regions.length -
    (if e.bound.isEmpty then 256 * i.regions.length else 256 * (s.regionsOf n).length) + 65544 * s.depotGranules n

/-- CKPT_EXPORT (R473): `ok` says that no depot write or read of it failed. -/
def State.exportCmd (s : State) (m : Fin 36) (c : Cmd) (n : Fin 8) (ok : Bool) : State :=
  if s.ckBusy n then s.reply m c (rspEmpty .retry 1)
  else if 1 < c.pay 1 1 then s.reply m c (rspEmpty .range 2)
  else if c.pay 8 8 % 8 ≠ 0 then s.reply m c (rspEmpty .range 9)
  else
    match (s.ck n).latest with
    | none => s.reply m c (rspEmpty .range 0)
    | some i =>
      let size := s.exportSize n i
      if c.pay 16 8 < size then s.reply m c (rspEmpty .range 17)
      else if c.pay 1 1 = 1 ∧ s.depotCheck (.part n) (c.pay 8 8) true ≠ .ok then s.reply m c (rspEmpty .notOwner 0)
      else if !ok then s.reply m c (rspEmpty .retry 2)
      else s.reply m c ⟨.ok, 0, 8, size⟩

/-- CKPT_EXPORT. -/
def execCkptExport (m : Fin 36) (ok : Bool) (s : State) : Host.Outcome State Fault Refusal :=
  .next (s.partRow m { op := 0x0203, p := true, t := true, used := [(1, 1, 0xFF), (8, 8, 2 ^ 64 - 1), (16, 8, 2 ^ 64 - 1)] } fun s c n =>
    s.exportCmd m c n ok)

/-- Why a checkpoint is not accepted for a restore (R321). -/
def State.restoreRefusal (s : State) (n : Fin 8) (i : CkImg) (crcOk : Bool) : Option Status :=
  let p := s.part n
  let k := s.ck n
  let banks := fun (l : List Nat) (d : Nat) => (l.filter fun b => b / 256 == d).length
  if p.state ≠ .loaded ∧ p.state ≠ .halted ∧ p.state ≠ .fault then some .range
  else if !crcOk then some .authFail
  else if i.digest ≠ k.digest ∨ i.stepping ≠ k.stepping then some .range
  else if (List.range 4).any fun d => banks (i.banks.map fun (x : Nat × List Host.Cell) => x.1) d != banks (s.banksOf n) d then some .notOwner
  else if i.granules.any fun g => s.depotCheck (.part n) (g * 65536) true != .ok then some .notOwner
  else none

/-- RESTORE (R321, R376, R473): `img` is the checkpoint that the host's memory or the depot holds, and whether its CRCs match. -/
def State.restoreCmd (s : State) (m : Fin 36) (c : Cmd) (n : Fin 8) (img : Option (CkImg × Bool)) : State :=
  let src := c.pay 1 1
  let from_ := if src = 0 then (s.ck n).latest.map fun i => (i, true) else img
  if s.recovering n then s.replyBlock m c n .range 0
  else if 2 < src then s.replyBlock m c n .range 2
  else if src ≠ 0 ∧ c.pay 8 8 % 8 ≠ 0 then s.replyBlock m c n .range 9
  else
    match from_ with
    | none => s.replyBlock m c n .range (if src = 0 then 0 else 9)
    | some (i, crcOk) =>
      match s.restoreRefusal n i crcOk with
      | some st => s.replyBlock m c n st 0
      | none =>
        let mask := s.unmatched i
        let s1 := ((s.restoreAll n i).noteMade n c.stamp 2 false).decimAll
        s1.reply m c ⟨.ok, 0, 25, s1.block n + mask * 2 ^ 192⟩

/-- RESTORE. -/
def execRestore (m : Fin 36) (img : Option (CkImg × Bool)) (s : State) : Host.Outcome State Fault Refusal :=
  .next (s.partRow m { op := 0x0204, p := true, t := true, used := [(1, 1, 0xFF), (8, 8, 2 ^ 64 - 1), (16, 8, 2 ^ 64 - 1)] } fun s c n =>
    s.restoreCmd m c n img)

/-- REPLAY (R333, R473): `rec` holds the entries at the address, the start entry first. -/
def State.replayCmd (s : State) (m : Fin 36) (c : Cmd) (n : Fin 8) (entries : List RecE) : State :=
  match (s.ck n).restored, entries with
  | some i, e :: l =>
    if (s.part n).state ≠ .armed then s.replyBlock m c n .range 0
    else if c.pay 8 8 % 8 ≠ 0 then s.replyBlock m c n .range 9
    else if s.depotCheck (.part n) (c.pay 8 8) false ≠ .ok then s.replyBlock m c n .notOwner 0
    else if !e.start || e.tbRel != i.digest || e.frame != i.start then s.replyBlock m c n .range 9
    else
      let s1 := ((s.setReg (Reg.CKP_REPLAY n) 1).setReg (Reg.CKP_REPLAY_LINKS n) (BitVec.ofNat 32 (c.pay 4 4))).setFld
        (Reg.CKP_STATUS n) 4 1 0
      let s2 := s1.modCk n fun k => { k with replay := some l, restored := none, due := [] }
      ((s2.runStart n (s2.part n).remaining).noteMade n c.stamp 3 false).replyBlock m c n .ok 0
  | _, _ => s.replyBlock m c n .range 0

/-- REPLAY. -/
def execReplay (m : Fin 36) (entries : List RecE) (s : State) : Host.Outcome State Fault Refusal :=
  .next (s.partRow m { op := 0x0205, p := true, t := true, used := [(4, 4, 2 ^ 24 - 1), (8, 8, 2 ^ 64 - 1), (16, 8, 2 ^ 64 - 1)] } fun s c n =>
    s.replayCmd m c n entries)

end Sys2Proof.Machine
end

