-- ==== Sys2Proof/Machine/PowerCmds.lean ====
section
/-!
DEFINITION. Power commands (R476): SET_OP, SET_POWER and THERMAL_SHUTDOWN (R494 to R508).
-/
namespace Sys2Proof.Machine

/-- Populated dies of a mask. -/
def State.diesIn (s : State) (mask : Nat) : List Nat := (List.range 4).filter fun d => bitOf mask d && s.hasDie d

/-- VCORE that the operating points of all dies require, in mV (R504). -/
def State.needMv (s : State) : Nat := ((List.range 4).filter fun d => s.hasDie d).foldl (fun a d => max a (opMv (s.dieOp d))) 600

/-- A loaded partition has some of its dies among those named, and not all (R507). -/
def State.splitsPart (s : State) (mask : Nat) : Bool :=
  s.loadedParts.any fun n =>
    let k := (s.part n).eph.dieMask
    (s.diesIn mask).any (bitOf k) && (List.range 4).any fun d => bitOf k d && !bitOf mask d

/-- A relock begins (R508): the partitions on the dies are held. -/
def State.relockBegin (s : State) (c : OpChange) : State :=
  let ns := s.loadedParts.filter fun n => c.dies.any fun d => bitOf (s.part n).eph.dieMask d
  let s1 := s.setPwr { s.pwr with change := some { c with volt := false, since := s.lnk.timebase },
                                  relock := ns.foldl (fun v n => vset v n true) s.pwr.relock }
  (ns.foldl (fun (t : State) n => t.requestHold n) s1).relockAdvance

/-- SET_OP (R170, R505 to R508): refused, or voltage first where it must rise, then relock. -/
def State.setOp (s : State) (m : Fin 36) (c : Cmd) : State :=
  let mask := c.pay 0 1
  let op := c.pay 1 1
  let change := (s.diesIn mask).filter fun d => s.dieOp d != op
  let debug := s.loadedParts.any fun n => (s.part n).eph.debug && (s.diesIn mask).any fun d => bitOf (s.part n).eph.dieMask d
  let en := s.fld Reg.PWR_VR 7 1 == 1
  if (List.range 8).any (fun d => bitOf mask d && !s.hasDie d) then s.reply m c (rspEmpty .range 1)
  else if 3 < op then s.reply m c (rspEmpty .range 2)
  else if s.splitsPart mask then s.reply m c (rspEmpty .range 1)
  else if debug && decide (op < 2) then s.reply m c (rspEmpty .range 2)
  else if change.isEmpty then s.reply m c ⟨.ok, 0, 1, 0⟩
  else if !en ∧ s.fld Reg.PWR_VCORE 16 10 + 12 < opMv op then
    (change.foldl (fun (t : State) d => t.setFld (Reg.PWR_DIE_OP d) 5 3 2) s).reply m c (rspEmpty .range 2)
  else
    let s1 := change.foldl (fun (t : State) d => ((t.setFld (Reg.PWR_DIE_OP d) 2 2 op).setFld (Reg.PWR_DIE_OP d) 4 1 1).setFld
      (Reg.PWR_DIE_OP d) 5 3 0) (s.wait m c false (.setOp (maskOf change)))
    let k : OpChange := ⟨change, change, [], op, false, 0⟩
    let need := max s.needMv (opMv op)
    if en ∧ s.fld Reg.PWR_VCORE 0 10 < need then
      ((s1.setFld Reg.PWR_VCORE 0 10 need).setFld Reg.PWR_VCORE 26 1 0).setPwr { s1.pwr with change := some { k with volt := true } }
    else s1.relockBegin k

/-- SET_OP. -/
def execSetOp (m : Fin 36) (s : State) : Host.Outcome State Fault Refusal :=
  .next (s.cmdRow m { op := 0x0403, p := true, used := [(0, 1, 0xFF), (1, 1, 0xFF)] } (fun _ => true) (fun _ _ => false) fun s c => s.setOp m c)

/-- The form of SET_POWER; `t` says that a tenant may send this state. -/
def formPower (t : Bool) : Form := { op := 0x0404, p := true, t := t, used := [(0, 1, 0xFF), (1, 1, 0xFF)] }

/-- A SET_POWER that names neither a partition nor the device. -/
def Cmd.badScope (c : Cmd) : Bool := decide (8 ≤ c.pay 0 1) && c.pay 0 1 != 0xFF

/-- The partition leaves NAP: at once when it is in NAP, or after its entry (R496, R501). -/
def State.napLeave (s : State) (m : Fin 36) (c : Cmd) (n : Fin 8) : State :=
  let s1 := s.wait m c false (.napExit n)
  if vget s1.pwr.nap n = .napping then s1.setPwr { s1.pwr with nap := vset s1.pwr.nap n .leaving } else s1

/-- SET_POWER RUN (R494 to R496): of a partition, what held it on its own or the device's behalf ends; of the device, its HOLD. -/
def State.powerRun (s : State) (m : Fin 36) (c : Cmd) : State :=
  if c.badScope then s.reply m c (rspEmpty .range 1)
  else if 3 < c.pay 1 1 then s.reply m c (rspEmpty .range 2)
  else if h : c.pay 0 1 < 8 then
    let n : Fin 8 := ⟨c.pay 0 1, h⟩
    let s1 := s.setPwr { s.pwr with own := vset s.pwr.own n false, dev := vset s.pwr.dev n false }
    if vget s1.pwr.nap n ≠ .none then s1.napLeave m c n
    else (s1.releaseHold n).replyBlock m c n .ok 0
  else
    let s1 := (s.setPwr { s.pwr with dev := Vector.replicate 8 false }).setFld Reg.PWR_STATE 0 3 0
    ((List.finRange 8).foldl (fun (t : State) n => t.releaseHold n) s1).reply m c ⟨.ok, 0, 1, 0⟩

/-- SET_POWER_RUN: it answers, too, for a state that no scope has. -/
def execSetPowerRun (m : Fin 36) (s : State) : Host.Outcome State Fault Refusal :=
  .next (s.cmdRow m (formPower true) (fun c => c.pay 1 1 == 0 || decide (3 < c.pay 1 1)) (fun n c => namesPart n c && c.pay 1 1 == 0)
    fun s c => s.powerRun m c)

/-- A command waits until the partitions have been held, or is answered when they are (R476, R495). -/
def State.awaitHold (s : State) (m : Fin 36) (c : Cmd) (ns : List (Fin 8)) (part code : Nat) : State :=
  let left := (ns.filter fun n => (s.part n).held.isNone && (s.part n).holdReq).map fun n => n.val
  let s1 := s.wait m c false (.hold left part code)
  if left.isEmpty then
    s1.answer m c.stamp (if h : part < 8 then s1.rspBlock ⟨part, h⟩ .ok 0 else ⟨.ok, 0, 1, code⟩)
  else s1

/-- SET_POWER HOLD (R476, R494, R495). -/
def State.powerHold (s : State) (m : Fin 36) (c : Cmd) : State :=
  if c.badScope then s.reply m c (rspEmpty .range 1)
  else if h : c.pay 0 1 < 8 then
    let n : Fin 8 := ⟨c.pay 0 1, h⟩
    if (s.part n).state ≠ .running then s.replyBlock m c n .range 0
    else if vget s.pwr.nap n ≠ .none then (s.setPwr { s.pwr with own := vset s.pwr.own n true }).napLeave m c n
    else if (s.part n).held.isSome then s.replyBlock m c n .ok 0
    else ((s.setPwr { s.pwr with own := vset s.pwr.own n true }).requestHold n).awaitHold m c [n] n.val 1
  else
    let ns := (List.finRange 8).filter fun n => (s.part n).state == .running && (s.part n).held.isNone
    let s1 := (s.setPwr { s.pwr with dev := ns.foldl (fun v n => vset v n true) s.pwr.dev }).setFld Reg.PWR_STATE 0 3 1
    (ns.foldl (fun (t : State) n => t.requestHold n) s1).awaitHold m c ns 0xFF 1

/-- SET_POWER_HOLD. -/
def execSetPowerHold (m : Fin 36) (s : State) : Host.Outcome State Fault Refusal :=
  .next (s.cmdRow m (formPower true) (fun c => c.pay 1 1 == 1) namesPart fun s c => s.powerHold m c)

/-- SET_POWER NAP (R476, R496): answered when the partition has been held; its tile groups go to retention after that. -/
def State.powerNap (s : State) (m : Fin 36) (c : Cmd) : State :=
  if c.badScope then s.reply m c (rspEmpty .range 1)
  else if h : c.pay 0 1 < 8 then
    let n : Fin 8 := ⟨c.pay 0 1, h⟩
    if (s.part n).state ≠ .running then s.replyBlock m c n .range 0
    else if vget s.pwr.nap n ≠ .none then s.replyBlock m c n .ok 0
    else ((s.setPwr { s.pwr with nap := vset s.pwr.nap n .entering }).requestHold n).awaitHold m c [n] n.val 2
  else s.reply m c (rspEmpty .range 2)

/-- SET_POWER_NAP. -/
def execSetPowerNap (m : Fin 36) (s : State) : Host.Outcome State Fault Refusal :=
  .next (s.cmdRow m (formPower false) (fun c => c.pay 1 1 == 2) (fun _ _ => false) fun s c => s.powerNap m c)

/-- SET_POWER DORMANT (R476, R497, R498): answered after the device has returned to RUN. -/
def State.powerDormant (s : State) (m : Fin 36) (c : Cmd) : State :=
  if c.badScope then s.reply m c (rspEmpty .range 1)
  else if c.pay 0 1 ≠ 0xFF then s.reply m c (rspEmpty .range 2)
  else if (List.finRange 8).any (fun n => (s.part n).state == .running && (s.part n).eph.spans) then s.reply m c (rspEmpty .range 0)
  else (s.wait m c false .dormant).dormantBegin

/-- SET_POWER_DORMANT. -/
def execSetPowerDormant (m : Fin 36) (s : State) : Host.Outcome State Fault Refusal :=
  .next (s.cmdRow m (formPower false) (fun c => c.pay 1 1 == 3) (fun _ _ => false) fun s c => s.powerDormant m c)

/-- A thermal shutdown with this stamp (R497): every partition is asked to halt with cause SAFETY; DORMANT begins when none is
left.  During an entry or exit it waits for the partitions to resume (R501). -/
def State.thermalShut (s : State) (stamp : Nat) : State :=
  if s.pwr.shut.isSome then s
  else
    let left := s.loadedParts.filter s.live
    let s1 := s.loadedParts.foldl (fun (t : State) n => t.noteSafety n stamp) s
    let s2 := left.foldl (fun (t : State) n => t.modPart n fun p => { p with haltReqs := p.haltReqs ++ [.safety] }) s1
    let s3 := s2.setPwr { s2.pwr with shut := some (stamp, left.map fun n => n.val) }
    if left.isEmpty ∧ s3.pwr.phase = .run then s3.dormantBegin else s3

/-- THERMAL_SHUTDOWN (R497): answered after the device has returned to RUN. -/
def execThermalShutdown (m : Fin 36) (s : State) : Host.Outcome State Fault Refusal :=
  .next (s.cmdRow m { op := 0x0405, p := true } (fun _ => true) (fun _ _ => false) fun s c =>
    (s.begin m c none true .dormant).thermalShut c.stamp)

end Sys2Proof.Machine
end

