-- ==== Sys2Proof/Machine/Adc.lean ====
section
/-!
DEFINITION. The telemetry converters (R424 to R437).
-/
namespace Sys2Proof.Machine

/-- The converters replaced. -/
def State.setAdc (s : State) (a : Adc) : State := { s with adc := a }

/-- ADC_CFG.REF: 3 acts as 0. -/
def State.adcRef (s : State) : Nat := s.fld Reg.ADC_CFG 0 2 % 3

/-- Length of the regular sequence (R430). -/
def State.adcLen (s : State) : Nat := max 16 (min 32 (s.fld Reg.ADC_CFG 8 6))

/-- A trigger reaches the converter controller (R431, R432): during a run it is pending, or merged. -/
def State.adcTrigger (s : State) : State :=
  if s.adc.run.isSome then
    if s.fld Reg.ADC_STATUS 2 1 = 1 then s.addFld Reg.ADC_INJ_MERGED 0 32 1 else s.setFld Reg.ADC_STATUS 2 1 1
  else s.setAdc { s.adc with trig := true }

/-- A source fires (R431): its cause bit, for a droop or thermal cause the lowest channel of the slot, and the trigger. -/
def State.adcFire (s : State) (bit : Nat) (chan : Option Nat) (late : Bool) : State :=
  let s1 := s.setFld Reg.ADC_CAUSE bit 1 1
  let s2 := match chan with
    | some c =>
      let low := match s.adc.low with | some b => min b c | none => c
      (s1.setFld Reg.ADC_CAUSE 8 8 low).setAdc { s1.adc with low := some low }
    | none => s1
  if late then s2.setAdc { s2.adc with late := s2.adc.late + 1 } else s2.adcTrigger

/-- INJ_GO (R431). -/
def execInjGo (late : Bool) (s : State) : Host.Outcome State Fault Refusal :=
  .next (if s.pwr.phase = .dormant then s else s.adcFire 0 none late)

/-- Channel c is a supply sense point of a die the part has (R425, R437). -/
def State.isSupply (s : State) (c : Nat) : Bool := decide (c < 80) && decide (c % 20 < 16) && c % 2 == 0 && s.hasDie (c / 20)

/-- DROOP (R431): `rose` says that the sense point has risen above the threshold plus 10 mV since its comparator last fired. -/
def execDroop (c : BitVec 7) (rose late : Bool) (s : State) : Host.Outcome State Fault Refusal :=
  guardUnit s (s.isSupply c.toNat)
    (if s.fld Reg.ADC_CFG 20 1 = 1 ∧ s.pwr.phase ≠ .dormant ∧ (rose = true ∨ s.adc.fired.contains c.toNat = false) then
       (s.setAdc { s.adc with fired := insNat c.toNat s.adc.fired }).adcFire 1 (some c.toNat) late
     else s)

/-- The sample ring takes records and has room for one (R434). -/
def State.adcRoom (s : State) : Bool :=
  s.fld Reg.ADC_RING 10 1 == 1 && s.hasBank (s.fld Reg.ADC_RING 0 10) &&
    (s.fld Reg.ADC_RING_HEAD 0 14 + 1) % 2 ^ 14 != s.fld Reg.ADC_RING_TAIL 0 14

/-- The ring's bank answers RETRY (R181, R189, R327): the record waits. -/
def State.adcRetry (s : State) : Bool := s.adcRoom && s.unitAsk (s.fld Reg.ADC_RING 0 10) 11 == some .retry

/-- A record enters the sample ring, 32 bits each, or is dropped (R434). -/
def State.adcPut (s : State) (r : Nat) : State :=
  let bank := s.fld Reg.ADC_RING 0 10
  let head := s.fld Reg.ADC_RING_HEAD 0 14
  if s.adcRoom then
    let w := s.unitWrite bank 11 (head / 2) [setBitsAt (s.vword bank (head / 2)) (32 * (head % 2)) 32 r]
    if w.2 then w.1.setFld Reg.ADC_RING_HEAD 0 14 ((head + 1) % 2 ^ 14) else w.1.addFld Reg.ADC_RING_DROP 0 32 1
  else s.addFld Reg.ADC_RING_DROP 0 32 1

/-- Records go to the ring in order; from the first whose bank answers RETRY on they wait for the next slot (R434). -/
def State.adcDrain (s : State) : List Nat → State
  | [] => s.setAdc { s.adc with dma := [] }
  | r :: rest => if s.adcRetry then s.setAdc { s.adc with dma := r :: rest } else (s.adcPut r).adcDrain rest

/-- Photometer taps on the channel of a record (R420). -/
def State.adcTaps (s : State) (r : Nat) : State :=
  (List.finRange 4).foldl (fun (t : State) (d : Fin 4) =>
    if t.hasDie d.val then
      (List.finRange 4).foldl (fun (u : State) (k : Fin 4) => if u.fld (Reg.PHM_TAP d k) 0 8 = r / 2 ^ 24 then
        u.phmTap d k (r % 2 ^ 12 + r / 2 ^ 15 % 2 * 2 ^ 12 + r / 2 ^ 14 % 2 * 2 ^ 13 + r / 2 ^ 16 % 2 * 2 ^ 14) else u) t
    else t) s

/-- AUTO_THERM (R502): the Curator takes a stamp and shuts the device down. -/
def State.autoTherm (s : State) : State :=
  if s.fld Reg.PWR_CTRL 0 1 = 1 ∧ s.cfg.dead = false ∧ s.pwr.tripped = false ∧ s.pwr.phase ≠ .dormant then
    let stamp := s.reg64 Reg.MBX_STAMP_LO
    (s.setReg64 Reg.MBX_STAMP_LO (stamp + 1)).thermalShut stamp
  else s

/-- The thermal alarm on a record of a temperature sense point (R431, R502). -/
def State.adcThermal (s : State) (r : Nat) : State :=
  let c := r / 2 ^ 24
  let lim := s.fld Reg.ADC_THERM 0 12
  let code := r % 2 ^ 12
  if c % 20 < 16 ∧ c % 2 = 1 then
    if code + 16 < lim then s.setAdc { s.adc with armed := true }
    else if lim ≤ code ∧ s.adc.armed = true ∧ s.fld Reg.ADC_CFG 21 1 = 1 then
      let s1 := (s.setAdc { s.adc with armed := false }).adcFire 2 (some c) false
      (s1.notice 0xF007 8 ((s1.reg Reg.ADC_CAUSE).toNat + r * 2 ^ 32) none).autoTherm
    else s
  else s

/-- A conversion ends (R435). -/
def State.adcRecord (s : State) (r : Nat) : State :=
  ((s.setReg (Reg.ADC_LAST (r / 2 ^ 24)) (BitVec.ofNat 32 r)).adcTaps r).adcThermal r

/-- The reference in mV; of the VREF ball, which the device does not know, free. -/
def State.vrefMv (s : State) : Nat :=
  match s.adc.ref with
  | 0 => 1200
  | 1 => Config.freeNat s.freeCtr
  | _ => 1800

/-- PWR_VCORE.MEASURED_MV follows the last conversions of the supply sense points (R511). -/
def State.measure (s : State) (rs : List Nat) : State :=
  if rs.any fun r => s.isSupply (r / 2 ^ 24) then
    let last := ((List.range 80).filter s.isSupply).map fun c => s.reg (Reg.ADC_LAST c)
    let low := minOf ((last.filter fun w => w != 0).map fun w => w.toNat % 2 ^ 12)
    let s1 := s.setFld Reg.PWR_VCORE 16 10 (min 1023 (low.getD 0 * s.vrefMv / 4096))
    if s.adc.ref = 1 then { s1 with freeCtr := s1.freeCtr + 1 } else s1
  else s

/-- The 5-bit select of converter k in an entry. -/
def selOf (w : Word) (k : Nat) : Nat := bitsAt w (8 * k) 5

/-- What a slot converts: an entry's index, whether it is injected, and its selects (R430, R432). -/
def State.adcNext (s : State) : State × Nat × Bool × Word :=
  let a := s.adc
  let go := fun (j : Nat) (sels : List Word) (t : State) => (t, j, true, sels.getD j 0)
  let more := match a.run with | some j => decide (j < s.fld Reg.ADC_CFG 16 2) | none => false
  if more then
    let j := a.run.getD 0 + 1
    go j a.sels (s.setAdc { a with run := some j })
  else if a.trig || s.fld Reg.ADC_STATUS 2 1 == 1 then
    let sels := (List.range 4).map fun j => s.reg (Reg.ADC_INJ j)
    go 0 sels ((s.setFld Reg.ADC_STATUS 2 1 0).setAdc { a with run := some 0, trig := false, sels := sels })
  else
    let r := s.fld Reg.ADC_STATUS 8 5
    let e := if s.adcLen ≤ r then 0 else r
    ((s.setFld Reg.ADC_STATUS 8 5 (if s.adcLen ≤ e + 1 then 0 else e + 1)).setAdc { a with run := none }, e, false, s.reg (Reg.ADC_SEQ e))

/-- Converter k samples input i in this slot; inputs absent from the part are skipped (R430, R437). -/
def State.adcTakes (s : State) (k i : Nat) : Bool := decide (i < 20) && (decide (16 ≤ i) || s.hasDie k)

/-- The record of converter k (R427, R433); a monitor source the part lacks gives code 0 (R437). -/
def State.adcWord (s : State) (k i idx : Nat) (inj : Bool) (x : Smp) : Nat :=
  let src := s.fld Reg.ADC_MON (4 * k) 4
  let void := i == 19 && decide (9 ≤ src) && decide (src < 14) && s.variant != .f
  let code := if void then 0 else if x.ovr then 0xFFF else if x.unr then 0 else x.code.toNat
  (20 * k + i) * 2 ^ 24 + idx * 2 ^ 18 + b2n inj * 2 ^ 17 + (1 - s.fld Reg.ADC_STATUS 0 1) * 2 ^ 16 +
    b2n (x.ovr && !void) * 2 ^ 15 + b2n (x.unr && !x.ovr && !void) * 2 ^ 14 + k * 2 ^ 12 + code

/-- A slot boundary (R424 to R435): the conversions of the slot that ends give their records, and the
converters sample the next entry. -/
def State.adcSlot (s : State) (x : Fin 4 → Smp) : State :=
  let done := s.adc.conv
  let ref := s.adcRef
  let s1 := if s.adc.ref = ref then s else (s.setAdc { s.adc with ref := ref }).setFld Reg.ADC_STATUS 0 1 0
  let (s2, idx, inj, w) := s1.adcNext
  let on := (List.finRange 4).filter fun k => s2.adcTakes k.val (selOf w k.val)
  let s3 := s2.setFld Reg.ADC_STATUS 1 1 (b2n inj)
  let conv := on.map fun k => s3.adcWord k.val (selOf w k.val) idx inj (x k)
  let late := s3.adc.late
  let s4 := s3.setAdc { s3.adc with conv := conv, low := none, late := 0 }
  let s5 := (List.range late).foldl (fun (t : State) _ => t.adcTrigger) s4
  (done.foldl (fun (t : State) r => t.adcRecord r) (s5.adcDrain (s5.adc.dma ++ done))).measure done

/-- ADC_SLOT: what each converter finds at the sampling instant.  The converters stop in DORMANT (R435). -/
def execAdcSlot (a b c d : Smp) (s : State) : Host.Outcome State Fault Refusal :=
  .next (if s.pwr.phase = .dormant then s else s.adcSlot fun k => match k with | 0 => a | 1 => b | 2 => c | 3 => d)

/-- REF_SETTLED (R429). -/
def execRefSettled (s : State) : Host.Outcome State Fault Refusal :=
  .next (if s.pwr.phase = .dormant then s else s.setFld Reg.ADC_STATUS 0 1 1)

/-- The converters come up again (R429, R435): the sequence starts at entry 0, no run is pending, and the reference settles. -/
def State.adcRestart (s : State) : State :=
  ((s.setFld Reg.ADC_STATUS 0 3 0).setFld Reg.ADC_STATUS 8 5 0).setAdc
    { s.adc with run := none, trig := false, late := 0, conv := [], dma := [], low := none }

/-- A write of ADC_RING_TAIL (R302, R434). -/
def State.adcTail (s : State) (v : Word) (path : Nat) : State :=
  let tail := s.fld Reg.ADC_RING_TAIL 0 14
  let head := s.fld Reg.ADC_RING_HEAD 0 14
  let pos := bitsAt v 0 14
  if (pos + 2 ^ 14 - tail) % 2 ^ 14 ≤ (head + 2 ^ 14 - tail) % 2 ^ 14 then s.setFld Reg.ADC_RING_TAIL 0 14 pos
  else s.logAccess 3 Reg.ADC_RING_TAIL v path 15

/-- ADC_RING_TAIL_WRITE; the registers do not appear in PF1 (R436). -/
def execAdcRingTailWrite (path : Path) (v : Word) (s : State) : Host.Outcome State Fault Refusal :=
  match path with
  | .pf1 _ => .next s
  | _ => .next (s.adcTail v path.code)

end Sys2Proof.Machine
end

