-- ==== Sys2Proof/Machine/PowerRows.lean ====
section
/-!
DEFINITION. Power and clock events: NAP and DORMANT (R496 to R500), trips (R503), VCORE and relock (R504 to R508).
-/
namespace Sys2Proof.Machine

/-- NAP entry ends (R404, R496, R501): an exit that was asked for begins at once. -/
def State.napEntered (s : State) (n : Fin 8) : State :=
  if vget s.pwr.nap n = .entering ∧ (s.part n).held.isSome = true then
    let asked := s.waiting.any fun x => x.2.wait == .napExit n
    let s1 := s.setPwr { s.pwr with nap := vset s.pwr.nap n (if asked then .leaving else .napping) }
    (s1.releaseHold n).flushGather n
  else s

/-- NAP_ENTRY_DONE. -/
def execNapEntryDone (n : Fin 8) (s : State) : Host.Outcome State Fault Refusal := .next (s.napEntered n)

/-- NAP exit ends (R496): the partition resumes, or stays in HOLD; the command that asked is answered. -/
def State.napLeft (s : State) (n : Fin 8) : State :=
  if vget s.pwr.nap n = .leaving then
    let s1 := (s.setPwr { s.pwr with nap := vset s.pwr.nap n .none }).releaseHold n
    s1.answerAll (fun t b => if b.wait = .napExit n then some (t.rspBlock n .ok 0) else none) s1.waiting
  else s

/-- NAP_EXIT_DONE. -/
def execNapExitDone (n : Fin 8) (s : State) : Host.Outcome State Fault Refusal := .next (s.napLeft n)

/-- Physical lanes that the part carries. -/
def State.lanes (s : State) : List Nat := (List.range 104).filter s.hasLane

/-- Every lane becomes quiet with its receiver off (R266, R498). -/
def State.lanesQuiet (s : State) : State := s.lanes.foldl (fun (t : State) l => t.laneOff l) s

/-- The lanes of enabled quads train blind (R266, R499). -/
def State.lanesTrain (s : State) : State :=
  (s.lanes.filter fun l => s.quadOn (quadOf l)).foldl (fun (t : State) l => t.laneOn (t.fld (Reg.LANE_QUAD (quadOf l)) 14 1 == 1) l) s

/-- Depot ports in use wait for their lanes (R223). -/
def State.portsWait (s : State) : State :=
  (List.finRange 8).foldl (fun (t : State) i => if t.portState i = 0 then t else t.setPortState i 1) s

/-- Step clocks stop, or run at the operating point of their die (R498, R499, R503). -/
def State.stepClocks (s : State) (on : Bool) : State :=
  ((List.range 4).filter fun d => s.hasDie d).foldl (fun (t : State) d =>
    t.setReg (Reg.CLK_STEP d) (BitVec.ofNat 32 (if on then opMhz (t.dieOp d) * 2 ^ 4 else 4))) s

/-- Nanoseconds in units of 10 µs, in 16 bits. -/
def tenUs (ns : Nat) : Nat := min 65535 (ns / 10000)

/-- Time since the phase began. -/
def State.phaseNs (s : State) : Nat := s.lnk.timebase - s.pwr.since

/-- DORMANT exit begins (R499): VCORE, clocks, Registrar and lanes start again, and the timebase unlocks. -/
def State.exitBegin (s : State) : State :=
  let s1 := s.setPwr { s.pwr with phase := .exiting, since := s.lnk.timebase }
  let s2 := ((s1.setFld Reg.PWR_VCORE 0 10 s1.needMv).setReg Reg.CLK_FIXED 15).stepClocks true
  let s3 := { s2 with rgs := { s2.rgs with stopped := false }, lnk := { s2.lnk with first := true, good := 0 } }
  ((s3.setFld Reg.LNK_TIME_STATUS 16 1 0).lanesTrain).adcRestart

/-- Writes of released frames that wait for their acknowledgement (R498). -/
def State.ackWaits (s : State) : Bool :=
  (List.finRange 8).any fun i => s.portState i == 3 && (s.port i).held.any fun (h : HeldW) => h.released

/-- DORMANT entry reaches its end (R498, R500): every partition is held and every write acknowledged.  A wake latched on the way
starts the exit. -/
def State.dormantReached (s : State) : State :=
  if s.pwr.phase = .entering ∧ s.ackWaits = false ∧ (List.finRange 8).all (fun n => !vget s.pwr.dorm n || !(s.part n).holdReq) = true then
    let s1 := s.abandon fun _ => true
    let s2 := ((s1.lanesQuiet).portsWait).stepClocks false
    let s3 := ((s2.setReg Reg.CLK_FIXED 8).setFld Reg.PWR_VCORE 0 10 600).setFld Reg.PWR_VCORE 26 1 0
    let s4 := (s3.setFld Reg.PWR_DORMANT_TIME 0 16 (tenUs s.phaseNs)).setPwr { s3.pwr with phase := .dormant, since := s.lnk.timebase }
    let s5 := ((List.finRange 8).foldl (fun (t : State) n => t.releaseHold n) s4).releaseBusy.trigRelease
    if s5.pwr.wakes = 0 then s5 else s5.exitBegin
  else s

/-- DORMANT_ENTRY_DONE. -/
def execDormantEntryDone (s : State) : Host.Outcome State Fault Refusal := .next s.dormantReached

/-- A wake event (R500): an enabled one is latched from the entry command until exit begins; the first is recorded. -/
def State.wakeUp (s : State) (c : Nat) : State :=
  let on := c == 3 || s.fld Reg.PWR_CTRL (3 + c) 1 == 1
  if on ∧ (s.pwr.phase = .entering ∨ s.pwr.phase = .dormant) then
    let q := s.pwr
    let first := q.wakes == 0
    let s1 := s.setPwr { q with wakes := q.wakes + 1, wake := if first then c else q.wake,
                                during := if first then q.phase == .entering else q.during,
                                wakeAt := if first then s.tly.time else q.wakeAt }
    if q.phase = .dormant then s1.exitBegin else s1
  else s

/-- WAKE_N. -/
def execWakeN (s : State) : Host.Outcome State Fault Refusal := .next (s.wakeUp 1)

/-- PCIE_WAKE. -/
def execPcieWake (s : State) : Host.Outcome State Fault Refusal := .next (s.wakeUp 2)

/-- WAKE_TIMER: it runs from the moment DORMANT is reached, unless PWR_WAKE_TIMER is 0. -/
def execWakeTimer (s : State) : Host.Outcome State Fault Refusal :=
  .next (if s.pwr.phase = .dormant ∧ s.reg Reg.PWR_WAKE_TIMER ≠ 0 then s.wakeUp 4 else s)

/-- A management command held since the wake is stamped (R457, R500). -/
def State.submitHeld (s : State) (x : Nat × BitVec 512) : State :=
  if h : x.1 < 36 then
    let m : Fin 36 := ⟨x.1, h⟩
    ((List.range 16).foldl (fun (t : State) k => t.setReg (Reg.MBX_CMD m k) (BitVec.ofNat 32 (bitsAt x.2 (32 * k) 32))) s).ring m
  else s

/-- DORMANT exit ends (R497, R499): partitions resume once the ports that were UP are UP again or the wait is over, and the command is
answered. -/
def State.dormantLeft (s : State) (waited : Bool) : State :=
  if s.pwr.phase = .exiting ∧ (waited = true ∨ s.pwr.ports.all (fun i => s.fld (Reg.DEP_PORT_STATE i) 0 3 == 3) = true) then
    let q := s.pwr
    let s1 := s.setPwr { q with phase := .run, dorm := Vector.replicate 8 false, dev := Vector.replicate 8 false, mgmt := [], ports := [] }
    let s2 := (s1.setFld Reg.PWR_STATE 0 3 0).setReg Reg.PWR_LAST_WAKE (BitVec.ofNat 32 (q.wake + b2n q.during * 2 ^ 4 + min 255 q.wakes * 2 ^ 8))
    let s3 := (s2.setReg Reg.PWR_LAST_WAKE_TIME (BitVec.ofNat 32 q.wakeAt)).setFld Reg.PWR_DORMANT_TIME 16 16 (tenUs s.phaseNs)
    let s4 := (List.finRange 8).foldl (fun (t : State) n => t.releaseHold n) s3
    let again := fun (k : Nat) => match q.shut with | some (j, _) => j == k | none => false
    let s5 := s4.answerAll (fun _ b => if b.wait = .dormant ∧ again b.cmd.stamp = false then some ⟨.ok, 0, 1, 0⟩ else none) s4.waiting
    let s6 := q.mgmt.foldl (fun (t : State) x => t.submitHeld x) s5
    match q.shut with
    | some (_, []) => s6.dormantBegin
    | _ => s6
  else s

/-- DORMANT_EXIT_DONE: `waited` says that CFG_LANE_WAIT has run out. -/
def execDormantExitDone (waited : Bool) (s : State) : Host.Outcome State Fault Refusal := .next (s.dormantLeft waited)

/-- THERMTRIP (R503): every step clock and PLL output stops and every transmitter is quiet, until PWR_OK falls. -/
def State.trip (s : State) (d : Nat) : State :=
  let s1 := (s.setFld Reg.PWR_THERMTRIP d 1 1).setFld Reg.PWR_THERMTRIP 31 1 1
  let s2 := (s1.stepClocks false).setReg Reg.CLK_FIXED 8
  let s3 := s2.lanes.foldl (fun (t : State) l => t.setFld (Reg.LANE_STATE l) 3 1 1) s2
  (s3.setPwr { s3.pwr with tripped := true }).releaseBusy.trigRelease

/-- THERMTRIP. -/
def execThermtrip (d : Fin 4) (s : State) : Host.Outcome State Fault Refusal := guardUnit s (s.hasDie d.val) (s.trip d.val)

/-- VCORE is settled at its target (R505): a change that waited for it relocks. -/
def State.vcoreSettled (s : State) : State :=
  let s1 := s.setFld Reg.PWR_VCORE 26 1 1
  match s1.pwr.change with
  | some c => if c.volt then s1.relockBegin c else s1
  | none => s1

/-- VCORE_SETTLED. -/
def execVcoreSettled (s : State) : Host.Outcome State Fault Refusal :=
  .next (if s.awake ∧ s.fld Reg.PWR_VCORE 26 1 = 0 then s.vcoreSettled else s)

/-- VR_TIMEOUT (R505): a transition that waited for VCORE is abandoned. -/
def execVrTimeout (s : State) : Host.Outcome State Fault Refusal :=
  .next (match s.pwr.change with
    | some c =>
      if c.volt then
        let s1 := c.dies.foldl (fun (t : State) d => t.setFld (Reg.PWR_DIE_OP d) 5 3 3) (s.setFld Reg.PWR_VCORE 27 1 1)
        (s1.setFld Reg.PWR_VCORE 0 10 s1.needMv).changeOver (rspEmpty .range 0)
      else s
    | none => s)

/-- PLL_LOCKED (R508). -/
def execPllLocked (d : Fin 4) (s : State) : Host.Outcome State Fault Refusal :=
  guardUnit s (s.hasDie d.val) (if s.fld (Reg.CLK_STEP d.val) 0 3 = 2 then s.setFld (Reg.CLK_STEP d.val) 0 3 3 else s)

/-- A die's relock is over; after the last die of the command, partitions are released, VCORE may fall, and the command is answered
(R402, R506 to R508). -/
def State.relockOver (s : State) (d : Nat) (ok : Bool) : State :=
  match s.pwr.change with
  | some c =>
    let c1 : OpChange := { c with left := c.left.filter fun k => k != d, failed := if ok then c.failed else c.failed ++ [d] }
    let s1 := s.setPwr { s.pwr with change := some c1 }
    if c1.left.isEmpty then
      let us := min 65535 ((s.lnk.timebase - c.since) / 1000)
      let s2 := (c.dies.filter fun k => !c1.failed.contains k).foldl (fun (t : State) k => t.setFld (Reg.CLK_RELOCK k) 16 16 us) s1
      let low := s2.fld Reg.PWR_VR 7 1 == 1 && decide (s2.needMv < s2.fld Reg.PWR_VCORE 0 10)
      let s3 := if low then (s2.setFld Reg.PWR_VCORE 0 10 s2.needMv).setFld Reg.PWR_VCORE 26 1 0 else s2
      s3.decimAll.changeOver (if c1.failed.isEmpty then ⟨.ok, 0, 1, maskOf c.dies⟩ else rspEmpty .range 0)
    else s1
  | none => s

/-- The die relocks now. -/
def State.relocks (s : State) (d st : Nat) : Bool :=
  s.fld (Reg.CLK_STEP d) 0 3 == st && (match s.pwr.change with | some c => c.left.contains d | none => false)

/-- LOCK_STABLE (R508): the PLL output is selected. -/
def execLockStable (d : Fin 4) (s : State) : Host.Outcome State Fault Refusal :=
  guardUnit s (s.hasDie d.val)
    (if s.relocks d.val 3 then
       let op := s.fld (Reg.PWR_DIE_OP d.val) 2 2
       let s1 := (s.setReg (Reg.CLK_STEP d.val) (BitVec.ofNat 32 (opMhz op * 2 ^ 4))).setFld (Reg.PWR_DIE_OP d.val) 0 2 op
       ((s1.setFld (Reg.PWR_DIE_OP d.val) 4 1 0).addFld (Reg.CLK_RELOCK d.val) 0 16 1).relockOver d.val true
     else s)

/-- RELOCK_FAIL (R508): after three failures the die stays on the bypass at OP3. -/
def execRelockFail (d : Fin 4) (s : State) : Host.Outcome State Fault Refusal :=
  guardUnit s (s.hasDie d.val)
    (if s.relocks d.val 2 then
       let s1 := (s.setReg (Reg.CLK_STEP d.val) (BitVec.ofNat 32 (1 + 500 * 2 ^ 4))).setFld (Reg.PWR_DIE_OP d.val) 0 8 (3 + 4 * 3 + 4 * 2 ^ 5)
       (s1.addFld (Reg.CLK_RELOCK_FAIL d.val) 0 16 3).relockOver d.val false
     else s)

end Sys2Proof.Machine
end

