-- ==== Sys2Proof/Machine/CurRows.lean ====
section
/-!
DEFINITION. The Docent's life (R441), doorbells and responses (R450, R460), function-level reset (R455), and the management port
(R457).
-/
namespace Sys2Proof.Machine

/-- The Curator replaced. -/
def State.setCur (s : State) (c : Cur) : State := { s with cur := c }

/-- The core gives a sign of life (R441). -/
def State.beat (s : State) (k : Fin 8) : State := s.setCur { s.cur with beats := vset s.cur.beats k s.tly.time }

/-- DOCENT_HEARTBEAT (R441). -/
def execDocentHeartbeat (core : Fin 8) (s : State) : Host.Outcome State Fault Refusal :=
  .next (if s.docentCore core.val then s.beat core else s)

/-- Ticks of Tally time in 100 ms, rounded up (R441, R514). -/
def silentTicks : Nat := 3277

/-- DOCENT_WATCHDOG (R441): a core silent for 100 ms restarts the running Docent; one that waits for Logbook space counts as
signalling (R524). -/
def execDocentWatchdog (core : Fin 8) (s : State) : Host.Outcome State Fault Refusal :=
  .next (if s.docent = 1 ∧ s.docentCore core.val = true ∧ s.awake = true ∧ (vget s.lgb.cores core).waitRec.isNone = true ∧
        vget s.cur.beats core + silentTicks ≤ s.tly.time then
      s.docentRestart 1
    else s)

/-- DOCENT_RUNNING (R352, R441, R477): cores found failed give their role to a standby, the image is read again, as at configuration (R383), and the Docent runs;
the notice carries the restart's cause, and a command that asked for the restart is answered. -/
def execDocentRunning (slotB : Bool) (active other : Option (Cont × Nat)) (failed : BitVec 8) (s : State) : Host.Outcome State Fault Refusal :=
  .next (if s.docent = 2 then
      match s.docentPick active other with
      | some (fell, c) =>
        let slot := s.docentSlot (!fell) slotB
        let s1 := (((s.setFld Reg.MBX_FW 2 1 (b2n slot)).setFld Reg.MBX_FW 16 16 c.svn.toNat).setDocent 1).notice 0xF004 1 (s.cur.restart.getD 0) none
        let s2 := ((List.finRange 8).filter fun k => failed.getLsbD k.val).foldl (fun (t : State) k => t.coreFails k)
          (s1.setCur { s1.cur with restart := none, beats := Vector.replicate 8 s.tly.time })
        s2.answerAll (fun _ b => if b.wait = .docent then some (rspEmpty .ok 0) else none) s2.waiting
      | none => s
    else s)

/-- A write within mailbox block m (R460): from PF0 and the management port only to blocks 0 to 23, else logged; from
PF1 only to the block of its own window. -/
def State.mbxWrite (s : State) (path : Path) (m : Fin 36) (off : Nat) (v : Word) (act : State → State) : State :=
  match path with
  | .pf1 n => if m.val = 24 + n.val then act s else s
  | p => if m.val < 24 then act s else s.logAccess 3 (0xF01000 + 0x100 * m.val + off) v p.code 15

/-- DOORBELL (R450): the MBX unit stamps it unless it is stopped (R498, R503). -/
def execDoorbell (path : Path) (m : Fin 36) (v : Word) (s : State) : Host.Outcome State Fault Refusal :=
  .next (if s.awake then s.mbxWrite path m 0x40 v fun t => if v.toNat % 2 = 1 then t.ring m else t else s)

/-- RSP_POP (R460). -/
def execRspPop (path : Path) (m : Fin 36) (v : Word) (s : State) : Host.Outcome State Fault Refusal :=
  .next (if s.awake then s.mbxWrite path m 0xC0 v fun t => if v.toNat % 2 = 1 then t.popRsp m else t else s)

/-- NOTICE_SLOT_FREED (R450): the oldest notice held for the mailbox is posted once a response slot is free. -/
def execNoticeSlotFreed (m : Fin 36) (s : State) : Host.Outcome State Fault Refusal :=
  .next (s.releaseHeldNotices m ((s.mbx m).held.take 1))

/-- A function-level reset of one mailbox (R455): commands not begun are posted with CANCELLED, the response queue is emptied, held
notices take their places in it, and its buffers are freed; the Curator cancels the tasks of those commands (R486). -/
def State.flrMbx (s : State) (m : Fin 36) : State :=
  let x := s.mbx m
  let ids := (s.rgs.tasks.filter fun t => t.kind == 1 && t.source == m.val && x.queue.any fun c => c.stamp == t.stamp).map Task.id
  let s1 := x.queue.foldl (fun (t : State) c => t.mbxIrq m c.notify) { s with rgs := { s.rgs with cancels := s.rgs.cancels ++ ids } }
  let y := { x with queue := [], begun := x.begun.map (fun b => { b with discard := true }), rsps := [] }
  ((s1.setMbx m y).releaseHeldNotices m y.held).freeBuffers m.val

/-- FUNCTION_LEVEL_RESET of PF0 or PF1 (R455). -/
def execFunctionLevelReset (pf1 : Bool) (s : State) : Host.Outcome State Fault Refusal :=
  .next (((List.finRange 36).filter fun m => if pf1 then decide (24 ≤ m.val) && decide (m.val < 32) else decide (m.val < 24)).foldl
    (fun (t : State) m => t.flrMbx m) s)

/-- A management mailbox. -/
def mgmtBox (j : Fin 4) : Fin 36 := ⟨32 + j.val, by omega⟩

/-- MGMT_BLOCK_WRITE (R457): a bad PEC discards it, and in reset it is not acknowledged (R539).  In DORMANT and until exit ends, up to four commands are held, and a fifth is
not acknowledged (R499, R500). -/
def execMgmtBlockWrite (j : Fin 4) (bytes : BitVec 512) (pecOk : Bool) (s : State) : Host.Outcome State Fault Refusal :=
  .next (if pecOk = false ∨ s.inReset = true then s
    else if s.pwr.phase = .dormant ∨ s.pwr.phase = .exiting then
      if 4 ≤ s.pwr.mgmt.length then s
      else (s.setPwr { s.pwr with mgmt := s.pwr.mgmt ++ [(32 + j.val, bytes)] }).wakeUp 3
    else (s.wakeUp 3).submitHeld (32 + j.val, bytes))

/-- MGMT_BLOCK_READ (R457): of a response, which leaves the queue, or, with `result`, of MBX_DB_RESULT. -/
def execMgmtBlockRead (j : Fin 4) (result : Bool) (s : State) : Host.Outcome State Fault Refusal :=
  .next (if result then s.bus (s.reg (Reg.MBX_DB_RESULT (mgmtBox j)))
    else (s.setCur { s.cur with mgmtOut := (s.mbx (mgmtBox j)).rsps.headD 0 }).popRsp (mgmtBox j))

end Sys2Proof.Machine
end

