-- ==== Sys2Proof/Machine/Logbook.lean ====
section
/-!
DEFINITION. The Logbook (R521 to R526).
-/
namespace Sys2Proof.Machine

/-- The Logbook replaced. -/
def State.setLgb (s : State) (l : Lgb) : State := { s with lgb := l }

/-- Tracing of core k replaced. -/
def State.setLgbCore (s : State) (k : Fin 8) (c : LgbCore) : State := s.setLgb { s.lgb with cores := vset s.lgb.cores k c }

/-- The buffer has room: one unit stays unused (R302). -/
def State.lgbRoom (s : State) : Bool := (s.fld Reg.LGB_HEAD 0 16 + 1) % 65536 != s.fld Reg.LGB_TAIL 0 16

/-- First word of a record (R522). -/
def State.lgbW0 (s : State) (k : Fin 8) (kind extra : Nat) : Nat := kind + k.val * 16 + extra + s.lnk.timebase % 2 ^ 32 * 2 ^ 32

/-- A record, as 128 bits, enters the buffer at HEAD, and counts for its core's next SYNC. -/
def State.lgbWrite (s : State) (k : Fin 8) (r : Nat) : State :=
  let h := s.fld Reg.LGB_HEAD 0 16
  let s1 := s.setLgb { s.lgb with buf := msetAll dWord64 s.lgb.buf [(2 * h, BitVec.ofNat 64 r), (2 * h + 1, BitVec.ofNat 64 (r / 2 ^ 64))] }
  let c := vget s1.lgb.cores k
  let n := c.since + 1
  (s1.setLgbCore k { c with since := n % 4096, due := c.due || n == 4096 }).setFld Reg.LGB_HEAD 0 16 ((h + 1) % 65536)

/-- The DROP record, once one fits after drops; a SYNC follows it. -/
def State.lgbDropRec (s : State) (k : Fin 8) : State :=
  if s.lgb.dropped ≠ 0 ∧ s.lgbRoom = true then
    let s1 := (s.setLgb { s.lgb with dropped := 0 }).lgbWrite k (s.lgbW0 k 6 0 + min s.lgb.dropped (2 ^ 32 - 1) * 2 ^ 64)
    s1.setLgbCore k { vget s1.lgb.cores k with due := true }
  else s

/-- The SYNC that is due. -/
def State.lgbSync (s : State) (k : Fin 8) (pc : Word) : State :=
  if (vget s.lgb.cores k).due = true ∧ s.lgbRoom = true then
    let s1 := s.lgbWrite k (s.lgbW0 k 1 0 + pc.toNat * 2 ^ 64 + s.lnk.timebase / 2 ^ 32 % 2 ^ 32 * 2 ^ 96)
    s1.setLgbCore k { vget s1.lgb.cores k with since := 0, due := false }
  else s

/-- A record of core k at PC `pc` (R522, R524): after a DROP and a SYNC that are due; with the buffer full, a Docent core waits under
FULL = 1, and otherwise the record is dropped and counted. -/
def State.lgbPut (s : State) (k : Fin 8) (pc : Word) (r : Nat) : State :=
  let s1 := (s.lgbDropRec k).lgbSync k pc
  if s1.lgbRoom then s1.lgbWrite k r
  else if s1.fld Reg.LGB_CTRL 2 1 = 1 ∧ s1.docentCore k.val = true then
    (s1.setLgbCore k { vget s1.lgb.cores k with waitRec := some (pc, r) }).setFld Reg.LGB_STATUS (1 + k.val) 1 1
  else (s1.setLgb { s1.lgb with dropped := s1.lgb.dropped + 1 }).addFld Reg.LGB_DROP 0 32 1

/-- Core k is traced and its tracing has started. -/
def State.lgbOn (s : State) (k : Fin 8) : Bool :=
  s.fld Reg.LGB_CTRL 0 1 == 1 && s.fld Reg.LGB_CTRL (8 + k.val) 1 == 1 && (vget s.lgb.cores k).waitRec.isNone

/-- Core k runs excluded code (R523). -/
def State.lgbExcluded (s : State) (k : Fin 8) : Bool :=
  s.fld Reg.LGB_STATUS 0 1 == 0 && ((vget s.lgb.cores k).gap.isSome || s.fld Reg.SPR_CORES (2 * k.val) 2 == 0)

/-- An event of core k at PC `pc` (R522, R523). -/
def State.lgbEvent (s : State) (k : Fin 8) (pc : Word) (e : LgbEv) : State :=
  let c := vget s.lgb.cores k
  match e with
  | .start => if c.on then s else (s.setLgbCore k { c with on := true, due := true }).lgbSync k pc
  | .branch dst => if c.on ∧ s.lgbExcluded k = false then s.lgbPut k pc (s.lgbW0 k 2 0 + pc.toNat * 2 ^ 64 + dst.toNat * 2 ^ 96) else s
  | .data size store addr val =>
    if c.on ∧ s.lgbExcluded k = false ∧ s.fld Reg.LGB_CTRL 1 1 = 1 then
      s.lgbPut k pc (s.lgbW0 k 3 (size.toNat * 2 ^ 8 + b2n store * 2 ^ 11) + addr.toNat * 2 ^ 64 + val.toNat * 2 ^ 96)
    else s
  | .enter =>
    if c.on ∧ c.gap.isNone = true ∧ s.fld Reg.LGB_STATUS 0 1 = 0 then
      (s.setLgbCore k { c with gap := some s.lnk.timebase }).lgbPut k pc (s.lgbW0 k 4 0 + pc.toNat * 2 ^ 64)
    else s
  | .leave =>
    match c.gap with
    | some t0 =>
      let len := min (s.lnk.timebase - t0) (2 ^ 32 - 1)
      let s1 := (s.setLgbCore k { c with gap := none }).lgbPut k pc (s.lgbW0 k 5 0 + pc.toNat * 2 ^ 64 + len * 2 ^ 96)
      (s1.setLgbCore k { vget s1.lgb.cores k with due := true }).lgbSync k pc
    | none => s

/-- LOGBOOK_RECORD (R522). -/
def execLogbookRecord (core : Fin 8) (pc : Word) (e : LgbEv) (s : State) : Host.Outcome State Fault Refusal :=
  .next (if s.lgbOn core ∧ s.awake = true then s.lgbEvent core pc e else s)

/-- LOGBOOK_SPACE_FREED (R524): waiting cores write in ascending order while there is room. -/
def execLogbookSpaceFreed (s : State) : Host.Outcome State Fault Refusal :=
  .next ((List.finRange 8).foldl (fun (t : State) (k : Fin 8) =>
    match (vget t.lgb.cores k).waitRec with
    | some (pc, r) =>
      if t.lgbRoom then
        ((t.setLgbCore k { vget t.lgb.cores k with waitRec := none }).setFld Reg.LGB_STATUS (1 + k.val) 1 0).lgbPut k pc r
      else t
    | none => t) s)

/-- A write of LGB_TAIL (R302, R521). -/
def State.lgbTail (s : State) (v : Word) (path : Nat) : State :=
  let tail := s.fld Reg.LGB_TAIL 0 16
  let head := s.fld Reg.LGB_HEAD 0 16
  let pos := bitsAt v 0 16
  if (pos + 2 ^ 16 - tail) % 2 ^ 16 ≤ (head + 2 ^ 16 - tail) % 2 ^ 16 then s.setFld Reg.LGB_TAIL 0 16 pos
  else s.logAccess 3 Reg.LGB_TAIL v path 15

/-- LGB_TAIL_WRITE; the registers do not appear in PF1 (R526). -/
def execLgbTailWrite (path : Path) (v : Word) (s : State) : Host.Outcome State Fault Refusal :=
  match path with
  | .pf1 _ => .next s
  | _ => .next (s.lgbTail v path.code)

/-- A write of LGB_CTRL (R526): EN always, the rest only while EN is 0.  With EN 0 no core is traced or waits. -/
def State.lgbCtrl (s : State) (v : Word) : State :=
  let en := bitsAt v 0 1
  let s1 := if s.fld Reg.LGB_CTRL 0 1 = 0 then (s.setFld Reg.LGB_CTRL 1 2 (bitsAt v 1 2)).setFld Reg.LGB_CTRL 8 8 (bitsAt v 8 8) else s
  let s2 := s1.setFld Reg.LGB_CTRL 0 1 en
  if en = 0 then (s2.setFld Reg.LGB_STATUS 1 8 0).setLgb { s2.lgb with cores := Vector.replicate 8 LgbCore.reset } else s2

end Sys2Proof.Machine
end

