-- ==== Sys2Proof/Machine/DeviceCmds.lean ====
section
/-!
DEFINITION. Device commands (R468): reset, go, time, lanes, flash and fuses.
-/
namespace Sys2Proof.Machine

/-- RESET (R468): kind 1 is answered and asks for a reset 1 ms later, which RESET_ABANDON is; any kind but 1 and 2 is out of range. -/
def State.resetCmd (s : State) (m : Fin 36) (c : Cmd) : State :=
  if c.pay 0 1 = 1 then
    let s1 := s.reply m c (rspEmpty .ok 0)
    { s1 with cur := { s1.cur with resetAsked := true } }
  else s.reply m c (rspEmpty .range 1)

/-- The form of RESET. -/
def formReset : Form := { op := 0x0004, p := true, r := true, used := [(0, 1, 0xFF)] }

/-- RESET_DEVICE. -/
def execResetDevice (m : Fin 36) (s : State) : Host.Outcome State Fault Refusal :=
  .next (s.cmdRow m formReset (fun c => c.pay 0 1 != 2) (fun _ _ => false) fun s c => s.resetCmd m c)

/-- RESET_DOCENT (R441, R468): answered once the Docent runs. -/
def execResetDocent (m : Fin 36) (s : State) : Host.Outcome State Fault Refusal :=
  .next (s.cmdRow m formReset (fun c => c.pay 0 1 == 2) (fun _ _ => false) fun s c => (s.wait m c false .docent).docentRestart 3)

/-- GO (R395, R468): the go is pending, and GO_ACT acts it once the device sees CFG_DONE high. -/
def execGo (m : Fin 36) (s : State) : Host.Outcome State Fault Refusal :=
  .next (s.cmdRow m { op := 0x0005, p := true } (fun _ => true) (fun _ _ => false) fun s c =>
    (s.setFld Reg.CFG_LINE 4 1 1).reply m c ⟨.ok, 0, 1, s.goWaiters.length⟩)

/-- TIME_SET (R249, R468). -/
def execTimeSet (m : Fin 36) (s : State) : Host.Outcome State Fault Refusal :=
  .next (s.cmdRow m { op := 0x0006, p := true, used := [(0, 8, 2 ^ 64 - 1)] } (fun _ => true) (fun _ _ => false) fun s c =>
    if s.fld Reg.LNK_TIME_CTRL 0 1 = 1 then
      { s with lnk := { s.lnk with timebase := c.pay 0 8, slew := 0 } }.reply m c (rspEmpty .ok 0)
    else s.reply m c (rspEmpty .range 0))

/-- A quad that LANE_SET may not change (R255): it carries a link mapped to an armed partition, or a depot port that is UP. -/
def State.quadFixed (s : State) (q : Nat) : Bool :=
  let use := s.fld (Reg.LANE_QUAD q) 0 2
  let bind := s.fld (Reg.LANE_QUAD q) 2 5
  if use = 1 then (List.range 8).any fun r => bitOf (s.fld (Reg.LNK_MAP bind) (4 * r) 4) 3
  else use == 2 && s.fld (Reg.DEP_PORT_STATE bind) 0 3 == 3

/-- The binding is taken by another quad. -/
def State.bindTaken (s : State) (q use bind : Nat) : Bool :=
  (List.range 24).any fun k => k != q && s.fld (Reg.LANE_QUAD k) 0 2 == use && s.fld (Reg.LANE_QUAD k) 2 5 == bind

/-- LANE_SET (R255, R468). -/
def State.laneSet (s : State) (m : Fin 36) (c : Cmd) : State :=
  let q := c.pay 0 1
  let use := c.pay 1 1 % 4
  let bind := c.pay 1 1 / 4
  let manual := c.pay 2 1 / 2 == 1
  if !s.hasQuad q then s.reply m c (rspEmpty .range 1)
  else if use = 3 ∨ use = 1 ∧ s.nLinks ≤ bind ∨ use = 2 ∧ s.hasPort bind = false then s.reply m c (rspEmpty .range 2)
  else if s.quadFixed q ∨ (use ≠ 0 ∧ manual = false ∧ s.bindTaken q use bind = true) then s.reply m c (rspEmpty .range 0)
  else (s.useQuad q use bind (c.pay 2 1 % 2 == 1) manual).reply m c (rspEmpty .ok 0)

/-- LANE_SET. -/
def execLaneSet (m : Fin 36) (s : State) : Host.Outcome State Fault Refusal :=
  .next (s.cmdRow m { op := 0x0007, p := true, used := [(0, 1, 0xFF), (1, 1, 0x7F), (2, 1, 3)] } (fun _ => true) (fun _ _ => false) fun s c =>
    s.laneSet m c)

/-- The inactive slot of a type (R442); `toB` where the directory as read names no entry of it. -/
def State.slotFor (s : State) (type : Nat) (toB : Bool) : Bool :=
  match dirFind s.cfg.dir type true, dirFind s.cfg.dir type false with
  | some e, _ => !e.slotB
  | none, some e => e.slotB
  | none, none => toB

/-- FLASH_WRITE (R442, R468): `img` is the container at the address.  The directory moves ACTIVE to the slot written. -/
def State.flashWrite (s : State) (m : Fin 36) (c : Cmd) (img : Option Cont) (toB : Bool) : State :=
  let type := c.pay 0 2
  if type ≠ 1 ∧ type ≠ 2 then s.reply m c (rspEmpty .range 1)
  else if c.pay 8 8 % 8 ≠ 0 then s.reply m c (rspEmpty .range 9)
  else
    match img with
    | none => s.reply m c (rspEmpty .range 9)
    | some k =>
      if s.stagingBytes < k.totalLen.toNat then s.reply m c (rspEmpty .range 0)
      else
        match s.contCheck k type (c.pay 16 8) with
        | some x => s.reply m c (rspEmpty x.1 (if x.1 = .range then 9 else 0))
        | none =>
          let slot := s.slotFor type toB
          { s with cfg := { s.cfg with dir := dirWritten s.cfg.dir type (c.pay 16 8) slot } }.reply m c ⟨.ok, 0, 1, b2n slot⟩

/-- FLASH_WRITE. -/
def execFlashWrite (m : Fin 36) (img : Option Cont) (toB : Bool) (s : State) : Host.Outcome State Fault Refusal :=
  .next (s.cmdRow m { op := 0x0008, p := true, r := true, used := [(0, 2, 0xFFFF), (8, 8, 2 ^ 64 - 1), (16, 8, 2 ^ 64 - 1)] } (fun _ => true)
    (fun _ _ => false) fun s c => s.flashWrite m c img toB)

/-- The form of FUSE. -/
def formFuse : Form := { op := 0x0009, p := true, desc := true, used := [(0, 1, 0xFF), (1, 1, 0xFF), (2, 2, 0xFFFF)] }

/-- Answer a FUSE command with CFG_KEYS. -/
def State.fuseOk (s : State) (m : Fin 36) (c : Cmd) : State := s.reply m c ⟨.ok, 0, 4, (s.reg Reg.CFG_KEYS).toNat⟩

/-- FUSE action 1 (R386, R468).  Only DESC can name the key hash, and a descriptor leaves the payload no room for the slot: the
host's block is taken to give it (log entry 29). -/
def State.fuseProgram (s : State) (m : Fin 36) (c : Cmd) (block : Option (Byte × BitVec 384)) : State :=
  if !c.desc then s.reply m c (rspEmpty .range (if c.pay 0 1 = 1 then 0 else 1))
  else if c.pay 0 8 % 8 ≠ 0 then s.reply m c (rspEmpty .range 1)
  else
    match block with
    | none => s.reply m c (rspEmpty .range 0)
    | some (slot, hash) =>
      let k := slot.toNat
      if k = 0 ∨ 4 < k ∨ s.fld Reg.CFG_KEYS k 1 = 1 ∨ s.fld Reg.CFG_KEYS (k + 4) 1 = 1 then s.reply m c (rspEmpty .range 0)
      else
        ({ s.setFld Reg.CFG_KEYS k 1 1 with cfg := { s.cfg with hashes := insertBy (fun (x : Nat × BitVec 384) => x.1) (k, hash) s.cfg.hashes } }).fuseOk m c

/-- FUSE_PROGRAM_SLOT. -/
def execFuseProgramSlot (m : Fin 36) (block : Option (Byte × BitVec 384)) (s : State) : Host.Outcome State Fault Refusal :=
  .next (s.cmdRow m formFuse (fun c => c.desc || (c.pay 0 1 != 2 && c.pay 0 1 != 3)) (fun _ _ => false) fun s c => s.fuseProgram m c block)

/-- FUSE_REVOKE_SLOT (R386, R468): a slot is revoked once. -/
def execFuseRevokeSlot (m : Fin 36) (s : State) : Host.Outcome State Fault Refusal :=
  .next (s.cmdRow m formFuse (fun c => !c.desc && c.pay 0 1 == 2) (fun _ _ => false) fun s c =>
    let k := c.pay 1 1
    if k = 0 ∨ 4 < k ∨ s.fld Reg.CFG_KEYS (k + 4) 1 = 1 then s.reply m c (rspEmpty .range 2)
    else (s.setFld Reg.CFG_KEYS (k + 4) 1 1).fuseOk m c)

/-- FUSE_RAISE_MIN_SVN (R387, R468). -/
def execFuseRaiseMinSvn (m : Fin 36) (s : State) : Host.Outcome State Fault Refusal :=
  .next (s.cmdRow m formFuse (fun c => !c.desc && c.pay 0 1 == 3) (fun _ _ => false) fun s c =>
    if c.pay 2 2 ≤ s.fld Reg.CFG_KEYS 16 16 then s.reply m c (rspEmpty .range 3)
    else (s.setFld Reg.CFG_KEYS 16 16 (c.pay 2 2)).fuseOk m c)

/-- STATUS_READ (R468): identity and status; then the next order stamp, or the block of a tenant's partition. -/
def State.statusRead (s : State) (m : Fin 36) (c : Cmd) : State :=
  let base := s.ident + (s.reg Reg.CFG_STATUS).toNat * 2 ^ 32 + (s.reg Reg.MBX_FW).toNat * 2 ^ 64
  match tenantOf m with
  | some n => s.reply m c ⟨.ok, 0, 40, base + s.block n * 2 ^ 128⟩
  | none => s.reply m c ⟨.ok, 0, 24, base + s.reg64 Reg.MBX_STAMP_LO * 2 ^ 128⟩

/-- STATUS_READ. -/
def execStatusRead (m : Fin 36) (s : State) : Host.Outcome State Fault Refusal :=
  .next (s.cmdRow m { op := 0x0001, p := true, t := true, r := true } (fun _ => true) (fun _ _ => true) fun s c => s.statusRead m c)

end Sys2Proof.Machine
end

