-- ==== Sys2Proof/Machine/PinRows.lean ====
section
/-!
DEFINITION. Rails, straps and DEVCLK (R512, R514, R536 to R539), and the TAP (R544).
-/
namespace Sys2Proof.Machine

/-- PWR_OK falls, or a required rail leaves its range (R379, R503, R515, R536): reset, and a trip ends.  With VAON lost the
always-on island loses its state and the TAP is reset. -/
def State.powerFall (s : State) (vaonLost : Bool) : State :=
  let s1 := { s.afterReset with pwr := Pwr.reset, pin := { s.pin with pwrOk := false, vaon := s.pin.vaon && !vaonLost } }
  if vaonLost then
    { s1 with regs := s1.regs.filter (fun (r : Nat × Word) => r.1 == Reg.CFG_KEYS), lnk := Lnk.reset, tap := Tap.reset,
              tly := { Tly.reset with powerOn := s.tly.powerOn } }
  else s1

/-- PWR_OK_FALL (R537). -/
def execPwrOkFall (vaonLost : Bool) (s : State) : Host.Outcome State Fault Refusal := .next (s.powerFall vaonLost)

/-- VAON_RISE (R514): Tally time starts at 0, and POWER_ON rises by 1. -/
def execVaonRise (s : State) : Host.Outcome State Fault Refusal :=
  .next (if s.pin.vaon then s
    else { s with pin := { s.pin with vaon := true }, tly := { Tly.reset with powerOn := (s.tly.powerOn + 1) % 2 ^ 32 } })

/-- PWR_OK_RISE (R539, R544): MGMT_SEL and MGMT_ADDR are sampled, and the TAP resets. -/
def execPwrOkRise (sel : Bool) (addr : BitVec 2) (s : State) : Host.Outcome State Fault Refusal :=
  .next (if s.pin.vaon = true ∧ s.pin.pwrOk = false then
      { s with pin := { s.pin with pwrOk := true, mgmtSel := sel, mgmtAddr := addr }, tap := Tap.reset }
    else s)

/-- DEVCLK_LOST (R512): LOST is set until it is read, and DEVCLK does not toggle. -/
def execDevclkLost (s : State) : Host.Outcome State Fault Refusal := .next (s.setReg Reg.CLK_DEVCLK 2)

/-- Length of the boundary register (R544, R546). -/
def State.scanLen (s : State) : Nat := match s.variant with | .f => 2362 | .r => 442 | .d => 1246

/-- As many cells as the part's boundary register has. -/
def State.cells (s : State) (v : BitVec 2362) : BitVec 2362 := BitVec.ofNat 2362 (v.toNat % 2 ^ s.scanLen)

/-- An instruction is loaded, and its data register captures; `shift` is what a scan leaves in the update latches. -/
def State.tapLoad (s : State) (ir : Byte) (data : BitVec 2362) (shift : Option (BitVec 2362)) : State :=
  { s with tap := { ir := ir, data := data, latch := match shift with | some v => s.cells v | none => s.tap.latch } }

/-- An instruction that scans the boundary register. -/
def State.tapScan (s : State) (ir : Byte) (balls : BitVec 2362) (shift : Option (BitVec 2362)) : State := s.tapLoad ir (s.cells balls) shift

/-- An instruction that acts only while RESET_N is low, and otherwise acts as BYPASS (R544). -/
def State.tapTest (s : State) (ir : Byte) (balls : BitVec 2362) (shift : Option (BitVec 2362)) : State :=
  if s.inReset then s.tapScan ir balls shift else s.tapLoad 0xFF 0 none

/-- The balls are driven from the boundary register's latches: EXTEST, EXTEST_PULSE, EXTEST_TRAIN or CLAMP acts (R544). -/
def State.tapDriven (s : State) : Bool := s.inReset && tapDrives s.tap.ir && s.tap.ir != 6

/-- The TAP holds every output in high impedance (R544). -/
def State.tapHighZ (s : State) : Bool := s.inReset && s.tap.ir == 6

/-- IDCODE: the identification register of stepping B0 (R544). -/
def idcode : BitVec 2362 := 0x1B1E233B#2362

/-- The TAP runs while VAON is present (R544). -/
def State.tapRow (s : State) (t : State) : State := if s.pin.vaon then t else s

/-- IDCODE (R544). -/
def execIdcode (s : State) : Host.Outcome State Fault Refusal := .next (s.tapRow (s.tapLoad 1 idcode none))

/-- SAMPLE_PRELOAD (R544). -/
def execSamplePreload (balls : BitVec 2362) (shift : Option (BitVec 2362)) (s : State) : Host.Outcome State Fault Refusal :=
  .next (s.tapRow (s.tapScan 2 balls shift))

/-- EXTEST (R544). -/
def execExtest (balls : BitVec 2362) (shift : Option (BitVec 2362)) (s : State) : Host.Outcome State Fault Refusal :=
  .next (s.tapRow (s.tapTest 3 balls shift))

/-- EXTEST_PULSE (R544). -/
def execExtestPulse (balls : BitVec 2362) (shift : Option (BitVec 2362)) (s : State) : Host.Outcome State Fault Refusal :=
  .next (s.tapRow (s.tapTest 4 balls shift))

/-- EXTEST_TRAIN (R544). -/
def execExtestTrain (balls : BitVec 2362) (shift : Option (BitVec 2362)) (s : State) : Host.Outcome State Fault Refusal :=
  .next (s.tapRow (s.tapTest 5 balls shift))

/-- HIGHZ (R544): the bypass register is selected. -/
def execHighz (s : State) : Host.Outcome State Fault Refusal := .next (s.tapRow (s.tapLoad (if s.inReset then 6 else 0xFF) 0 none))

/-- CLAMP (R544): the bypass register is selected. -/
def execClamp (s : State) : Host.Outcome State Fault Refusal := .next (s.tapRow (s.tapLoad (if s.inReset then 7 else 0xFF) 0 none))

/-- A code that the table does not give another instruction (R544). -/
def bypassCode (c : Byte) : Byte := if c = 0 ∨ 7 < c.toNat then c else 0xFF

/-- BYPASS (R544): 0xFF, and every code not listed. -/
def execBypass (code : Byte) (s : State) : Host.Outcome State Fault Refusal := .next (s.tapRow (s.tapLoad (bypassCode code) 0 none))

end Sys2Proof.Machine
end

