-- ==== Sys2Proof/Machine/Views.lean ====
section
/-!
DEFINITION. What the registers show (R7 to R10): which offsets the part's variant lacks, and, for read-only fields that are
not stored words, their value from the state.
-/
namespace Sys2Proof.Machine

/-- `lo ≤ x < hi`. -/
def inRange (x lo hi : Nat) : Bool := decide (lo ≤ x) && decide (x < hi)

/-- The unit number and the offset in it of a PF0 offset below the windows (R21). -/
def unitOf (a : Nat) : Nat := a / 0x100000

/-- Offsets that KBH-BLH2-D lacks (R155, R203, R230, R253, R278, R309, R357, R378, R423, R513): they read 0 and ignore writes. -/
def absentOnD (a : Nat) : Bool :=
  let o := a % 0x100000
  match unitOf a with
  | 2 => inRange o 0x10 0x50 && decide (8 ≤ o % 16)
  | 3 => (inRange o 0x10 0x50 && decide (8 ≤ o % 16)) || inRange o 0x10800 0x11000
  | 4 => inRange o 0x600 0x800
  | 5 => inRange o 0x180 0x200
  | 6 => inRange o 0x400 0x700
  | 7 => inRange o 0xD0 0xE0 || inRange o 0x130 0x160 || o == 0x164 || inRange o 0xA00 0x1000 || inRange o 0x1080 0x1100
  | 8 => (decide (o < 0x8000) && inRange (o % 0x1000) 0x140 0x180) || inRange o 0x8018 0x8020
  | 10 => inRange o 0x60 0x80 || inRange o 0x1800 0x2000 || inRange o 0x4200 0x6400 || inRange o 0x8800 0x9000 ||
      inRange o 0x9840 0xA080 || inRange o 0xC400 0xC800
  | 11 => inRange o 0x140 0x180 || inRange o 0x214 0x228 || inRange o 0x1080 0x1100 || inRange o 0x1180 0x1200 || inRange o 0x2500 0x2A00
  | 13 => decide (0x80000 ≤ o)
  | 17 => inRange o 0x48 0x50
  | 18 => inRange o 0x30 0x50
  | _ => inRange a 0x4000000 0x6000000 || decide (0xC000000 ≤ a)

/-- Offsets that the part lacks (R25, R378). -/
def State.absent (s : State) (a : Nat) : Bool :=
  match s.variant with
  | .f => false
  | .r => unitOf a == 11
  | .d => absentOnD a

/-- The low 32 bits of a number. -/
def w32 (x : Nat) : Word := BitVec.ofNat 32 x

/-- The value by variant: F, R, D. -/
def State.byVariant (s : State) (f r d : Nat) : Nat := match s.variant with | .f => f | .r => r | .d => d

/-- FRM registers (R52): during catch-up FRM_FRAME shows the frame of the fault (R328). -/
def State.viewFrm (s : State) (n : Fin 8) (o : Nat) (w : Word) : Word :=
  let p := s.part n
  let f := s.shownFrame n
  match o with
  | 0x0 => w32 (p.eph.depth + b2n p.eph.deep * 2 ^ 16 + b2n p.eph.spans * 2 ^ 17 + b2n p.eph.paced * 2 ^ 18 + b2n p.eph.debug * 2 ^ 19)
  | 0x4 => w32 (p.step % 2 ^ 13 + b2n p.stalled * 2 ^ 13 + p.stateCode * 2 ^ 16 + (if p.stalled then p.stallCause else 0) * 2 ^ 20 +
      (match p.haltCause with | some h => h.code | none => 0) * 2 ^ 23 + p.status % 32 * 2 ^ 27)
  | 0x10 => w32 f
  | 0x14 => w32 (f / 2 ^ 32 % 2 ^ 16)
  | 0x18 => w32 p.committed
  | 0x1C => w32 (p.committed / 2 ^ 32 % 2 ^ 16 + b2n p.committedValid * 2 ^ 31)
  | 0x20 => w32 p.start
  | 0x24 => w32 (p.start / 2 ^ 32 % 2 ^ 16)
  | 0x28 => w32 p.remaining
  | 0x38 => w32 p.stallTotal
  | 0x3C => w32 (p.stallTotal / 2 ^ 32)
  | 0x5C => w32 (p.consec % 2 ^ 8 + min p.aborts (2 ^ 24 - 1) * 2 ^ 8)
  | 0x60 => p.errReg
  | 0x64 => w32 (p.faultCause.code + p.faultStall % 8 * 2 ^ 4 + p.faultStep % 2 ^ 13 * 2 ^ 7)
  | 0x68 => w32 (p.faultBp % 2 ^ 18)
  | _ => w

/-- The pairs of dies in the order of LAT_BRIDGE (R154). -/
def diePairs : List (Nat × Nat) := [(0, 1), (0, 2), (0, 3), (1, 2), (1, 3), (2, 3)]

/-- A loaded partition spans both dies (R148, R154). -/
def State.bridgeUsed (s : State) (x : Nat × Nat) : Bool :=
  (List.finRange 8).any fun n => (s.part n).state != .empty && bitOf (s.part n).eph.dieMask x.1 && bitOf (s.part n).eph.dieMask x.2

/-- LAT_BRIDGE (R154, R155). -/
def State.latBridge (s : State) : Nat :=
  let ps := if s.variant = .d then [(0, 1)] else diePairs
  let act := (ps.zipIdx).foldl (fun a x => a + b2n (s.bridgeUsed x.1) * 2 ^ x.2) 0
  act + (2 ^ ps.length - 1 - act) * 2 ^ 8

/-- DBG registers (R178): without a powered monitor they read their reset values. -/
def State.viewDbg (s : State) (n : Fin 8) (a : Nat) (w : Word) : Word :=
  let p := s.part n
  if p.eph.debug = false then resetWord a
  else if a % 0x100 = 4 then w32 (p.hazBuf.length % 2 ^ 9 + b2n (p.hazBuf.length == 256) * 2 ^ 9 + 2 ^ 10)
  else w

/-- A word of the bits stored from key `base` on. -/
def packBits (f : Nat → Bool) : Word := w32 ((List.range 32).foldl (fun a i => a + b2n (f i) * 2 ^ i) 0)

/-- VTR_BIN_j: step-domain copies (R367). -/
def State.vtrBin (s : State) (j : Nat) : Word :=
  match (List.finRange 8).find? (fun r => r.val == j / 8) with
  | some r => w32 (bitsAt (s.region r).stepCopy (32 * (j % 8)) 32)
  | none => 0

/-- PHM_STATUS (R422). -/
def Phm.statusWord (p : Phm) : Word :=
  w32 (b2n p.running + b2n (p.waiting && (p.pendingEvent (bitsAt p.word 0 10)).isNone) * 2 + b2n (!p.running) * 4 + p.err % 16 * 2 ^ 3 + p.pc % 2 ^ 12 * 2 ^ 7 + b2n p.ovf * 2 ^ 19 + b2n p.stsat * 2 ^ 20)

/-- Photometer of a block number. -/
def State.phmAt (s : State) (d : Nat) : Phm := if h : d < 4 then vget s.phm ⟨d, h⟩ else Phm.reset

/-- MBX_QSTAT (R460). -/
def Mbx.qstat (x : Mbx) : Word :=
  w32 (x.queue.length % 16 + b2n (!x.begun.isEmpty) * 2 ^ 4 + x.rsps.length % 32 * 2 ^ 5 + b2n (!x.held.isEmpty) * 2 ^ 10)

/-- MBX registers (R460). -/
def State.viewMbx (s : State) (o : Nat) (w : Word) : Word :=
  if o = 0 then setBitsAt w 18 1 (b2n s.pin.mgmtSel)
  else if h : 0x1000 ≤ o ∧ (o - 0x1000) / 0x100 < 36 then
    let x := s.mbx ⟨(o - 0x1000) / 0x100, h.2⟩
    let k := o % 0x100
    if k = 0x50 then x.qstat
    else if inRange k 0x80 0xC0 then w32 (bitsAt (x.rsps.headD 0) (8 * (k - 0x80)) 32)
    else w
  else if inRange o 0x8000 0x8400 then mget (fun _ => (0 : Word)) s.cur.accLog ((o - 0x8000) / 4)
  else w

/-- READY USER tasks bound to core k (R483, R488). -/
def State.qdepth (s : State) (k : Nat) : Nat :=
  if s.docentCore k then
    (s.rgs.tasks.filter fun t => t.isReady && t.kind == 1 && t.lastCore == k &&
      decide (s.rgs.cycle < t.readyAt + s.fld Reg.RGS_CFG 0 12)).length
  else 0

/-- RGS_CORE_STATE_k (R491). -/
def State.coreState (s : State) (k : Fin 8) : Word :=
  let run := match s.rgs.taskOn k with | some t => t.id + 2 ^ 10 | none => 0
  w32 (run + b2n (s.docentCore k.val) * 2 ^ 11 + min 255 (s.qdepth k.val) * 2 ^ 12 + b2n (vget s.rgs.refused k) * 2 ^ 20)

/-- STATE of a descriptor: 0 FREE, 1 DELAYED, 2 READY, 3 RUNNING; W0 to W3 of RGS_DESC (R491). -/
def State.viewDesc (s : State) (i w : Nat) : Word :=
  match s.rgs.tasks.find? (fun t => t.id == i) with
  | none => 0
  | some t =>
    match w with
    | 0 =>
      let st := match t.st with | .delayed => 1 | .fresh => 2 | .ready => 2 | .running _ => 3
      w32 (st + t.kind % 16 * 2 ^ 2 + t.prio % 8 * 2 ^ 6 + t.owner % 16 * 2 ^ 9 + t.lastCore % 8 * 2 ^ 13 + b2n t.cancelReq * 2 ^ 16 +
        t.source % 64 * 2 ^ 17)
    | 1 => w32 (t.readyAt / 1000)
    | 2 => w32 (if t.st = .delayed then t.expiry else 0)
    | _ => t.param

/-- RGS registers (R491). -/
def State.viewRgs (s : State) (o : Nat) (w : Word) : Word :=
  if o = 0xC then w32 (s.rgs.free + s.rgs.dataReady * 2 ^ 11 + s.rgs.userReady * 2 ^ 21)
  else if o = 0x10 then
    w32 (s.rgs.delayed + (List.range 4).foldl (fun a k => a + b2n (s.rgs.held.any fun h => h.kind == k + 2) * 2 ^ (9 + k)) 0)
  else if o = 0x1C then w32 s.rgs.now
  else if h : inRange o 0x140 0x200 = true ∧ (o - 0x100) / 0x20 < 8 then
    if o % 0x20 = 0 then s.coreState ⟨(o - 0x100) / 0x20, h.2⟩ else w
  else if inRange o 0x4000 0x8000 then s.viewDesc ((o - 0x4000) / 16) (o / 4 % 4)
  else w

/-- The condition of a group of domains: 0 off, 1 on, 2 retention, 3 switching (R493). -/
def domainOf (on switching nap : Bool) : Nat := if on then 1 else if switching then 3 else if nap then 2 else 0

/-- Partition n has a tile in tile group 16d + k (R492). -/
def State.inGroup (s : State) (n : Fin 8) (g : Nat) : Bool :=
  (s.part n).state != .empty && (List.range 4).any fun i => (s.part n).eph.hasTile (4 * g + i)

/-- Tile group g has a tile of a partition whose NAP stands so (R496). -/
def State.groupHas (s : State) (g : Nat) (f : Fin 8 → Bool) : Bool := (List.finRange 8).any fun n => s.inGroup n g && f n

/-- The partition keeps its tile groups on: it is not in NAP, nor held on its way there or back (R493, R496). -/
def State.napOn (s : State) (n : Fin 8) : Bool :=
  vget s.pwr.nap n == .none || (vget s.pwr.nap n == .entering && (s.part n).held.isNone)

/-- The partition moves into or out of NAP. -/
def State.napMoves (s : State) (n : Fin 8) : Bool :=
  (vget s.pwr.nap n == .entering && (s.part n).held.isSome) || vget s.pwr.nap n == .leaving

/-- The partition is in NAP. -/
def State.napIn (s : State) (n : Fin 8) : Bool := vget s.pwr.nap n == .napping

/-- The condition of tile groups. -/
def State.groupsState (s : State) (gs : List Nat) : Nat :=
  domainOf (gs.any fun g => s.groupHas g s.napOn) (gs.any fun g => s.groupHas g s.napMoves) (gs.any fun g => s.groupHas g s.napIn)

/-- A partition with tiles on die d is loaded. -/
def State.dieUsed (s : State) (d : Nat) : Bool :=
  (List.finRange 8).any fun n => (s.part n).state != .empty && bitOf (s.part n).eph.dieMask d

/-- A domain that the part carries (R513). -/
def State.hasDomain (s : State) (j : Nat) : Bool :=
  match s.variant with
  | .f => decide (j < 130)
  | .r => decide (j < 130) && !inRange j 108 116
  | .d => decide (j < 32) || inRange j 64 72 || inRange j 80 92 || j == 104 || inRange j 106 112 || j == 116 || j == 117 || j == 120 ||
      j == 121 || j == 124 || j == 125 || j == 128 || j == 129

/-- Domain j outside reset (R492, R493). -/
def State.domainRun (s : State) (j : Nat) : Nat :=
  if j < 64 then s.groupsState [j]
  else if j < 80 then s.groupsState ((List.range 4).map fun i => 4 * (j - 64) + i)
  else if j < 104 then b2n (s.quadOn (j - 80))
  else if j < 106 then b2n ((List.range 12).any fun i => s.quadOn (12 * (j - 104) + i))
  else if inRange j 108 116 then b2n (s.regState (j - 108) != 0)
  else if inRange j 120 124 then b2n (s.dieUsed (j - 120))
  else if inRange j 124 128 then
    b2n (s.dieUsed (j - 124) || (List.finRange 8).any fun n => (s.cap n).closed.any fun x => x.die == j - 124)
  else 1

/-- Domain j (R493): in DORMANT in retention, but for a Vitrine region that is EMPTY. -/
def State.domain (s : State) (j : Nat) : Nat :=
  if !s.hasDomain j || s.inReset then 0
  else if s.pwr.phase = .dormant then (if inRange j 108 116 && s.regState (j - 108) == 0 then 0 else 2)
  else s.domainRun j

/-- PWR_PART_n (R511). -/
def State.viewPart (s : State) (n : Fin 8) : Word :=
  let p := s.part n
  let st := match p.held with | none => 0 | some .hold => 1 | some .nap => 2 | some .dormant => 3
  let shared := (List.range 64).any fun g => s.inGroup n g && s.groupHas g fun m => m != n && vget s.pwr.nap m == .none
  let waits := vget s.pwr.nap n == .entering && s.waiting.any fun x => x.2.wait == .napExit n
  w32 (st + b2n (vget s.pwr.nap n != .none && shared) * 4 + b2n waits * 8 + (if p.held.isSome then p.step % 2 ^ 13 else 0) * 16)

/-- PWR registers (R511, R513). -/
def State.viewPwr (s : State) (o : Nat) (w : Word) : Word :=
  if o = 0 then w32 (s.byVariant 0x82 0x7A 0x43 + 4 * 2 ^ 8 + s.byVariant 15 15 3 * 2 ^ 11)
  else if o = 4 then
    let dev := match s.pwr.phase with | .run => bitsAt w 0 3 | .entering => 2 | .dormant => 2 | .exiting => 3
    w32 (dev + b2n (decide (0 < s.pwr.wakes) && s.pwr.phase != .run) * 8)
  else if o = 8 then setBitsAt w 6 1 1
  else if h : inRange o 0x60 0x80 = true ∧ (o - 0x60) / 4 < 8 then s.viewPart ⟨(o - 0x60) / 4, h.2⟩
  else if inRange o 0x80 0xA4 then w32 ((List.range 16).foldl (fun a i => a + s.domain (16 * ((o - 0x80) / 4) + i) * 4 ^ i) 0)
  else w

/-- Capability words that differ by variant (R203, R230, R253, R278, R309, R357, R378, R513), and the spare quads' USE (R277). -/
def State.viewCaps (s : State) (a : Nat) (w : Word) : Word :=
  if a = Reg.SPR_STATUS then setBitsAt w 8 9 s.idleTiles
  else if a = Reg.LANE_QUAD 24 ∨ a = Reg.LANE_QUAD 25 then setBitsAt w 0 2 3
  else if s.variant != .d then (if a = Reg.CLK_CAPS then setBitsAt w 0 6 (s.byVariant 0x3A 0x32 0) else w)
  else if a = Reg.VLT_CAPS then setBitsAt w 17 4 3
  else if a = Reg.NOC_CAPS then setBitsAt (setBitsAt w 5 5 8) 18 4 3
  else if a = Reg.DEP_CAPS then setBitsAt w 0 4 4
  else if a = Reg.LNK_CAPS then setBitsAt w 0 5 0xC
  else if a = Reg.LANE_CAPS then setBitsAt (setBitsAt (setBitsAt w 0 5 0xD) 5 7 0x34) 12 4 4
  else if a = Reg.CAP_CAPS then setBitsAt w 26 4 3
  else if a = Reg.SPR_CAPS then setBitsAt (setBitsAt (setBitsAt w 9 4 4) 13 9 0x80) 22 4 3
  else if a = Reg.VTR_CAPS then setBitsAt (setBitsAt (setBitsAt (setBitsAt w 0 6 0x10) 6 13 0x800) 19 4 4) 23 4 5
  else if a = Reg.CLK_CAPS then setBitsAt (setBitsAt w 0 6 0x24) 6 4 2
  else if inRange a (Reg.ADC_SEQ 0) (Reg.ADC_SEQ 16) then setBitsAt (setBitsAt w 16 5 0x1F) 24 5 0x1F
  else w

/-- A number below 8 as an index. -/
def fin8 (x : Nat) : Fin 8 := ⟨x % 8, Nat.mod_lt _ (by decide)⟩

/-- What the word at a PF0 offset shows on a path, before its write-only fields are masked. -/
def State.view (s : State) (p : Path) (a : Nat) : Word :=
  let w := s.viewCaps a (s.reg a)
  let o := a % 0x100000
  match unitOf a with
  | 0 => if a = Reg.GLB_IDENT then w32 s.ident else w
  | 1 => s.viewFrm (fin8 (o / 0x1000)) (o % 0x1000) w
  | 2 => if a = Reg.LAT_BRIDGE then w32 s.latBridge else w
  | 3 => if a = Reg.VLT_PEEK_STATUS then (if p = .mgmt then s.vlt.peekMgmt else s.vlt.peekPf0) else w
  | 6 => if o = 0x10 then w32 s.lnk.timebase else if o = 0x14 then w32 (s.lnk.timebase / 2 ^ 32) else w
  | 11 =>
    if inRange o 0x1000 0x1100 then packBits fun i => mget dBit s.vtr.bout (32 * ((o - 0x1000) / 4) + i)
    else if inRange o 0x1100 0x1200 then s.vtrBin ((o - 0x1100) / 4)
    else w
  | 13 => if o % 0x40000 = 4 then (s.phmAt (o / 0x40000)).statusWord else w
  | 15 => s.viewMbx o w
  | 16 => s.viewRgs o w
  | 17 => s.viewPwr o w
  | 19 =>
    if o = 0 then w32 s.tly.time
    else if o = 4 then w32 (s.tly.time / 2 ^ 32)
    else if o = 0xC then w32 (s.tly.rows.length % 2 ^ 7 + s.tly.unread.length % 2 ^ 10 * 2 ^ 8)
    else if o = 0x18 then w32 s.wall
    else if o = 0x1C then w32 (s.wall / 2 ^ 32)
    else w
  | 21 => s.viewDbg (fin8 (o / 0x100)) a w
  | _ => w

/-- Fields that a read shows: all but the write-only ones (R8); reserved bits read 0 (R10). -/
def readMask (l : List Fld) : Nat :=
  l.foldl (fun a f => if f.acc = .wo then a else a ||| (2 ^ (f.hi + 1 - f.lo) - 1) * 2 ^ f.lo) 0

/-- The value of a register on a path (R8, R10); 0 where none stands. -/
def State.readReg (s : State) (p : Path) (a : Nat) : Word :=
  if s.absent a then 0
  else
    match regAt a with
    | some (r, _) => w32 ((s.view p a).toNat &&& readMask r.flds)
    | none => if inRange a 0x1004000 0x1008000 || inRange a 0xF08000 0xF08400 then s.view p a else 0

end Sys2Proof.Machine
end

