-- ==== Sys2Proof/Machine/Access.lean ====
section
/-!
DEFINITION. Register and window accesses on the access paths (R8 to R13, R21, R440, R444 to R446, R468).
-/
namespace Sys2Proof.Machine

/-- The PF0 offset that an offset in the window of partition n shows (R444). -/
def winAddr (n : Fin 8) (o : Nat) : Option Nat :=
  if o < 0x1000 then some (0x100000 + 0x1000 * n.val + o)
  else if inRange o 0x10000 0x11000 then some (0x800000 + 0x1000 * n.val + (o - 0x10000))
  else if inRange o 0x20000 0x21000 then some (0x900000 + 0x1000 * n.val + (o - 0x20000))
  else if inRange o 0x30000 0x30100 then some (0x1500000 + 0x100 * n.val + (o - 0x30000))
  else if inRange o 0x31000 0x32000 then some (0x1510000 + 0x1000 * n.val + (o - 0x31000))
  else if inRange o 0x40000 0x40100 then some (0xF01000 + 0x100 * (24 + n.val) + (o - 0x40000))
  else none

/-- The record windows of the hazard monitor (R178). -/
def isDbgWin (a : Nat) : Bool := inRange a 0x1510000 0x1518000

/-- What appears in partition windows: registers whose tables say so, the mailbox blocks and the record windows (R178, R444, R460). -/
def inWindow (a : Nat) : Bool :=
  isDbgWin a || unitOf a == 15 || match regAt a with | some (r, _) => r.win | none => false

/-- The PF0 offset that an access names, none where it meets an unoccupied offset of a window. -/
def Path.addr (p : Path) (off : Nat) : Option Nat :=
  match p with
  | .pf1 n =>
    match winAddr n off with
    | some a => if inWindow a then some a else none
    | none => none
  | _ => some off

/-- The offset of an access as the access log gives it: in PF1, within BAR2 (R460). -/
def Path.logOff (p : Path) (off : Nat) : Nat :=
  match p with
  | .pf1 n => 0x100000 * n.val + off % 0x100000
  | _ => off

/-- Fields cleared by a read (R8). -/
def rcMask (l : List Fld) : Nat := l.foldl (fun a f => if f.acc = .rc then a ||| (2 ^ (f.hi + 1 - f.lo) - 1) * 2 ^ f.lo else a) 0

/-- A read clears the RC fields of the register (R8, R9). -/
def State.clearRc (s : State) (a : Nat) (l : List Fld) : State :=
  if rcMask l = 0 then s else s.setReg a (w32 ((s.reg a).toNat &&& (2 ^ 32 - 1 - rcMask l)))

/-- A word of the P, Y and X windows of a Photometer block (R422). -/
def Phm.window (p : Phm) (o : Nat) : Word :=
  let i := o % 0x10000 / 4
  match o / 0x10000 with
  | 1 => if i < 4096 then mget (fun _ => (0 : Word)) p.prog i else 0
  | 2 => if i < 4096 then w32 (mget (fun _ => (0 : PWord)) p.ymem i).toNat else 0
  | 3 => if i < 8192 then w32 (mget (fun _ => (0 : PWord)) p.xmem i).toNat else 0
  | _ => 0

/-- A word of a hazard record window (R178). -/
def State.dbgWindow (s : State) (a : Nat) : Word :=
  let p := s.part (fin8 ((a - 0x1510000) / 0x1000))
  let k := a % 0x1000 / 16
  if p.eph.debug then
    match p.hazBuf[k]? with
    | some r => (match a / 4 % 4 with | 0 => r.w0 | 1 => r.w1 | 2 => r.w2 | _ => r.w3)
    | none => 0
  else 0

/-- A 64-bit word read in halves (R13): the low half captures. -/
def State.readPair (s : State) (p : Path) (a : Nat) (v : DWord) : State :=
  if a % 8 = 0 then (s.setCapt p (w32 (v.toNat / 2 ^ 32))).bus (w32 v.toNat) else s.bus (s.capt p)

/-- A read where no register stands: the windows of PF0 (R178, R199, R229, R422, R490, R521), else 0 (R10). -/
def State.readWindow (s : State) (p : Path) (a : Nat) (meet : Meet) (ecc : Ecc) : State :=
  if s.isPeek a then (if a % 8 = 0 then s.peekRead p a meet ecc else s.bus (s.capt p))
  else if inRange a 0x1010000 0x1020000 then s.traceRead (a - 0x1010000) meet ecc
  else if inRange a 0x6000000 0x6080000 then s.readPair p a (s.depotEntry ((a - 0x6000000) / 8))
  else if inRange a 0x7000000 0x7100000 then
    s.bus (w32 ((mget dWord64 s.lgb.buf ((a - 0x7000000) / 8)).toNat / 2 ^ (32 * (a / 4 % 2))))
  else if inRange a 0x8000000 0x10000000 then
    let d := (a - 0x8000000) / 0x2000000
    let b := a % 0x2000000
    s.bus (w32 (bitsAt (mget (fun _ => (0 : BitVec 256)) s.plt.store (d * 2 ^ 20 + b / 32)) (8 * (b % 32)) 32))
  else if inRange a 0xD00000 0xE00000 then s.bus ((s.phmAt ((a - 0xD00000) / 0x40000)).window (a % 0x40000))
  else if isDbgWin a then s.bus (s.dbgWindow a)
  else s.bus (s.readReg p a)

/-- A read of all four bytes at a PF0 offset (R8, R12, R13). -/
def State.readAt (s : State) (p : Path) (a : Nat) (meet : Meet) (ecc : Ecc) : State :=
  if s.absent a then s.bus 0
  else
    match regAt a with
    | some (r, _) =>
      match r.half with
      | .hi => s.bus (s.capt p)
      | .lo => ((s.setCapt p (s.readReg p (a + 4))).clearRc a r.flds).bus (s.readReg p a)
      | .single => (s.clearRc a r.flds).bus (s.readReg p a)
    | none => s.readWindow p a meet ecc

/-- A read on a path (R10, R444). -/
def State.readPath (s : State) (p : Path) (off : Nat) (meet : Meet) (ecc : Ecc) : State :=
  match p.addr off with
  | some a => s.readAt p a meet ecc
  | none => s.bus 0

/-- The bits of the bytes that a mask enables. -/
def byteMask (be : Nat) : Nat := (List.range 4).foldl (fun a i => a + (if bitOf be i then 255 * 2 ^ (8 * i) else 0)) 0

/-- A read with some byte enables returns the addressed bytes, with the side effects of a full read (R11). -/
def State.readBytes (s : State) (p : Path) (off be : Nat) : State :=
  let s1 := s.readPath p off .none .good
  s1.bus (w32 (s1.busOut.toNat &&& byteMask be))

/-- The word a register holds after a write of v: per field as its type says (R8, R10). -/
def writeFields (w v : Word) (l : List Fld) : Word :=
  l.foldl (fun (a : Word) f =>
    let n := f.hi + 1 - f.lo
    let x := bitsAt v f.lo n
    let old := bitsAt a f.lo n
    match f.acc with
    | .rw => setBitsAt a f.lo n x
    | .w1c => setBitsAt a f.lo n (old &&& (2 ^ n - 1 - x))
    | .w1s => setBitsAt a f.lo n (old ||| x)
    | _ => a) w

/-- A write of a register by its fields' types. -/
def State.writeGen (s : State) (a : Nat) (l : List Fld) (v : Word) : State := s.setReg a (writeFields (s.reg a) v l)

/-- The register has a field that a write acts on. -/
def regWritable (r : RegInfo) : Bool := r.flds.any fun f => f.acc == .rw || f.acc == .wo || f.acc == .w1c || f.acc == .w1s

/-- The partition is RUNNING (R303, R335). -/
def State.isRunning (s : State) (n : Fin 8) : Bool := (s.part n).state == .running && (s.part n).held.isNone

/-- A write of a FRM register: IRQ_STATUS and IRQ_EN may raise the interrupt (R456). -/
def State.writeFrm (s : State) (a : Nat) (l : List Fld) (v : Word) : State :=
  let n := fin8 (a % 0x100000 / 0x1000)
  let s1 := s.writeGen a l v
  if a % 0x1000 = 0x70 ∨ a % 0x1000 = 0x74 then s1.irqEdge n (s.frmIrq n) else s1

/-- A write of a register of physical lane l, a lane of a MANUAL quad (R269, R271, R273, R277). -/
def State.writeLaneReg (s : State) (l a : Nat) (fl : List Fld) (v : Word) : State :=
  match a % 0x20 with
  | 0x0 => s.cfgWrite l v
  | 0xC => s.slipWrite l (bitsAt v 0 8) (bitsAt v 8 1 == 1)
  | 0x14 =>
    let s1 := s.writeGen a fl v
    if bitsAt v 1 1 = 0 then s1.setFld a 2 1 0 else s1
  | _ => s.writeGen a fl v

/-- A host write of a LANE register (R277). -/
def State.writeLane (s : State) (a : Nat) (l : List Fld) (v : Word) (code : Nat) : State :=
  let o := a % 0x100000
  let bad := s.logAccess 3 a v code 15
  if a = Reg.LANE_CAPT_SEL then
    let lane := bitsAt v 0 7
    if s.hasLane lane && s.quadManual (quadOf lane) then
      (if bitsAt v 31 1 = 1 then s.capture lane else s.setFld Reg.LANE_CAPT_SEL 0 7 lane)
    else bad
  else if inRange o 0x400 0x1100 then
    let lane := (o - 0x400) / 0x20
    if s.quadManual (quadOf lane) then s.writeLaneReg lane a l v else bad
  else bad

/-- A write of a CAP register (R294, R296, R302, R303, R308). -/
def State.writeCap (s : State) (a : Nat) (l : List Fld) (v : Word) (code : Nat) : State :=
  let o := a % 0x100000
  if 0x8000 ≤ o then (if a = Reg.CAP_TRIG_BALLS then (s.writeGen a l v).showTrig else s.writeGen a l v)
  else
    let n := fin8 (o / 0x1000)
    let k := o % 0x1000
    if k = 4 then s.capCtrl n (v.toNat % 16) a code
    else if k = 0x40 then s.drainTail n v a code
    else if inRange k 0x100 0x180 && k % 0x20 == 0xC then s.storeTail n ((k - 0x100) / 0x20) v a code
    else if (k == 0 || k == 0xC || k == 0x10 || k == 0x14 || k == 0x18 || decide (0x400 ≤ k)) && s.isRunning n then s.logAccess 3 a v code 15
    else s.writeGen a l v

/-- A write of CKP_CFG that takes effect (R322, R335, R445): from PF1, RECOVER_EN keeps its value, and a write that carries
another is logged.  REC_ACTIVE follows REC_EN once the run has begun: setting it while ARMED starts the record. -/
def State.writeCkpCfg (s : State) (n : Fin 8) (v : Word) (code : Nat) : State :=
  let a := Reg.CKP_CFG n
  let old := s.reg a
  let priv := decide (8 ≤ code)
  let w := if priv then setBitsAt v 4 1 (bitsAt old 4 1) else v
  let s1 := s.setReg a (w32 (w.toNat % 128))
  let s2 := if priv ∧ bitsAt v 4 1 ≠ bitsAt old 4 1 then s1.logAccess 2 a v code 15 else s1
  let on := bitsAt v 0 1
  if on = bitsAt old 0 1 then s2
  else if on = 0 then s2.setFld (Reg.CKP_STATUS n) 4 1 0
  else
    match (s2.part n).state with
    | .armed => s2.recStart n
    | .halted => s2.setFld (Reg.CKP_STATUS n) 4 1 1
    | _ => s2

/-- A write of a CKP register (R325, R335). -/
def State.writeCkp (s : State) (a : Nat) (l : List Fld) (v : Word) (code : Nat) : State :=
  let n := fin8 (a % 0x100000 / 0x1000)
  let k := a % 0x1000
  let gated := k == 0 || k == 4 || inRange k 0x10 0x1C || inRange k 0x30 0x3C
  if k = 0x40 then s.recTailWrite n v code
  else if gated && s.isRunning n then s.logAccess 3 a v code 15
  else if k = 0 then s.writeCkpCfg n v code
  else s.writeGen a l v

/-- A write of a VTR register (R371, R377). -/
def State.writeVtr (s : State) (a : Nat) (l : List Fld) (v : Word) (code : Nat) : State :=
  if a = Reg.VTR_CLK then s.writeGen a l v
  else if a = Reg.VTR_CAL then
    let s1 := s.writeGen a l v
    let s2 := if bitsAt v 0 1 = 1 then s1.calStart else s1
    if bitsAt v 1 1 = 1 then s2.calApply else s2
  else if inRange a (Reg.VTR_DELAY 0) (Reg.VTR_DELAY 640) then s.delayWrite ((a - Reg.VTR_DELAY 0) / 4) (v.toNat % 65536)
  else s.logAccess 3 a v code 15

/-- Photometer of a block number, replaced. -/
def State.setPhmAt (s : State) (d : Nat) (f : Phm → Phm) : State :=
  if h : d < 4 then { s with phm := vset s.phm ⟨d, h⟩ (f (vget s.phm ⟨d, h⟩)) } else s

/-- A write of a PHM register (R418, R420 to R422). -/
def State.writePhm (s : State) (a : Nat) (l : List Fld) (v : Word) (code : Nat) : State :=
  let o := a % 0x100000
  if h : o / 0x40000 < 4 then
    let d : Fin 4 := ⟨o / 0x40000, h⟩
    let k := o % 0x40000
    if k = 0 then s.phmCtrl d v code
    else if k = 0x10 then s.phmTail d v code
    else if inRange k 0x80 0x90 && bitsAt v 8 1 == 1 && s.fld a 8 1 == 0 then
      (s.writeGen a l v).setPhmAt d.val fun p =>
        if h : (k - 0x80) / 4 < 4 then { p with tapJ := vset p.tapJ ⟨(k - 0x80) / 4, h⟩ 0 } else p
    else s.writeGen a l v
  else s

/-- A write of the P, Y and X windows, taken while the core is halted (R421, R422). -/
def State.writePhmWin (s : State) (a : Nat) (v : Word) (code : Nat) : State :=
  let d := a % 0x100000 / 0x40000
  let o := a % 0x40000
  let j := o % 0x10000 / 4
  let size := if o / 0x10000 = 3 then 8192 else 4096
  if o / 0x10000 = 0 ∨ size ≤ j then s
  else if (s.phmAt d).running then s.logAccess 3 a v code 15
  else
    s.setPhmAt d fun p =>
      match o / 0x10000 with
      | 1 => { p with prog := mset (fun _ => (0 : Word)) p.prog j v, cache := none }
      | 2 => { p with ymem := mset (fun _ => (0 : PWord)) p.ymem j (BitVec.ofNat 24 v.toNat) }
      | _ => { p with xmem := mset (fun _ => (0 : PWord)) p.xmem j (BitVec.ofNat 24 v.toNat) }

/-- A write of an ADC register (R431, R434, R436); a droop threshold outside 400 to 800 mV is clamped. -/
def State.writeAdc (s : State) (a : Nat) (l : List Fld) (v : Word) (code : Nat) : State :=
  if inRange a (Reg.ADC_SEQ 0) (Reg.ADC_SEQ 16) then s.logAccess 3 a v code 15
  else if a = Reg.ADC_CTRL then (if bitsAt v 0 1 = 1 ∧ s.pwr.phase ≠ .dormant then s.adcFire 0 none false else s)
  else if a = Reg.ADC_RING_TAIL then s.adcTail v code
  else if a = Reg.ADC_DROOP then s.writeGen a l (BitVec.ofNat 32 (max 400 (min 800 (bitsAt v 0 10))))
  else s.writeGen a l v

/-- A write of an MBX register; the Docent writes as PF0 does (R440, R450, R460). -/
def State.writeMbx (s : State) (src : Option Path) (a : Nat) (l : List Fld) (v : Word) : State :=
  let o := a % 0x100000
  if h : 0x1000 ≤ o ∧ (o - 0x1000) / 0x100 < 36 then
    let m : Fin 36 := ⟨(o - 0x1000) / 0x100, h.2⟩
    let k := o % 0x100
    s.mbxWrite (src.getD .pf0) m k v fun t =>
      if k = 0x40 then (if t.awake ∧ v.toNat % 2 = 1 then t.ring m else t)
      else if k = 0xC0 then (if t.awake ∧ v.toNat % 2 = 1 then t.popRsp m else t)
      else t.writeGen a l v
  else s

/-- A write of an RGS register by a host (R489, R491). -/
def State.writeRgs (s : State) (a : Nat) (l : List Fld) (v : Word) (code : Nat) : State :=
  if a = Reg.RGS_TRACE_TAIL then s.rgsTail v code
  else if a = Reg.RGS_CFG ∨ a = Reg.RGS_TRACE then s.writeGen a l v
  else s.logAccess 3 a v code 15

/-- A core's write of its own RGS_DONE_k, RGS_YIELD_k or RGS_CANCEL_k (R482, R485, R486, R491). -/
def State.writeCore (s : State) (a : Nat) (v : Word) : Option State :=
  let o := a % 0x100000
  if inRange o 0x140 0x200 then
    let k := fin8 ((o - 0x100) / 0x20)
    match o % 0x20 with
    | 4 => some (s.coreDone k (bitsAt v 0 8))
    | 8 => some (s.coreYield k (bitsAt v 0 23))
    | 0xC => some (if bitsAt v 31 1 = 1 then s.cancelTask (some k) (bitsAt v 0 10) else s)
    | _ => none
  else none

/-- A write of a PWR register (R511). -/
def State.writePwr (s : State) (a : Nat) (l : List Fld) (v : Word) (code : Nat) : State :=
  if a = Reg.PWR_CTRL ∨ a = Reg.PWR_WAKE_TIMER ∨ a = Reg.PWR_VR_TIMEOUT ∨ a = Reg.PWR_VCORE then s.writeGen a l v
  else s.logAccess 3 a v code 15

/-- A write of a DBG register: it has effect while the monitor is powered (R177, R178). -/
def State.writeDbg (s : State) (a : Nat) (l : List Fld) (v : Word) : State :=
  let n := fin8 (a % 0x100000 / 0x100)
  if (s.part n).eph.debug then
    let s1 := if a % 0x100 = 0 ∧ bitsAt v 0 1 = 1 then s.dbgClear n else s
    s1.writeGen a l v
  else s

/-- A write of a register of its own 32 bits, by its unit's rules. -/
def State.writeUnit (s : State) (src : Option Path) (a : Nat) (l : List Fld) (v : Word) : State :=
  let code := match src with | some p => p.code | none => 2
  match unitOf a with
  | 1 => s.writeFrm a l v
  | 3 => if a = Reg.VLT_BUSY_PIN ∧ bitsAt v 0 1 = 0 then (s.writeGen a l v).releaseBusy else s.writeGen a l v
  | 7 => s.writeLane a l v code
  | 8 => s.writeCap a l v code
  | 9 => s.writeCkp a l v code
  | 10 => if a = Reg.SPR_CTRL ∨ a = Reg.SPR_THRESH ∨ a = Reg.SPR_WEAR_LIMIT then (s.writeGen a l v).actScores s else s.logAccess 3 a v code 15
  | 11 => s.writeVtr a l v code
  | 12 => if a = Reg.CFG_LINE then (if bitsAt v 3 1 = 1 then s.releaseDone else s) else s.writeGen a l v
  | 13 => s.writePhm a l v code
  | 14 => s.writeAdc a l v code
  | 15 => s.writeMbx src a l v
  | 16 => s.writeRgs a l v code
  | 17 => s.writePwr a l v code
  | 19 => if a = Reg.TLY_PERIOD then s.writeGen a l v else s.logAccess 3 a v code 15
  | 20 => if a = Reg.LGB_CTRL then s.lgbCtrl v else if a = Reg.LGB_TAIL then s.lgbTail v code else s
  | 21 => s.writeDbg a l v
  | _ => s.writeGen a l v

/-- Units whose own rule has every write of an unlisted register logged (R357, R377, R491, R511, R525). -/
def logsAll (a : Nat) : Bool := unitOf a == 10 || unitOf a == 11 || unitOf a == 16 || unitOf a == 17 || unitOf a == 19

/-- A write of the upper half of a 64-bit register commits both halves (R12). -/
def State.writeHi (s : State) (p : Path) (a : Nat) (l : List Fld) (v : Word) : State :=
  let lo := a - 4
  let h := s.holdReg p
  if unitOf a = 8 ∧ a % 0x1000 = 0x2C then s.capMark (fin8 (a % 0x100000 / 0x1000)) (h.toNat + v.toNat * 2 ^ 32)
  else if unitOf a = 9 ∧ s.isRunning (fin8 (a % 0x100000 / 0x1000)) = true then s.logAccess 3 a v p.code 15
  else
    match regAt lo with
    | some (r, _) => (s.writeGen lo r.flds h).writeGen a l v
    | none => s

/-- A write of a window of PF0 (R200, R422): the depot map, the plate store, the Logbook, the trace ring and the records are
read-only. -/
def State.writeWindow (s : State) (p : Path) (a : Nat) (v : Word) (meet : Meet) : State :=
  if s.isPeek a then (if a % 8 = 0 then s.setHold p v else s.peekWrite p a v meet)
  else if inRange a 0xD00000 0xE00000 then s.writePhmWin a v p.code
  else if inRange a 0x1004000 0x1008000 then s.logAccess 3 a v p.code 15
  else s

/-- A write of all four bytes at a PF0 offset on an access path (R8, R10, R12). -/
def State.writeAt (s : State) (p : Path) (a : Nat) (v : Word) (meet : Meet) : State :=
  if s.absent a then s
  else
    match regAt a with
    | some (r, _) =>
      match r.half with
      | .lo => if regWritable r then s.setHold p v else if logsAll a then s.logAccess 3 a v p.code 15 else s
      | .hi => if regWritable r then s.writeHi p a r.flds v else if logsAll a then s.logAccess 3 a v p.code 15 else s
      | .single => s.writeUnit (some p) a r.flds v
    | none => s.writeWindow p a v meet

/-- A write with its byte enables on an access path (R11, R444, R446). -/
def State.writePath (s : State) (p : Path) (off : Nat) (v : Word) (be : Nat) (meet : Meet) : State :=
  if be ≠ 15 then s.logRaw 1 (p.logOff off) v p.code be
  else
    match p.addr off with
    | some a => s.writeAt p a v meet
    | none => s

/-- What a Docent core may write (R440): what PF0 lets the host write, and the heads of the rings it drains. -/
def State.docentMay (s : State) (a : Nat) : Bool :=
  if unitOf a = 7 then
    a == Reg.LANE_CAPT_SEL ||
      (inRange a (Reg.LANE_CFG 0) (Reg.LANE_CFG 104) && s.quadManual (quadOf ((a % 0x100000 - 0x400) / 0x20)))
  else if unitOf a = 10 then a == Reg.SPR_CTRL || a == Reg.SPR_THRESH || a == Reg.SPR_WEAR_LIMIT
  else if unitOf a = 14 ∧ inRange a (Reg.ADC_SEQ 0) (Reg.ADC_SEQ 16) = true then false
  else if unitOf a = 15 then decide (a < 0xF01000 + 0x100 * 24)
  else if unitOf a = 16 then a == Reg.RGS_CFG || a == Reg.RGS_TRACE || a == Reg.RGS_TRACE_TAIL || (s.writeCore a 0).isSome
  else if unitOf a = 20 then true
  else if (unitOf a = 8 ∨ unitOf a = 9) ∧ a % 0x1000 = 0x3C then true
  else match regAt a with | some (r, _) => regWritable r | none => false

/-- A Docent core's write (R11, R440): a refused one is logged with CURATOR_ONLY and reported, and a running Docent restarts
(R441).  The Docent is no access path of R12, so its writes of halves change nothing. -/
def State.docentWrite (s : State) (a : Nat) (v : Word) (be : Nat) : State :=
  if be ≠ 15 then s.logRaw 1 a v 2 be
  else if s.absent a then s
  else
    match regAt a with
    | none => s
    | some (r, _) =>
      if s.docentMay a then
        (if r.half = .single then
           (match (if unitOf a = 16 then s.writeCore a v else none) with
            | some t => t
            | none => s.writeUnit none a r.flds v)
         else s)
      else
        let s1 := s.logRaw 4 a v 2 15
        if s1.docent = 1 then s1.docentRestart 2 else s1

/-- REGISTER_WRITE (R8): from an access path, or from a Docent core. -/
def execRegisterWrite (src : Option Path) (off : BitVec 28) (v : Word) (be : BitVec 4) (s : State) : Host.Outcome State Fault Refusal :=
  match src with
  | some p => .next (s.writePath p (off.toNat / 4 * 4) v be.toNat .none)
  | none => .next (s.docentWrite (off.toNat / 4 * 4) v be.toNat)

/-- The half of a 64-bit quantity that stands at an offset of a path: a register's, or a word's of a window (R12, R13, R199, R229). -/
def State.halfAt (s : State) (p : Path) (off : Nat) : Half :=
  match p.addr off with
  | some a =>
    match regAt a with
    | some (r, _) => r.half
    | none => if s.isPeek a || inRange a 0x6000000 0x6080000 then (if a % 8 = 0 then .lo else .hi) else .single
  | none => .single

/-- REG_HI_WRITE (R12): the write of an upper half commits 64 bits. -/
def execRegHiWrite (path : Path) (off : BitVec 28) (v : Word) (be : BitVec 4) (s : State) : Host.Outcome State Fault Refusal :=
  .next (if s.halfAt path (off.toNat / 4 * 4) = .hi then s.writePath path (off.toNat / 4 * 4) v be.toNat .none else s)

/-- REG_LO_READ (R13): the read of a lower half captures the upper one. -/
def execRegLoRead (path : Path) (off : BitVec 28) (s : State) : Host.Outcome State Fault Refusal :=
  .next (if s.halfAt path (off.toNat / 4 * 4) = .lo then s.readPath path (off.toNat / 4 * 4) .none .good else s)

/-- READ_CLEAR (R8, R9, R11): a register is read, which clears its RC fields. -/
def execReadClear (path : Path) (off : BitVec 28) (be : BitVec 4) (s : State) : Host.Outcome State Fault Refusal :=
  .next (s.readBytes path (off.toNat / 4 * 4) be.toNat)

/-- DBG_CLEAR (R177): 1 written to DBG_CTRL.CLEAR of partition n. -/
def execDbgClear (n : Fin 8) (s : State) : Host.Outcome State Fault Refusal := .next (s.dbgClear n)

/-- REG_READ (R468): the management port reads a PF0 offset; the response carries the value. -/
def execRegRead (m : Fin 36) (meet : Meet) (ecc : Ecc) (s : State) : Host.Outcome State Fault Refusal :=
  .next (s.cmdRow m { op := 0x0002, mg := true, used := [(0, 4, 2 ^ 32 - 1)] } (fun _ => true) (fun _ _ => false) fun s c =>
    let off := c.pay 0 4
    if off % 4 ≠ 0 ∨ 0x10000000 ≤ off then s.reply m c (rspEmpty .range 1)
    else
      let s1 := s.readPath .mgmt off meet ecc
      s1.reply m c ⟨.ok, 0, 4, s1.busOut.toNat⟩)

/-- REG_WRITE (R468): the management port writes a PF0 offset. -/
def execRegWrite (m : Fin 36) (meet : Meet) (s : State) : Host.Outcome State Fault Refusal :=
  .next (s.cmdRow m { op := 0x0003, mg := true, used := [(0, 4, 2 ^ 32 - 1), (4, 4, 2 ^ 32 - 1)] } (fun _ => true) (fun _ _ => false)
    fun s c =>
      let off := c.pay 0 4
      if off % 4 ≠ 0 ∨ 0x10000000 ≤ off then s.reply m c (rspEmpty .range 1)
      else (s.writePath .mgmt off (w32 (c.pay 4 4)) 15 meet).reply m c (rspEmpty .ok 0))

end Sys2Proof.Machine
end

