-- ==== Sys2Proof/Machine/LinkRows.lean ====
section
/-!
DEFINITION. The commands of the link layer (R231 to R250): flits that arrive, timers of senders and arms, and the timebase.
A flit arrives only on a lane in service (R268).
-/
namespace Sys2Proof.Machine

/-- Partitions whose arm waits for links and names link k for a machine. -/
def State.armingOn (s : State) (k : Fin 24) (machineId : Nat) : List (Fin 8) :=
  (List.finRange 8).filter fun n =>
    (s.mach n).arming.isSome && (s.part n).eph.machineId == machineId && (s.part n).linksOf.contains k

/-- An INIT is held: the last of each machine, at most 8 machines, the oldest giving way (R238). -/
def Link.holdInit (l : Link) (i : InitMsg) : Link :=
  let r := l.inits.filter fun x => x.machineId != i.machineId
  { l with inits := (if 8 ≤ r.length then r.drop 1 else r) ++ [i] }

/-- An INIT arrives (R238). -/
def State.takeInit (s : State) (k : Fin 24) (i : InitMsg) : State :=
  let s1 := s.setLink k ((s.link k).holdInit i)
  (s1.armingOn k i.machineId).foldl (fun (t : State) n => t.armCheck n) s1

/-- INIT (R236, R238). -/
def execInit (k : Fin 24) (i : Fin 4) (crcOk : Bool) (m : InitMsg) (s : State) : Host.Outcome State Fault Refusal :=
  guardUnit s (decide (k.val < s.nLinks)) (if s.laneUp k i ∧ crcOk = true then s.takeInit k m else s)

/-- INIT_REPEAT (R238). -/
def execInitRepeat (n : Fin 8) (s : State) : Host.Outcome State Fault Refusal := .next (s.sendInits n)

/-- ARM_TIMEOUT (R238). -/
def execArmTimeout (n : Fin 8) (s : State) : Host.Outcome State Fault Refusal := .next (s.armDrop n .retry)

/-- A sequenced flit arrives and acts when go-back-N accepts it (R237). -/
def State.arrive (s : State) (k : Fin 24) (i : Fin 4) (crcOk : Bool) (seq : Nat) (act : State → State) : State :=
  if s.laneUp k i then
    let r := s.receiveSeq k i crcOk seq
    if r.2 then act r.1 else r.1
  else s

/-- TOKEN (R235, R239 to R241). -/
def execToken (k : Fin 24) (i : Fin 4) (crcOk : Bool) (seq : BitVec 12) (chan : Fin 8) (frame : BitVec 48) (epoch : Fin 16)
    (s : State) : Host.Outcome State Fault Refusal :=
  guardUnit s (decide (k.val < s.nLinks))
    (s.arrive k i crcOk seq.toNat fun t => t.chanFlit k (.token chan frame.toNat epoch))

/-- VOTE (R235, R239, R240, R243). -/
def execVote (k : Fin 24) (i : Fin 4) (crcOk : Bool) (seq : BitVec 12) (chan : Fin 8) (frame : BitVec 48) (epoch : Fin 16)
    (entries : List VoteE) (s : State) : Host.Outcome State Fault Refusal :=
  guardUnit s (decide (k.val < s.nLinks))
    (s.arrive k i crcOk seq.toNat fun t => t.chanFlit k (.vote chan frame.toNat epoch (entries.take 11)))

/-- XCHG_FLIT (R234, R239, R240). -/
def execXchgFlit (k : Fin 24) (i : Fin 4) (crcOk : Bool) (seq : BitVec 12) (words : List DWord) (mslot : BitVec 24) (chan : Fin 8)
    (frame : Byte) (epoch : Fin 16) (s : State) : Host.Outcome State Fault Refusal :=
  guardUnit s (decide (k.val < s.nLinks))
    (s.arrive k i crcOk seq.toNat fun t => t.chanFlit k (.xchg (words.take 3) mslot.toNat chan frame.toNat epoch))

/-- A cross-trigger is taken when it is newer than the last from its source: forwarded once, and passed to the plate engine (R248). -/
def State.takeXtrig (s : State) (k : Fin 24) (source mask x time : Nat) : State :=
  let last : Option Nat := (s.lnk.xlast.find? fun (y : Nat × Nat) => y.1 == source).map (·.2)
  if xseqNewer last x then
    let s1 := { s with lnk := { s.lnk with xlast := s.lnk.xlast.filter (fun (y : Nat × Nat) => y.1 != source) ++ [(source, x)] } }
    let s2 := s1.sendOn (.xtrig source mask x time) (s1.xtrigLinks.filter fun j => j != k)
    s2.xtrigIn mask source x
  else s

/-- XTRIG (R248). -/
def execXtrig (k : Fin 24) (i : Fin 4) (crcOk : Bool) (seq : BitVec 12) (source : Byte) (mask x : BitVec 16) (time : DWord)
    (s : State) : Host.Outcome State Fault Refusal :=
  guardUnit s (decide (k.val < s.nLinks))
    (s.arrive k i crcOk seq.toNat fun t => t.takeXtrig k source.toNat mask.toNat x.toNat time.toNat)

/-- ACK (R237), with the round trip measured: LNK_RTT shows the largest of the last millisecond, which the link layer measures. -/
def execAck (k : Fin 24) (i : Fin 4) (crcOk : Bool) (e : BitVec 12) (maxNs : BitVec 16) (s : State) :
    Host.Outcome State Fault Refusal :=
  guardUnit s (decide (k.val < s.nLinks))
    (if s.laneUp k i ∧ crcOk = true then
       (s.setStream k i ((s.stream k i).acked e.toNat)).setFld (Reg.LNK_RTT k) 0 16 maxNs.toNat
     else s)

/-- NAK (R237): frees as ACK does, and the flits left are sent again. -/
def execNak (k : Fin 24) (i : Fin 4) (crcOk : Bool) (e : BitVec 12) (s : State) : Host.Outcome State Fault Refusal :=
  guardUnit s (decide (k.val < s.nLinks))
    (if s.laneUp k i ∧ crcOk = true then
       let s1 := s.setStream k i ((s.stream k i).acked e.toNat)
       s1.resend k i
     else s)

/-- REPLAY_TIMEOUT (R237): with flits held, every one is sent again. -/
def execReplayTimeout (k : Fin 24) (i : Fin 4) (s : State) : Host.Outcome State Fault Refusal :=
  guardUnit s (decide (k.val < s.nLinks))
    (if s.laneUp k i ∧ (s.stream k i).replay ≠ [] then s.resend k i else s)

/-- The link a follower sends SYNC on: EN set, not the time master, UPSTREAM UP (R249). -/
def State.upstream (s : State) : Option (Fin 24) :=
  if h : s.fld Reg.LNK_TIME_CTRL 8 5 < 24 then
    let k : Fin 24 := ⟨s.fld Reg.LNK_TIME_CTRL 8 5, h⟩
    if s.fld Reg.LNK_TIME_CTRL 0 2 = 2 ∧ s.linkState k = 2 then some k else none
  else none

/-- SYNC_SEND (R249). -/
def execSyncSend (s : State) : Host.Outcome State Fault Refusal :=
  .next (match s.upstream with
    | some k => s.sendLinkCtl k (.sync s.lnk.timebase)
    | none => s)

/-- SYNC (R249): answered on the lane it came on, with the timebase on receiving; the timebase at sending is stamped then. -/
def execSync (k : Fin 24) (i : Fin 4) (crcOk : Bool) (t1Lo t1Hi : Word) (s : State) : Host.Outcome State Fault Refusal :=
  guardUnit s (decide (k.val < s.nLinks))
    (if s.laneUp k i ∧ crcOk = true then
       s.sendCtl k i (.syncReply (t1Lo.toNat + t1Hi.toNat * 2 ^ 32) s.lnk.timebase s.lnk.timebase)
     else s)

/-- A value clipped to a signed 16-bit field. -/
def sat16 (x : Int) : Nat := (if x < -32768 then 32768 else if 32767 < x then 32767 else x % 65536).toNat

/-- The offset of a SYNC exchange, in eighths of a nanosecond (R249, R252). -/
def syncOffset (t1 t2 t3 t4 : Nat) : Int := (((t2 : Int) - t1) - ((t4 : Int) - t3)) * 4

/-- The timebase takes an offset (R250): it steps at the first offset or beyond 1 µs, and otherwise slews; LOCKED after 16
offsets within 2 ns. -/
def State.takeOffset (s : State) (off : Int) : State :=
  let s1 := s.setFld Reg.LNK_TIME_STATUS 0 16 (sat16 off)
  if s.lnk.first ∨ 8000 < off ∨ off < -8000 then
    let tb := ((s.lnk.timebase : Int) + off / 8).toNat
    ({ s1 with lnk := { s1.lnk with timebase := tb % 2 ^ 64, slew := 0, first := false, good := 0 } }.setFld Reg.LNK_TIME_STATUS 16 1 0).setFld
      Reg.LNK_TIME_STATUS 17 1 1
  else
    let good := if -16 ≤ off ∧ off ≤ 16 then min 16 (s.lnk.good + 1) else 0
    let s2 := { s1 with lnk := { s1.lnk with slew := off / 8, good := good } }
    if good = 16 then s2.setFld Reg.LNK_TIME_STATUS 16 1 1 else s2

/-- SYNC_REPLY (R249, R250, R252): taken on the upstream link. -/
def execSyncReply (k : Fin 24) (crcOk : Bool) (t1 t2 t3 : DWord) (s : State) : Host.Outcome State Fault Refusal :=
  guardUnit s (decide (k.val < s.nLinks))
    (if s.upstream = some k ∧ crcOk = true then
       let t4 := s.lnk.timebase
       let wire := (((t4 : Int) - t1.toNat) - ((t3.toNat : Int) - t2.toNat)) / 2
       (s.setFld (Reg.LNK_RTT k) 16 16 (if wire < 0 then 0 else min 65535 wire.toNat)).takeOffset (syncOffset t1.toNat t2.toNat t3.toNat t4)
     else s)

end Sys2Proof.Machine
end

