-- ==== Sys2Proof/Machine/ResCmds.lean ====
section
/-!
DEFINITION. Resource commands (R474, R475, R458, R459), reserve and metering commands (R476).
-/
namespace Sys2Proof.Machine

/-- Some buffer of a bank is allocated (R458). -/
def State.bankHasBuf (s : State) (bank : Nat) : Bool := s.cur.bufs.any fun (b : Nat × Nat) => b.1 / 16 == bank

/-- A LOAN that the Curator refuses (R188, R392). -/
def State.loanKept (s : State) (bank owner : Nat) : Bool :=
  let cur := s.loanOwner bank
  let used : Bool := if h : cur < 8 then (s.part ⟨cur, h⟩).state != .empty else false
  used || bank == 252 || (s.cur.pool.contains bank && owner != 8 && s.bankHasBuf bank)

/-- A pool bank leaves the pool (R392). -/
def State.poolLeave (s : State) (bank owner : Nat) : State :=
  if s.cur.pool.contains bank ∧ owner ≠ 8 then
    let s1 := { s with cur := { s.cur with pool := s.cur.pool.filter fun b => b != bank } }
    (s1.setFld Reg.MBX_POOL 0 16 (s1.fld Reg.MBX_POOL 0 16 - 16)).setFld Reg.MBX_POOL 16 16 (s1.fld Reg.MBX_POOL 16 16 - 16)
  else s

/-- LOAN (R188 to R190, R474): answered at DONE. -/
def State.loanCmd (s : State) (m : Fin 36) (c : Cmd) : State :=
  let bank := c.pay 0 2
  let owner := c.pay 2 1
  let scrub := c.pay 3 1 == 1
  if !s.hasBank bank then s.reply m c (rspEmpty .range 1)
  else if 14 ≤ owner then s.reply m c (rspEmpty .range 3)
  else if s.loanKept bank owner then s.reply m c (rspEmpty .notOwner 0)
  else if owner = s.loanOwner bank ∧ scrub = false then
    (s.loanWrite bank owner scrub).reply m c ⟨.ok, 0, 4, ((s.loanWrite bank owner scrub).reg (loanReg bank)).toNat⟩
  else ((s.wait m c false (.loan bank)).poolLeave bank owner).loanWrite bank owner scrub

/-- LOAN. -/
def execLoan (m : Fin 36) (s : State) : Host.Outcome State Fault Refusal :=
  .next (s.cmdRow m { op := 0x0301, p := true, used := [(0, 2, 0xFFFF), (2, 1, 0xFF), (3, 1, 1)] } (fun _ => true) (fun _ _ => false)
    fun s c => s.loanCmd m c)

/-- DEPOT_GRANT and DEPOT_RETURN (R220, R474): they wait for a transaction outstanding on one of their segments. -/
def State.mapCmd (s : State) (m : Fin 36) (c : Cmd) (owner : Nat) (ro : Bool) : State :=
  let first := c.pay 0 2
  let count := c.pay 2 2 + 1
  let segs := (List.range count).map fun k => first + k
  if segs.any (fun g => decide (65536 ≤ g) || (s.rangeOfSeg g).isNone) then s.reply m c (rspEmpty .range 1)
  else if 14 ≤ owner then s.reply m c (rspEmpty .range 5)
  else if segs.any s.segKept then s.reply m c (rspEmpty .notOwner 0)
  else (s.wait m c false (.depotMap first count owner ro)).depotMapDue

/-- DEPOT_GRANT. -/
def execDepotGrant (m : Fin 36) (s : State) : Host.Outcome State Fault Refusal :=
  .next (s.cmdRow m { op := 0x0302, p := true, used := [(0, 2, 0xFFFF), (2, 2, 0xFFFF), (4, 1, 0xFF), (5, 1, 1)] } (fun _ => true)
    (fun _ _ => false) fun s c => s.mapCmd m c (c.pay 4 1) (c.pay 5 1 == 1))

/-- DEPOT_RETURN. -/
def execDepotReturn (m : Fin 36) (s : State) : Host.Outcome State Fault Refusal :=
  .next (s.cmdRow m { op := 0x0303, p := true, used := [(0, 2, 0xFFFF), (2, 2, 0xFFFF)] } (fun _ => true)
    (fun _ _ => false) fun s c => s.mapCmd m c 13 false)

/-- Free buffers of the pool, lowest id first (R458). -/
def State.freeBufs (s : State) : List Nat :=
  (s.cur.pool.flatMap fun b => (List.range 16).map fun i => b * 16 + i).filter fun k => !(s.cur.bufs.any fun (x : Nat × Nat) => x.1 == k)

/-- A buffer passes to a mailbox; it is zeroed when the one before was another (R458). -/
def State.takeBuf (s : State) (owner id : Nat) : State :=
  let same := s.cur.bufPrev.any fun (x : Nat × Nat) => x.1 == id && x.2 == owner
  let s1 := if same then s else (List.range 512).foldl (fun (t : State) i => t.setVword (id / 16) (id % 16 * 512 + i) 0) s
  { s1 with cur := { s1.cur with bufs := s1.cur.bufs ++ [(id, owner)],
                                 bufPrev := (id, owner) :: s1.cur.bufPrev.filter fun (x : Nat × Nat) => x.1 != id } }

/-- BUF_ALLOC (R458, R474). -/
def State.bufAlloc (s : State) (m : Fin 36) (c : Cmd) : State :=
  let k := c.pay 0 1
  let ids := s.freeBufs.take k
  if k = 0 ∨ 8 < k then s.reply m c (rspEmpty .range 1)
  else if ids.length < k then s.reply m c (rspEmpty .retry 0)
  else
    let s1 := ids.foldl (fun (t : State) i => t.takeBuf m.val i) s
    let pay := (ids.zip (List.range 8)).foldl (fun a (x : Nat × Nat) => a + x.1 * 2 ^ (16 * x.2)) 0
    (s1.setFld Reg.MBX_POOL 16 16 (s1.fld Reg.MBX_POOL 16 16 - k)).reply m c ⟨.ok, 0, 16, pay⟩

/-- BUF_ALLOC. -/
def execBufAlloc (m : Fin 36) (s : State) : Host.Outcome State Fault Refusal :=
  .next (s.cmdRow m { op := 0x0304, p := true, t := true, used := [(0, 1, 0xFF)] } (fun _ => true) (fun _ _ => true) fun s c => s.bufAlloc m c)

/-- The record of a bad free (R459). -/
def State.badFree (s : State) (m : Fin 36) (c : Cmd) (id owner : Nat) : State :=
  ((s.addFld Reg.MBX_BAD_FREE 0 32 1).setReg Reg.MBX_LAST_BAD_FREE
    (BitVec.ofNat 32 (id % 2 ^ 14 + m.val * 2 ^ 14 + owner * 2 ^ 20 + 2 ^ 31))).reply m c (rspEmpty .badFree 0)

/-- BUF_FREE (R459). -/
def State.bufFree (s : State) (m : Fin 36) (c : Cmd) : State :=
  let id := c.pay 0 2
  match s.cur.bufs.find? (fun (x : Nat × Nat) => x.1 == id) with
  | some (_, o) =>
    if o = m.val then
      ({ s with cur := { s.cur with bufs := s.cur.bufs.filter fun (x : Nat × Nat) => x.1 != id } }.addFld Reg.MBX_POOL 16 16 1).reply m c (rspEmpty .ok 0)
    else s.badFree m c id o
  | none => s.badFree m c id 0x3F
/-- BUF_FREE. -/
def execBufFree (m : Fin 36) (s : State) : Host.Outcome State Fault Refusal :=
  .next (s.cmdRow m { op := 0x0305, p := true, t := true, used := [(0, 2, 0xFFFF)] } (fun _ => true) (fun _ _ => true) fun s c => s.bufFree m c)

/-- Where a DMA stops, besides what the part itself finds: at a word, with BUSY or a DERR (R475). -/
abbrev DmaStop := Option (Nat × Bool)

/-- How a word of a DMA ends: moved, or refused with a status. -/
def dmaEnd (stop : DmaStop) (i : Nat) : Option Status :=
  match stop with
  | some (k, derr) => if k = i then some (if derr then .retry else .busy) else none
  | none => none

/-- Move words between the host and a bank (R191, R196, R197, R475): `left` words from number i on.  Answers the words moved and the status. -/
def State.dmaBank (s : State) (bank word : Nat) (write : Bool) (data : List DWord) (stop : DmaStop) (sbe : List Nat) : Nat → Nat → State × Nat × Status
  | _, 0 => (s, 0, .ok)
  | i, left + 1 =>
    let go := fun (t : State) =>
      let r := t.dmaBank bank word write data stop sbe (i + 1) left
      (r.1, r.2.1 + 1, r.2.2)
    match dmaEnd stop i with
    | some .retry => ((s.readEcc bank (word + i) 1 .double).1, 0, .retry)
    | some st => (if st = .busy then s.vltBusy bank else s, 0, st)
    | none =>
      if write then
        if s.wordLogged bank (word + i) then (s.vltBusy bank, 0, .busy)
        else go (s.setVword bank (word + i) (data.getD i 0))
      else
        let r := s.readEcc bank (word + i) 1 (if sbe.contains i then .single else .good)
        if r.2 then (r.1, 0, .retry) else go r.1

/-- Move words between the host and the depot (R220, R223, R225, R475). -/
def State.dmaDepot (s : State) (owner : Owner) (addr : Nat) (write : Bool) (stop : DmaStop) : Nat → Nat → State × Nat × Status
  | _, 0 => (s, 0, .ok)
  | i, left + 1 =>
    let a := addr + 8 * i
    match dmaEnd stop i with
    | some st => (s, 0, st)
    | none =>
      let st := s.depotCheck owner a write
      if st ≠ .ok then (s.depotRefuse owner a write, 0, st)
      else if write ∧ ((List.finRange 8).any fun k => (s.port k).hasEntry a) = true then (s, 0, .busy)
      else
        let r := s.dmaDepot owner addr write stop (i + 1) left
        (r.1, r.2.1 + 1, r.2.2)

/-- Reply of a DMA: its status, and the bytes moved. -/
def State.dmaReply (m : Fin 36) (c : Cmd) (r : State × Nat × Status) : State :=
  r.1.reply m c ⟨r.2.2, if r.2.2 = .range then 17 else 0, 4, 8 * r.2.1⟩

/-- DMA between the host and a bank that its owner code may not be able to reach (R191, R475). -/
def State.dmaTo (s : State) (m : Fin 36) (c : Cmd) (bank byte : Nat) (data : List DWord) (stop : DmaStop) (sbe : List Nat) : State :=
  let o := mbxOwner m
  let n := c.pay 24 4 / 8
  if n = 0 then s.reply m c ⟨.ok, 0, 4, 0⟩
  else match s.unitAsk bank o with
    | some st => (s.refuse bank o st).reply m c ⟨st, 0, 4, 0⟩
    | none => State.dmaReply m c (s.dmaBank bank (byte / 8) (c.pay 0 1 == 0) data stop sbe 0 n)

/-- DMA (R458, R475): `data` holds the words that the host's memory gives.  Its owner tag opens a buffer to its mailbox, whatever the
owner code (log entry 30). -/
def State.dma (s : State) (m : Fin 36) (c : Cmd) (data : List DWord) (stop : DmaStop) (sbe : List Nat) : State :=
  let id := c.pay 2 2
  let off := c.pay 4 4
  let len := c.pay 24 4
  if 1 < c.pay 0 1 then s.reply m c (rspEmpty .range 1)
  else if 2 < c.pay 1 1 then s.reply m c (rspEmpty .range 2)
  else if c.pay 1 1 = 1 ∧ s.hasBank id = false then s.reply m c (rspEmpty .range 3)
  else if c.pay 1 1 ≠ 2 ∧ off % 8 ≠ 0 then s.reply m c (rspEmpty .range 5)
  else if c.pay 8 8 % 8 ≠ 0 then s.reply m c (rspEmpty .range 9)
  else if c.pay 1 1 = 2 ∧ (c.pay 16 8 % 8 ≠ 0 ∨ 2 ^ 46 < c.pay 16 8 + len) then s.reply m c (rspEmpty .range 17)
  else if len % 8 ≠ 0 ∨ 2 ^ 24 < len then s.reply m c (rspEmpty .range 25)
  else
    match c.pay 1 1 with
    | 0 =>
      if !(s.cur.bufs.any fun (x : Nat × Nat) => x.1 == id && x.2 == m.val) then s.reply m c (rspEmpty .notOwner 0)
      else if 4096 < off + len then s.reply m c (rspEmpty .range 5)
      else State.dmaReply m c (s.dmaBank (id / 16) (id % 16 * 512 + off / 8) (c.pay 0 1 == 0) data stop sbe 0 (len / 8))
    | 1 => if 65536 < off + len then s.reply m c (rspEmpty .range 5) else s.dmaTo m c id off data stop sbe
    | _ =>
      let o : Owner := match tenantOf m with | some n => .part n | none => .hdma
      State.dmaReply m c (s.dmaDepot o (c.pay 16 8) (c.pay 0 1 == 0) stop 0 (len / 8))

/-- DMA. -/
def execDma (m : Fin 36) (data : List DWord) (stop : Option (Nat × Bool) × List Nat) (s : State) : Host.Outcome State Fault Refusal :=
  .next (s.cmdRow m { op := 0x0306, p := true, t := true,
                      used := [(0, 1, 0xFF), (1, 1, 0xFF), (2, 2, 0xFFFF), (4, 4, 2 ^ 32 - 1), (8, 8, 2 ^ 64 - 1), (16, 8, 2 ^ 64 - 1), (24, 4, 2 ^ 32 - 1)] }
    (fun _ => true) (fun _ _ => true) fun s c => s.dma m c data stop.1 stop.2)

/-- The unit that an accession names, if the part carries it (R331, R476). -/
def State.accUnit (s : State) (kind id : Nat) : Option Pend :=
  if kind = 1 then (if id < 4096 ∧ s.hasDie (id % 256 / 64) = true then some ⟨1, id % 256 * 16 + id / 256⟩ else none)
  else if s.hasBank id ∧ id < 1024 then some ⟨2, id⟩ else none

/-- An accession that may act at once does, on the idle bank named, or on the lowest when that one is not idle. -/
def State.accessNow (s : State) (q : Pend) (spare : Nat) (parity : Bool) : State :=
  if q.kind = 1 then s.clusterAccession (q.unit / 16) (q.unit % 16) parity
  else
    let idle := s.idleBanks (q.unit / 256)
    s.bankAccession q.unit (if idle.contains spare then spare else (idle.head?).getD spare)

/-- ACCESSION (R339, R344, R466, R476): at the boundary of the partition that holds the unit, or at once. -/
def State.accession (s : State) (m : Fin 36) (c : Cmd) (spare : Nat) (parity : Bool) : State :=
  let kind := c.pay 0 1
  if kind ≠ 1 ∧ kind ≠ 2 then s.reply m c (rspEmpty .range 1)
  else
    match s.accUnit kind (c.pay 1 3) with
    | none => s.reply m c (rspEmpty .range 2)
    | some q =>
      let rival := s.spr.pend.any fun (x : Pend) => x.kind == 1 && kind == 1 && x.unit / 16 == q.unit / 16 && x.unit != q.unit
      if !s.hasSpare q || rival then s.reply m c (rspEmpty .range 0)
      else
        let s1 := if s.spr.pend.contains q then s else s.setPend (s.spr.pend ++ [q])
        match s.unitHolder q with
        | some n =>
          if (s.part n).state = .running then s1.begin m c (some n.val) true (.accession n q.kind q.unit none 0)
          else (s1.begin m c (some n.val) true (.accession n q.kind q.unit none 0)).accessNow q spare parity
        | none => (s1.begin m c none true (.accession 0 q.kind q.unit none 0)).accessNow q spare parity

/-- ACCESSION: `spare` is the physical spare bank that the Curator takes, `parity` what a cluster's copy finds (R343). -/
def execAccession (m : Fin 36) (spare : Fin 8) (parity : Bool) (s : State) : Host.Outcome State Fault Refusal :=
  .next (s.cmdRow m { op := 0x0401, p := true, used := [(0, 1, 0xFF), (1, 3, 2 ^ 24 - 1)] } (fun _ => true) (fun _ _ => false) fun s c =>
    s.accession m c (256 + spare.val) parity)

/-- DEACCESSION (R345, R357, R476). -/
def State.deaccession (s : State) (m : Fin 36) (c : Cmd) : State :=
  let kind := c.pay 0 1
  let id := c.pay 1 3
  let done := fun (t : State) => t.reply m c ⟨.ok, 0, 4, (t.reg Reg.SPR_LAST_ACC).toNat⟩
  if kind = 1 then
    if 2 ^ 13 ≤ id ∨ 16 < id / 256 ∨ s.hasDie (id % 256 / 64) = false then s.reply m c (rspEmpty .range 2)
    else
      let st := s.fld (Reg.SPR_CHEALTH (id % 256) (id / 256)) 8 3
      if st = 1 ∨ st = 2 then done (s.deaccCluster (id % 256) (id / 256)) else s.reply m c (rspEmpty .range 0)
  else if kind = 2 then
    if 2 ^ 11 ≤ id ∨ 263 < id % 512 ∨ s.hasDie (id / 512) = false then s.reply m c (rspEmpty .range 2)
    else
      let k := id / 512 * 264 + id % 512
      if s.fld (bhealth k) 8 3 = 1 then done (s.deaccBank k) else s.reply m c (rspEmpty .range 0)
  else s.reply m c (rspEmpty .range 1)

/-- DEACCESSION. -/
def execDeaccession (m : Fin 36) (s : State) : Host.Outcome State Fault Refusal :=
  .next (s.cmdRow m { op := 0x0402, p := true, used := [(0, 1, 0xFF), (1, 3, 2 ^ 24 - 1)] } (fun _ => true) (fun _ _ => false) fun s c =>
    s.deaccession m c)

/-- TALLY_READ (R476, R518): unread records, oldest first; a privileged read makes them reclaimable. -/
def State.tallyRead (s : State) (m : Fin 36) (c : Cmd) : State :=
  let n := c.pay 0 1
  if 8 ≤ n ∧ n ≠ 0xFF then s.reply m c (rspEmpty .range 1)
  else if c.pay 8 8 % 8 ≠ 0 then s.reply m c (rspEmpty .range 9)
  else
    let got := (s.tly.unread.filter fun (x : Nat × Nat) => n == 0xFF || x.2 == n).take (c.pay 16 4)
    let s1 := if (tenantOf m).isSome then s
      else { s with tly := { s.tly with unread := s.tly.unread.filter fun x => !got.contains x } }
    s1.reply m c ⟨.ok, 0, 4, got.length⟩

/-- TALLY_READ. -/
def execTallyRead (m : Fin 36) (s : State) : Host.Outcome State Fault Refusal :=
  .next (s.cmdRow m { op := 0x0501, p := true, t := true, used := [(0, 1, 0xFF), (8, 8, 2 ^ 64 - 1), (16, 4, 2 ^ 32 - 1)] } (fun _ => true)
    namesPart fun s c => s.tallyRead m c)

/-- TALLY_CLOCK (R520). -/
def execTallyClock (m : Fin 36) (s : State) : Host.Outcome State Fault Refusal :=
  .next (s.cmdRow m { op := 0x0502, p := true, used := [(0, 8, 2 ^ 64 - 1)] } (fun _ => true) (fun _ _ => false) fun s c =>
    (s.tallyClock (c.pay 0 8)).reply m c (rspEmpty .ok 0))

/-- TALLY_TENANT (R466, R516): at the next boundary, or at once on a partition that does not run. -/
def execTallyTenant (m : Fin 36) (s : State) : Host.Outcome State Fault Refusal :=
  .next (s.partRow m { op := 0x0503, p := true, used := [(4, 4, 2 ^ 32 - 1)] } fun s c n =>
    if s.live n then s.wait m c true (.tenant n (c.pay 4 4) none)
    else (s.setReg (Reg.TLY_TENANT n) (BitVec.ofNat 32 (c.pay 4 4))).replyBlock m c n .ok 0)

/-- LGB_TOKEN (R523): `ok` says that the token is Kybahel's for this device. -/
def execLgbToken (m : Fin 36) (ok : Bool) (s : State) : Host.Outcome State Fault Refusal :=
  .next (s.cmdRow m { op := 0x0504, p := true, used := [(0, 32, 2 ^ 256 - 1)] } (fun _ => true) (fun _ _ => false) fun s c =>
    if ok then (s.setFld Reg.LGB_STATUS 0 1 1).reply m c ⟨.ok, 0, 1, 1⟩ else s.reply m c (rspEmpty .authFail 0))

end Sys2Proof.Machine
end

