-- ==== Sys2Proof/Machine/Dispatch.lean ====
section
/-!
DEFINITION. The dispatch: one arm per command, each one direct call of its meaning.
-/
namespace Sys2Proof.Machine

/-- The effect of a command on everything but the queue. -/
def exec (i : Instr) (s : State) : Host.Outcome State Fault Refusal :=
  match i with
  | .eval bp e => Sys2Proof.Machine.execEval bp e s
  | .hold bp e => Sys2Proof.Machine.execHold bp e s
  | .latch bp e => Sys2Proof.Machine.execLatch bp e s
  | .vput bp e => Sys2Proof.Machine.execVput bp e s
  | .vget bp e => Sys2Proof.Machine.execVget bp e s
  | .xput bp e => Sys2Proof.Machine.execXput bp e s
  | .xget bp e => Sys2Proof.Machine.execXget bp e s
  | .iput bp e => Sys2Proof.Machine.execIput bp e s
  | .iget bp e => Sys2Proof.Machine.execIget bp e s
  | .stop bp e => Sys2Proof.Machine.execStop bp e s
  | .mark bp e => Sys2Proof.Machine.execMark bp e s
  | .nop bp e => Sys2Proof.Machine.execNop bp e s
  | .reservedClass bp e => Sys2Proof.Machine.execReservedClass bp e s
  | .stepCycle n env => Sys2Proof.Machine.execStepCycle n env s
  | .latticeDrain n env => Sys2Proof.Machine.execLatticeDrain n env s
  | .vitrineExchange n => Sys2Proof.Machine.execVitrineExchange n s
  | .depositsApplied n => Sys2Proof.Machine.execDepositsApplied n s
  | .tapRecordsClosed n => Sys2Proof.Machine.execTapRecordsClosed n s
  | .errorGather n => Sys2Proof.Machine.execErrorGather n s
  | .voteSend n => Sys2Proof.Machine.execVoteSend n s
  | .commitDecision n => Sys2Proof.Machine.execCommitDecision n s
  | .shadowCopy n env => Sys2Proof.Machine.execShadowCopy n env s
  | .release n => Sys2Proof.Machine.execRelease n s
  | .tallyUpdate n => Sys2Proof.Machine.execTallyUpdate n s
  | .counterUpdate n => Sys2Proof.Machine.execCounterUpdate n s
  | .frameTick n => Sys2Proof.Machine.execFrameTick n s
  | .frameLimit n => Sys2Proof.Machine.execFrameLimit n s
  | .runFramesExpiry n => Sys2Proof.Machine.execRunFramesExpiry n s
  | .stallLimit n => Sys2Proof.Machine.execStallLimit n s
  | .stallLong n => Sys2Proof.Machine.execStallLong n s
  | .abortLimit n => Sys2Proof.Machine.execAbortLimit n s
  | .staleReadsReturned n => Sys2Proof.Machine.execStaleReadsReturned n s
  | .writebackHoldEnd n => Sys2Proof.Machine.execWritebackHoldEnd n s
  | .heldShareFreed n => Sys2Proof.Machine.execHeldShareFreed n s
  | .vltLoanWrite bank owner scrub => Sys2Proof.Machine.execVltLoanWrite bank owner scrub s
  | .loanDrained bank => Sys2Proof.Machine.execLoanDrained bank s
  | .loanScrubDone bank => Sys2Proof.Machine.execLoanScrubDone bank s
  | .portNAccess bank meet ecc => Sys2Proof.Machine.execPortNAccess bank meet ecc s
  | .patrolScrub bank word ecc meet => Sys2Proof.Machine.execPatrolScrub bank word ecc meet s
  | .vaultBusyNRelease => Sys2Proof.Machine.execVaultBusyNRelease s
  | .bankSpareRemap bank spare => Sys2Proof.Machine.execBankSpareRemap bank spare s
  | .peekRead path addr meet ecc => Sys2Proof.Machine.execPeekRead path addr meet ecc s
  | .peekWrite path addr hi meet => Sys2Proof.Machine.execPeekWrite path addr hi meet s
  | .ageTick => Sys2Proof.Machine.execAgeTick s
  | .read pkt hdrBad => Sys2Proof.Machine.execRead pkt hdrBad s
  | .write pkt hdrBad => Sys2Proof.Machine.execWrite pkt hdrBad s
  | .cfgWrite pkt => Sys2Proof.Machine.execCfgWrite pkt s
  | .msg pkt => Sys2Proof.Machine.execMsg pkt s
  | .creditReq src sep dest ep want => Sys2Proof.Machine.execCreditReq src sep dest ep want s
  | .creditReply src sep dest ep req => Sys2Proof.Machine.execCreditReply src sep dest ep req s
  | .creditReturn src sep dest ep => Sys2Proof.Machine.execCreditReturn src sep dest ep s
  | .readData pkt hdrBad => Sys2Proof.Machine.execReadData pkt hdrBad s
  | .writeDone pkt hdrBad => Sys2Proof.Machine.execWriteDone pkt hdrBad s
  | .nocTimeout src sep tag => Sys2Proof.Machine.execNocTimeout src sep tag s
  | .linkOutOfService tile dir => Sys2Proof.Machine.execLinkOutOfService tile dir s
  | .routerFence tile dir => Sys2Proof.Machine.execRouterFence tile dir s
  | .depotAttach port => Sys2Proof.Machine.execDepotAttach port s
  | .depotEchoReply port roundTrip turn => Sys2Proof.Machine.execDepotEchoReply port roundTrip turn s
  | .depotInfo port tNode gib => Sys2Proof.Machine.execDepotInfo port tNode gib s
  | .depotInfoTimeout port => Sys2Proof.Machine.execDepotInfoTimeout port s
  | .depotRequest port => Sys2Proof.Machine.execDepotRequest port s
  | .depotReadData port tag status data => Sys2Proof.Machine.execDepotReadData port tag status data s
  | .depotWriteAck port tag status => Sys2Proof.Machine.execDepotWriteAck port tag status s
  | .depotQueueSend port => Sys2Proof.Machine.execDepotQueueSend port s
  | .undoCopyDone n granule => Sys2Proof.Machine.execUndoCopyDone n granule s
  | .init k ln crcOk m => Sys2Proof.Machine.execInit k ln crcOk m s
  | .initRepeat n => Sys2Proof.Machine.execInitRepeat n s
  | .armTimeout n => Sys2Proof.Machine.execArmTimeout n s
  | .token k ln crcOk seq chan frame epoch => Sys2Proof.Machine.execToken k ln crcOk seq chan frame epoch s
  | .vote k ln crcOk seq chan frame epoch entries => Sys2Proof.Machine.execVote k ln crcOk seq chan frame epoch entries s
  | .xchgFlit k ln crcOk seq words mslot chan frame epoch => Sys2Proof.Machine.execXchgFlit k ln crcOk seq words mslot chan frame epoch s
  | .xtrig k ln crcOk seq source mask x time => Sys2Proof.Machine.execXtrig k ln crcOk seq source mask x time s
  | .ack k ln crcOk e maxNs => Sys2Proof.Machine.execAck k ln crcOk e maxNs s
  | .nak k ln crcOk e => Sys2Proof.Machine.execNak k ln crcOk e s
  | .replayTimeout k ln => Sys2Proof.Machine.execReplayTimeout k ln s
  | .syncSend => Sys2Proof.Machine.execSyncSend s
  | .sync k ln crcOk t1Lo t1Hi => Sys2Proof.Machine.execSync k ln crcOk t1Lo t1Hi s
  | .syncReply k crcOk t1 t2 t3 => Sys2Proof.Machine.execSyncReply k crcOk t1 t2 t3 s
  | .filler l lane train spare quad dev fill => Sys2Proof.Machine.execFiller l lane train spare quad dev fill s
  | .quietEnd l => Sys2Proof.Machine.execQuietEnd l s
  | .signalDetect l => Sys2Proof.Machine.execSignalDetect l s
  | .lockAcquired l => Sys2Proof.Machine.execLockAcquired l s
  | .lockTimeout l => Sys2Proof.Machine.execLockTimeout l s
  | .adaptDone l found => Sys2Proof.Machine.execAdaptDone l found s
  | .adaptTimeout l => Sys2Proof.Machine.execAdaptTimeout l s
  | .alignTimeout l => Sys2Proof.Machine.execAlignTimeout l s
  | .los l => Sys2Proof.Machine.execLos l s
  | .absent l => Sys2Proof.Machine.execAbsent l s
  | .acceptResult l found => Sys2Proof.Machine.execAcceptResult l found s
  | .spareActivate q ln delayed gone => Sys2Proof.Machine.execSpareActivate q ln delayed gone s
  | .laneCapture src l => Sys2Proof.Machine.execLaneCapture src l s
  | .laneSlip src l count => Sys2Proof.Machine.execLaneSlip src l count s
  | .laneAccept src l count => Sys2Proof.Machine.execLaneAccept src l count s
  | .laneRetrain src l v => Sys2Proof.Machine.execLaneRetrain src l v s
  | .frameBlockWrite n => Sys2Proof.Machine.execFrameBlockWrite n s
  | .trigIn ball low => Sys2Proof.Machine.execTrigIn ball low s
  | .trigPulseEnd n => Sys2Proof.Machine.execTrigPulseEnd n s
  | .autoTimeout n => Sys2Proof.Machine.execAutoTimeout n s
  | .plateClose n => Sys2Proof.Machine.execPlateClose n s
  | .drainPart n => Sys2Proof.Machine.execDrainPart n s
  | .drainAck n nodeOk => Sys2Proof.Machine.execDrainAck n nodeOk s
  | .captureArm n path => Sys2Proof.Machine.execCaptureArm n path s
  | .captureForce n => Sys2Proof.Machine.execCaptureForce n s
  | .captureClose n => Sys2Proof.Machine.execCaptureClose n s
  | .captureDisarm n => Sys2Proof.Machine.execCaptureDisarm n s
  | .hostMark n payload => Sys2Proof.Machine.execHostMark n payload s
  | .drainRestart n => Sys2Proof.Machine.execDrainRestart n s
  | .capDrainTailWrite n path v => Sys2Proof.Machine.execCapDrainTailWrite n path v s
  | .capStoreTailWrite n die path v => Sys2Proof.Machine.execCapStoreTailWrite n die path v s
  | .autoCheckpoint n => Sys2Proof.Machine.execAutoCheckpoint n s
  | .checkpointReadDone n => Sys2Proof.Machine.execCheckpointReadDone n s
  | .checkpointComplete n ok => Sys2Proof.Machine.execCheckpointComplete n ok s
  | .inputRecordEntry n => Sys2Proof.Machine.execInputRecordEntry n s
  | .recRingSpace n => Sys2Proof.Machine.execRecRingSpace n s
  | .ckpRecTailWrite n path v => Sys2Proof.Machine.execCkpRecTailWrite n path v s
  | .unitLocated n units => Sys2Proof.Machine.execUnitLocated n units s
  | .recoveryRestoreDone n => Sys2Proof.Machine.execRecoveryRestoreDone n s
  | .catchUpFrame n => Sys2Proof.Machine.execCatchUpFrame n s
  | .recoveryDone n => Sys2Proof.Machine.execRecoveryDone n s
  | .replayEnd n => Sys2Proof.Machine.execReplayEnd n s
  | .healthDecay => Sys2Proof.Machine.execHealthDecay s
  | .stagingDone tile => Sys2Proof.Machine.execStagingDone tile s
  | .clusterAccession tile c parity => Sys2Proof.Machine.execClusterAccession tile c parity s
  | .deaccession m => Sys2Proof.Machine.execDeaccession m s
  | .ghostTraffic kind phys gen => Sys2Proof.Machine.execGhostTraffic kind phys gen s
  | .reserveRecordWrite => Sys2Proof.Machine.execReserveRecordWrite s
  | .curatorMismatch => Sys2Proof.Machine.execCuratorMismatch s
  | .wearWindow site count valid => Sys2Proof.Machine.execWearWindow site count valid s
  | .wearCrossCheck site moved => Sys2Proof.Machine.execWearCrossCheck site moved s
  | .regionCopyUpdate r e => Sys2Proof.Machine.execRegionCopyUpdate r e s
  | .publish r pre cells => Sys2Proof.Machine.execPublish r pre cells s
  | .publishMove r => Sys2Proof.Machine.execPublishMove r s
  | .readySighting r tag => Sys2Proof.Machine.execReadySighting r tag s
  | .homeClockLost net => Sys2Proof.Machine.execHomeClockLost net s
  | .homeClockReturn net => Sys2Proof.Machine.execHomeClockReturn net s
  | .regionLoadDone r crcOk => Sys2Proof.Machine.execRegionLoadDone r crcOk s
  | .regionSettled r => Sys2Proof.Machine.execRegionSettled r s
  | .vtrCalStart banks => Sys2Proof.Machine.execVtrCalStart banks s
  | .calibrationDone bank => Sys2Proof.Machine.execCalibrationDone bank s
  | .vtrCalApply => Sys2Proof.Machine.execVtrCalApply s
  | .vtrDelayWrite cell inp out => Sys2Proof.Machine.execVtrDelayWrite cell inp out s
  | .configurationStart b => Sys2Proof.Machine.execConfigurationStart b s
  | .resetAbandon => Sys2Proof.Machine.execResetAbandon s
  | .stageTimeout stage port => Sys2Proof.Machine.execStageTimeout stage port s
  | .docentStarted slotB active other => Sys2Proof.Machine.execDocentStarted slotB active other s
  | .cfgLaneWaitExpiry => Sys2Proof.Machine.execCfgLaneWaitExpiry s
  | .autoloadEntry img => Sys2Proof.Machine.execAutoloadEntry img s
  | .configurationDone => Sys2Proof.Machine.execConfigurationDone s
  | .frameGo => Sys2Proof.Machine.execFrameGo s
  | .goAct => Sys2Proof.Machine.execGoAct s
  | .cfgDoneRelease => Sys2Proof.Machine.execCfgDoneRelease s
  | .handover d n => Sys2Proof.Machine.execHandover d n s
  | .phmTimer d => Sys2Proof.Machine.execPhmTimer d s
  | .resultRecordOut d => Sys2Proof.Machine.execResultRecordOut d s
  | .phmNop d => Sys2Proof.Machine.execPhmNop d s
  | .clra d => Sys2Proof.Machine.execClra d s
  | .mac d => Sys2Proof.Machine.execMac d s
  | .mac2 d => Sys2Proof.Machine.execMac2 d s
  | .adda d => Sys2Proof.Machine.execAdda d s
  | .st d => Sys2Proof.Machine.execSt d s
  | .ld d => Sys2Proof.Machine.execLd d s
  | .ldi d => Sys2Proof.Machine.execLdi d s
  | .std d => Sys2Proof.Machine.execStd d s
  | .setx d => Sys2Proof.Machine.execSetx d s
  | .modx d => Sys2Proof.Machine.execModx d s
  | .movx d => Sys2Proof.Machine.execMovx d s
  | .rep d => Sys2Proof.Machine.execRep d s
  | .br d => Sys2Proof.Machine.execBr d s
  | .djnz d => Sys2Proof.Machine.execDjnz d s
  | .wait d => Sys2Proof.Machine.execWait d s
  | .emit d => Sys2Proof.Machine.execEmit d s
  | .put d => Sys2Proof.Machine.execPut d s
  | .phmHalt d => Sys2Proof.Machine.execPhmHalt d s
  | .phmStart d => Sys2Proof.Machine.execPhmStart d s
  | .phmCtrlHalt d => Sys2Proof.Machine.execPhmCtrlHalt d s
  | .clrFlags d => Sys2Proof.Machine.execClrFlags d s
  | .phmRingTailWrite d v => Sys2Proof.Machine.execPhmRingTailWrite d v s
  | .adcSlot a b c d => Sys2Proof.Machine.execAdcSlot a b c d s
  | .droop c rose late => Sys2Proof.Machine.execDroop c rose late s
  | .injGo late => Sys2Proof.Machine.execInjGo late s
  | .refSettled => Sys2Proof.Machine.execRefSettled s
  | .adcRingTailWrite path v => Sys2Proof.Machine.execAdcRingTailWrite path v s
  | .taskCreate kind owner param delay => Sys2Proof.Machine.execTaskCreate kind owner param delay s
  | .registrarCycle => Sys2Proof.Machine.execRegistrarCycle s
  | .delayExpiry => Sys2Proof.Machine.execDelayExpiry s
  | .taskDone core status => Sys2Proof.Machine.execTaskDone core status s
  | .taskYield core delay => Sys2Proof.Machine.execTaskYield core delay s
  | .taskCancel core task => Sys2Proof.Machine.execTaskCancel core task s
  | .dataSourceRelease kind => Sys2Proof.Machine.execDataSourceRelease kind s
  | .rgsTraceTailWrite path v => Sys2Proof.Machine.execRgsTraceTailWrite path v s
  | .traceWindowRead path off meet ecc => Sys2Proof.Machine.execTraceWindowRead path off meet ecc s
  | .docentHeartbeat core => Sys2Proof.Machine.execDocentHeartbeat core s
  | .docentWatchdog core => Sys2Proof.Machine.execDocentWatchdog core s
  | .docentRunning slotB active other failed => Sys2Proof.Machine.execDocentRunning slotB active other failed s
  | .doorbell path m v => Sys2Proof.Machine.execDoorbell path m v s
  | .rspPop path m v => Sys2Proof.Machine.execRspPop path m v s
  | .noticeSlotFreed m => Sys2Proof.Machine.execNoticeSlotFreed m s
  | .functionLevelReset pf1 => Sys2Proof.Machine.execFunctionLevelReset pf1 s
  | .mgmtBlockWrite j bytes pecOk => Sys2Proof.Machine.execMgmtBlockWrite j bytes pecOk s
  | .mgmtBlockRead j result => Sys2Proof.Machine.execMgmtBlockRead j result s
  | .statusRead m => Sys2Proof.Machine.execStatusRead m s
  | .regRead m meet ecc => Sys2Proof.Machine.execRegRead m meet ecc s
  | .regWrite m meet => Sys2Proof.Machine.execRegWrite m meet s
  | .resetDevice m => Sys2Proof.Machine.execResetDevice m s
  | .resetDocent m => Sys2Proof.Machine.execResetDocent m s
  | .go m => Sys2Proof.Machine.execGo m s
  | .timeSet m => Sys2Proof.Machine.execTimeSet m s
  | .laneSet m => Sys2Proof.Machine.execLaneSet m s
  | .flashWrite m img toB => Sys2Proof.Machine.execFlashWrite m img toB s
  | .fuseProgramSlot m block => Sys2Proof.Machine.execFuseProgramSlot m block s
  | .fuseRevokeSlot m => Sys2Proof.Machine.execFuseRevokeSlot m s
  | .fuseRaiseMinSvn m => Sys2Proof.Machine.execFuseRaiseMinSvn m s
  | .load m img fin => Sys2Proof.Machine.execLoad m img fin s
  | .unload m => Sys2Proof.Machine.execUnload m s
  | .arm m => Sys2Proof.Machine.execArm m s
  | .run m => Sys2Proof.Machine.execRun m s
  | .halt m => Sys2Proof.Machine.execHalt m s
  | .forcedHalt m => Sys2Proof.Machine.execForcedHalt m s
  | .deposit m block => Sys2Proof.Machine.execDeposit m block s
  | .wsRead m => Sys2Proof.Machine.execWsRead m s
  | .vtrLoad m img => Sys2Proof.Machine.execVtrLoad m img s
  | .captureRead m => Sys2Proof.Machine.execCaptureRead m s
  | .checkpoint m => Sys2Proof.Machine.execCheckpoint m s
  | .ckptExport m ok => Sys2Proof.Machine.execCkptExport m ok s
  | .restore m img => Sys2Proof.Machine.execRestore m img s
  | .replay m entries => Sys2Proof.Machine.execReplay m entries s
  | .loan m => Sys2Proof.Machine.execLoan m s
  | .depotGrant m => Sys2Proof.Machine.execDepotGrant m s
  | .depotReturn m => Sys2Proof.Machine.execDepotReturn m s
  | .bufAlloc m => Sys2Proof.Machine.execBufAlloc m s
  | .bufFree m => Sys2Proof.Machine.execBufFree m s
  | .dma m data stop => Sys2Proof.Machine.execDma m data stop s
  | .accession m spare parity => Sys2Proof.Machine.execAccession m spare parity s
  | .setOp m => Sys2Proof.Machine.execSetOp m s
  | .setPowerRun m => Sys2Proof.Machine.execSetPowerRun m s
  | .setPowerHold m => Sys2Proof.Machine.execSetPowerHold m s
  | .setPowerNap m => Sys2Proof.Machine.execSetPowerNap m s
  | .setPowerDormant m => Sys2Proof.Machine.execSetPowerDormant m s
  | .thermalShutdown m => Sys2Proof.Machine.execThermalShutdown m s
  | .tallyRead m => Sys2Proof.Machine.execTallyRead m s
  | .tallyClock m => Sys2Proof.Machine.execTallyClock m s
  | .tallyTenant m => Sys2Proof.Machine.execTallyTenant m s
  | .lgbToken m ok => Sys2Proof.Machine.execLgbToken m ok s
  | .napEntryDone n => Sys2Proof.Machine.execNapEntryDone n s
  | .napExitDone n => Sys2Proof.Machine.execNapExitDone n s
  | .dormantEntryDone => Sys2Proof.Machine.execDormantEntryDone s
  | .dormantExitDone waited => Sys2Proof.Machine.execDormantExitDone waited s
  | .wakeN => Sys2Proof.Machine.execWakeN s
  | .pcieWake => Sys2Proof.Machine.execPcieWake s
  | .wakeTimer => Sys2Proof.Machine.execWakeTimer s
  | .thermtrip d => Sys2Proof.Machine.execThermtrip d s
  | .vcoreSettled => Sys2Proof.Machine.execVcoreSettled s
  | .vrTimeout => Sys2Proof.Machine.execVrTimeout s
  | .pllLocked d => Sys2Proof.Machine.execPllLocked d s
  | .lockStable d => Sys2Proof.Machine.execLockStable d s
  | .relockFail d => Sys2Proof.Machine.execRelockFail d s
  | .pwrOkFall vaonLost => Sys2Proof.Machine.execPwrOkFall vaonLost s
  | .periodBoundary => Sys2Proof.Machine.execPeriodBoundary s
  | .logbookRecord core pc e => Sys2Proof.Machine.execLogbookRecord core pc e s
  | .logbookSpaceFreed => Sys2Proof.Machine.execLogbookSpaceFreed s
  | .lgbTailWrite path v => Sys2Proof.Machine.execLgbTailWrite path v s
  | .dbgClear n => Sys2Proof.Machine.execDbgClear n s
  | .regLoRead path off => Sys2Proof.Machine.execRegLoRead path off s
  | .regHiWrite path off v be => Sys2Proof.Machine.execRegHiWrite path off v be s
  | .readClear path off be => Sys2Proof.Machine.execReadClear path off be s
  | .registerWrite src off v be => Sys2Proof.Machine.execRegisterWrite src off v be s
  | .idcode => Sys2Proof.Machine.execIdcode s
  | .samplePreload balls shift => Sys2Proof.Machine.execSamplePreload balls shift s
  | .extest balls shift => Sys2Proof.Machine.execExtest balls shift s
  | .extestPulse balls shift => Sys2Proof.Machine.execExtestPulse balls shift s
  | .extestTrain balls shift => Sys2Proof.Machine.execExtestTrain balls shift s
  | .highz => Sys2Proof.Machine.execHighz s
  | .clamp => Sys2Proof.Machine.execClamp s
  | .bypass code => Sys2Proof.Machine.execBypass code s
  | .vaonRise => Sys2Proof.Machine.execVaonRise s
  | .pwrOkRise sel addr => Sys2Proof.Machine.execPwrOkRise sel addr s
  | .devclkLost => Sys2Proof.Machine.execDevclkLost s
  | .quadRefOk q => Sys2Proof.Machine.execQuadRefOk q s
  | .ackTimer k ln => Sys2Proof.Machine.execAckTimer k ln s
  | .prbsRxLock l errs => Sys2Proof.Machine.execPrbsRxLock l errs s
  | .laneCaptureDone syms => Sys2Proof.Machine.execLaneCaptureDone syms s
  | .phmReservedOp d => Sys2Proof.Machine.execPhmReservedOp d s

end Sys2Proof.Machine
end

