-- ==== Sys2Proof/Safety.lean ====
section
/-!
DEFINITION. What a safe run is: no step of it ends in a fault or a refusal.
-/
namespace Sys2Proof

open Sys2Proof.Machine

/-- The next step completes. -/
def Completes (s : State) : Prop := ∃ t, step s = .next t

/-- The next `k` steps complete. -/
def SafeFor : Nat → State → Prop
  | 0, _ => True
  | k + 1, s => ∃ t, step s = .next t ∧ SafeFor k t

end Sys2Proof
end

