-- ==== Sys2Proof/Certificates/Slice0/Obligations.lean ====
section
/-!
DEFINITION. Statements for the provers.  A statement about a command says in which states it completes, what the next state holds
and what it leaves; its docstring names the rules of spec/ it rests on.
-/

open Sys2Proof Sys2Proof.Machine

namespace Sys2Proof.Statements

/-- Every register outside `l` reads in t as it reads in s. -/
def RegsBut (s t : State) (l : List Nat) : Prop := ∀ a, a ∉ l → t.reg a = s.reg a

/-- Every partition but n is the same in t as in s. -/
def PartsBut (s t : State) (n : Fin 8) : Prop := ∀ m, m ≠ n → t.part m = s.part m

/-- Partition n stands at commit step Ck, its step clock acts, no item due there is absent (R32, R41, R42), and C15's duties are
not yet done. -/
def AtCommit (s : State) (n : Fin 8) (k : Nat) : Prop :=
  s.cycling n = true ∧ (s.part n).bdone = false ∧ (s.part n).step = (s.part n).eph.depth + k ∧ s.absentAt n = none

/-- The commit steps of n go on to Cj: the partition is at it, and the rest of the part but n's own state is untouched in its
partitions and its waiting commands. -/
def OnTo (s t : State) (n : Fin 8) (j : Nat) : Prop :=
  (t.part n).step = (s.part n).eph.depth + j ∧ (t.part n).eph = (s.part n).eph ∧ PartsBut s t n ∧ t.pending = s.pending ∧
    t.variant = s.variant

/-- Two sparse stores hold the same. -/
def SameStore {α : Type} (d : Nat → α) (a b : List (Nat × α)) : Prop := ∀ k, mget d a k = mget d b k

/-- What the result path of a slot leaves (R85 to R89): with KEEP = 0 the bit of the step's own address is r and every other bit
of the working store as it was; with SEND the result is offered to the lattice; with TAP the collector takes it into the
allocated slots.  Receive registers, VD, XD, the output vector and the step counter stay, and the BP has executed its slot. -/
def ResultPath (p q : Part) (bp : Nat) (w : DWord) (r : Bool) : Prop :=
  (∀ k, mget dBit q.img.ws k = if wKeep w = false ∧ k = bp * 2048 + p.step then r else mget dBit p.img.ws k) ∧
  q.offers = p.offers ++ (if wSend w then [(bp, r)] else []) ∧
  q.taps = p.taps ++ (if wTap w then (p.tapSlots bp p.step).map (fun x => ⟨x.tile, p.step, x.lane, x.group, r⟩) else []) ∧
  q.img.rx = p.img.rx ∧ q.img.vd = p.img.vd ∧ q.img.outv = p.img.outv ∧ q.step = p.step ∧ q.frame = p.frame ∧
  q.done = p.done ++ [bp]

/-- What a slot leaves outside its partition: with no corrected word everything but the fetch history of R350. -/
def SlotFrame (s t : State) (n : Fin 8) (e : BpErr) : Prop :=
  PartsBut s t n ∧ t.vlt = s.vlt ∧ t.pending = s.pending ∧
  (e.slotCorr = false → t = { s with parts := t.parts, spr := t.spr })

/-- A slot of class `cls` of BP `bp` completes in partition n with result r (R85, R102): for every state in which the BP may
execute it, whatever the detectors report but an uncorrectable slot word. -/
def SlotResult (c : BpErr → Instr) (cls bp : Nat) (r : Part → DWord → Nat → Nat → Bool) (more : Part → Part → DWord → Bool → Prop) :
    Prop :=
  ∀ (s : State) (n : Fin 8) (e : BpErr), s.hasDie (bp / 65536) = true → s.bpReady (· == cls) bp = some n → e.slotUnc = false →
    ∃ t, exec (c e) s = .next t ∧ SlotFrame s t n e ∧
      ResultPath (s.part n) (t.part n) bp ((s.part n).slot bp (s.part n).step)
        (r (s.part n) ((s.part n).slot bp (s.part n).step) bp (s.part n).step) ∧
      more (s.part n) (t.part n) ((s.part n).slot bp (s.part n).step)
        (r (s.part n) ((s.part n).slot bp (s.part n).step) bp (s.part n).step)

/-- FT[FNI] at the four operands, with INV (R64, R91). -/
def evalResult (p : Part) (w : DWord) (bp k : Nat) : Bool :=
  Bool.xor (p.lookup bp k (wFni w) (p.operand bp k (wSa w)) (p.operand bp k (wSb w)) (p.operand bp k (wSc w))
    (p.operand bp k (wSd w))) (wInv w)

/-- The old bit of the step's address when A = 0, else FT[FNI] with A = 0 (R92, R94, R95), with INV. -/
def holdResult (p : Part) (w : DWord) (bp k : Nat) : Bool :=
  Bool.xor (if p.operand bp k (wSa w) then
      p.lookup bp k (wFni w) false (p.operand bp k (wSb w)) (p.operand bp k (wSc w)) (p.operand bp k (wSd w))
    else p.img.wsAt bp k) (wInv w)

/-- Three operands, D = 0 (R111). -/
def putResult (p : Part) (w : DWord) (bp k : Nat) : Bool :=
  Bool.xor (p.lookup bp k (wFni w) (p.operand bp k (wSa w)) (p.operand bp k (wSb w)) (p.operand bp k (wSc w)) false) (wInv w)

/-- SA below 2,048 names a boundary input bit (R112). -/
def igetResult (p : Part) (w : DWord) (bp k : Nat) : Bool :=
  Bool.xor (p.lookup bp k (wFni w) (if wSa w < 2048 then p.bin (wSa w) else p.operand bp k (wSa w)) (p.operand bp k (wSb w))
    (p.operand bp k (wSc w)) (p.operand bp k (wSd w))) (wInv w)

end Sys2Proof.Statements

open Sys2Proof.Statements

/-- A step on a queue that is not empty runs its front command on the state with the rest of the queue.  The queue is the model's own
(DESIGN CHOICE, log entry 13). -/
def Obligations.StepRunsFrontCommand : Prop :=
  ∀ (c : Instr) (r : List Instr) (s : State), step { s with pending := c :: r } = exec c { s with pending := r }

/-- R85, R91, R92, R94, R97, R112: the evaluation classes EVAL, HOLD, LATCH, IGET and STOP.  R64: the function value is the bit of the
table entry at the four operands, A the least significant index bit. -/
def Obligations.EvaluationSlotsWriteTheirResult : Prop :=
  (∀ (p : Part) (bp k fni : Nat) (a b c d : Bool),
    p.lookup bp k fni a b c d = (p.ftAt bp k fni).getLsbD (8 * b2n d + 4 * b2n c + 2 * b2n b + b2n a)) ∧
  ∀ bp : BpAddr,
    SlotResult (fun e => .eval bp e) 0 bp.toNat evalResult (fun p q _ _ => q.img.xd = p.img.xd ∧ q.stops = p.stops) ∧
    SlotResult (fun e => .hold bp e) 1 bp.toNat holdResult (fun p q _ _ => q.img.xd = p.img.xd ∧ q.stops = p.stops) ∧
    SlotResult (fun e => .latch bp e) 2 bp.toNat holdResult (fun p q _ _ => q.img.xd = p.img.xd ∧ q.stops = p.stops) ∧
    SlotResult (fun e => .iget bp e) 8 bp.toNat igetResult (fun p q _ _ => q.img.xd = p.img.xd ∧ q.stops = p.stops) ∧
    SlotResult (fun e => .stop bp e) 9 bp.toNat evalResult (fun p q w r =>
      q.img.xd = p.img.xd ∧
      q.stops = if r = true ∧ (∀ x ∈ p.stops, x.1 ≠ bp.toNat) then p.stops ++ [(bp.toNat, wFni w)] else p.stops)

/-- R111, R114, R115, R124, R125, R129: the put classes VPUT, XPUT and IPUT also hand their result to a staged lane of the vault
port, to the exchange word in formation of an outgoing slot whose word is not sealed, and to an allocated output bit. -/
def Obligations.PutSlotsHandTheirResultOn : Prop :=
  ∀ bp : BpAddr,
    SlotResult (fun e => .vput bp e) 3 bp.toNat putResult (fun p q w r =>
      q.img.xd = p.img.xd ∧ q.outs = p.outs ∧ q.xform = p.xform ∧
      q.lanes = if laneUsed (wSd w / 256 % 4) (wSd w % 64)
        then p.lanes ++ [⟨portKey bp.toNat (wSd w / 64 % 4), wSd w / 256 % 4, wSd w % 64, r, bp.toNat⟩] else p.lanes) ∧
    SlotResult (fun e => .xput bp e) 5 bp.toNat putResult (fun p q w r =>
      q.img.xd = p.img.xd ∧ q.outs = p.outs ∧ q.lanes = p.lanes ∧
      ∀ k, mget dWord64 q.xform k =
        match p.eph.xslot (bpCluster bp.toNat) (wSd w % 256) false with
        | some x => if p.step ≤ x.sendStep ∧ k = bpCluster bp.toNat * 256 + wSd w % 256
          then setBitsAt (mget dWord64 p.xform k) (execB p.eph.deep bp.toNat p.step) 1 (b2n r) else mget dWord64 p.xform k
        | none => mget dWord64 p.xform k) ∧
    SlotResult (fun e => .iput bp e) 7 bp.toNat putResult (fun p q w r =>
      q.img.xd = p.img.xd ∧ q.xform = p.xform ∧ q.lanes = p.lanes ∧
      q.outs = if (p.eph.boundBit false (p.outBase bp.toNat + wSd w % 256)).isSome
        then p.outs ++ [(p.outBase bp.toNat + wSd w % 256, r, bp.toNat)] else p.outs)

/-- R83, R101, R116, R126, R48: classes with no result path.  VGET asks its port for a read; XGET takes the held word of its
incoming slot into XD; MARK, NOP and a reserved class change no store, and a reserved class is noted for the end of the step. -/
def Obligations.SlotsWithoutResultPath : Prop :=
  ∀ (bp : BpAddr) (s : State) (n : Fin 8) (e : BpErr), s.hasDie (bp.toNat / 65536) = true → e.slotUnc = false →
    let p := s.part n
    let w := p.slot bp.toNat p.step
    let keeps := fun (q : Part) => q.img.ws = p.img.ws ∧ q.img.rx = p.img.rx ∧ q.img.vd = p.img.vd ∧ q.img.outv = p.img.outv ∧
      q.offers = p.offers ∧ q.taps = p.taps ∧ q.step = p.step ∧ q.done = p.done ++ [bp.toNat]
    (s.bpReady (· == 4) bp.toNat = some n →
      ∃ t, exec (.vget bp e) s = .next t ∧ SlotFrame s t n e ∧ keeps (t.part n) ∧ (t.part n).img.xd = p.img.xd ∧
        (t.part n).gets = p.gets ++ [(portKey bp.toNat (wSd w / 64 % 4), bp.toNat)]) ∧
    (s.bpReady (· == 6) bp.toNat = some n →
      ∃ t, exec (.xget bp e) s = .next t ∧ SlotFrame s t n e ∧ keeps (t.part n) ∧ (t.part n).gets = p.gets ∧
        ∀ b, mget dWord64 (t.part n).img.xd b =
          match (p.eph.xslot (bpCluster bp.toNat) (wSd w % 256) true).bind p.xword with
          | some v => if b = bp.toNat then v else mget dWord64 p.img.xd b
          | none => mget dWord64 p.img.xd b) ∧
    (s.bpReady (· == 10) bp.toNat = some n →
      ∃ t, exec (.mark bp e) s = .next t ∧ SlotFrame s t n e ∧ keeps (t.part n) ∧ (t.part n).img.xd = p.img.xd) ∧
    (s.bpReady (· == 15) bp.toNat = some n →
      ∃ t, exec (.nop bp e) s = .next t ∧ SlotFrame s t n e ∧ keeps (t.part n) ∧ (t.part n).img.xd = p.img.xd) ∧
    (s.bpReady (fun c => decide (11 ≤ c) && decide (c ≤ 14)) bp.toNat = some n →
      ∃ t, exec (.reservedClass bp e) s = .next t ∧ SlotFrame s t n e ∧ keeps (t.part n) ∧ (t.part n).img.xd = p.img.xd ∧
        (t.part n).reserved = p.reserved ++ [bp.toNat])

/-- R28, R42, R44, R45, R52: with an item absent at its wait point, and the stall not at its limit, a step-clock cycle is a stall step:
the step counter, every BP store, the lattice in transit, the vault ports' staging, the taps and the reads in flight are frozen, and
the step is attributed to the absent cause of lowest code, whose counter rises, and the stall step total with it.  With no item absent,
a cycle at an evaluation step in which no BP executes a reserved class advances the step counter by one, within the same frame.  Neither
touches another partition. -/
def Obligations.StepCyclesStallOrAdvance : Prop :=
  ∀ (s : State) (n : Fin 8) (env : StepEnv), s.cycling n = true → (s.part n).holdReq = false → (s.part n).bdone = false →
    let p := s.part n
    (∀ c, s.absentAt n = some c → ¬ (p.limit ≠ 0 ∧ p.limit ≤ p.stallLen ∧ s.catchingUp n = false) →
      ∃ t, exec (.stepCycle n env) s = .next t ∧
        (let q := t.part n
         q.step = p.step ∧ q.frame = p.frame ∧ q.cur = p.cur ∧ q.img = p.img ∧ q.waves = p.waves ∧ q.offers = p.offers ∧
         q.stages = p.stages ∧ q.lanes = p.lanes ∧ q.reads = p.reads ∧ q.vlog = p.vlog ∧ q.taps = p.taps ∧ q.xform = p.xform ∧
         q.stalled = true ∧ q.stallCause = c.code ∧ q.stallLen = p.stallLen + 1 ∧
         q.stallTotal = min (2 ^ 64 - 1) (p.stallTotal + 1)) ∧
        (t.reg (stallReg n c)).toNat = min (2 ^ 32 - 1) ((s.reg (stallReg n c)).toNat + 1) ∧
        PartsBut s t n ∧ t.vlt = s.vlt ∧ t.pending = s.pending ∧
        RegsBut s t [stallReg n c, Reg.FRM_STALL_MAX n, Reg.FRM_IRQ_STATUS n]) ∧
    (p.step < p.eph.depth → s.absentAt n = none → p.reserved = [] →
      (∀ bp, ¬ (11 ≤ wCls (p.slot bp p.step) ∧ wCls (p.slot bp p.step) ≤ 14)) →
      ∃ t, exec (.stepCycle n env) s = .next t ∧
        (t.part n).step = p.step + 1 ∧ (t.part n).state = p.state ∧ (t.part n).frame = p.frame ∧
        (t.part n).cur = p.cur ∧ (t.part n).eph = p.eph ∧ (t.part n).stalled = false ∧
        (t.part n).stallLen = 0 ∧ (t.part n).done = [] ∧ PartsBut s t n ∧ t.pending = s.pending)

/-- R32: a cycle at a commit step is the duty of that step: the rows of C3, C4, C5, C8, C9 and C12 to C15 do what a step cycle
does there, and a partition that stands at another step is left as it is. -/
def Obligations.CommitRowsAreTheStepsDuties : Prop :=
  ∀ (s : State) (n : Fin 8),
    let at_ := fun (k : Nat) (c : Instr) =>
      ((s.part n).step = (s.part n).eph.depth + k → exec c s = exec (.stepCycle n {}) s) ∧
      ((s.part n).step ≠ (s.part n).eph.depth + k → exec c s = .next s)
    at_ 3 (.vitrineExchange n) ∧ at_ 4 (.depositsApplied n) ∧ at_ 5 (.tapRecordsClosed n) ∧ at_ 8 (.voteSend n) ∧
      at_ 9 (.commitDecision n) ∧ at_ 12 (.release n) ∧ at_ 13 (.tallyUpdate n) ∧ at_ 14 (.counterUpdate n) ∧ at_ 15 (.frameTick n)

/-- R32, R49, R97, R130, R131, R470: C0 to C8.  The lattice drains in three steps; C3 latches the inputs of the next frame once;
C4 writes the forces and then the deposits in stamp order, the first time a frame is executed, and the same again when it is
executed again; C6 and C7 latch the gathered errors in FRM_ERR; the other duties change no store of a BP. -/
def Obligations.CommitStepsBeforeTheDecision : Prop :=
  ∀ (s : State) (n : Fin 8) (env : StepEnv),
    let p := s.part n
    (AtCommit s n 0 → ∃ t, exec (.latticeDrain n env) s = .next t ∧ OnTo s t n 3 ∧ (t.part n).img.ws = p.img.ws ∧
      (t.part n).img.xd = p.img.xd ∧ (t.part n).img.outv = p.img.outv ∧ (t.part n).cur = p.cur) ∧
    (AtCommit s n 3 → ∃ t, exec (.vitrineExchange n) s = .next t ∧ OnTo s t n 4 ∧ (t.part n).img.ws = p.img.ws ∧
      (t.part n).img.rx = p.img.rx ∧ (t.part n).img.outv = p.img.outv ∧
      (t.part n).bins.any (fun b => b.1 == p.cur + 1) = true ∧
      (p.bins.any (fun b => b.1 == p.cur + 1) = true → (t.part n).bins = p.bins)) ∧
    (AtCommit s n 4 → s.replaying n = false → s.catchingUp n = false →
      ∃ t, exec (.depositsApplied n) s = .next t ∧ OnTo s t n 5 ∧ (t.part n).img.rx = p.img.rx ∧
        (p.c4.find? (fun c => c.frame == p.cur) = none → p.hiFrame ≤ p.cur + 1 →
          (t.part n).img.ws = applyDeposits (applyDeposits p.img.ws p.forces) (sortBy (·.stamp) p.deps) ∧
          (t.part n).forces = updateForces p.forces (sortBy (·.stamp) p.deps) ∧ (t.part n).deps = []) ∧
        (∀ c, p.c4.find? (fun c => c.frame == p.cur) = some c → p.cur + 1 < p.hiFrame →
          (t.part n).img.ws = applyDeposits (applyDeposits p.img.ws c.forces) (sortBy (·.stamp) c.deps) ∧
          (t.part n).deps = p.deps)) ∧
    (AtCommit s n 4 → s.replaying n = true ∨ s.catchingUp n = true →
      ∃ t, exec (.depositsApplied n) s = .next t ∧ OnTo s t n 5 ∧ (t.part n).img.rx = p.img.rx ∧ (t.part n).deps = p.deps ∧
        ∀ e, s.recEntry n (p.cur + 1) = some e → (t.part n).img.ws = applyDeposits p.img.ws (itemWrites e.items)) ∧
    (AtCommit s n 5 → ∃ t, exec (.tapRecordsClosed n) s = .next t ∧ OnTo s t n 6 ∧ (t.part n).img = p.img) ∧
    (AtCommit s n 6 → ∃ t, exec (.errorGather n) s = .next t ∧ OnTo s t n 8 ∧ (t.part n).img = p.img ∧
      bitsAt (t.part n).errReg 0 1 = b2n p.err.wsPar ∧ bitsAt (t.part n).errReg 1 1 = b2n p.err.latPar ∧
      bitsAt (t.part n).errReg 2 1 = b2n p.err.vdbe ∧ bitsAt (t.part n).errReg 3 1 = b2n p.err.unit ∧
      bitsAt (t.part n).errReg 4 1 = b2n p.stopCause.isSome) ∧
    (AtCommit s n 8 → ∃ t, exec (.voteSend n) s = .next t ∧ OnTo s t n 9 ∧ (t.part n).img = p.img)

/-- R33, R34: C9 decides frame n itself within one device, and the frame before it in a partition that spans devices, unless it
decides nothing; it commits without an error, and aborts with one (R33), or when a device voted abort (R34).  A catch-up frame decides
itself and takes no halt (R328). -/
def Obligations.DecisionAtC9 : Prop :=
  ∀ (s : State) (n : Fin 8), AtCommit s n 9 →
    ∃ t, exec (.commitDecision n) s = .next t ∧ OnTo s t n 10 ∧ (t.part n).img = (s.part n).img ∧
      (s.catchingUp n = true → (t.part n).decision = some ((s.part n).cur, decide ((s.part n).errReg.toNat % 16 = 0)) ∧
        (t.part n).haltPend = []) ∧
      (s.catchingUp n = false →
      ((s.part n).eph.spans = false →
        (t.part n).decision = some ((s.part n).cur, decide ((s.part n).errReg.toNat % 16 = 0))) ∧
      ((s.part n).eph.spans = true → (s.part n).decidesNone = true → (t.part n).decision = none) ∧
      ((s.part n).eph.spans = true → (s.part n).decidesNone = false →
        (t.part n).decision = some ((s.part n).cur - 1, !(s.votesFor n ((s.part n).cur - 1)).any (·.abort))))

/-- R33, R35: C10 and C11 copy the state that the next frame starts with into bank (n + 1) mod 2, or, after an abort, restore
working store, RX, VD and XD from the bank of the aborted frame; the stores are in their canonical form, and the bank restored
from has no uncorrectable word. -/
def Obligations.ShadowCopyAndRestore : Prop :=
  ∀ (s : State) (n : Fin 8) (env : StepEnv), AtCommit s n 10 → mwf dBit (s.part n).img.ws = true →
    ((s.part n).restoreFrom = none →
      ∃ t, exec (.shadowCopy n env) s = .next t ∧ (t.part n).step = (s.part n).eph.depth + 12 ∧
        (t.part n).img = (s.part n).img ∧
        (let b := (t.part n).shadow ((s.part n).cur + 1)
         SameStore dBit b.ws (s.part n).img.ws ∧ b.rx = (s.part n).img.rx ∧ b.vd = (s.part n).img.vd ∧
         b.xd = (s.part n).img.xd ∧ b.outv = (s.part n).img.outv) ∧
        (t.part n).shadow (s.part n).cur = (s.part n).shadow (s.part n).cur ∧ PartsBut s t n) ∧
    (∀ f, (s.part n).restoreFrom = some f → (s.part n).shadowBad f = [] → env.restoreUnc = [] →
      mwf dBit ((s.part n).shadow f).ws = true →
      ∃ t, exec (.shadowCopy n env) s = .next t ∧ (t.part n).step = (s.part n).eph.depth + 12 ∧
        (let b := (s.part n).shadow f
         SameStore dBit (t.part n).img.ws b.ws ∧ (t.part n).img.rx = b.rx ∧ (t.part n).img.vd = b.vd ∧
         (t.part n).img.xd = b.xd ∧ (t.part n).img.outv = b.outv) ∧
        PartsBut s t n)

/-- R30, R31, R33, R35, R37, R47, R194, R328, R516: C12 to C14.  A committing frame leaves the write log and its effects are released;
an aborted one, and the speculative one of a machine that halts, is written back and discarded; with nothing decided and no halt C12
leaves the partition's stores.  C13 hands over the counts of the frame.  At C14 FRM_COMMITTED takes the committed frame and FRM_FRAME
advances, but where a machine halts; or FRM_FRAME stays at the aborted frame and the abort is counted.  In catch-up nothing is
released, the log is dropped, and FRM_COMMITTED stays. -/
def Obligations.ReleaseAndCounters : Prop :=
  ∀ (s : State) (n : Fin 8),
    let p := s.part n
    let discards := fun (t : State) (c : Nat) => OnTo s t n 13 ∧ (t.part n).img = p.img ∧
      (t.part n).vlog = p.vlog.filter (fun x => !decide (c ≤ x.frame)) ∧ (t.part n).taps = [] ∧
      (∀ r ∈ (t.part n).reads, c ≤ r.frame → r.onChip = false ∧ r.stale = true)
    (AtCommit s n 12 → s.catchingUp n = false → ∀ c fx, p.decision = some (c, true) → p.fxs.find? (fun f => f.frame == c) = some fx →
      (p.eph.spans = false ∨ p.haltPend = [] →
        ∃ t, exec (.release n) s = .next t ∧ OnTo s t n 13 ∧ (t.part n).img = p.img ∧
          (t.part n).vlog = p.vlog.filter (fun x => decide (c < x.frame)) ∧ (t.part n).rho = fx.rhos) ∧
      (p.eph.spans = true → p.haltPend ≠ [] →
        ∃ t, exec (.release n) s = .next t ∧ OnTo s t n 13 ∧ (t.part n).img = p.img ∧ (t.part n).vlog = [] ∧ (t.part n).rho = fx.rhos)) ∧
    (AtCommit s n 12 → s.catchingUp n = true → ∀ c fx, p.decision = some (c, true) → p.fxs.find? (fun f => f.frame == c) = some fx →
      p.eph.spans = false ∨ p.haltPend = [] →
      ∃ t, exec (.release n) s = .next t ∧ OnTo s t n 13 ∧ (t.part n).img = p.img ∧ (t.part n).vlog = []) ∧
    (AtCommit s n 12 → ∀ c, p.decision = some (c, false) → ∃ t, exec (.release n) s = .next t ∧ discards t c) ∧
    (AtCommit s n 12 → p.decision = none →
      (p.haltPend = [] → ∃ t, exec (.release n) s = .next t ∧ OnTo s t n 13 ∧ (t.part n).img = p.img ∧ (t.part n).vlog = p.vlog ∧
        (t.part n).reads = p.reads ∧ t.vlt = s.vlt ∧ t.regs = s.regs) ∧
      (p.haltPend ≠ [] → ∃ t, exec (.release n) s = .next t ∧ discards t p.cur)) ∧
    (AtCommit s n 13 → ∃ t, exec (.tallyUpdate n) s = .next t ∧ OnTo s t n 14 ∧ (t.part n).img = p.img ∧
      (t.part n).runSteps = 0 ∧ (t.part n).stallSteps = 0) ∧
    (AtCommit s n 14 → s.catchingUp n = false → ∀ c, p.decision = some (c, true) →
      ∃ t, exec (.counterUpdate n) s = .next t ∧ OnTo s t n 15 ∧ (t.part n).img = p.img ∧ (t.part n).committed = c ∧
        (t.part n).committedValid = true ∧ (t.part n).consec = 0 ∧
        (t.part n).frame = (if p.eph.spans = true ∧ p.haltPend ≠ [] then p.frame else min (p.frame + 1) (2 ^ 48 - 1))) ∧
    (AtCommit s n 14 → s.catchingUp n = false → ∀ c, p.decision = some (c, false) →
      ∃ t, exec (.counterUpdate n) s = .next t ∧ OnTo s t n 15 ∧ (t.part n).img = p.img ∧ (t.part n).frame = c ∧
        (t.part n).committed = p.committed ∧ (t.part n).aborts = min 0xFFFFFF (p.aborts + 1)) ∧
    (AtCommit s n 14 → (s.catchingUp n = true ∨ p.decision = none) →
      ∃ t, exec (.counterUpdate n) s = .next t ∧ OnTo s t n 15 ∧ (t.part n).img = p.img ∧ (t.part n).committed = p.committed ∧
        (t.part n).committedValid = p.committedValid ∧ (t.part n).aborts = p.aborts ∧
        (t.part n).frame = (match p.decision with
          | some (_, true) => p.cur + 1
          | some (_, false) => p.frame
          | none => min (p.cur + 1) (2 ^ 48 - 1)))

/-- R29, R31, R45 to R48, R50, R52: the tick.  With nothing pending, and nothing to hold the boundary, the next frame begins at step
0; with a boundary hold the partition stays at C15 (log entry 127), and the first cycle after it begins the frame.  A pending
halt halts the partition at the tick, SAFETY recorded before any other cause and else the first; a pending fault is taken.  A
stall that stands at its limit puts the partition in FAULT at its step; one that reaches FRM_STALL_WARN sets STALL_LONG. -/
def Obligations.TickHaltAndFault : Prop :=
  ∀ (s : State) (n : Fin 8), s.catchingUp n = false →
    let p := s.part n
    let begun := fun (t : State) => (t.part n).step = 0 ∧ (t.part n).cur = p.frame ∧ (t.part n).frame = p.frame ∧
      (t.part n).bdone = false ∧ (t.part n).state = p.state ∧ (t.part n).img = p.img ∧ (t.part n).stages = [] ∧
      (t.part n).xform = [] ∧ (t.part n).waves = []
    (AtCommit s n 15 → p.faultPend = none → p.haltPend = [] → s.replaying n = false →
      ∃ t, exec (.frameTick n) s = .next t ∧ (t.part n).frame = p.frame ∧ (t.part n).img = p.img ∧
        ((t.part n).bholds ≠ [] → (t.part n).bdone = true ∧ (t.part n).step = p.step ∧ (t.part n).cur = p.cur) ∧
        ((t.part n).bholds = [] → begun t)) ∧
    (AtCommit s n 15 → p.faultPend = none → p.haltPend = [] → s.replaying n = false → s.boundaryHolds n = [] →
      s.curatorDue n = false → (∀ k ∈ s.spr.rowDue, p.eph.hasTile (rowTile (rowOf k)) = false) → (s.ck n).busy = none → (s.ck n).want = none → (s.ck n).due = [] →
      (∀ c, s.boundaryAt n = some c → s.ckAuto n c = false) →
      ∃ t, exec (.frameTick n) s = .next t ∧ begun t) ∧
    (s.cycling n = true → p.bdone = true → ∃ t, exec (.stepCycle n {}) s = .next t ∧ begun t ∧ (t.part n).runSteps = p.runSteps ∧
      (t.part n).stallTotal = p.stallTotal) ∧
    (AtCommit s n 15 → p.faultPend = none →
      (p.haltPend.contains .frameLimit = true →
        ∃ t, exec (.frameLimit n) s = .next t ∧ (t.part n).state = .halted ∧ (t.part n).step = 0 ∧
          (t.part n).haltCause = if p.haltPend.contains .safety then some .safety else p.haltPend.head?) ∧
      (p.haltPend.contains .runFrames = true →
        ∃ t, exec (.runFramesExpiry n) s = .next t ∧ (t.part n).state = .halted ∧ (t.part n).step = 0 ∧
          (t.part n).haltCause = if p.haltPend.contains .safety then some .safety else p.haltPend.head?)) ∧
    (AtCommit s n 15 → ∀ f, p.faultPend = some f →
      ∃ t, exec (.abortLimit n) s = .next t ∧ (t.part n).state = .fault ∧ (t.part n).faultCause = f ∧ (t.part n).step = p.step) ∧
    (s.cycling n = true → p.bdone = false → p.limit ≠ 0 → p.limit ≤ p.stallLen → (s.absentAt n).isSome = true →
      ∃ t, exec (.stallLimit n) s = .next t ∧ (t.part n).state = .fault ∧ (t.part n).faultCause = .stallLimit ∧
        (t.part n).faultStall = p.stallCause ∧ (t.part n).faultStep = p.step) ∧
    (s.cycling n = true → p.bdone = false → p.holdReq = false → s.warnDue n = true → (p.limit = 0 ∨ p.stallLen < p.limit) →
      (s.absentAt n).isSome = true →
      ∃ t, exec (.stallLong n) s = .next t ∧ t.fld (Reg.FRM_IRQ_STATUS n) 3 1 = 1 ∧ (t.part n).step = p.step ∧
        (t.part n).stallLen = p.stallLen + 1)

/-- R50, R122, R195, R226: the holds of a frame boundary end with what they wait for: stale reads that have all returned, the
write-back of the vault log, a held-write share with room.  Nothing else changes. -/
def Obligations.BoundaryHoldsEnd : Prop :=
  ∀ (s : State) (n : Fin 8),
    let ends := fun (t : State) (f : BHold → Bool) =>
      t = { s with parts := t.parts } ∧ PartsBut s t n ∧ (t.part n).bholds = (s.part n).bholds.filter (fun h => !f h) ∧
        t.part n = { s.part n with bholds := (t.part n).bholds }
    ((s.part n).reads.any (·.stale) = false →
      ∃ t, exec (.staleReadsReturned n) s = .next t ∧ ends t (fun h => h == .stale)) ∧
    (∃ t, exec (.writebackHoldEnd n) s = .next t ∧ ends t (fun h => match h with | .writeback _ => true | _ => false)) ∧
    (s.sharesFree n = true → ∃ t, exec (.heldShareFreed n) s = .next t ∧ ends t (fun h => h == .share))

/-- R186 to R190: a loan changes hands.  A write to VLT_LOAN of a LENT bank makes the new owner the owner at once and keeps the
old one in PREV_OWNER, in DRAINING with DONE clear; a bank of a partition that is not EMPTY does not move (R188); a write that is
refused sets ERR alone.  An empty queue ends DRAINING, in
SCRUBBING or LENT; at the end of SCRUBBING every word of the bank holds 0, and no other bank has changed. -/
def Obligations.LoanHandover : Prop :=
  ∀ (s : State) (bank : BitVec 10), s.hasBank bank.toNat = true →
    let b := bank.toNat
    let r := loanReg b
    (∀ (owner : BitVec 4) (scrub : Bool), s.loanHeld b = true → s.loanState b = 0 → owner.toNat < 14 →
      exec (.vltLoanWrite bank owner scrub) s = .next s) ∧
    (∀ (owner : BitVec 4) (scrub : Bool), s.loanHeld b = false → s.loanState b = 0 → owner.toNat < 14 →
      (owner.toNat ≠ s.loanOwner b ∨ scrub = true) →
      ∃ t, exec (.vltLoanWrite bank owner scrub) s = .next t ∧ t.loanOwner b = owner.toNat ∧ t.loanState b = 1 ∧
        t.fld r 10 1 = 0 ∧ t.fld r 11 1 = 0 ∧ t.fld r 12 4 = s.loanOwner b ∧ t.vlt.mem = s.vlt.mem ∧
        t = { s with regs := t.regs, vlt := t.vlt } ∧ RegsBut s t [r]) ∧
    (∀ (owner : BitVec 4) (scrub : Bool), s.loanState b ≠ 0 ∨ 14 ≤ owner.toNat →
      ∃ t, exec (.vltLoanWrite bank owner scrub) s = .next t ∧ t.fld r 11 1 = 1 ∧ t.loanOwner b = s.loanOwner b ∧
        t.loanState b = s.loanState b ∧ t.fld r 10 1 = s.fld r 10 1 ∧ t.fld r 12 4 = s.fld r 12 4 ∧
        t = { s with regs := t.regs } ∧ RegsBut s t [r]) ∧
    (s.loanState b = 1 → (∀ q ∈ s.vlt.qNoc, q.bank ≠ b) →
      ∃ t, exec (.loanDrained bank) s = .next t ∧ t.loanOwner b = s.loanOwner b ∧ t.vlt = s.vlt ∧ RegsBut s t [r] ∧
        (s.vlt.scrub.contains b = true → t.loanState b = 2) ∧
        (s.vlt.scrub.contains b = false → t.loanState b = 0 ∧ t.fld r 10 1 = 1)) ∧
    (s.loanState b = 2 →
      ∃ t, exec (.loanScrubDone bank) s = .next t ∧ t.loanState b = 0 ∧ t.fld r 10 1 = 1 ∧ t.loanOwner b = s.loanOwner b ∧
        (∀ w, w < 8192 → t.vword b w = 0) ∧ (∀ b' w, b' ≠ b → w < 8192 → t.vword b' w = s.vword b' w) ∧ RegsBut s t [r])

/-- R183, R184, R198: the patrol changes no stored word; it counts a single-bit error in VLT_CORR of the die and a double-bit error
in VLT_DBE and VLT_LAST_DBE, on a bank that is LENT and with the patrol enabled.  The VAULT_BUSY_N ball is released. -/
def Obligations.PatrolScrubAndBusyBall : Prop :=
  (∀ (s : State) (bank : BitVec 10) (word : BitVec 13) (ecc : Ecc) (meet : Bool), s.hasBank bank.toNat = true →
    ∃ t, exec (.patrolScrub bank word ecc meet) s = .next t ∧ t.vlt.mem = s.vlt.mem ∧ t.parts = s.parts ∧
      ((s.fld Reg.VLT_SCRUB 0 1 = 0 ∨ s.loanState bank.toNat ≠ 0 ∨ meet = true) → t = s) ∧
      (s.fld Reg.VLT_SCRUB 0 1 = 1 → s.loanState bank.toNat = 0 → meet = false → s.isDbe bank.toNat word.toNat = false →
        (ecc = .good → t = s) ∧
        (ecc = .single → (t.reg (Reg.VLT_CORR (bank.toNat / 256))).toNat =
          min (2 ^ 32 - 1) ((s.reg (Reg.VLT_CORR (bank.toNat / 256))).toNat + 1)) ∧
        (ecc = .double → (t.reg (Reg.VLT_DBE (bank.toNat / 256))).toNat =
            min (2 ^ 32 - 1) ((s.reg (Reg.VLT_DBE (bank.toNat / 256))).toNat + 1) ∧
          t.fld Reg.VLT_LAST_DBE 0 10 = bank.toNat ∧ t.fld Reg.VLT_LAST_DBE 10 13 = word.toNat ∧
          t.fld Reg.VLT_LAST_DBE 23 2 = 3 ∧ t.fld Reg.VLT_LAST_DBE 31 1 = 1))) ∧
  (∀ s : State, ∃ t, exec .vaultBusyNRelease s = .next t ∧ t.vlt.busyLow = false ∧
    t = { s with vlt := { s.vlt with busyLow := false, busyLeft := 0 } })

/-- R181, R194, R196, R197, R210: port N serves the oldest request of a bank.  For the bank's owner, with no earlier access and no
error, a read answers the words as the last release left them, and a write with whole words stores the words it enables and no
other; a write to a word with a log entry stores nothing and completes with BUSY, as does a write that meets an earlier access. -/
def Obligations.PortNServesTheOwner : Prop :=
  ∀ (s : State) (bank : BitVec 10) (q : NReq), s.hasBank bank.toNat = true →
    s.vlt.qNoc.find? (fun q => q.bank == bank.toNat) = some q → s.loanState bank.toNat = 0 →
    q.pkt.owner.code = s.loanOwner bank.toNat → s.fenced (s.loanOwner bank.toNat) = false →
    (q.pkt.op = 0 → (∀ i, i < q.count → s.isDbe bank.toNat ((q.word + i) % 8192) = false) →
      ∃ t, exec (.portNAccess bank .none .good) s = .next t ∧ t.vlt.mem = s.vlt.mem ∧ t.regs = s.regs ∧ t.parts = s.parts ∧
        t.vlt.qNoc = s.vlt.qNoc.erase q ∧
        t.noc.pkts = s.noc.pkts ++ [(q.pkt.response 8 0 false (s.readWords bank.toNat q.word q.count)).launch]) ∧
    (q.pkt.op ≠ 0 → q.pkt.derr = false → q.pkt.bmask = 255 → s.writeLogged bank.toNat q.word q.pkt = false →
      q.pkt.data.length ≤ 8192 →
      ∃ t, exec (.portNAccess bank .none .good) s = .next t ∧ t.regs = s.regs ∧ t.parts = s.parts ∧
        t.vlt.qNoc = s.vlt.qNoc.erase q ∧ t.noc.pkts = s.noc.pkts ++ [(q.pkt.response 9 0 false []).launch] ∧
        (∀ k v, q.pkt.data[k]? = some v → bitOf q.pkt.wmask k = true → t.vword bank.toNat ((q.word + k) % 8192) = v) ∧
        (∀ b w, w < 8192 → (b = bank.toNat → ∀ k, k < q.pkt.data.length → bitOf q.pkt.wmask k = true → (q.word + k) % 8192 ≠ w) →
          t.vword b w = s.vword b w)) ∧
    (∀ meet ecc, q.pkt.op ≠ 0 → q.pkt.derr = false → (s.writeLogged bank.toNat q.word q.pkt = true ∨ meet ≠ .none) →
      ∃ t l, exec (.portNAccess bank meet ecc) s = .next t ∧ t.vlt.mem = s.vlt.mem ∧
        t.noc.pkts = l ++ [(q.pkt.response 9 Status.busy.code false []).launch] ∧ (meet ≠ .read → l = s.noc.pkts) ∧
        (t.reg (Reg.VLT_BUSY (bank.toNat / 256))).toNat = min (2 ^ 32 - 1) ((s.reg (Reg.VLT_BUSY (bank.toNat / 256))).toNat + 1))

/-- R10, R12, R13, R191, R194, R196, R199, R200: the peek window.  A low-half read of PF0 or the management port returns the low
half of the word as the last release left it and captures the upper half; a high-half write stores the word whose lower half the
path holds, and no other word; a bank owned by DOC or CUR refuses both with NOT_OWNER, a read of 0 and a write of nothing; the
window does not appear in PF1. -/
def Obligations.PeekWindowAccess : Prop :=
  (∀ (s : State) (path : Path) (addr : Nat), (path = .pf0 ∨ path = .mgmt) → s.isPeek addr = true →
    let b := (addr - 0x2000000) / 65536
    let w := (addr - 0x2000000) % 65536 / 8
    (addr % 8 = 0 → s.peekRefuses b = none → s.isDbe b w = false →
      ∃ t, exec (.peekRead path addr .none .good) s = .next t ∧ t.busOut = BitVec.ofNat 32 (s.vwordN b w).toNat ∧
        t.capt path = BitVec.ofNat 32 ((s.vwordN b w).toNat / 2 ^ 32) ∧ t.vlt.mem = s.vlt.mem ∧ t.regs = s.regs ∧
        t.parts = s.parts) ∧
    (addr % 8 = 4 → s.peekRefuses b = none → s.wordLogged b w = false →
      ∀ hi : Word, ∃ t, exec (.peekWrite path addr hi .none) s = .next t ∧
        t.vword b w = BitVec.ofNat 64 ((s.holdReg path).toNat + hi.toNat * 2 ^ 32) ∧
        (∀ b' w', w' < 8192 → (b' ≠ b ∨ w' ≠ w) → t.vword b' w' = s.vword b' w') ∧ t.regs = s.regs ∧ t.parts = s.parts) ∧
    ((s.loanOwner b = 12 ∨ s.loanOwner b = 13) →
      (addr % 8 = 0 → ∀ meet ecc, ∃ t, exec (.peekRead path addr meet ecc) s = .next t ∧ t.busOut = 0 ∧ t.capt path = 0 ∧
        t.vlt.mem = s.vlt.mem ∧ t.regs = s.regs ∧ bitsAt (if path = .mgmt then t.vlt.peekMgmt else t.vlt.peekPf0) 0 8 = 5) ∧
      (addr % 8 = 4 → ∀ hi meet, ∃ t, exec (.peekWrite path addr hi meet) s = .next t ∧ t.vlt.mem = s.vlt.mem ∧
        t.regs = s.regs ∧ bitsAt (if path = .mgmt then t.vlt.peekMgmt else t.vlt.peekPf0) 0 8 = 5))) ∧
  (∀ (s : State) (n : Fin 8) (addr : Nat) (meet : Meet) (ecc : Ecc) (hi : Word),
    (∃ t, exec (.peekRead (.pf1 n) addr meet ecc) s = .next t ∧ t = { s with busOut := 0 }) ∧
    exec (.peekWrite (.pf1 n) addr hi meet) s = .next s)

/-- R208 to R210, R213, R216: a request packet arrives at its endpoint, leaves the routers and spends its credit.  A bank with room queues
it, a depot port takes it for its map check, a unit endpoint takes a CFG_WRITE or MSG and performs it unless a flit is in error, and
an endpoint that is not listed for the router answers RANGE; a packet with an uncorrectable header is dropped without a response. -/
def Obligations.RequestPacketsAtEndpoints : Prop :=
  ∀ (s : State) (pkt : Pkt), s.hasDie (pkt.dest / 64) = true → classOk pkt.op pkt.cls = true →
    let gone := dropPkt s.noc.pkts pkt
    let b := bankAt pkt.dest pkt.ep
    (s.reaches pkt = true →
      (∀ c : Instr, (pkt.op = 0 ∧ c = .read pkt false) ∨ (pkt.op = 1 ∧ c = .write pkt false) →
        (pkt.ep < 4 → s.portNRefuses b pkt.owner.code (pkt.sep == 14) ((s.creditOf pkt.creditKey).used != 0) = none →
          ∃ t, exec c s = .next t ∧ t.noc.pkts = gone ∧ t.vlt.qNoc = s.vlt.qNoc ++ [⟨b, pkt.addr % 8192, pkt.words, pkt⟩] ∧
            (t.creditOf pkt.creditKey).used = (s.creditOf pkt.creditKey).used - 1 ∧
            t.vlt.mem = s.vlt.mem ∧ t.regs = s.regs ∧ t.parts = s.parts) ∧
        (∀ i, pkt.ep = 8 → s.portAt pkt.dest = some i →
          ∃ t, exec c s = .next t ∧ t.noc.pkts = gone ∧ (t.port i).arrived = (s.port i).arrived ++ [pkt] ∧ t.vlt = s.vlt ∧
            t.regs = s.regs ∧ t.parts = s.parts) ∧
        (4 ≤ pkt.ep → pkt.ep ≠ 8 → unitAt pkt.dest pkt.ep = false →
          ∃ t, exec c s = .next t ∧
            t.noc.pkts = gone ++ [(pkt.response (if pkt.op = 0 then 8 else 9) Status.range.code false []).launch] ∧
            t.vlt = s.vlt ∧ t.dep = s.dep ∧ t.regs = s.regs ∧ t.parts = s.parts)) ∧
      (∀ c : Instr, (pkt.op = 2 ∧ pkt.ep = 5 ∧ c = .cfgWrite ⟨pkt, false⟩) ∨
          (pkt.op = 3 ∧ 4 ≤ pkt.ep ∧ pkt.ep ≠ 8 ∧ unitAt pkt.dest pkt.ep = true ∧ c = .msg ⟨pkt, false⟩) →
        ∃ t, exec c s = .next t ∧ t.noc.msgs = (if pkt.derr then s.noc.msgs else s.noc.msgs ++ [pkt]) ∧
          t.noc.pkts = gone ++ [(pkt.response 9 0 pkt.derr []).launch] ∧ t.vlt = s.vlt ∧ t.regs = s.regs ∧ t.parts = s.parts) ∧
      (∀ c : Instr, (pkt.op = 2 ∧ pkt.ep ≠ 5 ∧ c = .cfgWrite ⟨pkt, false⟩) ∨ (pkt.op = 3 ∧ unitAt pkt.dest pkt.ep = false ∧ c = .msg ⟨pkt, false⟩) →
        ∃ t, exec c s = .next t ∧ t.noc.msgs = s.noc.msgs ∧
          t.noc.pkts = gone ++ [(pkt.response 9 Status.range.code false []).launch] ∧ t.vlt = s.vlt ∧ t.regs = s.regs ∧ t.parts = s.parts)) ∧
    (∀ c : Instr, (pkt.op = 0 ∧ c = .read pkt true) ∨ (pkt.op = 1 ∧ c = .write pkt true) ∨ (pkt.op = 2 ∧ c = .cfgWrite ⟨pkt, true⟩) ∨
        (pkt.op = 3 ∧ c = .msg ⟨pkt, true⟩) →
      ∃ t, exec c s = .next t ∧ t.noc.pkts = gone ∧ t.vlt = s.vlt ∧ t.dep = s.dep ∧ t.regs = s.regs ∧ t.parts = s.parts)

namespace Sys2Proof.Statements

/-- R213 to R215: a unit asks an endpoint for credit.  An interface with a landing entry free reserves it, and the endpoint's credit
unit answers with all the credits asked for, or with none and RETRY when its queue has no room for them or its bank is in handover
or recovers; a CREDIT_REQ with an uncorrectable header is dropped. -/
def CreditRequests : Prop :=
  ∀ (s : State) (src dest : BitVec 8) (sep ep : Fin 16) (ctrl : Bool) (want : Fin 5) (tag : Nat),
    s.hasDie (src.toNat / 64) = true → s.hasDie (dest.toNat / 64) = true →
    let k : CreditKey := ⟨src.toNat, sep.val, dest.toNat, ep.val, ctrl⟩
    s.heldReq 4 k = none → s.freeLanding src.toNat sep = some tag → (∀ a ∈ s.noc.asks, a.key = k → a.refused = false) →
    let fits := want.val ≤ k.capacity - s.queueUsed k - s.creditsOut k ∧ s.grantsNone dest.toNat ep = false
    (∃ (t : State) (p : Pkt), exec (.creditReq src sep dest ep ⟨want, ctrl, false⟩) s = .next t ∧ t = { s with noc := t.noc } ∧
      t.noc.pkts = s.noc.pkts ++ [p.launch] ∧ t.noc.asks = s.noc.asks ++ [⟨k, want, tag, 0, false, none⟩] ∧
      t.noc.credits = s.noc.credits ∧ p.op = 10 ∧ p.cls = 0 ∧ p.dest = src.toNat ∧ p.ep = sep ∧ p.src = dest.toNat ∧ p.sep = ep ∧ p.tag = tag ∧
      (fits → p.addr = want) ∧ (¬ fits → p.addr = 0 ∧ p.status = Status.retry.code)) ∧
    (∃ t, exec (.creditReq src sep dest ep ⟨want, ctrl, true⟩) s = .next t ∧ t = { s with noc := t.noc } ∧ t.noc.pkts = s.noc.pkts)

/-- R211, R213: a CREDIT_REPLY lands.  A grant lands as credits of the interface, and its request leaves with a landing entry, the age
at which its unit first asked counted on, and one of the credits; without credits the unit receives RETRY. -/
def CreditReplies : Prop :=
  ∀ (s : State) (src dest : BitVec 8) (sep ep : Fin 16) (req p : Pkt) (a : Ask),
    s.hasDie (src.toNat / 64) = true → s.hasDie (dest.toNat / 64) = true →
    let k : CreditKey := ⟨src.toNat, sep.val, dest.toNat, ep.val, req.cls == 0⟩
    s.heldReq 10 k = some p → s.askOf src.toNat sep p.tag = some a → a.key = k → a.pkt = none →
    (p.addr = 0 →
      ∃ t, exec (.creditReply src sep dest ep ⟨req, false⟩) s = .next t ∧ t = { s with noc := t.noc } ∧
        t.noc.pkts = dropPkt s.noc.pkts p ∧ t.noc.landed = s.noc.landed ++ [⟨src.toNat, sep, a.tag, Status.retry.code, false, []⟩]) ∧
    (p.addr ≠ 0 →
      let r := { req with src := src.toNat, sep := sep.val, dest := dest.toNat, ep := ep.val, age := a.age }
      ({ s with noc := { s.noc with asks := s.noc.asks.erase a } } : State).mayLeave r = true →
      ∃ t, exec (.creditReply src sep dest ep ⟨req, false⟩) s = .next t ∧ t = { s with noc := t.noc } ∧
        t.noc.pkts = dropPkt s.noc.pkts p ++ [r.launch] ∧ t.noc.asks = s.noc.asks.erase a ∧
        t.noc.landing = s.noc.landing ++ [⟨src.toNat, sep, r.tag, dest.toNat, ep, r.op, req.cls == 0, false⟩] ∧
        (t.creditOf k).free = (s.creditOf k).free + p.addr - 1 ∧ (t.creditOf k).used = (s.creditOf k).used + 1)

/-- R211, R213: unused credits go back, those of requests on their way stay; an age tick ages every packet in the network and every
request that waits for its credit, up to 1,023, and changes nothing else. -/
def CreditsReturnAndAges : Prop :=
  (∀ (s : State) (src dest : BitVec 8) (sep ep : Fin 16) (ctrl : Bool), s.hasDie (src.toNat / 64) = true → s.hasDie (dest.toNat / 64) = true →
    let k : CreditKey := ⟨src.toNat, sep.val, dest.toNat, ep.val, ctrl⟩
    ∃ t, exec (.creditReturn src sep dest (ep, ctrl)) s = .next t ∧ t = { s with noc := { s.noc with credits := t.noc.credits } } ∧
      (t.creditOf k).free = 0 ∧ (t.creditOf k).used = (s.creditOf k).used ∧ ∀ k', k' ≠ k → t.creditOf k' = s.creditOf k') ∧
  (∀ s : State, ∃ t, exec .ageTick s = .next t ∧ t = { s with noc := { s.noc with pkts := t.noc.pkts, asks := t.noc.asks } } ∧
    t.noc.pkts.map (fun f => ({ f with pkt := { f.pkt with age := 0 } } : Flight)) = s.noc.pkts.map (fun f => { f with pkt := { f.pkt with age := 0 } }) ∧
    t.noc.pkts.map (fun f => f.pkt.age) = s.noc.pkts.map (fun f => min 1023 (f.pkt.age + 1)) ∧
    t.noc.asks.map (·.age) = s.noc.asks.map (fun a => min 1023 (a.age + 1)))

/-- R205, R230: with every link in service, a packet that enters a ring goes the shorter way round, and the positive way at half of it:
8 of 16 routers, 4 of the Y ring of 8 routers of KBH-BLH2-D; X comes before Y, and at its destination it goes out. -/
def RoutesTakeTheShorterWay : Prop :=
  ∀ (s : State) (t dest : BitVec 8), (∀ u d, s.linkOpen u d = true) →
    let up := ringUp 16 (nocX t.toNat) (nocX dest.toNat)
    let vp := ringUp s.dimY (nocY t.toNat) (nocY dest.toNat)
    (up ≠ 0 → s.nextDir t.toNat 4 dest.toNat = some (if up ≤ 8 then 0 else 1)) ∧
    (up = 0 → vp ≠ 0 → ∀ input, (input < 2 ∨ input = 4) →
      s.nextDir t.toNat input dest.toNat = some (if vp ≤ s.dimY / 2 then 2 else 3)) ∧
    (up = 0 → vp = 0 → ∀ input, s.nextDir t.toNat input dest.toNat = some 4)

/-- R207: a packet whose way round a ring would use a closed link goes the other way round when that is open, and on its way in a
dimension it keeps its direction. -/
def RoutesAvoidClosedLinks : Prop :=
  (∀ (s : State) (t dim size up : Nat), dim < 2 →
    let short := if up ≤ size - up then (2 * dim, up) else (2 * dim + 1, size - up)
    let long := if up ≤ size - up then (2 * dim + 1, size - up) else (2 * dim, up)
    (s.wayOpen short.1 short.2 t = false → s.wayOpen long.1 long.2 t = true → s.ringWay t dim size up = some long.1) ∧
    (s.wayOpen short.1 short.2 t = true → s.ringWay t dim size up = some short.1)) ∧
  (∀ (s : State) (t input dest : Nat), input < 2 → ringUp 16 (nocX t) (nocX dest) ≠ 0 → s.nextDir t input dest = some (opposite input))

/-- R206, R212: what the model's NoC cycle lets cross.  Of the flits that want one output of a router, the one served belongs to a packet
of the highest urgency, and among those of the highest age; a cycle neither makes nor loses a packet. -/
def ArbitersServeUrgencyThenAge : Prop :=
  (∀ (s : State) (a : Want) (f g : Flight) (b : Want), a ∈ s.served → s.noc.pkts[a.idx]? = some f → s.noc.pkts[b.idx]? = some g →
    b ∈ s.wants b.idx g → b.link = a.link →
    s.urgency g.pkt ≤ s.urgency f.pkt ∧ (s.urgency g.pkt = s.urgency f.pkt → g.pkt.age ≤ f.pkt.age)) ∧
  (∀ s : State, s.nocCycle.noc.pkts.map (·.pkt) = s.noc.pkts.map (·.pkt) ∧ s.nocCycle = { s with noc := s.nocCycle.noc })

end Sys2Proof.Statements

/-- R211 to R215: credits, ages and arbiters.  A unit's CREDIT_REQ is answered with all the credits asked for or with RETRY; a grant lands
as credits and its request leaves with a landing entry, the age since it first asked and one of the credits; unused credits go back; an
age tick ages every packet in the network and every request that waits for its credit, up to 1,023; of the flits that want one output
of a router, the one served belongs to a packet of the highest urgency, and among those of the highest age. -/
def Obligations.CreditsAndAges : Prop := CreditRequests ∧ CreditReplies ∧ CreditsReturnAndAges ∧ ArbitersServeUrgencyThenAge

/-- R213 to R217, R122: responses.  READ_DATA of a depot-backed read reaches the read that waits for it in its tile, or is dropped
when that read is stale; any other READ_DATA or WRITE_DONE lands where a landing entry waits and is discarded where none does; a
timeout lands DERR, BUSY and zero data and frees the entry. -/
def Obligations.ResponsesLand : Prop :=
  ∀ s : State,
    (∀ pkt : Pkt, s.hasDie (pkt.dest / 64) = true → pkt.cls = 2 → s.reaches pkt = true →
      let waits := s.noc.landing.any fun l => l.src == pkt.dest && l.sep == pkt.ep && l.tag == pkt.tag
      (∀ c : Instr, (pkt.op = 8 ∧ pkt.ep ≠ 4 ∧ c = .readData pkt false) ∨ (pkt.op = 9 ∧ c = .writeDone pkt false) →
        ∃ t, exec c s = .next t ∧ t = { s with noc := t.noc } ∧ t.noc.pkts = dropPkt s.noc.pkts pkt ∧
          (waits = true → t.noc.landed = s.noc.landed ++ [⟨pkt.dest, pkt.ep, pkt.tag, pkt.status, pkt.derr, pkt.data⟩] ∧
            ∀ l ∈ t.noc.landing, ¬ (l.src = pkt.dest ∧ l.sep = pkt.ep ∧ l.tag = pkt.tag)) ∧
          (waits = false → t.noc.landed = s.noc.landed ∧ t.noc.landing = s.noc.landing)) ∧
      (pkt.op = 8 → pkt.ep = 4 → ∀ n r, s.readOf pkt.dest pkt.tag = some (n, r) → r.stale = true →
        ∃ t, exec (.readData pkt false) s = .next t ∧ PartsBut s t n ∧ (t.part n).reads = (s.part n).reads.erase r ∧
          (t.part n).img = (s.part n).img ∧ t.noc.pkts = dropPkt s.noc.pkts pkt)) ∧
    (∀ (src : BitVec 8) (sep : Fin 16) (tag : BitVec 8) (l : Landing), s.hasDie (src.toNat / 64) = true → sep ≠ 4 →
      s.noc.landing.find? (fun l => l.src == src.toNat && l.sep == sep.val && l.tag == tag.toNat) = some l →
      ∃ t, exec (.nocTimeout src sep tag) s = .next t ∧ t.parts = s.parts ∧ t.vlt = s.vlt ∧
        t.noc.landed = s.noc.landed ++ [⟨src.toNat, sep, tag.toNat, Status.busy.code, true, [0]⟩] ∧
        ∀ x ∈ t.noc.landing, ¬ (x.src = src.toNat ∧ x.sep = sep.val ∧ x.tag = tag.toNat))

/-- R205, R207, R228, R230, R346, R351: routes, links and routers.  A packet goes X first, then Y, the shorter way round each ring, the
positive way at half of it, and the other way round when that would use a closed link; a link out of service is shown so at both its
routers; a router of whose two links in one ring both have failed is fenced and its tile withdrawn. -/
def Obligations.LinksAndRoutersOutOfService : Prop :=
  RoutesTakeTheShorterWay ∧ RoutesAvoidClosedLinks ∧
  ∀ (s : State) (tile : BitVec 8) (dir : Fin 4), s.hasDie (tile.toNat / 64) = true → s.hasDie (s.neighbour tile.toNat dir / 64) = true →
    let u := s.neighbour tile.toNat dir
    (s.fld (Reg.NOC_LINKS tile.toNat) dir 1 = 1 →
      ∃ t, exec (.linkOutOfService tile dir) s = .next t ∧ t.fld (Reg.NOC_LINKS tile.toNat) dir 1 = 0 ∧
        t.fld (Reg.NOC_LINKS u) (opposite dir) 1 = 0 ∧ t = { s with regs := t.regs, spr := t.spr } ∧
        RegsBut s t [Reg.NOC_LINKS tile.toNat, Reg.NOC_LINKS u, Reg.SPR_STATUS]) ∧
    (s.fld (Reg.NOC_LINKS tile.toNat) 4 1 = 1 → s.fld (Reg.NOC_LINKS tile.toNat) (opposite dir) 1 = 0 →
      ∃ t, exec (.routerFence tile dir) s = .next t ∧ t.fld (Reg.NOC_LINKS tile.toNat) 4 1 = 0 ∧
        t.fld (Reg.NOC_LINKS tile.toNat) dir 1 = 0 ∧ t.fld (Reg.SPR_TILE tile.toNat) 6 1 = 1 ∧ t.pending = s.pending)

/-- R223, R229: a depot port attaches: from LANES, once its quad's four lanes are in service, to ATTACHING; 16 ECHOs record the
smallest round trip less the node's turnaround; INFO records T_node and the capacity and makes it UP; without INFO it enters FAULT
with nothing outstanding. -/
def Obligations.DepotPortAttach : Prop :=
  ∀ (s : State) (i : Fin 8), s.hasPort i = true →
    (s.portState i = 1 → s.fld (Reg.LANE_QUAD (s.fld (Reg.DEP_PORT_STATE i) 8 5)) 10 4 = 15 →
      ∃ t, exec (.depotAttach i) s = .next t ∧ t.portState i = 2 ∧ (t.port i).echoes = 0 ∧
        t = { s with regs := t.regs, dep := t.dep } ∧ RegsBut s t [Reg.DEP_PORT_STATE i]) ∧
    (∀ rtt turn, s.portState i = 2 → (s.port i).echoes < 16 →
      ∃ t, exec (.depotEchoReply i rtt turn) s = .next t ∧ (t.port i).echoes = (s.port i).echoes + 1 ∧
        (t.port i).bestRtt = min (s.port i).bestRtt (rtt - turn) ∧
        ((s.port i).echoes = 15 → t.fld (Reg.DEP_PORT_RTT i) 0 16 = min (s.port i).bestRtt (rtt - turn) % 2 ^ 16) ∧
        t = { s with regs := t.regs, dep := t.dep } ∧ RegsBut s t [Reg.DEP_PORT_RTT i]) ∧
    (∀ (tNode : BitVec 16) (gib : BitVec 24), s.portState i = 2 → (s.port i).echoes = 16 →
      ∃ t, exec (.depotInfo i tNode gib) s = .next t ∧ t.portState i = 3 ∧ t.fld (Reg.DEP_NODE i) 0 16 = tNode.toNat ∧
        t.fld (Reg.DEP_NODE_CAP i) 0 24 = gib.toNat ∧ t.port i = { s.port i with probe := none } ∧ (∀ j, j ≠ i → t.port j = s.port j) ∧
        t.dep.map = s.dep.map ∧ t.parts = s.parts) ∧
    (s.portState i = 2 → (s.port i).echoes = 16 →
      ∃ t, exec (.depotInfoTimeout i) s = .next t ∧ t.portState i = 4 ∧ (t.port i).outst = [] ∧ (t.port i).queue = [] ∧
        t.parts = s.parts)

/-- R220, R222 to R225: traffic of a depot port.  The oldest request that fails the map check answers its status and reaches no
node; a read of words without a held write is sent to the node at the address of R219; READ_DATA completes the outstanding read,
with DERR on a bad status, and WRITE_ACK frees the held write it was sent for; the oldest waiting request is sent when a slot is
free; a granule copy that completes joins the undo area. -/
def Obligations.DepotPortTraffic : Prop :=
  ∀ (s : State) (i : Fin 8), s.hasPort i = true →
    (∀ p r, (s.port i).arrived = p :: r → s.segFenced p = false →
      (s.depotCheck p.owner p.addr (p.op == 1) ≠ .ok →
        ∃ t, exec (.depotRequest i) s = .next t ∧ (t.port i).arrived = r ∧ (t.port i).outst = (s.port i).outst ∧
          (t.port i).queue = (s.port i).queue ∧ (t.port i).held = (s.port i).held ∧
          t.noc.pkts = s.noc.pkts ++ [(p.response (if p.op = 0 then 8 else 9) (s.depotCheck p.owner p.addr (p.op == 1)).code false []).launch]) ∧
      (s.depotCheck p.owner p.addr (p.op == 1) = .ok → p.op = 0 → (s.port i).held = [] → (s.port i).queue = [] →
        (s.port i).outst.length < 1024 →
        ∃ t q, exec (.depotRequest i) s = .next t ∧ (t.port i).arrived = r ∧ (t.port i).outst = (s.port i).outst ++ [q] ∧
          (∀ o ∈ (s.port i).outst, o.msg.tag ≠ q.msg.tag) ∧ q.msg.type = 1 ∧ q.msg.nodeAddr = s.nodeOf p.addr / 32 * 32 ∧
          q.msg.len + 1 = max 1 ((p.words + 3) / 4) ∧ q.pkt = some p ∧ t.noc = s.noc ∧ t.parts = s.parts)) ∧
    (∀ (tag : Nat) (status : Fin 3) (data : List DWord) (r : DReq) (p : Pkt),
      (s.port i).outst.find? (fun r => r.msg.tag == tag && r.msg.type == 1) = some r → r.pkt = some p → p.op = 0 →
      ∃ t, exec (.depotReadData i tag status data) s = .next t ∧ (t.port i).outst = (s.port i).outst.erase r ∧
        t.noc.pkts = s.noc.pkts ++ [(p.response 8 0 (status.val != 0) (r.words p data)).launch] ∧
        t.parts = s.parts) ∧
    (∀ (tag : Nat) (status : Fin 3) (r : DReq) (e : Nat × Nat × Nat),
      (s.port i).outst.find? (fun r => r.msg.tag == tag && r.msg.type == 2) = some r → r.pkt = none → r.entry = some e →
      ∃ t, exec (.depotWriteAck i tag status) s = .next t ∧ (t.port i).outst = (s.port i).outst.erase r ∧
        (t.port i).held = (s.port i).held.eraseP (fun h => h.sent && h.part == e.1 && h.frame == e.2.1 && h.addr == e.2.2) ∧
        t.noc = s.noc ∧ t.parts = s.parts) ∧
    (∀ r q, (s.port i).queue = r :: q → (s.port i).outst.length < 1024 →
      ∃ t x, exec (.depotQueueSend i) s = .next t ∧ (t.port i).outst = (s.port i).outst ++ [x] ∧
        x = { r with msg := { r.msg with tag := x.msg.tag } } ∧ (∀ o ∈ (s.port i).outst, o.msg.tag ≠ x.msg.tag) ∧ (t.port i).queue = q ∧
        t = { s with dep := t.dep }) ∧
    (∀ (n : Fin 8) (g : BitVec 30), (s.ck n).undoRun.contains g.toNat = true → (s.ck n).busy = none →
      (∀ l, (s.ck n).latest = some l → l.granules.length + 1 ≤ s.undoRoom n) →
      ∃ t, exec (.undoCopyDone n g) s = .next t ∧ (t.ck n).undoRun.contains g.toNat = false ∧
        (∀ l, (s.ck n).latest = some l → ∃ l', (t.ck n).latest = some l' ∧ l'.granules.contains g.toNat = true) ∧ t.parts = s.parts)

namespace Sys2Proof.Statements

/-- The commands by which a sequenced flit arrives on lane i of link k (R235, R234), by its CRC and SEQ. -/
def Sequenced (k : Fin 24) (i : Fin 4) (c : Bool → BitVec 12 → Instr) : Prop :=
  (∃ ch f e, c = fun ok q => .token k i ok q ch f e) ∨ (∃ ch f e es, c = fun ok q => .vote k i ok q ch f e es) ∨
  (∃ ws m ch f e, c = fun ok q => .xchgFlit k i ok q ws m ch f e) ∨ (∃ src m x tm, c = fun ok q => .xtrig k i ok q src m x tm)

/-- Lane i of link k is up, and the part carries the link. -/
def LaneUp (s : State) (k : Fin 24) (i : Fin 4) : Prop := k.val < s.nLinks ∧ s.laneUp k i = true

/-- Every lane stream but that of lane i of link k is the same in t as in s. -/
def StreamsBut (s t : State) (k : Fin 24) (i : Fin 4) : Prop := ∀ k' i', (k', i') ≠ (k, i) → t.stream k' i' = s.stream k' i'

/-- Lane i is the first up lane of link k. -/
def FirstUp (s : State) (k : Fin 24) (i : Fin 4) : Prop := s.laneUp k i = true ∧ ∀ j, j < i → s.laneUp k j = false

end Sys2Proof.Statements

/-- R237, the receiver: a flit in sequence with a good CRC is accepted, the expected value rises by one modulo 4,096, an outstanding
NAK is cleared, and the eighth flit accepted is acknowledged; any other is discarded with a NAK of the expected value unless one
is outstanding, and a bad CRC is counted in LNK_CRC_k.  On a lane that is not up nothing arrives. -/
def Obligations.FlitsAreReceivedInSequence : Prop :=
  ∀ (s : State) (k : Fin 24) (i : Fin 4) (c : Bool → BitVec 12 → Instr), k.val < s.nLinks → Sequenced k i c →
    let x := s.stream k i
    (s.laneUp k i = false → ∀ ok q, exec (c ok q) s = .next s) ∧
    (s.laneUp k i = true → ∀ q : BitVec 12, q.toNat = x.rxSeq →
      ∃ t, exec (c true q) s = .next t ∧ (t.stream k i).rxSeq = (x.rxSeq + 1) % 4096 ∧ (t.stream k i).nakOut = false ∧
        (t.stream k i).sinceAck = (if x.sinceAck + 1 = 8 then 0 else x.sinceAck + 1) ∧
        (t.stream k i).ctl = (if x.sinceAck + 1 = 8 then x.ctl ++ [.ack ((x.rxSeq + 1) % 4096)] else x.ctl) ∧
        t.reg (Reg.LNK_CRC k) = s.reg (Reg.LNK_CRC k)) ∧
    (s.laneUp k i = true → ∀ ok (q : BitVec 12), ¬ (ok = true ∧ q.toNat = x.rxSeq) →
      ∃ t, exec (c ok q) s = .next t ∧ t = { s with regs := t.regs, lnk := t.lnk } ∧
        t.stream k i = (if x.nakOut then x else { x with nakOut := true, ctl := x.ctl ++ [.nak x.rxSeq] }) ∧
        StreamsBut s t k i ∧ RegsBut s t [Reg.LNK_CRC k] ∧
        (t.reg (Reg.LNK_CRC k)).toNat =
          if ok then (s.reg (Reg.LNK_CRC k)).toNat else min (2 ^ 32 - 1) ((s.reg (Reg.LNK_CRC k)).toNat + 1))

/-- R127, R234, R239, R240, R243, R248: an accepted flit.  One whose CHAN is not mapped on its link, or whose epoch is neither the
partition's nor the next, is discarded and counted in LNK_DROP_k; one of the next epoch is held aside; a token is held by link and
frame, a vote's new entries are held, and an exchange word is held for every slot that accepts it.  A cross-trigger newer than the
last of its source is taken, and any other is dropped. -/
def Obligations.ChannelFlitsAreTaken : Prop :=
  ∀ (s : State) (k : Fin 24) (i : Fin 4) (q : BitVec 12), LaneUp s k i → q.toNat = (s.stream k i).rxSeq →
    (∀ (ch : Fin 8) (f : BitVec 48) (lo : Byte) (e : Fin 16) (es : List VoteE) (ws : List DWord) (m : BitVec 24) (c : Instr) (b : FlitBody),
      (c = .token k i true q ch f e ∧ b = .token ch f.toNat e) ∨
        (c = .vote k i true q ch f e es ∧ b = .vote ch f.toNat e (es.take 11)) ∨
        (c = .xchgFlit k i true q ws m ch lo e ∧ b = .xchg (ws.take 3) m.toNat ch lo.toNat e) →
      ((s.chanPart k ch = none ∨
          ∃ n, s.chanPart k ch = some n ∧ e.val ≠ (s.mach n).epoch ∧ e.val ≠ ((s.mach n).epoch + 1) % 16) →
        ∃ t, exec c s = .next t ∧ t = { s with regs := t.regs, lnk := t.lnk } ∧ t.lnk.machs = s.lnk.machs ∧ RegsBut s t [Reg.LNK_DROP k] ∧
          (t.reg (Reg.LNK_DROP k)).toNat = min (2 ^ 32 - 1) ((s.reg (Reg.LNK_DROP k)).toNat + 1)) ∧
      (∀ n, s.chanPart k ch = some n → e.val ≠ (s.mach n).epoch → e.val = ((s.mach n).epoch + 1) % 16 →
        ∃ t, exec c s = .next t ∧ t = { s with lnk := t.lnk } ∧
          t.mach n = { s.mach n with aside := (s.mach n).aside ++ [(k.val, b)] })) ∧
    (∀ (ch : Fin 8) (f : BitVec 48) (e : Fin 16) n, s.chanPart k ch = some n → e.val = (s.mach n).epoch →
      ∃ t, exec (.token k i true q ch f e) s = .next t ∧ t = { s with lnk := t.lnk } ∧
        t.mach n = { s.mach n with tokens := (s.mach n).tokens ++ [(k.val, f.toNat)] }) ∧
    (∀ (ch : Fin 8) (f : BitVec 48) (e : Fin 16) (es : List VoteE) n, s.chanPart k ch = some n → e.val = (s.mach n).epoch →
      ∃ t, exec (.vote k i true q ch f e es) s = .next t ∧ t = { s with lnk := t.lnk } ∧
        t.mach n = { s.mach n with votes := (s.mach n).votes ++
          ((es.take 11).filter fun v => !((s.mach n).votes.any fun y => y.1 == f.toNat && y.2.dev == v.dev)).map fun v => (f.toNat, v) }) ∧
    (∀ (w : DWord) (m : BitVec 24) (ch : Fin 8) (lo : Byte) (e : Fin 16) n, s.chanPart k ch = some n → e.val = (s.mach n).epoch →
      (s.part n).eph.accepting k m.toNat ≠ [] →
      ∃ t, exec (.xchgFlit k i true q [w] m ch lo e) s = .next t ∧ PartsBut s t n ∧ t.regs = s.regs ∧ (t.part n).img = (s.part n).img ∧
        ∀ x ∈ (s.part n).eph.accepting k m.toNat,
          (⟨x.tile * 16 + x.cluster, x.slot, fullFrame (s.shownFrame n) lo.toNat, e, w⟩ : XHeld) ∈ (t.part n).xheld) ∧
    (∀ (src : Byte) (m x : BitVec 16) (tm : DWord),
      let last := (s.lnk.xlast.find? fun y => y.1 == src.toNat).map (·.2)
      (xseqNewer last x.toNat = true →
        ∃ t, exec (.xtrig k i true q src m x tm) s = .next t ∧
          (t.lnk.xlast.find? fun y => y.1 == src.toNat).map (·.2) = some x.toNat ∧
          ∀ n, (vget t.plt.caps n).xtrig = (vget s.plt.caps n).xtrig ||| m.toNat) ∧
      (xseqNewer last x.toNat = false →
        ∃ t, exec (.xtrig k i true q src m x tm) s = .next t ∧ t = { s with lnk := t.lnk } ∧ t.lnk.xlast = s.lnk.xlast))

/-- R237, the sender: ACK(e) frees the flits before e; NAK(e) frees them and sends the rest again; a timeout with flits held sends
all again; a resend is counted in LNK_REPLAY_k, and the eighth in a row without progress begins a new count with the buffer kept.
The acknowledgement that is due after 32 ns names the SEQ expected. -/
def Obligations.SenderOfALane : Prop :=
  ∀ (s : State) (k : Fin 24) (i : Fin 4), LaneUp s k i →
    let x := s.stream k i
    let once := min (2 ^ 32 - 1) ((s.reg (Reg.LNK_REPLAY k)).toNat + 1)
    (∀ (e : BitVec 12) (ns : BitVec 16),
      ∃ t, exec (.ack k i true e ns) s = .next t ∧ t = { s with regs := t.regs, lnk := t.lnk } ∧ StreamsBut s t k i ∧
        (t.stream k i).replay = x.replay.drop (freedBy x e.toNat) ∧ (t.stream k i).sent = x.sent - freedBy x e.toNat ∧
        (t.stream k i).txSeq = x.txSeq ∧ (t.stream k i).queue = x.queue ∧
        t.fld (Reg.LNK_RTT k) 0 16 = ns.toNat ∧ RegsBut s t [Reg.LNK_RTT k]) ∧
    (∀ e : BitVec 12, x.resends ≠ 7 ∨ freedBy x e.toNat ≠ 0 →
      ∃ t, exec (.nak k i true e) s = .next t ∧ t = { s with regs := t.regs, lnk := t.lnk } ∧ StreamsBut s t k i ∧
        (t.stream k i).replay = x.replay.drop (freedBy x e.toNat) ∧
        (t.stream k i).sent = 0 ∧ (t.stream k i).resends = (if freedBy x e.toNat = 0 then x.resends else 0) + 1 ∧
        (t.reg (Reg.LNK_REPLAY k)).toNat = once ∧ RegsBut s t [Reg.LNK_REPLAY k]) ∧
    (x.replay ≠ [] → x.resends ≠ 7 →
      ∃ t, exec (.replayTimeout k i) s = .next t ∧ t = { s with regs := t.regs, lnk := t.lnk } ∧ StreamsBut s t k i ∧
        t.stream k i = { x with sent := 0, resends := x.resends + 1 } ∧ (t.reg (Reg.LNK_REPLAY k)).toNat = once ∧
        RegsBut s t [Reg.LNK_REPLAY k]) ∧
    (x.replay ≠ [] → x.resends = 7 →
      ∃ t, exec (.replayTimeout k i) s = .next t ∧ t.stream k i = { x with sent := 0, resends := 0 } ∧
        (t.reg (Reg.LNK_REPLAY k)).toNat = once ∧ t.parts = s.parts) ∧
    (x.replay = [] → exec (.replayTimeout k i) s = .next s) ∧
    (x.sinceAck ≠ 0 → ∃ t, exec (.ackTimer k i) s = .next t ∧ t = { s with lnk := t.lnk } ∧ StreamsBut s t k i ∧
      t.stream k i = { x with sinceAck := 0, ctl := x.ctl ++ [.ack x.rxSeq] })

/-- R249, R250, R252: SYNC is sent on the first up lane of the upstream link by a device with EN that is not the time master, and a
device answers SYNC on every link.  An offset that is the first, or beyond 1 µs, sets the timebase; any other leaves it to be
slewed; LOCKED follows 16 offsets within 2 ns, and LNK_TIME_STATUS shows the offset in eighths of a nanosecond. -/
def Obligations.TimebaseFollowsUpstream : Prop :=
  ∀ (s : State) (k : Fin 24),
    (s.upstream = none → exec .syncSend s = .next s) ∧
    (∀ i, s.upstream = some k → FirstUp s k i →
      ∃ t, exec .syncSend s = .next t ∧ t = { s with lnk := t.lnk } ∧ StreamsBut s t k i ∧
        t.stream k i = (s.stream k i).say (.sync s.lnk.timebase)) ∧
    (∀ i (lo hi : Word), LaneUp s k i →
      ∃ t, exec (.sync k i true lo hi) s = .next t ∧ t = { s with lnk := t.lnk } ∧ StreamsBut s t k i ∧
        t.stream k i = (s.stream k i).say (.syncReply (lo.toNat + hi.toNat * 2 ^ 32) s.lnk.timebase s.lnk.timebase)) ∧
    (k.val < s.nLinks → s.upstream = some k → ∀ t1 t2 t3 : DWord,
      let off := syncOffset t1.toNat t2.toNat t3.toNat s.lnk.timebase
      ∃ t, exec (.syncReply k true t1 t2 t3) s = .next t ∧ t = { s with regs := t.regs, lnk := t.lnk } ∧
        RegsBut s t [Reg.LNK_RTT k, Reg.LNK_TIME_STATUS] ∧ t.fld Reg.LNK_TIME_STATUS 0 16 = sat16 off ∧
        (s.lnk.first = true ∨ 8000 < off ∨ off < -8000 →
          t.lnk.timebase = ((s.lnk.timebase : Int) + off / 8).toNat % 2 ^ 64 ∧ t.fld Reg.LNK_TIME_STATUS 16 1 = 0 ∧
            t.fld Reg.LNK_TIME_STATUS 17 1 = 1 ∧ t.lnk.first = false) ∧
        (s.lnk.first = false → -8000 ≤ off → off ≤ 8000 →
          t.lnk.timebase = s.lnk.timebase ∧ t.lnk.slew = off / 8 ∧
            (s.lnk.good = 15 → -16 ≤ off → off ≤ 16 → t.fld Reg.LNK_TIME_STATUS 16 1 = 1)))

/-- R238: INIT.  A link holds the last INIT of each machine, a ninth machine replacing the oldest; an arming partition whose INIT
arrives is armed at its start frame with the partner's CHAN in LNK_MAP when the two agree, and gives up its arm when they differ;
INIT is repeated on the links from which none has arrived; at the timeout the arm ends and nothing else has changed. -/
def Obligations.InitsBindAMachine : Prop :=
  ∀ (s : State) (n : Fin 8),
    (∀ (k : Fin 24) (i : Fin 4) (m : InitMsg), LaneUp s k i →
      (s.armingOn k m.machineId = [] →
        ∃ t, exec (.init k i true m) s = .next t ∧ t = s.setLink k (t.link k) ∧ (t.link k).streams = (s.link k).streams ∧
          (t.link k).initFor m.machineId = some m ∧
          ((s.link k).inits.length < 8 → ∀ d, d ≠ m.machineId → (t.link k).initFor d = (s.link k).initFor d)) ∧
      (∀ a, s.armingOn k m.machineId = [n] → (s.mach n).arming = some a → (s.part n).linksOf = [k] → (∀ l ∈ (s.part n).eph.links, l.link < 24) → a.lost = false →
        s.linkState k = 2 →
        (m.fits (s.part n).eph a.start = true →
          ∃ t, exec (.init k i true m) s = .next t ∧ (t.part n).state = .armed ∧ (t.part n).frame = a.start ∧
            t.fld (Reg.LNK_MAP k) (4 * (m.chan % 8)) 4 = 8 + n.val ∧ (t.mach n).epoch = 0 ∧ (t.mach n).arming = none) ∧
        (m.fits (s.part n).eph a.start = false →
          ∃ t, exec (.init k i true m) s = .next t ∧ t.parts = s.parts ∧ (t.mach n).arming = none ∧
            t.reg (Reg.LNK_MAP k) = s.reg (Reg.LNK_MAP k))) ∧
      exec (.init k i false m) s = .next s) ∧
    ((s.mach n).arming = none → exec (.initRepeat n) s = .next s ∧ exec (.armTimeout n) s = .next s) ∧
    (∀ a, (s.mach n).arming = some a →
      ((s.part n).linksOf.Nodup → ∃ t, exec (.initRepeat n) s = .next t ∧ t = { s with lnk := t.lnk } ∧
        (∀ k i, k ∈ (s.part n).linksOf → FirstUp s k i →
          t.stream k i = if (s.link k).initFor (s.part n).eph.machineId = none
            then (s.stream k i).say (.init (s.initOf n a.start)) else s.stream k i)) ∧
      (∃ t, exec (.armTimeout n) s = .next t ∧ t.parts = s.parts ∧ t.vlt = s.vlt ∧ t.lnk.links = s.lnk.links ∧
        t.mach n = { s.mach n with arming := none }))

/-- R266, R267, R272: the receiver's states.  Signal leads from SEEK to LOCK, lock to ADAPT, adaptation to ALIGN with a cleared
position and result (in far-end loopback ADAPT is the last state); the timeouts of LOCK, ADAPT and ALIGN and a loss of signal in
UP lead back to SEEK, counted as the state says, with LOS set, ABSENT clear and the lane out of service; a state's event does nothing in
another state; 1 ms of quiet ends with the transmitter active, its pads still quiet in a near-end loopback. -/
def Obligations.ReceiverStatesOfALane : Prop :=
  ∀ (s : State) (l : BitVec 7), s.hasLane l.toNat = true →
    let r := s.rx l.toNat
    let st := Reg.LANE_STATE l.toNat
    let ev := Reg.LANE_EVENTS l.toNat
    let seeks := fun (t : State) => t.rx l.toNat = 1 ∧ t.fld st 4 1 = 1 ∧ t.fld st 5 1 = 0 ∧ (l.toNat < 96 → t.fld st 6 1 = 0) ∧
      t = { s with regs := t.regs, lan := t.lan, lnk := t.lnk }
    (∃ t, exec (.signalDetect l) s = .next t ∧ t = { s with regs := t.regs } ∧ RegsBut s t [st] ∧ t.fld st 4 1 = 0 ∧
      t.rx l.toNat = if r = 1 then 2 else r) ∧
    (∃ t, exec (.lockAcquired l) s = .next t ∧ t = { s with regs := t.regs } ∧ RegsBut s t [st] ∧
      t.rx l.toNat = if r = 2 then 3 else r) ∧
    (∀ (ctle : Fin 19) (b : Fin 144), (r ≠ 3 → exec (.adaptDone l (ctle, b)) s = .next s) ∧
      (r = 3 → ∃ t, exec (.adaptDone l (ctle, b)) s = .next t ∧ t = { s with regs := t.regs, lan := t.lan } ∧ t.fld st 24 5 = ctle.val ∧
        RegsBut s t [st, Reg.LANE_ALIGN_STAT l.toNat] ∧
        (s.loopback l.toNat ≠ 3 → t.rx l.toNat = 4 ∧ t.fld (Reg.LANE_ALIGN_STAT l.toNat) 0 10 = 0) ∧
        (s.loopback l.toNat = 3 → t.rx l.toNat = 3))) ∧
    (r = 2 → ∃ t, exec (.lockTimeout l) s = .next t ∧ seeks t ∧ t.fld ev 0 8 = min 255 (s.fld ev 0 8 + 1)) ∧
    (r = 3 → ∃ t, exec (.adaptTimeout l) s = .next t ∧ seeks t ∧ t.reg ev = s.reg ev) ∧
    (r = 4 → ∃ t, exec (.alignTimeout l) s = .next t ∧ seeks t ∧ t.fld ev 8 8 = min 255 (s.fld ev 8 8 + 1)) ∧
    (r = 5 → ∃ t, exec (.los l) s = .next t ∧ seeks t ∧ t.fld st 4 1 = 1 ∧ t.fld ev 16 8 = min 255 (s.fld ev 16 8 + 1)) ∧
    (r ≠ 2 → exec (.lockTimeout l) s = .next s) ∧ (r ≠ 3 → exec (.adaptTimeout l) s = .next s) ∧
    (r ≠ 4 → exec (.alignTimeout l) s = .next s) ∧
    (r ≠ 5 → ∃ t, exec (.los l) s = .next t ∧ t = { s with regs := t.regs } ∧ RegsBut s t [st] ∧ t.fld st 4 1 = 1 ∧ t.rx l.toNat = r) ∧
    (∃ t, exec (.absent l) s = .next t ∧ t = { s with regs := t.regs } ∧ RegsBut s t [st] ∧
      t.fld st 5 1 = if r = 1 then 1 else s.fld st 5 1) ∧
    (∃ t, exec (.quietEnd l) s = .next t ∧ t = { s with regs := t.regs, lan := t.lan } ∧ RegsBut s t [st] ∧
      (t.sender l.toNat).on = (s.mayTalk l.toNat || (s.sender l.toNat).on) ∧
      t.fld st 3 1 = if s.mayTalk l.toNat && !s.hearsSelf l.toNat then 0 else s.fld st 3 1)

/-- R267, R269, R271, R277: the alignment controls and retrain, as firmware or a host on a MANUAL quad writes them: a slip moves the
boundary modulo 144 in ALIGN only and is ignored above 143; ACCEPT makes RESULT pending, and then accepted with the receiver UP, or
refused in ALIGN; a capture clears VALID and its bits are readable with VALID set; RETRAIN applies the settings of LANE_CFG, quiets
the transmitter and sends the receiver to SEEK.  A host write to another lane changes no lane register and is logged; PF1 has none. -/
def Obligations.AlignmentControls : Prop :=
  ∀ (s : State) (l : BitVec 7), s.hasLane l.toNat = true →
    let r := s.rx l.toNat
    let al := Reg.LANE_ALIGN_STAT l.toNat
    let pos := fun (k : Byte) => if k.toNat ≤ 143 then (s.fld al 0 8 + k.toNat) % 144 else s.fld al 0 8
    (∀ src, (src = none ∨ ((src = some .pf0 ∨ src = some .mgmt) ∧ s.quadManual (quadOf l.toNat) = true)) →
      (∃ t, exec (.laneCapture src l) s = .next t ∧ t.reg Reg.LANE_CAPT_SEL = BitVec.ofNat 32 l.toNat ∧ t.lan.capt = true ∧
        RegsBut s t [Reg.LANE_CAPT_SEL]) ∧
      (∀ k, r = 4 → ∃ t, exec (.laneSlip src l k) s = .next t ∧ t = { s with regs := t.regs } ∧ RegsBut s t [al] ∧
        t.fld al 0 8 = pos k ∧ t.fld al 8 2 = s.fld al 8 2) ∧
      (∀ k, r = 4 → ∃ t, exec (.laneAccept src l k) s = .next t ∧ t = { s with regs := t.regs, lan := t.lan } ∧ RegsBut s t [al] ∧
        t.fld al 0 8 = pos k ∧ t.fld al 8 2 = 1) ∧
      (∀ k, r ≠ 4 → exec (.laneSlip src l k) s = .next s ∧ exec (.laneAccept src l k) s = .next s) ∧
      (∀ v, ∃ t, exec (.laneRetrain src l v) s = .next t ∧ t.reg (Reg.LANE_CFG l.toNat) = v &&& 0x377#32 ∧
        t.cfgNow l.toNat = v &&& 0x377#32 ∧ t.fld (Reg.LANE_STATE l.toNat) 3 1 = 1 ∧ (t.rx l.toNat = if r = 0 then 0 else 1) ∧
        t = { s with regs := t.regs, lan := t.lan, lnk := t.lnk })) ∧
    (∀ src, (src = .pf0 ∨ src = .mgmt) → s.quadManual (quadOf l.toNat) = false →
      ∀ c, (∃ k, c = .laneSlip (some src) l k ∨ c = .laneAccept (some src) l k) ∨ c = .laneCapture (some src) l ∨
          (∃ v, c = .laneRetrain (some src) l v) →
        ∃ t, exec c s = .next t ∧ t = { s with regs := t.regs, cur := t.cur } ∧
          (t.reg Reg.MBX_ACCLOG_COUNT).toNat = min (2 ^ 32 - 1) ((s.reg Reg.MBX_ACCLOG_COUNT).toNat + 1) ∧
          RegsBut s t [Reg.MBX_ACCLOG_COUNT]) ∧
    (∀ n k v, exec (.laneSlip (some (.pf1 n)) l k) s = .next s ∧ exec (.laneAccept (some (.pf1 n)) l k) s = .next s ∧
      exec (.laneCapture (some (.pf1 n)) l) s = .next s ∧ exec (.laneRetrain (some (.pf1 n)) l v) s = .next s) ∧
    (∀ found, r = 4 → s.fld al 8 2 = 1 → s.hearsSelf l.toNat = false → ∃ t, exec (.acceptResult l found) s = .next t ∧
      t.fld al 8 2 = (if found then 2 else 3) ∧ (t.rx l.toNat = if found then 5 else 4) ∧ t.fld al 0 8 = s.fld al 0 8 ∧
      t = { s with regs := t.regs, lan := t.lan } ∧ RegsBut s t [al, Reg.LANE_STATE l.toNat]) ∧
    (∀ syms, s.lan.capt = true → ∃ t, exec (.laneCaptureDone syms) s = .next t ∧ t.fld Reg.LANE_CAPT_SEL 30 1 = 1 ∧
      (∀ j, j < 18 → t.reg (Reg.LANE_CAPT j) = BitVec.ofNat 32 (s.captured (s.fld Reg.LANE_CAPT_SEL 0 7) syms / 2 ^ (32 * j))) ∧ t.lan.capt = false ∧
      t = { s with regs := t.regs, lan := t.lan })

/-- R264, R265, R268: a filler on a lane that is UP is shown in LANE_STATE, and the logical lane the pair carries is in service exactly
when it had TRAIN = 0: IN_SERVICE of the quad, and for a link LANES_UP, with the link UP.  Above 2.5 flits of the elastic
buffer it is deleted, below 1.5 a slot is inserted; one at 0 or 8 flits sends the lane back to SEEK, and a lane that is not UP sees none. -/
def Obligations.FillersPutALaneInService : Prop :=
  ∀ (s : State) (l : BitVec 7) (lane : Fin 4) (train spare : Bool) (quad : BitVec 5) (dev : Byte),
    s.hasLane l.toNat = true → s.configuring = false → s.hearsSelf l.toNat = false →
    let st := Reg.LANE_STATE l.toNat
    (∀ fill, s.rx l.toNat ≠ 5 → exec (.filler l lane train spare quad dev fill) s = .next s) ∧
    (∀ fill : Fin 129, fill.val = 0 ∨ fill.val = 128 → s.rx l.toNat = 5 → ∃ t, exec (.filler l lane train spare quad dev fill) s = .next t ∧ t.rx l.toNat = 1 ∧
      t.fld (Reg.LANE_EVENTS l.toNat) 24 8 = min 255 (s.fld (Reg.LANE_EVENTS l.toNat) 24 8 + 1)) ∧
    (∀ fill : Fin 129, fill.val ≠ 0 → fill.val ≠ 128 → s.rx l.toNat = 5 → l.toNat < 96 → s.carrier (l.toNat / 4) (l.toNat % 4) = l.toNat →
      ∃ t, exec (.filler l lane train spare quad dev fill) s = .next t ∧
        (t.recv l.toNat).fill = (if 40 < fill.val then fill.val - 16 else if fill.val < 24 then fill.val + 16 else fill.val) ∧
        t.fld st 7 1 = b2n train ∧ t.fld st 8 2 = lane.val ∧ t.fld st 10 1 = b2n spare ∧ t.fld st 11 5 = quad.toNat ∧
        t.fld st 16 8 = dev.toNat ∧ t.rx l.toNat = 5 ∧
        t.fld st 6 1 = b2n (!train) ∧ t.fld (Reg.LANE_QUAD (l.toNat / 4)) (10 + l.toNat % 4) 1 = b2n (!train) ∧
        t = { s with regs := t.regs, lnk := t.lnk, lan := t.lan } ∧
        (∀ k : Fin 24, s.fld (Reg.LANE_QUAD (l.toNat / 4)) 0 2 = 1 → s.fld (Reg.LANE_QUAD (l.toNat / 4)) 2 5 = k.val →
          t.fld (Reg.LNK_STATE k) (2 + l.toNat % 4) 1 = b2n (!train) ∧
          (train = false → s.linkState k ≠ 3 → t.linkState k = 2 ∧ (t.link k).backlog = [])))

/-- R237, R262, R267, R273, R274: an idle spare lane of the quad takes over a logical lane that has been out of service for DELAY,
under the logical lane's number and settings, and the former transmitter is quiet; where none is idle and the lane cannot return
its link is in FAULT; a lane in service is not replaced.  A quad's reference sets REF_OK and its lanes seek; a pattern checker
that locks counts its errors. -/
def Obligations.SparesReferencesAndPatterns : Prop :=
  (∀ (s : State) (q : Fin 24) (i : Fin 4) (delayed gone : Bool), s.hasQuad q = true → s.quadOn q = true →
    (s.fld (Reg.LANE_QUAD q) (10 + i.val) 1 = 1 → exec (.spareActivate q i delayed gone) s = .next s) ∧
    (∀ n, s.fld (Reg.LANE_QUAD q) (10 + i.val) 1 = 0 → delayed = true → s.carrier q i = 4 * q.val + i.val → s.idleSpare q = some n →
      ∃ t, exec (.spareActivate q i delayed gone) s = .next t ∧ t.fld (Reg.LANE_SPARE n) 7 1 = 1 ∧
        t.fld (Reg.LANE_SPARE n) 5 2 = i.val ∧ t.carrier q i = 96 + n ∧
        t.fld (Reg.LANE_STATE (4 * q.val + i.val)) 3 1 = 1 ∧ t.fld (Reg.LANE_STATE (96 + n)) 3 1 = 1 ∧
        t.reg (Reg.LANE_CFG (96 + n)) = s.reg (Reg.LANE_CFG (4 * q.val + i.val)) ∧
        t.reg (Reg.LANE_FFE (96 + n)) = s.reg (Reg.LANE_FFE (4 * q.val + i.val)) ∧
        t = { s with regs := t.regs, lan := t.lan, lnk := t.lnk }) ∧
    (∀ k : Fin 24, s.fld (Reg.LANE_QUAD q) (10 + i.val) 1 = 0 → delayed = true → s.idleSpare q = none →
      s.fld (Reg.LANE_QUAD q) 0 2 = 1 → s.fld (Reg.LANE_QUAD q) 2 5 = k.val →
      ∃ t, exec (.spareActivate q i delayed true) s = .next t ∧ t.linkState k = 3 ∧ (t.link k).inits = [] ∧
        (t.link k).streams = (s.link k).streams ∧ RegsBut s t [Reg.LNK_STATE k])) ∧
  (∀ (s : State) (q : Fin 26), s.hasLane (4 * q.val) = true →
    (s.quadOn q = true → s.fld (Reg.LANE_QUAD q) 14 1 = 0 →
      ∃ t, exec (.quadRefOk q) s = .next t ∧ t.fld (Reg.LANE_QUAD q) 14 1 = 1 ∧
        ∀ i, i < 4 → t.rx (4 * q.val + i) = if s.rx (4 * q.val + i) = 0 then 1 else s.rx (4 * q.val + i)) ∧
    (s.quadOn q = false ∨ s.fld (Reg.LANE_QUAD q) 14 1 = 1 → exec (.quadRefOk q) s = .next s)) ∧
  (∀ (s : State) (l : BitVec 7) (errs : Word), s.hasLane l.toNat = true →
    let on := s.quadManual (quadOf l.toNat) = true ∧ s.fld (Reg.LANE_PRBS l.toNat) 1 1 = 1 ∧ s.hearsSelf l.toNat = false
    (on → ∃ t, exec (.prbsRxLock l errs) s = .next t ∧ t.fld (Reg.LANE_PRBS l.toNat) 2 1 = 1 ∧
      (t.reg (Reg.LANE_PRBS_ERR l.toNat)).toNat = min (2 ^ 32 - 1) ((s.reg (Reg.LANE_PRBS_ERR l.toNat)).toNat + errs.toNat) ∧
      t = { s with regs := t.regs } ∧ RegsBut s t [Reg.LANE_PRBS l.toNat, Reg.LANE_PRBS_ERR l.toNat]) ∧
    (¬ on → exec (.prbsRxLock l errs) s = .next s))

namespace Sys2Proof.Statements

/-- Only the capture of partition n has changed, and it is c. -/
def CapOnly (s t : State) (n : Fin 8) (c : Cap) : Prop :=
  t = { s with plt := { s.plt with caps := t.plt.caps } } ∧ t.cap n = c ∧ ∀ m, m ≠ n → t.cap m = s.cap m

/-- One more entry stands in the access log, and of the registers only its count has changed (R446). -/
def Logged (s t : State) : Prop :=
  (t.reg Reg.MBX_ACCLOG_COUNT).toNat = min (2 ^ 32 - 1) ((s.reg Reg.MBX_ACCLOG_COUNT).toNat + 1) ∧ RegsBut s t [Reg.MBX_ACCLOG_COUNT]

end Sys2Proof.Statements

/-- R294, R296: ARM, FORCE, CLOSE and DISARM wait for the next tick; ARM of a partition without a share is ignored and logged.
R286: a mark waits too, with the frame, step and timebase of its write, when HOST_MARK is enabled. -/
def Obligations.CaptureControlsWaitForTheTick : Prop :=
  ∀ (s : State) (n : Fin 8),
    let acts := fun (a : Nat) => { s.cap n with actions := (s.cap n).actions ||| a }
    (∀ path, (s.capNoShare n = false → ∃ t, exec (.captureArm n path) s = .next t ∧ CapOnly s t n (acts 1)) ∧
      (s.capNoShare n = true → ∃ t, exec (.captureArm n path) s = .next t ∧ t.cap n = s.cap n ∧ t.parts = s.parts ∧ Logged s t)) ∧
    (∃ t, exec (.captureForce n) s = .next t ∧ CapOnly s t n (acts 2)) ∧
    (∃ t, exec (.captureClose n) s = .next t ∧ CapOnly s t n (acts 4)) ∧
    (∃ t, exec (.captureDisarm n) s = .next t ∧ CapOnly s t n (acts 8)) ∧
    (∀ v : DWord, (s.fld (Reg.CAP_EVENT_EN n) 9 1 = 0 → exec (.hostMark n v) s = .next s) ∧
      (s.fld (Reg.CAP_EVENT_EN n) 9 1 = 1 → ∃ t, exec (.hostMark n v) s = .next t ∧
        CapOnly s t n { s.cap n with marks := (s.cap n).marks ++
          [⟨3, 0, 0, n.val, v.toNat, s.shownFrame n, (s.part n).step, s.lnk.timebase⟩] }))

/-- R301, R302: the drain takes the next closed part when it is enabled, without error, idle and the ring has room; an
acknowledged part advances CAP_DRAIN_HEAD and frees its units, CAP_STORE_TAIL moving to the oldest thing still held, and one
refused at any segment that it reaches stays with DRAIN_ERR set, which a write clears.
A tail moves forward only, and not past the last part that may be freed; any other write is logged and moves nothing. -/
def Obligations.DrainAndRingTails : Prop :=
  ∀ (s : State) (n : Fin 8),
    let c := s.cap n
    let size := (s.reg (Reg.CAP_DRAIN_SIZE n)).toNat
    let head := (s.reg (Reg.CAP_DRAIN_HEAD n)).toNat
    let tail := (s.reg (Reg.CAP_DRAIN_TAIL n)).toNat
    (∀ x, c.drain = none → c.nextPart = some x → s.fld (Reg.CAP_CFG n) 2 1 = 1 → s.fld (Reg.CAP_STATUS n) 6 1 = 0 →
      ringDist size tail head + x.units + 1 ≤ size →
      ∃ t, exec (.drainPart n) s = .next t ∧ CapOnly s t n { c with drain := some x }) ∧
    (c.nextPart = none ∨ c.drain ≠ none ∨ s.fld (Reg.CAP_CFG n) 2 1 = 0 ∨ s.fld (Reg.CAP_STATUS n) 6 1 = 1 →
      exec (.drainPart n) s = .next s) ∧
    (∀ x, c.drain = some x → (∀ a ∈ s.drainEnds n x.units, s.depotCheck (.part n) a true = .ok) →
      ∃ t, exec (.drainAck n true) s = .next t ∧ (t.reg (Reg.CAP_DRAIN_HEAD n)).toNat = (head + x.units) % max 1 size ∧
        (t.cap n).drain = none ∧ (t.cap n).closed = c.closed.filter (fun y => !(y == x)) ∧
        (∀ d, d < 4 → s.shareUnits n d ≠ 0 → t.fld (Reg.CAP_STORE_TAIL n d) 0 20 = (t.cap n).oldest (s.shareUnits n d)
          (s.fld (Reg.CAP_STORE_TAIL n d) 0 20) (s.fld (Reg.CAP_STORE_HEAD n d) 0 20) d % 2 ^ 20) ∧
        RegsBut s t ([Reg.CAP_DRAIN_HEAD n] ++ (List.range 4).map (Reg.CAP_STORE_TAIL n)) ∧ t.parts = s.parts) ∧
    (∀ x nodeOk, c.drain = some x → (nodeOk = false ∨ ∃ a ∈ s.drainEnds n x.units, s.depotCheck (.part n) a true ≠ .ok) →
      ∃ t, exec (.drainAck n nodeOk) s = .next t ∧ t.fld (Reg.CAP_STATUS n) 6 1 = 1 ∧ (t.cap n).closed = c.closed ∧
        (t.cap n).drain = none ∧ RegsBut s t [Reg.CAP_STATUS n, Reg.DEP_LAST_REFUSE]) ∧
    (∃ t, exec (.drainRestart n) s = .next t ∧ t = { s with regs := t.regs } ∧ t.fld (Reg.CAP_STATUS n) 6 1 = 0 ∧
      t.capState n = s.capState n ∧ RegsBut s t [Reg.CAP_STATUS n]) ∧
    (∀ path (v : Word),
      let ok := v.toNat < max 1 size ∧ ringDist size tail v.toNat ≤ ringDist size tail head
      (ok → ∃ t, exec (.capDrainTailWrite n path v) s = .next t ∧ t = { s with regs := t.regs } ∧ t.reg (Reg.CAP_DRAIN_TAIL n) = v ∧
        RegsBut s t [Reg.CAP_DRAIN_TAIL n]) ∧
      (¬ ok → ∃ t, exec (.capDrainTailWrite n path v) s = .next t ∧ t.plt = s.plt ∧ Logged s t)) ∧
    (∀ (d : Fin 4) path (v : Word), s.hasDie d = true → s.fld (Reg.CAP_CFG n) 2 1 = 1 →
      ∃ t, exec (.capStoreTailWrite n d path v) s = .next t ∧ t.plt = s.plt ∧ Logged s t) ∧
    (∀ (d : Fin 4) path (v : Word) x, s.hasDie d = true → s.fld (Reg.CAP_CFG n) 2 1 = 0 → c.closed = [x] → x.die = d.val →
      (x.pos + x.units) % max 1 (s.shareUnits n d) = bitsAt v 0 20 → s.fld (Reg.CAP_STORE_TAIL n d) 0 20 = x.pos →
      x.pos < s.shareUnits n d → s.shareUnits n d ≤ 2 ^ 20 →
      ∃ t, exec (.capStoreTailWrite n d path v) s = .next t ∧ (t.cap n).closed = [] ∧
        t.fld (Reg.CAP_STORE_TAIL n d) 0 20 = bitsAt v 0 20 ∧ RegsBut s t [Reg.CAP_STORE_TAIL n d])

/-- R283, R287, R294, R295, R298: the block of a released frame of a single-die shape that stands OPEN and is no key frame: its
change records are written at the head of the share, after a header slot where the die holds no block yet, and it advances past them, or, where they do not fit, the frame is dead.  In
IDLE and DONE nothing is written.  AUTO opens the plate at the frame that reaches its timeout; a plate whose last frame has been
written closes, counted, in DONE in SINGLE mode and else in WAITING. -/
def Obligations.BlocksAndPlates : Prop :=
  ∀ (s : State) (n : Fin 8), (s.cap n).autoDue = false →
    let c := s.cap n
    ((s.cap n).due = none → exec (.frameBlockWrite n) s = .next s) ∧
    (∀ bd, c.due = some bd → (s.capState n = 0 ∨ s.capState n = 3) →
      ∃ t, exec (.frameBlockWrite n) s = .next t ∧ CapOnly s t n { c with due := none }) ∧
    (∀ (bd : BlockDue) (d : Fin 4), c.due = some bd → s.capState n = 2 → (s.part n).eph.dies = [d.val] → bd.waiting = false →
      bd.trigger = false → bd.cap.act = 0 → bd.cap.stop = none → bd.outs = [] → c.keyNext = false → c.dead = [] →
      s.fld (Reg.CAP_KEY_INTERVAL n) 0 24 = 0 → vget s.plt.fifos d = [] → s.shareUnits n d ≤ 2 ^ 20 →
      let recs := (bd.cap.groups.filter fun g => g.key / 8192 == d.val && g.changed.isSome).map
        (s.changeRec n bd.cap.frame (c.tickOf bd.cap.frame).tb false)
      let head := s.fld (Reg.CAP_STORE_HEAD n d) 0 20
      let tail := s.fld (Reg.CAP_STORE_TAIL n d) 0 20
      let slot := !(c.segs.any fun x => x.die == d.val)
      let k := if slot then 2 else 0
      let fits := bd.cap.deadDies.contains d.val = false ∧ c.room (s.shareUnits n d) tail head (recs.length + k) d = true
      (fits → ∃ t, exec (.frameBlockWrite n) s = .next t ∧ (t.cap n).due = none ∧
        (t.cap n).segs = c.segs ++ [⟨d, head, recs.length + k, bd.cap.frame, false, slot⟩] ∧
        t.fld (Reg.CAP_STORE_TAIL n d) 0 20 = c.oldest (s.shareUnits n d) tail head d % 2 ^ 20 ∧
        t.fld (Reg.CAP_STORE_HEAD n d) 0 20 = (head + (recs.length + k)) % max 1 (s.shareUnits n d) % 2 ^ 20 ∧
        (∀ i (r : BitVec 256), recs[i]? = some r → mget (fun _ => 0) t.plt.store (s.unitKey n d (head + k + i)) = r) ∧
        RegsBut s t [Reg.CAP_STORE_HEAD n d, Reg.CAP_STORE_TAIL n d] ∧ t.parts = s.parts) ∧
      (¬ fits → ∃ t, exec (.frameBlockWrite n) s = .next t ∧ (t.cap n).segs = c.segs ∧ t.plt.store = s.plt.store ∧
        (t.reg (Reg.CAP_DEAD_FRAMES n d)).toNat = min (2 ^ 32 - 1) ((s.reg (Reg.CAP_DEAD_FRAMES n d)).toNat + 1) ∧
        RegsBut s t [Reg.CAP_DEAD_FRAMES n d])) ∧
    (∀ (u : State) (bd : BlockDue), (u.cap n).autoDue = true → (u.cap n).due = some bd → u.capState n = 1 →
      ∃ t, exec (.autoTimeout n) u = .next t ∧ t.capState n = 2 ∧ (t.cap n).due = some { bd with trigger := true } ∧
        (∃ pl, (t.cap n).plate = some pl ∧ pl.trig = bd.cap.frame ∧ pl.last = bd.cap.frame + (u.cap n).post ∧ pl.forced = 1) ∧
        RegsBut u t [Reg.CAP_STATUS n] ∧ t.parts = u.parts) ∧
    exec (.autoTimeout n) s = .next s ∧
    (∀ pl f, c.due = none → c.plate = some pl → c.lastRel = some f → s.capState n = 2 →
      (f < pl.last → exec (.plateClose n) s = .next s) ∧
      (pl.last ≤ f → ∃ t, exec (.plateClose n) s = .next t ∧ (t.cap n).plate = none ∧ (t.cap n).keyNext = true ∧
        (t.reg (Reg.CAP_PLATES n)).toNat = min (2 ^ 32 - 1) ((s.reg (Reg.CAP_PLATES n)).toNat + 1) ∧
        t.capState n = (if s.fld (Reg.CAP_CFG n) 0 2 = 1 then 3 else 1) ∧ t.parts = s.parts ∧
        RegsBut s t ([Reg.CAP_PLATES n, Reg.CAP_STATUS n] ++ (List.range 4).map (Reg.CAP_STORE_HEAD n))))

/-- R286, R288, R289: a low pulse of at least 8 ns on a TRIG ball that is an input is seen by every partition's comparators at their next tick, and, for
a partition that records the ball, is WAITING or OPEN and is not replaying, enters its event FIFO with its stamps; an output
ball, a shorter pulse and one in DORMANT yield no edge.  LEVEL shows the balls; the end of a partition's oldest pulse releases its balls where no other drives them. -/
def Obligations.TriggerBalls : Prop :=
  ∀ (s : State) (ball : Fin 8) (low : Word),
    (s.fld Reg.CAP_TRIG_BALLS ball 1 = 1 ∨ low.toNat < 8 ∨ s.pwr.phase = .dormant → ∃ t, exec (.trigIn ball low) s = .next t ∧ t.plt.caps = s.plt.caps ∧
      t.plt.fifos = s.plt.fifos ∧ vget t.plt.trigLow ball = max (vget s.plt.trigLow ball) low.toNat ∧ t.parts = s.parts ∧
      RegsBut s t [Reg.CAP_TRIG_BALLS]) ∧
    (s.fld Reg.CAP_TRIG_BALLS ball 1 = 0 → 8 ≤ low.toNat → s.pwr.phase ≠ .dormant → s.pwr.tripped = false →
      ∃ t, exec (.trigIn ball low) s = .next t ∧ (∀ n, (t.cap n).edges = (s.cap n).edges ||| 2 ^ ball.val) ∧
        t.fld Reg.CAP_TRIG_BALLS 8 8 = t.trigLevels % 2 ^ 8 ∧ t.parts = s.parts ∧
        ((∀ m : Fin 8, s.fld (Reg.CAP_EVENT_EN m) ball 1 = 0) → t.plt.fifos = s.plt.fifos) ∧
        (∀ (n : Fin 8) (d : Fin 4), s.fld (Reg.CAP_EVENT_EN n) ball 1 = 1 → (∀ m : Fin 8, m ≠ n → s.fld (Reg.CAP_EVENT_EN m) ball 1 = 0) →
          (s.capState n = 1 ∨ s.capState n = 2) → s.replaying n = false → (s.part n).eph.homeDie = d.val →
          (vget s.plt.fifos d).length < 64 →
          vget t.plt.fifos d = vget s.plt.fifos d ++ [⟨1, ball, min (vget s.plt.overrun d) 0xFFFF, n, t.trigLevels, s.shownFrame n,
            (s.part n).step, s.lnk.timebase⟩] ∧ vget t.plt.overrun d = 0)) ∧
    (∀ n, ∃ t, exec (.trigPulseEnd n) s = .next t ∧ vget t.plt.trigDrive n = (vget s.plt.trigDrive n).tail ∧ t.plt.caps = s.plt.caps ∧
      (∀ m, m ≠ n → vget t.plt.trigDrive m = vget s.plt.trigDrive m) ∧ t.fld Reg.CAP_TRIG_BALLS 8 8 = t.trigLevels % 2 ^ 8 ∧
      RegsBut s t [Reg.CAP_TRIG_BALLS] ∧ t.parts = s.parts)

/-- R315, R316, R318: checkpoints.  A tick at a boundary of the interval takes the state of that boundary and holds the partition
until every on-chip byte has been read; a checkpoint that is written whole becomes the latest, in its slot, and CKP_LAST records
its boundary; one that fails leaves the latest as it was, with CKP_FAIL set. -/
def Obligations.CheckpointsOfAPartition : Prop :=
  ∀ (s : State) (n : Fin 8),
    let k := s.ck n
    ((∀ c, s.boundaryAt n = some c → s.ckAuto n c = false) → exec (.autoCheckpoint n) s = .next s) ∧
    (∀ c, AtCommit s n 15 → s.boundaryAt n = some c → s.ckAuto n c = true → s.catchingUp n = false → s.replaying n = false →
      (s.part n).state = .running → (s.part n).faultPend = none → (s.part n).haltPend = [] → k.busy = none → k.recov = none →
      k.want = none → 0 < s.ckSlotBytes n → s.ckSize n ≤ s.ckSlotBytes n →
      ∃ t b, exec (.autoCheckpoint n) s = .next t ∧ (t.ck n).busy = some b ∧ b.reading = true ∧ b.img.boundary = c ∧
        b.img.start = (s.part n).start ∧ ((s.part n).eph.spans = false → b.img.img = (s.part n).img) ∧
        (t.part n).bholds.contains .checkpoint = true ∧ (t.part n).step = (s.part n).step ∧ t.fld (Reg.CKP_STATUS n) 1 1 = 1) ∧
    (∀ b, k.busy = some b → b.reading = true →
      ∃ t, exec (.checkpointReadDone n) s = .next t ∧ t.ck n = { k with busy := some { b with reading := false } } ∧
        t.part n = { s.part n with bholds := (s.part n).bholds.filter (fun h => h != .checkpoint) } ∧ PartsBut s t n ∧
        (t.reg (Reg.CKP_HOLD_NS n)).toNat = min (s.lnk.timebase - b.since) 0xFFFFFFFF ∧ RegsBut s t [Reg.CKP_HOLD_NS n]) ∧
    (k.busy = none → exec (.checkpointReadDone n) s = .next s ∧ ∀ ok, exec (.checkpointComplete n ok) s = .next s) ∧
    (∀ b, k.busy = some b → b.reading = false →
      (s.depotCheck (.part n) (s.ckSlotAddr n b.slot) true = .ok →
        ∃ t, exec (.checkpointComplete n true) s = .next t ∧ (t.ck n).busy = none ∧ (t.ck n).latest = some b.img ∧
          t.fld (Reg.CKP_STATUS n) 0 1 = 1 ∧ t.fld (Reg.CKP_STATUS n) 1 1 = 0 ∧ t.fld (Reg.CKP_STATUS n) 2 1 = b.slot % 2 ∧
          t.reg64 (Reg.CKP_LAST_LO n) = b.img.boundary % 2 ^ 48 + 2 ^ 63 ∧ t.parts = s.parts ∧ t.vlt = s.vlt) ∧
      (∃ t, exec (.checkpointComplete n false) s = .next t ∧ (t.ck n).busy = none ∧ (t.ck n).latest = k.latest ∧
        t.fld (Reg.CKP_STATUS n) 6 1 = 1 ∧ t.fld (Reg.CKP_STATUS n) 1 1 = 0 ∧ t.fld (Reg.CKP_STATUS n) 0 1 = s.fld (Reg.CKP_STATUS n) 0 1 ∧
        t.reg64 (Reg.CKP_LAST_LO n) = s.reg64 (Reg.CKP_LAST_LO n) ∧ t.parts = s.parts ∧ t.vlt = s.vlt))

/-- R302, R322, R325: the input record, with the block of the last released frame written.  A due entry is written at the head when it
fits; one that does not waits, or with REC_FULL = 1 stops the recording; the hold ends when nothing is due; the tail moves forward,
not past the latest complete checkpoint, or, without one, the head, and any other write is logged. -/
def Obligations.InputRecordRing : Prop :=
  ∀ (s : State) (n : Fin 8), (s.cap n).due = none → (s.cap n).autoDue = false → (s.cap n).plate = none → (s.cap n).filed = [] →
    let size := (s.reg (Reg.CKP_REC_SIZE n)).toNat
    let head := (s.reg (Reg.CKP_REC_HEAD n)).toNat
    let tail := (s.reg (Reg.CKP_REC_TAIL n)).toNat
    ((s.ck n).due = [] → exec (.inputRecordEntry n) s = .next s ∧
      ∃ t, exec (.recRingSpace n) s = .next t ∧ t = { s with parts := t.parts } ∧ PartsBut s t n ∧
        t.part n = { s.part n with bholds := (s.part n).bholds.filter (fun h => !(h == .record)) }) ∧
    (∀ e, (s.ck n).due = [e] →
      (ringDist size tail head + e.units + 1 ≤ size →
        ∃ t, exec (.inputRecordEntry n) s = .next t ∧ (t.ck n).record = (s.ck n).record ++ [{ e with pos := head }] ∧
          (t.ck n).due = [] ∧ (t.reg (Reg.CKP_REC_HEAD n)).toNat = (head + e.units) % max 1 size ∧ t.parts = s.parts ∧
          RegsBut s t [Reg.CKP_REC_HEAD n]) ∧
      (size < ringDist size tail head + e.units + 1 →
        (s.fld (Reg.CKP_CFG n) 2 1 = 0 → exec (.inputRecordEntry n) s = .next s ∧ exec (.recRingSpace n) s = .next s) ∧
        (s.fld (Reg.CKP_CFG n) 2 1 = 1 → ∃ t, exec (.inputRecordEntry n) s = .next t ∧ (t.ck n).record = (s.ck n).record ∧
          (t.ck n).due = [] ∧ t.fld (Reg.CKP_STATUS n) 5 1 = 1 ∧ t.fld (Reg.CKP_STATUS n) 4 1 = 0 ∧
          RegsBut s t [Reg.CKP_STATUS n]))) ∧
    (∀ path (v : Word),
      let lim := match (s.ck n).latest with | some l => l.recPos | none => head
      let ok := v.toNat < max 1 size ∧ ringDist size tail v.toNat ≤ ringDist size tail lim
      (ok → ∃ t, exec (.ckpRecTailWrite n path v) s = .next t ∧ t.reg (Reg.CKP_REC_TAIL n) = v ∧ RegsBut s t [Reg.CKP_REC_TAIL n] ∧
        (∀ e ∈ (t.ck n).record, e ∈ (s.ck n).record) ∧ (t.ck n).latest = (s.ck n).latest) ∧
      (¬ ok → ∃ t, exec (.ckpRecTailWrite n path v) s = .next t ∧ t.ckp = s.ckp ∧ Logged s t))

/-- R326, R328, R330: the stages of a hard-fault recovery.  A located unit leaves service and is named in the notice, or, with
no spare left for it, the recovery fails with reason 3; the checkpoint's working state comes back at its boundary, its granules
at the node, and catch-up begins; a
catch-up frame that commits is followed by the next of the record, or, with none left, by the wait for stage 5; then the partition
runs with the fault cleared.  R333: a replay whose record holds no further entry ends, halted. -/
def Obligations.RecoveryStagesAndReplayEnd : Prop :=
  ∀ (s : State) (n : Fin 8),
    ((s.ck n).recov = none → ∀ us, us.all s.hasLocated = true → exec (.unitLocated n us) s = .next s) ∧
    (∀ r l, (s.ck n).recov = some r → s.recovPhase n = 1 → s.hasLocated l = true → s.locatable n l = true →
      ((s.locateOne n l).2 = true →
        ∃ t, exec (.unitLocated n [l]) s = .next t ∧ t.recovPhase n = 2 ∧
          (t.ck n).recov = some { r with units := (r.units ++ [l.word]).take 5 }) ∧
      ((s.locateOne n l).2 = false →
        ∃ t, exec (.unitLocated n [l]) s = .next t ∧ (t.ck n).recov = none ∧
          t.fld (Reg.CKP_RECOVERY n) 0 1 = 0 ∧ t.fld (Reg.CKP_RECOVERY n) 8 8 = 3)) ∧
    (∀ r i, (s.ck n).recov = some r → (s.ck n).latest = some i →
      (s.recovPhase n ≠ 2 → exec (.recoveryRestoreDone n) s = .next s) ∧
      (s.recovPhase n = 2 → ∃ t, exec (.recoveryRestoreDone n) s = .next t ∧ t.recovPhase n = 3 ∧
        (t.ck n).recov = some { r with catchUp := true } ∧ (t.part n).img = i.img ∧ (t.part n).frame = i.boundary ∧
        (t.part n).step = 0 ∧ (t.ck n).back = i.granules ∧ t.reg64 (Reg.CKP_RECOVERY_FRAME_LO n) = i.boundary % 2 ^ 64)) ∧
    (s.catchingUp n = false → exec (.catchUpFrame n) s = .next s ∧ exec (.recoveryDone n) s = .next s) ∧
    (AtCommit s n 15 → s.catchingUp n = true → (s.part n).holdReq = false → (∀ f, (s.part n).decision ≠ some (f, false)) →
      ((s.recEntry n (s.part n).frame).isSome = true → s.boundaryHolds n = [] →
        ∃ t, exec (.catchUpFrame n) s = .next t ∧ (t.part n).step = 0 ∧ (t.part n).cur = (s.part n).frame ∧
          (t.part n).img = (s.part n).img ∧ t.reg64 (Reg.CKP_RECOVERY_FRAME_LO n) = (s.part n).frame % 2 ^ 64) ∧
      (s.recEntry n (s.part n).frame = none →
        ∃ t, exec (.catchUpFrame n) s = .next t ∧ (t.part n).step = 0 ∧ (t.part n).bholds.contains .curator = true ∧
          (t.part n).img = (s.part n).img)) ∧
    (∀ r, (s.ck n).recov = some r → r.catchUp = true → (s.part n).bholds = [.curator] → s.boundaryHolds n = [] →
      ∃ t, exec (.recoveryDone n) s = .next t ∧ (t.ck n).recov = none ∧ (t.part n).state = .running ∧
        (t.part n).faultCause = .none ∧ (t.part n).cur = (s.part n).frame ∧ (t.part n).step = 0 ∧ (t.part n).img = (s.part n).img ∧
        t.fld (Reg.CKP_RECOVERY n) 0 1 = 0 ∧
        (t.reg (Reg.CKP_RECOVERIES n)).toNat = min (2 ^ 32 - 1) ((s.reg (Reg.CKP_RECOVERIES n)).toNat + 1)) ∧
    ((s.replaying n = false ∨ (s.recEntry n (s.part n).frame).isSome = true) → exec (.replayEnd n) s = .next s) ∧
    (AtCommit s n 15 → s.replaying n = true → s.recEntry n (s.part n).frame = none → s.catchingUp n = false →
      (s.part n).faultPend = none → (s.part n).haltPend = [] →
      ∃ t, exec (.replayEnd n) s = .next t ∧ (t.part n).state = .halted ∧ (t.part n).haltCause = none ∧
        t.fld (Reg.CKP_REPLAY n) 0 1 = 0 ∧ t.fld (Reg.CKP_REPLAY n) 2 1 = 1 ∧ t.replaying n = false)

/-- R201, R342, R343, R346, R349: an accession that is pending at a place where it may act: the idle cluster, or the named spare bank,
takes the logical place and is ACTIVE, the unit it replaces is RETIRED with its expected generation raised, and the contents of
the logical place stay.  A copy with an error leaves the partition in FAULT with ABORT_LIMIT.  An accession that is not pending, or
may not act yet, does nothing. -/
def Obligations.AccessionOfAUnit : Prop :=
  ∀ s : State,
    (∀ (tl : BitVec 8) (c : Fin 16) (parity : Bool), s.hasDie (tl.toNat / 64) = true →
      let q : Pend := ⟨1, tl.toNat * 16 + c.val⟩
      let old := s.physOf tl.toNat c
      let new := s.idleClu tl.toNat
      (¬ (q ∈ s.spr.pend ∧ s.accMay q = true) → exec (.clusterAccession tl c parity) s = .next s) ∧
      (q ∈ s.spr.pend → s.accMay q = true → new ≠ 0x1F →
        (∃ t, exec (.clusterAccession tl c false) s = .next t ∧ t.physOf tl.toNat c = new ∧
          t.fld (Reg.SPR_CHEALTH tl.toNat new) 8 3 = 0 ∧ t.idleClu tl.toNat = 0x1F ∧ q ∉ t.spr.pend ∧ t.vlt = s.vlt ∧
          (old ≠ new → t.fld (Reg.SPR_CHEALTH tl.toNat old) 8 3 = 3 ∧
            t.fld (Reg.SPR_CHEALTH tl.toNat old) 12 4 = (s.fld (Reg.SPR_CHEALTH tl.toNat old) 12 4 + 1) % 16 ∧
            (old < 17 → t.fld (Reg.SPR_TILE tl.toNat) (8 + old) 1 = 1)) ∧
          ∀ n, (t.part n).img = (s.part n).img) ∧
        (∀ n, s.unitHolder q = some n → s.inRecovery q = false →
          ∃ t, exec (.clusterAccession tl c true) s = .next t ∧ (t.part n).state = .fault ∧ (t.part n).faultCause = .abortLimit))) ∧
    (∀ (b : BitVec 10) (sp : Fin 8), s.hasBank b.toNat = true →
      let q : Pend := ⟨2, b.toNat⟩
      let d := b.toNat / 256
      let old := s.physBank b.toNat
      (¬ (q ∈ s.spr.pend ∧ s.accMay q = true) → exec (.bankSpareRemap b sp) s = .next s) ∧
      (q ∈ s.spr.pend → s.accMay q = true → s.fld (Reg.SPR_BHEALTH d (256 + sp.val)) 8 3 = 1 →
        ∃ t, exec (.bankSpareRemap b sp) s = .next t ∧ t.physBank b.toNat = d * 264 + (256 + sp.val) ∧
          t.fld (Reg.SPR_BHEALTH d (256 + sp.val)) 8 3 = 0 ∧ q ∉ t.spr.pend ∧ t.vlt = s.vlt ∧
          (old ≠ d * 264 + (256 + sp.val) → t.fld (bhealth old) 8 3 = 3 ∧
            t.fld (bhealth old) 12 4 = (s.fld (bhealth old) 12 4 + 1) % 16)))

/-- R338, R341, R354 to R356: an hour lowers every score by one, the active clusters of a WORN tile not below WATCH; staging that
is complete shows in SPR_TILE and in the idle cluster's state; a wear window joins the site's record and is counted as valid or
rejected, and SPR_WEAR shows CONF, with DEGR 0xFFFF below 32 valid windows or with REF_DRIFT set, which a cross-check that found the
ratio moved sets every 64 windows. -/
def Obligations.HealthStagingAndWear : Prop :=
  (∀ s : State, mwf resetWord s.regs = true → ∃ t, exec .healthDecay s = .next t ∧ t = { s with regs := t.regs } ∧
    (∀ tl p, tl < 256 → p < 17 →
      let a := Reg.SPR_CHEALTH tl p
      let least := if s.worn tl = true ∧ s.fld a 8 3 = 0 then s.watch else 0
      t.fld a 0 8 = max (s.fld a 0 8 - 1) (min (s.fld a 0 8) least) ∧ t.fld a 8 24 = s.fld a 8 24) ∧
    (∀ d p, d < 4 → p < 264 → t.fld (Reg.SPR_BHEALTH d p) 0 8 = s.fld (Reg.SPR_BHEALTH d p) 0 8 - 1) ∧
    (∀ a, a < Reg.SPR_CHEALTH 0 0 ∨ Reg.SPR_WEAR 0 ≤ a → t.reg a = s.reg a)) ∧
  (∀ (s : State) (tl : BitVec 8), s.hasDie (tl.toNat / 64) = true →
    let st := Reg.SPR_WEAR tl.toNat
    let aux := Reg.SPR_WEAR_AUX tl.toNat
    ((∀ x ∈ s.spr.staging, x.1 ≠ tl.toNat) → exec (.stagingDone tl) s = .next s) ∧
    (∀ x, s.spr.staging.find? (fun y => y.1 == tl.toNat) = some x →
      ∃ t, exec (.stagingDone tl) s = .next t ∧ t.fld (Reg.SPR_TILE tl.toNat) 5 1 = 1 ∧
        t.fld (Reg.SPR_CHEALTH tl.toNat (s.idleClu tl.toNat)) 8 3 = 2 ∧ x ∈ t.spr.staged ∧ t.parts = s.parts ∧
        RegsBut s t [Reg.SPR_TILE tl.toNat, Reg.SPR_CHEALTH tl.toNat (s.idleClu tl.toNat)]) ∧
    (∀ count valid,
      (s.fld Reg.SPR_CTRL 2 1 = 0 → exec (.wearWindow tl count valid) s = .next s) ∧
      (s.fld Reg.SPR_CTRL 2 1 = 1 → ∃ t, exec (.wearWindow tl count valid) s = .next t ∧ t.vlt = s.vlt ∧ t.parts = s.parts ∧
        (t.site tl.toNat).windows = ((if valid then some count.toNat else none) :: (s.site tl.toNat).windows).take 255 ∧
        t.fld aux 0 16 = (if valid then min 65535 (s.fld aux 0 16 + 1) else s.fld aux 0 16) ∧
        t.fld aux 16 16 = (if valid then s.fld aux 16 16 else min 65535 (s.fld aux 16 16 + 1)) ∧
        (s.fld st 24 1 = 1 → t.fld st 16 8 = 0 ∧ t.fld st 0 16 = 0xFFFF) ∧
        (s.fld st 24 1 = 0 → t.fld st 16 8 = (t.site tl.toNat).conf ∧ ((t.site tl.toNat).conf < 32 → t.fld st 0 16 = 0xFFFF)))) ∧
    (∀ moved, ((s.site tl.toNat).since < 64 → exec (.wearCrossCheck tl moved) s = .next s) ∧
      (64 ≤ (s.site tl.toNat).since → ∃ t, exec (.wearCrossCheck tl moved) s = .next t ∧ (t.site tl.toNat).since = 0 ∧
        (t.site tl.toNat).windows = (s.site tl.toNat).windows ∧ t.parts = s.parts ∧
        (moved = false → t.regs = s.regs) ∧
        (moved = true → t.fld st 24 1 = 1 ∧ t.fld st 16 8 = 0 ∧ t.fld st 0 16 = 0xFFFF))))

/-- R347, R348, R352: ghost traffic of a fenced cluster or bank is counted by what saw it and by its unit, shown in
SPR_GHOST_LAST, and makes a RETIRED unit QUARANTINED; no partition and no vault sees it.  The reserve record takes maps, states,
scores, generations and wear as they stand.  A mismatch of the Curator asks a SAFETY halt of every partition and drives ALERT_N. -/
def Obligations.GhostsRecordAndMismatch : Prop :=
  (∀ (s : State) (kind : BitVec 4) (phys : BitVec 22) (gen : Bool), s.hasPhys kind.toNat phys.toNat = true →
    ∃ t, exec (.ghostTraffic kind phys gen) s = .next t ∧ t.parts = s.parts ∧ t.vlt = s.vlt ∧ t.spr = s.spr ∧
      (let r := if gen then Reg.SPR_GHOST_GEN else Reg.SPR_GHOST_ISO
       (t.reg r).toNat = min (2 ^ 32 - 1) ((s.reg r).toNat + 1)) ∧
      (t.reg Reg.SPR_GHOST_LAST).toNat = kind.toNat + phys.toNat * 2 ^ 4 + b2n gen * 2 ^ 26 + 2 ^ 31 ∧
      ∀ a, (kind = 1 ∧ a = Reg.SPR_CHEALTH (phys.toNat % 256) (phys.toNat / 256 % 32)) ∨
          (kind = 2 ∧ a = Reg.SPR_BHEALTH (phys.toNat / 512 % 4) (phys.toNat % 512)) →
        t.fld a 16 16 = min 65535 (s.fld a 16 16 + 1) ∧ t.fld a 8 3 = (if s.fld a 8 3 = 3 then 4 else s.fld a 8 3) ∧
        t.fld a 0 8 = s.fld a 0 8 ∧ t.fld a 12 4 = s.fld a 12 4) ∧
  (∀ s : State, ∃ t, exec .reserveRecordWrite s = .next t ∧ t = { s with spr := { s.spr with recRegs := t.spr.recRegs, recWear := s.spr.wear } } ∧
    ∀ a, Reg.SPR_CORES ≤ a → a < 0xB00000 → mget resetWord t.spr.recRegs a = s.reg a) ∧
  (∀ s : State, ∃ t, exec .curatorMismatch s = .next t ∧ t.cur.alert = true ∧ t.vlt = s.vlt ∧ t.lnk = s.lnk ∧
    ∀ n, t.part n = { s.part n with haltReqs := (s.part n).haltReqs ++ [.safety] })

namespace Sys2Proof.Statements

/-- Of Vitrine only region r has changed, and it is x; of the registers only those of `l`. -/
def RegionOnly (s t : State) (r : Fin 8) (x : VRegion) (l : List Nat) : Prop :=
  t = { s with regs := t.regs, vtr := { s.vtr with regions := t.vtr.regions } } ∧ t.region r = x ∧
    (∀ q, q ≠ r → t.region q = s.region q) ∧ RegsBut s t l

/-- R362: sum and carry of macrocell p of region r. -/
def carryMode : Prop :=
  ∀ (s : State) (out : Nat → Bool) (r p : Nat) (x : VMac), p < 511 → s.macro (512 * r + p) = some x → x.carry = true →
    let a := s.term out (4 * r + p / 128) x 0
    let b := s.term out (4 * r + p / 128) x 1
    let c := s.carryInto out r p
    s.macIn out (512 * r + p) x = ((a != b) != c) ∧
      s.carryInto out r (p + 1) =
        (if (p + 1) % 128 = 0 ∧ ((s.regionAt r).net.blocks.toList.getD ((p + 1) / 128) VBlock.empty).carryIn = false then false
         else (a && b) || (c && (a != b)))

end Sys2Proof.Statements

/-- R365 to R368: the crossings of a region the part carries.  A release that waits is presented whole at the third home-clock edge,
with RELSEQ and the strobe; a running region publishes what its macrocells drive, and a later publish replaces one that has not
moved; a publish that moves is counted and becomes the step-domain copy; a sighting sets READY_OK when its tag is the
partition's release count.  A lost net shows in VTR_CLK and in the regions homed on it, which neither present nor publish.  A
macrocell in carry mode takes in the sum of its terms 0 and 1 and the carry, and hands on their majority (R362). -/
def Obligations.RegionCrossings : Prop :=
  Statements.carryMode ∧
  (∀ (s : State) (r : Fin 8), r.val < s.nRegions →
    let x := s.region r
    let st := Reg.VTR_REGION_STATE r.val
    (∀ (pre : List (Fin 8 × FabricRegs)) (cells : BitVec 480) (n : Fin 8),
      let u := s.withFabric pre
      let moved := if s.regOpen r then u.homeEdge r cells else s
      (x.pend = true → s.regOwner r = n.val → s.regLost r = false →
        ∃ t, exec (.regionCopyUpdate r ⟨pre, cells⟩) s = .next t ∧
          RegionOnly moved t r { moved.region r with copy := (t.region r).copy, strobe := true, pend := false } [st] ∧
          (∀ i, i < 256 → (t.region r).copy.getLsbD i = s.boutBit (256 * r.val + i)) ∧
          t.fld st 16 8 = vget s.vtr.rel n % 2 ^ 8 ∧ t.fld st 0 16 = s.fld st 0 16 ∧ t.fld st 24 8 = s.fld st 24 8) ∧
      (x.pend = false ∨ 8 ≤ s.regOwner r ∨ s.regLost r = true → exec (.regionCopyUpdate r ⟨pre, cells⟩) s = .next s)) ∧
    (∀ (pre : List (Fin 8 × FabricRegs)) (cells : BitVec 480),
      let u := s.withFabric pre
      let y := u.region r
      let f : FabricRegs := ⟨u.edgeStorage r, cells⟩
      (s.regOpen r = true → s.regLost r = false →
        ∃ t, exec (.publish r pre cells) s = .next t ∧
          RegionOnly u t r (if u.publishSource r then { y with pub := u.driven r, transit := some (u.driven r), fabric := f, strobe := false }
            else { y with fabric := f, strobe := false }) []) ∧
      (s.regOpen r = false ∨ s.regLost r = true → exec (.publish r pre cells) s = .next s)) ∧
    (x.transit = none → exec (.publishMove r) s = .next s) ∧
    (∀ v, x.transit = some v →
      ∃ t, exec (.publishMove r) s = .next t ∧ RegionOnly s t r { x with stepCopy := v, transit := none } [Reg.VTR_REGION_PUB r.val] ∧
        (t.reg (Reg.VTR_REGION_PUB r.val)).toNat = min (2 ^ 32 - 1) ((s.reg (Reg.VTR_REGION_PUB r.val)).toNat + 1)) ∧
    (∀ tag : Byte,
      (s.regOpen r = false → exec (.readySighting r tag) s = .next s) ∧
      (s.regOpen r = true → ∀ n : Fin 8, s.regOwner r = n.val →
        ∃ t, exec (.readySighting r tag) s = .next t ∧
          RegionOnly s t r { x with stepCopy := x.transit.getD x.stepCopy, transit := none, strobe := false }
            [Reg.VTR_REGION_PUB r.val, st] ∧
          t.fld st 24 1 = (if tag.toNat = vget s.vtr.rel n then 1 else s.fld st 24 1) ∧ t.fld st 0 24 = s.fld st 0 24))) ∧
  (∀ (s : State) (net : Fin 8), s.hasVtr = true →
    let held := fun (t : State) (b : Nat) => ∀ r : Fin 8, r.val < s.nRegions →
      t.fld (Reg.VTR_REGION_STATE r.val) 12 1 =
        (if 2 ≤ s.regState r ∧ s.fld (Reg.VTR_REGION_STATE r.val) 7 3 = net.val then b else s.fld (Reg.VTR_REGION_STATE r.val) 12 1)
    let frame := fun (t : State) => t = { s with regs := t.regs } ∧
      RegsBut s t (Reg.VTR_CLK :: (List.range 8).map fun r => Reg.VTR_REGION_STATE r)
    (∃ t, exec (.homeClockLost net) s = .next t ∧ frame t ∧ held t 1 ∧ t.fld Reg.VTR_CLK net 1 = 0 ∧
      t.fld Reg.VTR_CLK (8 + net) 1 = 1) ∧
    (∃ t, exec (.homeClockReturn net) s = .next t ∧ frame t ∧ held t 0 ∧ t.fld Reg.VTR_CLK net 1 = 1 ∧
      t.fld Reg.VTR_CLK 8 8 = s.fld Reg.VTR_CLK 8 8))

/-- R371, R373, R374: the load of a region whose bytes have arrived settles with the image's identifier, flags and initial values, or
fails with its isolation values as they were; a region that has settled runs with the image's isolation values.  Calibration
measures the banks of BANKS and shows them MEASURED; APPLY puts the trims to use; a written delay code is PENDING. -/
def Obligations.RegionLoadsAndCalibration : Prop :=
  (∀ (s : State) (r : Fin 8), r.val < s.nRegions →
    let x := s.region r
    let st := Reg.VTR_REGION_STATE r.val
    (∀ ok, s.regState r ≠ 1 → exec (.regionLoadDone r ok) s = .next s) ∧
    (∀ img, x.loading = some img → s.regState r = 1 → s.waiting = [] →
      (∃ t, exec (.regionLoadDone r true) s = .next t ∧ t.regState r = 2 ∧
        t.region r = { x with fabric := ⟨img.init, 0⟩, net := img.net, cells := img.cells, pub := 0 } ∧ t.reg (Reg.VTR_REGION_IMAGE r.val) = img.id ∧
        t.fld st 7 3 = img.home.val ∧ t.fld st 10 1 = b2n img.pace ∧ t.fld st 11 1 = b2n img.pubAlways ∧ t.regOwner r = s.regOwner r ∧
        t.fld st 12 1 = 1 - s.fld Reg.VTR_CLK img.home.val 1 ∧ (∀ q, q ≠ r → t.region q = s.region q) ∧ t.parts = s.parts) ∧
      (∃ t, exec (.regionLoadDone r false) s = .next t ∧
        t.region r = { x with loading := none } ∧ (∀ q, q ≠ r → t.region q = s.region q) ∧ t.parts = s.parts ∧
        ((∀ y ∈ s.cfg.vtrs, y.1 ≠ r) → RegsBut s t [st, Reg.VTR_REGION_IMAGE r.val]) ∧ t.regState r = 4 ∧ t.regOwner r = s.regOwner r ∧
        t.reg (Reg.VTR_REGION_IMAGE r.val) = 0)) ∧
    (s.regState r ≠ 2 → exec (.regionSettled r) s = .next s) ∧
    (∀ img, x.loading = some img → s.regState r = 2 →
      ∃ t, exec (.regionSettled r) s = .next t ∧ t.regState r = 3 ∧ t.fld st 3 29 = s.fld st 3 29 ∧
        RegionOnly s t r { x with isoCells := img.isoCells, isoSources := img.isoSources, loading := none } [st])) ∧
  (∀ s : State, s.hasVtr = true →
    (∀ banks : BitVec 10, ∃ t, exec (.vtrCalStart banks) s = .next t ∧ t.fld Reg.VTR_CAL 16 10 = banks.toNat ∧
      RegsBut s t [Reg.VTR_CAL, Reg.VTR_CAL_STATUS] ∧ t.vtr.delays = s.vtr.delays ∧
      (∀ b, b ∈ t.vtr.calRun ↔ b ∈ s.vtr.calRun ∨ (b < s.nVtrBanks ∧ b < 10 ∧ banks.getLsbD b = true)) ∧
      ((∃ b, b < s.nVtrBanks ∧ b < 10 ∧ banks.getLsbD b = true) → t.fld Reg.VTR_CAL_STATUS 0 1 = 1) ∧
      t.fld Reg.VTR_CAL_STATUS 1 31 = s.fld Reg.VTR_CAL_STATUS 1 31) ∧
    (∀ bank : Fin 10, bank.val < s.nVtrBanks →
      (bank.val ∉ s.vtr.calRun → exec (.calibrationDone bank) s = .next s) ∧
      (bank.val ∈ s.vtr.calRun → ∃ t, exec (.calibrationDone bank) s = .next t ∧ t.fld Reg.VTR_CAL_STATUS (1 + bank.val) 1 = 1 ∧
        (∀ b, b ∈ t.vtr.calRun ↔ b ∈ s.vtr.calRun ∧ b ≠ bank.val) ∧
        (t.fld Reg.VTR_CAL_STATUS 0 1 = 0 ↔ t.vtr.calRun = []) ∧ t.vtr.delays = s.vtr.delays ∧
        RegsBut s t [Reg.VTR_CAL_STATUS])) ∧
    (s.fld Reg.VTR_CAL_STATUS 1 10 = 0 → exec .vtrCalApply s = .next s) ∧
    (s.fld Reg.VTR_CAL_STATUS 1 10 ≠ 0 → ∃ t, exec .vtrCalApply s = .next t ∧ t = { s with regs := t.regs } ∧
      t.fld Reg.VTR_CAL_STATUS 1 10 = 0 ∧ t.fld Reg.VTR_CAL_STATUS 16 8 = 0 ∧
      (∀ b, b < 10 → s.fld Reg.VTR_CAL_STATUS (1 + b) 1 = 1 → t.fld (Reg.VTR_BANK b) 17 1 = 1) ∧
      RegsBut s t (Reg.VTR_CAL_STATUS :: (List.range 10).map fun b => Reg.VTR_BANK b)) ∧
    (∀ (cell : Fin 640) (inp out : Byte), cell.val < s.nCells →
      ∃ t, exec (.vtrDelayWrite cell inp out) s = .next t ∧ t.fld (Reg.VTR_DELAY cell) 0 8 = inp.toNat ∧
        t.fld (Reg.VTR_DELAY cell) 8 8 = out.toNat ∧ t.fld (Reg.VTR_DELAY cell) 16 1 = 1 ∧ t.vtr.delays = s.vtr.delays ∧
        cell.val ∈ t.vtr.edges ∧ RegsBut s t [Reg.VTR_DELAY cell]))

/-- R379 to R381, R383, R394, R397: from reset to the end of configuration.  RESET_N that rises with PWR_OK high starts stages 1 and 2: a
Curator that fails stops it as FAILED, a flash that does not answer leads to recovery mode, and else, with no unit that fails
self-test, stage 3 follows with JOIN's drive of CFG_DONE, the PATCH in use that passes its checks and every vault byte 0.  A Docent image
that passes starts, the ACTIVE one first; with none, or at the limit of stage 3, recovery mode follows.  The lane wait lets stage 6 begin.  At
the end RESULT says whether anything failed, and each Photometer runs its reference program.  RESET leaves the machine at reset. -/
def Obligations.ConfigurationStages : Prop :=
  ∀ s : State,
    let drives := fun (t : State) => t.fld Reg.CFG_LINE 1 1
    let stage := fun (t : State) => t.fld Reg.CFG_STATUS 0 4
    let result := fun (t : State) => t.fld Reg.CFG_STATUS 4 4
    let recovery := fun (t : State) => t.docent = 3 ∧ result t = 4 ∧ drives t = 1 ∧ t.cur.alert = true ∧ t.parts = s.parts ∧ t.vlt = s.vlt
    (∀ b : Boot,
      let ok := s.inReset = true ∧ s.pin.pwrOk = true ∧ s.pwr.tripped = false
      (¬ ok → exec (.configurationStart b) s = .next s) ∧
      (ok → b.curator = false →
        ∃ t, exec (.configurationStart b) s = .next t ∧ result t = 3 ∧ drives t = 1 ∧ t.cur.alert = true ∧ t.parts = s.parts ∧ t.vlt = s.vlt) ∧
      (ok → b.curator = true → b.record = false → b.badCores = 0 → b.dir = none →
        ∃ t, exec (.configurationStart b) s = .next t ∧ recovery t) ∧
      (∀ dir, ok → b.curator = true → b.record = false → b.badCores = 0 → b.dir = some dir → b.badClusters = [] → b.badBanks = [] →
        s.reg Reg.CFG_STATUS = 0 → s.cfg = Cfg.reset →
        ∃ t, exec (.configurationStart b) s = .next t ∧ stage t = 3 ∧ result t = 0 ∧ t.fld Reg.CFG_LINE 0 1 = b2n b.join ∧
          drives t = b2n b.join ∧ t.parts = s.parts ∧ t.vlt.mem = [] ∧ t.cfg.degraded = true ∧
          t.cfg.dir = dir ∧
          (t.fld Reg.CFG_STATUS 10 1 = 1 ↔ ∃ c e, b.patch = some c ∧ dirOf dir 2 = some e ∧ s.contCheck c 2 e.length = none))) ∧
    (∀ port : Fin 8, (s.configuring = false → ∀ k, exec (.stageTimeout k port) s = .next s) ∧
      (s.configuring = true → s.cfg.docentUp = false → ∃ t, exec (.stageTimeout 3 port) s = .next t ∧ recovery t)) ∧
    (∀ slotB a o,
      (s.configuring = false ∨ s.cfg.docentUp = true → exec (.docentStarted slotB a o) s = .next s) ∧
      (s.configuring = true → s.cfg.docentUp = false → ∀ c n,
        (a = some (c, n) → s.contCheck c 1 (s.docentLen true n) = none →
          ∃ t, exec (.docentStarted slotB a o) s = .next t ∧ t.docent = 1 ∧ t.fld Reg.CFG_STATUS 8 1 = b2n (s.docentSlot true slotB) ∧
            t.fld Reg.CFG_STATUS 9 1 = 0 ∧ t.cfg.docentUp = true ∧ t.parts = s.parts ∧ t.vlt = s.vlt) ∧
        (a = none → o = some (c, n) → s.contCheck c 1 (s.docentLen false n) = none →
          ∃ t, exec (.docentStarted slotB a o) s = .next t ∧ t.docent = 1 ∧ t.fld Reg.CFG_STATUS 8 1 = b2n (s.docentSlot false slotB) ∧
            t.fld Reg.CFG_STATUS 9 1 = 1 ∧ t.cfg.docentUp = true ∧ t.parts = s.parts ∧ t.vlt = s.vlt)) ∧
      (s.configuring = true → s.cfg.docentUp = false → a = none → o = none →
        ∃ t, exec (.docentStarted slotB a o) s = .next t ∧ recovery t)) ∧
    (s.configuring = true → s.cfg.lanesOver = false →
      ∃ t, exec .cfgLaneWaitExpiry s = .next t ∧ t.cfg.lanesOver = true ∧ t.parts = s.parts ∧ t.lan = s.lan ∧
        (stage s < 6 → s.cfg.docentUp = true → (∀ i : Fin 8, s.portState i ≠ 2) → (∀ i : Fin 8, s.portState i ≤ 4) → stage t = 6)) ∧
    (s.configuring = true → 6 ≤ stage s → s.cfg.autos.length ≤ s.cfg.next → s.cfg.arming = [] → s.cfg.vtrs = [] →
      ∃ t, exec .configurationDone s = .next t ∧ stage t = 8 ∧
        result t = (if s.cfg.failed then 3 else if s.cfg.degraded then 2 else 1) ∧
        drives t = b2n (s.cfg.failed && !s.cfg.released) ∧ t.parts = s.parts ∧ t.vlt = s.vlt ∧
        ∀ d : Fin 4, s.hasDie d = true → (t.phmOf d).running = true) ∧
    (∃ t, exec .cfgDoneRelease s = .next t ∧ drives t = 0 ∧ t.cfg.released = true ∧ RegsBut s t [Reg.CFG_LINE] ∧
      t = { s with regs := t.regs, cfg := { s.cfg with released := true } }) ∧
    (∃ t, exec .resetAbandon s = .next t ∧ t.parts = State.reset.parts ∧ t.vlt = State.reset.vlt ∧ t.noc = State.reset.noc ∧
      t.cfg.hashes = s.cfg.hashes ∧ t.lnk.timebase = s.lnk.timebase ∧ t.variant = s.variant ∧ t.pending = s.pending ∧
      drives t = 0 ∧ t.reg Reg.CFG_KEYS = s.reg Reg.CFG_KEYS)

/-- R391, R395, R397, R403: a go is pending until CFG_DONE is seen high, which it is not while this device holds it low; then it acts, and
every ARMED partition with GO_WAIT starts, at step 0 unless something holds its first boundary, and no other partition does anything.  The entries of the autoload list are done in order:
one whose image cannot be read or fails a check is recorded and leaves every partition as it was, and an ephemeris that passes leaves its
partition LOADED with its tables.  A handover gives the gathered counts of a partition to the Photometer's view and clears them. -/
def Obligations.GoAutoloadAndHandover : Prop :=
  (∀ s : State,
    (∃ t, exec .frameGo s = .next t ∧ t = { s with regs := t.regs } ∧ t.fld Reg.CFG_LINE 4 1 = 1 ∧ t.fld Reg.CFG_LINE 0 4 = s.fld Reg.CFG_LINE 0 4 ∧
      RegsBut s t [Reg.CFG_LINE]) ∧
    (s.fld Reg.CFG_LINE 1 1 = 1 → exec .goAct s = .next s) ∧
    (s.fld Reg.CFG_LINE 1 1 = 0 → s.fld Reg.CFG_LINE 4 1 = 0 →
      ∃ t, exec .goAct s = .next t ∧ t = { s with regs := t.regs } ∧ t.fld Reg.CFG_LINE 2 1 = 1 ∧ RegsBut s t [Reg.CFG_LINE]) ∧
    (s.fld Reg.CFG_LINE 1 1 = 0 → s.fld Reg.CFG_LINE 4 1 = 1 →
      ∃ t, exec .goAct s = .next t ∧ t.fld Reg.CFG_LINE 2 1 = 1 ∧ t.fld Reg.CFG_LINE 4 1 = 0 ∧ t.vlt = s.vlt ∧
        t.fld Reg.CFG_GO_COUNT 0 16 = min 65535 (s.fld Reg.CFG_GO_COUNT 0 16 + 1) ∧
        t.fld Reg.CFG_GO_COUNT 16 16 = (if s.goWaiters = [] then min 65535 (s.fld Reg.CFG_GO_COUNT 16 16 + 1)
          else s.fld Reg.CFG_GO_COUNT 16 16) ∧
        t.reg64 Reg.CFG_GO_TIME_LO = s.lnk.timebase % 2 ^ 64 ∧
        ∀ n, (n ∈ s.goWaiters → (t.part n).state = .running ∧ (t.part n).goWait = false ∧ (t.part n).img = (s.part n).img ∧
            ((s.part n).bholds = [] → s.boundaryHolds n = [] → (t.part n).step = 0 ∧ (t.part n).cur = (s.part n).frame)) ∧
          (n ∉ s.goWaiters → t.part n = s.part n))) ∧
  (∀ (s : State) (a : AutoEntry) (img : AutoImg), s.configuring = true → s.fld Reg.CFG_STATUS 0 4 = 6 →
    s.cfg.autos[s.cfg.next]? = some a → s.cfg.vtrs = [] →
    let on := fun (t : State) => t.cfg.next = s.cfg.next + 1 ∧ (t.cfg.autos.length ≤ t.cfg.next → t.fld Reg.CFG_STATUS 0 4 = 7)
    (a.kind = 0 → ∃ t, exec (.autoloadEntry img) s = .next t ∧ on t ∧ t.parts = s.parts ∧ t.vlt = s.vlt ∧ t.vtr = s.vtr ∧
      t.reg Reg.CFG_FAIL = s.reg Reg.CFG_FAIL ∧ t.cfg.degraded = s.cfg.degraded) ∧
    (a.kind = 1 ∨ a.kind = 2 → s.fld Reg.CFG_FAIL 31 1 = 0 →
      ∃ t, exec (.autoloadEntry .absent) s = .next t ∧ on t ∧ t.parts = s.parts ∧ t.vlt = s.vlt ∧ t.vtr = s.vtr ∧
        t.fld Reg.CFG_FAIL 0 4 = 6 ∧ t.fld Reg.CFG_FAIL 4 8 = 9 ∧ t.fld Reg.CFG_FAIL 12 4 = s.cfg.next % 16 ∧
        t.fld Reg.CFG_FAIL 16 8 = Status.range.code ∧ t.cfg.degraded = true ∧ t.cfg.failed = (s.cfg.failed || a.required)) ∧
    (∀ c len e ok x, a.kind = 1 → s.autoLen a x = some len → a.depot = false →
      (∀ st k, s.loadCheck a.target c e len 1 17 = some (st, k) →
        ∃ t, exec (.autoloadEntry (.eph c x e ok)) s = .next t ∧ on t ∧ t.parts = s.parts ∧ t.vlt = s.vlt ∧ t.dep = s.dep ∧
          (t.reg (Reg.CFG_LOAD a.target)).toNat = st.code + k * 2 ^ 8 + 2 ^ 16 + 2 ^ 31 ∧ t.cfg.degraded = true) ∧
      (s.loadCheck a.target c e len 1 17 = none → a.segCount = 0 → e.loanBanks = [] → s.loadCheck a.target c e len 18 25 = none →
        a.arm = false →
        ∃ t, exec (.autoloadEntry (.eph c x e true)) s = .next t ∧ on t ∧ (t.part a.target).state = .loaded ∧
          (t.part a.target).eph = e.toEph s.variant ∧ (t.part a.target).img = { Img.zero with ws := (e.toEph s.variant).wsInit } ∧
          PartsBut s t a.target ∧ (t.reg (Reg.CFG_LOAD a.target)).toNat = 2 ^ 16 + 2 ^ 31))) ∧
  (∀ (s : State) (d : Fin 4) (n : Fin 8), s.hasDie d = true →
    let p := s.phmOf d
    let g := vget p.gCount n
    let r := vget p.gRun n
    let due := vget p.batch n = false ∧ 0 < g ∧ (vget p.kCur n ≤ g ∨ vget p.flush n = true)
    (¬ due → exec (.handover d n) s = .next s) ∧
    (due → r.1 + r.2 ≤ 1024 → ∃ t, exec (.handover d n) s = .next t ∧ t.parts = s.parts ∧ t.vlt = s.vlt ∧
      (let q := t.phmOf d
       (∀ i, r.1 ≤ i → i < r.1 + r.2 → q.x i = BitVec.ofNat 24 (mget dNat p.gather i) ∧ mget dNat q.gather i = 0) ∧
       q.x (0x400 + 8 * n) = BitVec.ofNat 24 g ∧ q.x (0x401 + 8 * n) = BitVec.ofNat 24 (vget p.gFirst n) ∧
       q.x (0x402 + 8 * n) = BitVec.ofNat 24 (vget p.gFirst n / 2 ^ 24) ∧
       q.x (0x403 + 8 * n) = BitVec.ofNat 24 (b2n (vget p.gSat n) + 2 * b2n (vget p.flush n) + 4 * b2n (decide (vget p.kCur n < g))) ∧ q.x (0x404 + 8 * n) = BitVec.ofNat 24 r.2 ∧
       q.x (0x405 + 8 * n) = BitVec.ofNat 24 r.1 ∧ vget q.batch n = true ∧ vget q.gCount n = 0 ∧
       vget q.kCur n = s.fld (Reg.PHM_DECIM d n) 0 8 ∧ q.running = p.running ∧ q.pc = p.pc) ∧
      (∀ e, e ≠ d → t.phmOf e = s.phmOf e) ∧ RegsBut s t [Reg.PHM_LATE d n]))

namespace Sys2Proof.Statements

/-- Where a post-modify by m takes an index (R410). -/
def circVal (ix bx lx m : Int) : Int :=
  if lx = 0 ∨ lx ≤ (ix - bx) % 8192 then (ix + m) % 8192 else (bx + ((ix - bx) % 8192 + m) % lx) % 8192

/-- Index i of q is that of p post-modified by m when `on`. -/
def circIf (p : Phm) (i : Fin 4) (v : Int) (on : Bool) (m : Int) : Int :=
  if on then circVal v (vget p.bx i).toNat (vget p.lx i).toNat m else v

/-- The program goes on after the instruction, or round its repeat block (R413). -/
def GoesOn (p q : Phm) : Prop :=
  match p.rep with
  | none => q.pc = (p.pc + 1) % 4096 ∧ q.rep = none
  | some r =>
    if p.pc = r.last then
      (if 1 < r.left then q.pc = r.first ∧ q.rep = some { r with left := r.left - 1 } else q.pc = (r.last + 1) % 4096 ∧ q.rep = none)
    else q.pc = (p.pc + 1) % 4096 ∧ q.rep = some r

/-- Accumulator a holds e wrapped to 56 bits, every other as before, and OVF is set when e lies outside (R408). -/
def AccTo (p q : Phm) (a : Fin 4) (e : Int) : Prop :=
  vget q.acc a = BitVec.ofInt 56 e ∧ (∀ b, b ≠ a → vget q.acc b = vget p.acc b) ∧
    q.ovf = (p.ovf || decide (e < -(2 ^ 55) ∨ 2 ^ 55 - 1 < e))

/-- The row of an opcode, on a running core with no halt asked for and the device neither in DORMANT nor tripped: from p, with the instruction word w, it leaves a core for which `P`
holds, no other core and no register but PHM_BUSY changed, which counts `cyc`; where the core does not run or the program counter
stands at another opcode it does nothing (R411, R415). -/
def PhmRow (c : Instr) (d : Fin 4) (op : Nat) (P : Phm → Word → Phm → Prop) (cyc : Phm → Word → Phm → Nat) : Prop :=
  ∀ s : State, s.hasDie d = true →
    let p := s.phmOf d
    (s.pwr.phase = .dormant → exec c s = .next s) ∧
    (s.pwr.phase ≠ .dormant → s.pwr.tripped = false → p.running = true → p.haltAsked = false → bitsAt p.word 26 6 = op →
      ∃ t, exec c s = .next t ∧ P p p.word (t.phmOf d) ∧ (∀ e, e ≠ d → t.phmOf e = s.phmOf e) ∧
        t = { s with regs := t.regs, phm := t.phm } ∧ RegsBut s t [Reg.PHM_BUSY d] ∧
        (t.reg (Reg.PHM_BUSY d)).toNat = min (2 ^ 32 - 1) ((s.reg (Reg.PHM_BUSY d)).toNat + cyc p p.word (t.phmOf d))) ∧
    ((p.running = false ∨ bitsAt p.word 26 6 ≠ op) → exec c s = .next s)

/-- What the data instructions leave: memories but X, bounds, gathers, events, queue and status stay. -/
def DataOnly (p q : Phm) : Prop :=
  q = { p with acc := q.acc, dreg := q.dreg, ix := q.ix, xmem := q.xmem, ovf := q.ovf, stsat := q.stsat, pc := q.pc, rep := q.rep,
               lastAcc := q.lastAcc }

/-- The core has halted with an error, its program counter at the instruction, and nothing else done (R416). -/
def StoppedErr (p q : Phm) (e : Nat) : Prop :=
  q = { p with running := false, waiting := false, err := e, rep := none }

/-- R409: narrowing, rounding half up and saturating. -/
def IsNarrow (a : Int) (sh w : Nat) (g : Bool) (v : Int) (sat : Bool) : Prop :=
  let r := if sh = 0 then a else (a + 2 ^ (sh - 1)) / 2 ^ sh
  let lo : Int := if g then -(2 ^ (w - 1)) else 0
  let hi : Int := if g then 2 ^ (w - 1) - 1 else 2 ^ w - 1
  v = max lo (min hi r) ∧ (sat = true ↔ r < lo ∨ hi < r)

end Sys2Proof.Statements

/-- R408, R410 to R412: the Photometer's data instructions on every die.  Products are exact, accumulation wraps to 56 bits with OVF;
an index moves round its ring; a store narrows and saturates with STSAT, and one outside the general area of X halts the core with
error 3; an accumulator read just after its write costs one more cycle. -/
def Obligations.PhotometerDataInstructions : Prop :=
  ∀ d : Fin 4,
    let one := fun (_ : Phm) (_ : Word) (_ : Phm) => 1
    let idx := fun (w : Word) (lo : Nat) => (⟨bitsAt w lo 2, Nat.mod_lt _ (by decide)⟩ : Fin 4)
    let ixs := fun (p q : Phm) (f : Fin 4 → Int) => ∀ i, ((vget q.ix i).toNat : Int) = f i ∧ vget q.bx i = vget p.bx i
    let pm := fun (x : Nat) => if x = 3 then (-1 : Int) else x
    let at_ := fun (p : Phm) (i : Fin 4) => ((vget p.ix i).toNat : Int)
    PhmRow (.clra d) d 0x01 (fun p w q => DataOnly p q ∧ GoesOn p q ∧ q.ix = p.ix ∧ q.dreg = p.dreg ∧ q.xmem = p.xmem ∧ q.ovf = p.ovf ∧
      ∀ j : Fin 4, vget q.acc j = if w.getLsbD (22 + j) then 0 else vget p.acc j) one ∧
    PhmRow (.mac d) d 0x04 (fun p w q => DataOnly p q ∧ GoesOn p q ∧ q.dreg = p.dreg ∧ q.xmem = p.xmem ∧ q.stsat = p.stsat ∧
      (let a := idx w 24
       let v := phmProduct (p.opnd (bitsAt w 21 3) false) (p.opnd (bitsAt w 16 3) true) (w.getLsbD 13)
       AccTo p q a ((if w.getLsbD 11 then 0 else (vget p.acc a).toInt) + (if w.getLsbD 12 then -v else v)) ∧ q.lastAcc = [a.val]) ∧
      ixs p q fun i =>
        let x := circIf p i (at_ p i) (bitsAt w 21 3 == i.val) (pm (bitsAt w 19 2))
        circIf p i x (bitsAt w 16 3 == i.val) (pm (bitsAt w 14 2))) one ∧
    PhmRow (.mac2 d) d 0x05 (fun p w q => DataOnly p q ∧ GoesOn p q ∧ q.dreg = p.dreg ∧ q.xmem = p.xmem ∧ q.stsat = p.stsat ∧
      (let ax := (vget p.ix (idx w 23)).toNat / 2 * 2
       let ay := (vget p.ix (idx w 21)).toNat % 4096 / 2 * 2
       let e : Fin 4 := if w.getLsbD 25 then 2 else 0
       let f : Fin 4 := if w.getLsbD 25 then 3 else 1
       let u := (if w.getLsbD 19 then 0 else (vget p.acc e).toInt) + phmProduct (p.x ax) (p.y ay) (w.getLsbD 20)
       let v := (if w.getLsbD 19 then 0 else (vget p.acc f).toInt) + phmProduct (p.x (ax + 1)) (p.y (ay + 1)) (w.getLsbD 20)
       vget q.acc e = BitVec.ofInt 56 u ∧ vget q.acc f = BitVec.ofInt 56 v ∧ (∀ b, b ≠ e → b ≠ f → vget q.acc b = vget p.acc b) ∧
       q.ovf = (p.ovf || decide (u < -(2 ^ 55) ∨ 2 ^ 55 - 1 < u ∨ v < -(2 ^ 55) ∨ 2 ^ 55 - 1 < v))) ∧
      ixs p q fun i => circIf p i (circIf p i (at_ p i) (idx w 23 == i) 2) (idx w 21 == i) 2) one ∧
    PhmRow (.adda d) d 0x06 (fun p w q => DataOnly p q ∧ GoesOn p q ∧ q.dreg = p.dreg ∧ q.ix = p.ix ∧ q.xmem = p.xmem ∧
      (let a := idx w 24
       let v := (vget p.acc (idx w 22)).toInt
       AccTo p q a ((vget p.acc a).toInt + (if w.getLsbD 21 then -v else v))))
      (fun p w _ => if (idx w 24).val ∈ p.lastAcc ∨ (idx w 22).val ∈ p.lastAcc then 2 else 1) ∧
    PhmRow (.st d) d 0x08 (fun p w q =>
      let a := (vget p.ix (idx w 22)).toNat
      let wide := w.getLsbD 12
      let ok := 0x0C00 ≤ a ∧ (wide = true → a + 1 < 8192)
      (ok → DataOnly p q ∧ GoesOn p q ∧ q.acc = p.acc ∧ q.dreg = p.dreg ∧ q.ovf = p.ovf ∧
        (∃ v sat, IsNarrow (vget p.acc (idx w 24)).toInt (bitsAt w 14 6) (if wide then 48 else 24) (w.getLsbD 13) v sat ∧
          q.stsat = (p.stsat || sat) ∧ q.x a = BitVec.ofInt 24 v ∧ (wide = true → q.x (a + 1) = BitVec.ofInt 24 (v / 2 ^ 24))) ∧
        (∀ b, b < 8192 → b ≠ a → (wide = true → b ≠ a + 1) → q.x b = p.x b) ∧
        ixs p q fun i => circIf p i (at_ p i) (idx w 22 == i) (pm (bitsAt w 20 2))) ∧
      (¬ ok → StoppedErr p q 3)) (fun p w _ => if (idx w 24).val ∈ p.lastAcc then 2 else 1) ∧
    PhmRow (.ld d) d 0x09 (fun p w q => DataOnly p q ∧ GoesOn p q ∧ q.acc = p.acc ∧ q.xmem = p.xmem ∧ q.ovf = p.ovf ∧
      (let a := (vget p.ix (idx w 21)).toNat
       ∀ k, vget q.dreg k = if k = idx w 24 then (if w.getLsbD 23 then p.y a else p.x a) else vget p.dreg k) ∧
      ixs p q fun i => circIf p i (at_ p i) (idx w 21 == i) (pm (bitsAt w 19 2))) one ∧
    PhmRow (.ldi d) d 0x0A (fun p w q => DataOnly p q ∧ GoesOn p q ∧ q.acc = p.acc ∧ q.xmem = p.xmem ∧ q.ix = p.ix ∧
      ∀ k, vget q.dreg k = if k = idx w 24 then BitVec.ofNat 24 w.toNat else vget p.dreg k) one ∧
    PhmRow (.std d) d 0x0B (fun p w q =>
      let a := (vget p.ix (idx w 22)).toNat
      (0x0C00 ≤ a → DataOnly p q ∧ GoesOn p q ∧ q.acc = p.acc ∧ q.dreg = p.dreg ∧ q.stsat = p.stsat ∧
        (∀ b, b < 8192 → q.x b = if b = a then vget p.dreg (idx w 24) else p.x b) ∧
        ixs p q fun i => circIf p i (at_ p i) (idx w 22 == i) (pm (bitsAt w 20 2))) ∧
      (a < 0x0C00 → StoppedErr p q 3)) one ∧
    PhmRow (.setx d) d 0x0C (fun p w q => GoesOn p q ∧
      q = { p with ix := q.ix, bx := q.bx, lx := q.lx, pc := q.pc, rep := q.rep, lastAcc := q.lastAcc } ∧
      (∀ k, vget q.ix k = if bitsAt w 24 2 = 0 ∧ k = idx w 22 then BitVec.ofNat 13 w.toNat else vget p.ix k) ∧
      (∀ k, vget q.bx k = if bitsAt w 24 2 = 1 ∧ k = idx w 22 then BitVec.ofNat 13 w.toNat else vget p.bx k) ∧
      (∀ k, vget q.lx k = if bitsAt w 24 2 = 2 ∧ k = idx w 22 then BitVec.ofNat 13 w.toNat else vget p.lx k)) one ∧
    PhmRow (.modx d) d 0x0D (fun p w q => DataOnly p q ∧ GoesOn p q ∧ q.acc = p.acc ∧ q.dreg = p.dreg ∧ q.xmem = p.xmem ∧
      ixs p q fun i => circIf p i (at_ p i) (idx w 24 == i) (BitVec.ofNat 13 w.toNat).toInt) one ∧
    PhmRow (.movx d) d 0x0E (fun p w q => DataOnly p q ∧ GoesOn p q ∧ q.acc = p.acc ∧ q.dreg = p.dreg ∧ q.xmem = p.xmem ∧
      ∀ k, vget q.ix k = if k = idx w 24 then BitVec.ofNat 13 (vget p.dreg (idx w 22)).toNat else vget p.ix k) one

/-- R411 to R416: the Photometer's control instructions.  REP runs a block of LEN + 1 instructions its count of times; it, BR, DJNZ, WAIT
and HALT inside a block halt the core with error 2, and a reserved OP with error 1.  WAIT returns the pending event of lowest code of its
mask.  EMIT frees the batch it names, which must be pending, else error 4; EMIT and PUT wait while the output queue is full. -/
def Obligations.PhotometerControlInstructions : Prop :=
  ∀ d : Fin 4,
    let idx := fun (w : Word) (lo : Nat) => (⟨bitsAt w lo 2, Nat.mod_lt _ (by decide)⟩ : Fin 4)
    let ctl := fun (p q : Phm) => q = { p with dreg := q.dreg, pc := q.pc, rep := q.rep, cache := q.cache, lastAcc := q.lastAcc }
    let blk := fun (p q : Phm) (P : Prop) => (p.rep ≠ none → StoppedErr p q 2) ∧ (p.rep = none → P)
    PhmRow (.phmNop d) d 0x00 (fun p _ q => GoesOn p q ∧ ctl p q ∧ q.dreg = p.dreg ∧ q.cache = p.cache) (fun _ _ _ => 1) ∧
    PhmRow (.rep d) d 0x10 (fun p w q => blk p q (ctl p q ∧ q.dreg = p.dreg ∧
      (let n := if w.getLsbD 21 then (vget p.dreg (idx w 16)).toNat else bitsAt w 0 16
       let len := bitsAt w 22 4 + 1
       (n = 0 → q.pc = (p.pc + 1 + len) % 4096 ∧ q.rep = none) ∧
       (0 < n → q.pc = (p.pc + 1) % 4096 ∧ q.rep = some ⟨(p.pc + 1) % 4096, (p.pc + len) % 4096, n⟩)))) (fun _ _ _ => 2) ∧
    PhmRow (.br d) d 0x11 (fun p w q => blk p q (ctl p q ∧ q.dreg = p.dreg ∧ q.rep = none ∧
      (let c := bitsAt w 22 4
       let yes := c = 0 ∨ (c = 1 ∧ vget p.dreg 0 = 0) ∨ (c = 2 ∧ vget p.dreg 0 ≠ 0) ∨ (c = 3 ∧ (vget p.acc 0).toInt < 0) ∨
         (c = 4 ∧ vget p.acc 0 = 0) ∨ (c = 5 ∧ p.ovf = true)
       (yes → q.pc = bitsAt w 0 12) ∧ (¬ yes → q.pc = (p.pc + 1) % 4096))))
      (fun p w _ => (if p.cond (bitsAt w 22 4) then 2 else 1) + (if (bitsAt w 22 4 = 3 ∨ bitsAt w 22 4 = 4) ∧ 0 ∈ p.lastAcc then 1 else 0)) ∧
    PhmRow (.djnz d) d 0x12 (fun p w q => blk p q (ctl p q ∧ q.rep = none ∧
      (let i := idx w 24
       let v := vget p.dreg i - 1
       (∀ k, vget q.dreg k = if k = i then v else vget p.dreg k) ∧ q.pc = if v = 0 then (p.pc + 1) % 4096 else bitsAt w 0 12)))
      (fun p w _ => if vget p.dreg (idx w 24) = 1 then 1 else 2) ∧
    PhmRow (.wait d) d 0x14 (fun p w q => blk p q (
      (∀ n : Fin 8, vget p.batch n = true → w.getLsbD n = true → (∀ m : Fin 8, m < n → vget p.batch m = true → w.getLsbD m = false) →
        q.pc = (p.pc + 1) % 4096 ∧ q.waiting = false ∧ q.batch = p.batch ∧ vget q.dreg 0 = BitVec.ofNat 24 n ∧
        vget q.dreg 1 = BitVec.ofNat 24 ((p.x (0x404 + 8 * n)).toNat / 2) ∧ vget q.dreg 2 = p.x (0x405 + 8 * n) ∧
        vget q.dreg 3 = BitVec.ofNat 24 (0x400 + 8 * n)) ∧
      ((∀ n : Fin 8, vget p.batch n = false) → (∀ k, vget p.taps k = 0) → w.getLsbD 9 = true → p.timer ≠ 0 →
        q.pc = (p.pc + 1) % 4096 ∧ vget q.dreg 0 = 9 ∧ vget q.dreg 1 = BitVec.ofNat 24 p.timer ∧ q.timer = 0) ∧
      ((∀ n : Fin 8, vget p.batch n = false) → (∀ k, vget p.taps k = 0) → p.timer = 0 →
        q = { p with waiting := true, lastAcc := [] }))) (fun _ _ _ => 0) ∧
    PhmRow (.phmHalt d) d 0x3F (fun p _ q => blk p q (q = { p with running := false, waiting := false, err := 0, lastAcc := [] })) (fun _ _ _ => 1) ∧
    (∀ s : State, s.hasDie d = true → s.pwr.phase ≠ .dormant → s.pwr.tripped = false → (s.phmOf d).running = true → (s.phmOf d).haltAsked = false →
      let p := s.phmOf d
      let w := p.word
      (bitsAt w 26 6 ∈ phmOps → exec (.phmReservedOp d) s = .next s) ∧
      (bitsAt w 26 6 ∉ phmOps → ∃ t, exec (.phmReservedOp d) s = .next t ∧ StoppedErr p (t.phmOf d) 1 ∧ t = { s with phm := t.phm } ∧
        ∀ e, e ≠ d → t.phmOf e = s.phmOf e) ∧
      (16 ≤ p.out.length → exec (.emit d) s = .next s ∧ exec (.put d) s = .next s) ∧
      (p.out.length < 16 → bitsAt w 26 6 = 0x19 → ∃ t v sat, exec (.put d) s = .next t ∧
        IsNarrow (vget p.acc (idx w 24)).toInt (bitsAt w 16 6) 48 true v sat ∧ GoesOn p (t.phmOf d) ∧
        (t.phmOf d).stsat = (p.stsat || sat) ∧ (t.phmOf d).batch = p.batch ∧ t.vlt = s.vlt ∧ t.parts = s.parts ∧
        (t.phmOf d).out = p.out ++ [⟨d * 2 ^ 51 + 2 * 2 ^ 56,
          b2n p.ovf * 2 ^ 27 + b2n (p.stsat || sat) * 2 ^ 28 + bitsAt w 0 8 * 2 ^ 32, (BitVec.ofInt 64 v).toNat⟩]) ∧
      (p.out.length < 16 → bitsAt w 26 6 = 0x18 → ∀ n : Fin 8, (vget p.dreg 0).toNat % 8 = n.val →
        (vget p.batch n = false → ∃ t, exec (.emit d) s = .next t ∧ StoppedErr p (t.phmOf d) 4 ∧ t.vlt = s.vlt ∧ t.parts = s.parts) ∧
        (vget p.batch n = true → vget p.gCount n = 0 → ∃ t v sat, exec (.emit d) s = .next t ∧
          IsNarrow (vget p.acc (idx w 24)).toInt (bitsAt w 16 6) 48 false v sat ∧ GoesOn p (t.phmOf d) ∧
          vget (t.phmOf d).batch n = false ∧ (∀ m, m ≠ n → vget (t.phmOf d).batch m = vget p.batch m) ∧
          (∃ r, (t.phmOf d).out = p.out ++ [r] ∧ r.w2 = v.toNat ∧ r.w0 / 2 ^ 56 = 1 ∧ r.w0 / 2 ^ 48 % 8 = n.val ∧ r.w0 / 2 ^ 51 % 4 = d.val ∧
            r.w1 % 2 ^ 24 = (p.x (0x400 + 8 * n)).toNat) ∧ t.vlt = s.vlt ∧ t.parts = s.parts)))

/-- R407, R414, R417 to R419, R421, R422: control from outside.  START of a halted core clears its registers and begins at P address 0, its
flags as they are; HALT stops it at the next instruction boundary, or at once in WAIT; CLR_FLAGS acts on a halted core, and on a running
one is logged.  The TIMER event counts periods.  The record that leaves the queue passes its energy to the Tally when it is a result, and
is written to the ring, with the timebase, or counted in PHM_RING_DROP; the ring's tail moves forward, not past the head. -/
def Obligations.PhotometerControlAndResults : Prop :=
  ∀ (s : State) (d : Fin 4), s.hasDie d = true →
    let p := s.phmOf d
    let head := s.fld (Reg.PHM_RING_HEAD d) 0 11
    let tail := s.fld (Reg.PHM_RING_TAIL d) 0 11
    let bank := d.val * 256 + s.fld (Reg.PHM_RING d) 0 8
    let space := s.fld (Reg.PHM_RING d) 8 1 = 1 ∧ (head + 1) % 2048 ≠ tail
    let room := space ∧ s.unitAsk bank 9 = none
    let only := fun (t : State) => t = { s with phm := t.phm } ∧ ∀ e, e ≠ d → t.phmOf e = s.phmOf e
    (p.running = false →
      (∃ t, exec (.phmStart d) s = .next t ∧ only t ∧ t.phmOf d =
        { p with acc := Vector.replicate 4 0, dreg := Vector.replicate 4 0, ix := Vector.replicate 4 0, bx := Vector.replicate 4 0,
                 lx := Vector.replicate 4 0, pc := 0, running := true, waiting := false, haltAsked := false, rep := none,
                 lastAcc := [] }) ∧
      (∃ t, exec (.clrFlags d) s = .next t ∧ only t ∧ t.phmOf d = { p with ovf := false, stsat := false }) ∧
      (∃ t, exec (.phmCtrlHalt d) s = .next t ∧ t.phm = s.phm)) ∧
    (p.running = true →
      (∃ t, exec (.phmStart d) s = .next t ∧ t.phm = s.phm ∧ Logged s t) ∧
      (∃ t, exec (.clrFlags d) s = .next t ∧ t.phm = s.phm ∧ Logged s t) ∧
      (∃ t, exec (.phmCtrlHalt d) s = .next t ∧ only t ∧
        t.phmOf d = if p.waiting then { p with running := false, waiting := false, err := 0, haltAsked := false, rep := none } else { p with haltAsked := true })) ∧
    (s.fld (Reg.PHM_TIMER d) 0 16 = 0 → exec (.phmTimer d) s = .next s) ∧
    (s.pwr.phase = .dormant → exec (.phmTimer d) s = .next s ∧ exec (.resultRecordOut d) s = .next s) ∧
    (s.pwr.phase ≠ .dormant → s.pwr.tripped = false → s.fld (Reg.PHM_TIMER d) 0 16 ≠ 0 → ∃ t, exec (.phmTimer d) s = .next t ∧ only t ∧ t.phmOf d = { p with timer := p.timer + 1 }) ∧
    (∀ v : Word,
      let ok := (bitsAt v 0 11 + 2048 - tail) % 2048 ≤ (head + 2048 - tail) % 2048
      (ok → ∃ t, exec (.phmRingTailWrite d v) s = .next t ∧ t = { s with regs := t.regs } ∧
        t.fld (Reg.PHM_RING_TAIL d) 0 11 = bitsAt v 0 11 ∧ RegsBut s t [Reg.PHM_RING_TAIL d]) ∧
      (¬ ok → ∃ t, exec (.phmRingTailWrite d v) s = .next t ∧ t.phm = s.phm ∧ Logged s t)) ∧
    (p.out = [] → exec (.resultRecordOut d) s = .next s) ∧
    (space → s.unitAsk bank 9 = some .retry → exec (.resultRecordOut d) s = .next s) ∧
    (∀ r rs, p.out = r :: rs → s.pwr.phase ≠ .dormant → s.pwr.tripped = false → ¬ (space ∧ s.unitAsk bank 9 = some .retry) →
      ∃ t, exec (.resultRecordOut d) s = .next t ∧ t.phmOf d = { p with out := rs } ∧ t.parts = s.parts ∧
        (r.w0 / 2 ^ 56 ≠ 1 → t.tly = s.tly) ∧
        (room → t.fld (Reg.PHM_RING_HEAD d) 0 11 = (head + 1) % 2048 ∧
          (r.w0 / 2 ^ 56 ≠ 1 → t.vword bank (4 * head) = BitVec.ofNat 64 r.w0 ∧ t.vword bank (4 * head + 1) = BitVec.ofNat 64 r.w1 ∧
            t.vword bank (4 * head + 2) = BitVec.ofNat 64 r.w2 ∧ t.vword bank (4 * head + 3) = BitVec.ofNat 64 s.lnk.timebase)) ∧
        (¬ room → t.fld (Reg.PHM_RING_HEAD d) 0 11 = head ∧
          (t.reg (Reg.PHM_RING_DROP d)).toNat = min (2 ^ 32 - 1) ((s.reg (Reg.PHM_RING_DROP d)).toNat + 1) ∧
          (r.w0 / 2 ^ 56 ≠ 1 → t.vlt = s.vlt)) ∧
        (∀ n : Fin 8, r.w0 / 2 ^ 56 = 1 → r.w0 / 2 ^ 48 % 8 = n.val → r.w2 ≠ 0 → s.tly.rows = [] →
          t.tly.rows = [⟨n, s.tenant n, 0, 0, 0, r.w2 % 2 ^ 64, false, false⟩]))

/-- R427, R429 to R435: the converters.  In DORMANT they do nothing.  A trigger starts an injected run at the next slot, or is pending during a
run, or merged; a droop fires when it has re-armed.  A slot converts the next regular entry, or, after a trigger, injected entry 0 with the
selects as they stand; each selected converter gives a record, EARLY while the reference settles.  A conversion that ends replaces
ADC_LAST of its channel and enters the sample ring, or is dropped and counted; the ring's tail moves forward, not past the head. -/
def Obligations.ConverterSlotsAndTriggers : Prop :=
  ∀ s : State,
    let a := s.adc
    let pend := s.fld Reg.ADC_STATUS 2 1
    let fires := fun (t : State) => t.parts = s.parts ∧ t.vlt = s.vlt ∧ t.adc.conv = a.conv ∧ t.adc.run = a.run ∧
      (a.run = none → t.adc.trig = true) ∧ (a.run ≠ none → t.fld Reg.ADC_STATUS 2 1 = 1 ∧
        (t.reg Reg.ADC_INJ_MERGED).toNat = min (2 ^ 32 - 1) ((s.reg Reg.ADC_INJ_MERGED).toNat + pend)) ∧
      RegsBut s t [Reg.ADC_CAUSE, Reg.ADC_STATUS, Reg.ADC_INJ_MERGED]
    (s.pwr.phase = .dormant → (∀ w x y z, exec (.adcSlot w x y z) s = .next s) ∧ (∀ l, exec (.injGo l) s = .next s) ∧
      exec .refSettled s = .next s ∧
      ∀ (c : BitVec 7) r l, s.isSupply c.toNat = true → exec (.droop c r l) s = .next s) ∧
    (s.pwr.phase ≠ .dormant →
      (∃ t, exec .refSettled s = .next t ∧ t = { s with regs := t.regs } ∧ t.fld Reg.ADC_STATUS 0 1 = 1 ∧
        t.fld Reg.ADC_STATUS 1 31 = s.fld Reg.ADC_STATUS 1 31 ∧ RegsBut s t [Reg.ADC_STATUS]) ∧
      (∃ t, exec (.injGo false) s = .next t ∧ fires t ∧ t.fld Reg.ADC_CAUSE 0 1 = 1 ∧ t.fld Reg.ADC_CAUSE 1 31 = s.fld Reg.ADC_CAUSE 1 31) ∧
      (∃ t, exec (.injGo true) s = .next t ∧ t.adc = { a with late := a.late + 1 } ∧ t.fld Reg.ADC_CAUSE 0 1 = 1 ∧
        RegsBut s t [Reg.ADC_CAUSE]) ∧
      (∀ (c : BitVec 7) rose, s.isSupply c.toNat = true →
        let fire := s.fld Reg.ADC_CFG 20 1 = 1 ∧ (rose = true ∨ c.toNat ∉ a.fired)
        (¬ fire → ∀ l, exec (.droop c rose l) s = .next s) ∧
        (fire → ∃ t, exec (.droop c rose false) s = .next t ∧ fires t ∧ t.fld Reg.ADC_CAUSE 1 1 = 1 ∧ c.toNat ∈ t.adc.fired ∧
          t.fld Reg.ADC_CAUSE 8 8 = min (a.low.getD 255) c.toNat)) ∧
      (∀ x : Fin 4 → Smp, a.ref = s.adcRef → a.late = 0 → a.conv = [] → a.dma = [] →
        let rec_ := fun (k i idx : Nat) (inj : Bool) (y : Smp) => (20 * k + i) * 2 ^ 24 + idx * 2 ^ 18 + b2n inj * 2 ^ 17 +
          (1 - s.fld Reg.ADC_STATUS 0 1) * 2 ^ 16 + b2n y.ovr * 2 ^ 15 + b2n (y.unr && !y.ovr) * 2 ^ 14 + k * 2 ^ 12 +
          (if y.ovr then 0xFFF else if y.unr then 0 else y.code.toNat)
        let takes := fun (t : State) (idx : Nat) (inj : Bool) (w : Word) => ∀ k : Fin 4,
          (∀ i, bitsAt w (8 * k) 5 = i → i < 19 → (16 ≤ i ∨ s.hasDie k = true) → rec_ k i idx inj (x k) ∈ t.adc.conv) ∧
          (20 ≤ bitsAt w (8 * k) 5 → ∀ r ∈ t.adc.conv, r / 2 ^ 24 / 20 ≠ k.val)
        (a.run = none → a.trig = false → pend = 0 →
          let e := if s.adcLen ≤ s.fld Reg.ADC_STATUS 8 5 then 0 else s.fld Reg.ADC_STATUS 8 5
          ∃ t, exec (.adcSlot (x 0) (x 1) (x 2) (x 3)) s = .next t ∧ takes t e false (s.reg (Reg.ADC_SEQ e)) ∧ t.adc.run = none ∧
            t.fld Reg.ADC_STATUS 8 5 = (if s.adcLen ≤ e + 1 then 0 else e + 1) ∧ t.fld Reg.ADC_STATUS 1 1 = 0 ∧
            RegsBut s t [Reg.ADC_STATUS] ∧ t.vlt = s.vlt ∧ t.parts = s.parts) ∧
        (a.run = none → a.trig = true ∨ pend = 1 →
          ∃ t, exec (.adcSlot (x 0) (x 1) (x 2) (x 3)) s = .next t ∧ takes t 0 true (s.reg (Reg.ADC_INJ 0)) ∧ t.adc.run = some 0 ∧
            t.adc.trig = false ∧ (∀ j, j < 4 → t.adc.sels[j]? = some (s.reg (Reg.ADC_INJ j))) ∧
            t.fld Reg.ADC_STATUS 8 5 = s.fld Reg.ADC_STATUS 8 5 ∧ t.fld Reg.ADC_STATUS 1 1 = 1 ∧ t.fld Reg.ADC_STATUS 2 1 = 0 ∧
            RegsBut s t [Reg.ADC_STATUS] ∧ t.vlt = s.vlt ∧ t.parts = s.parts) ∧
        (∀ j, a.run = some j → j < s.fld Reg.ADC_CFG 16 2 →
          ∃ t, exec (.adcSlot (x 0) (x 1) (x 2) (x 3)) s = .next t ∧ takes t (j + 1) true (a.sels.getD (j + 1) 0) ∧
            t.adc.run = some (j + 1) ∧ t.fld Reg.ADC_STATUS 8 5 = s.fld Reg.ADC_STATUS 8 5 ∧ RegsBut s t [Reg.ADC_STATUS])) ∧
      (∀ (r : Nat) (w x y z : Smp), a.conv = [r] → a.dma = [] → r < 2 ^ 32 → r / 2 ^ 24 < 80 → 16 ≤ r / 2 ^ 24 % 20 →
        (∀ (d k : Fin 4), s.fld (Reg.PHM_TAP d k) 8 1 = 0) →
        let bank := s.fld Reg.ADC_RING 0 10
        let head := s.fld Reg.ADC_RING_HEAD 0 14
        let space := s.fld Reg.ADC_RING 10 1 = 1 ∧ s.hasBank bank = true ∧ (head + 1) % 2 ^ 14 ≠ s.fld Reg.ADC_RING_TAIL 0 14
        let room := space ∧ s.unitAsk bank 11 = none
        let wait := space ∧ s.unitAsk bank 11 = some .retry
        ∃ t, exec (.adcSlot w x y z) s = .next t ∧ (t.reg (Reg.ADC_LAST (r / 2 ^ 24))).toNat = r ∧ t.parts = s.parts ∧
          (room → t.fld Reg.ADC_RING_HEAD 0 14 = (head + 1) % 2 ^ 14 ∧
            bitsAt (t.vword bank (head / 2)) (32 * (head % 2)) 32 = r ∧
            bitsAt (t.vword bank (head / 2)) (32 * (1 - head % 2)) 32 = bitsAt (s.vword bank (head / 2)) (32 * (1 - head % 2)) 32) ∧
          (wait → t.adc.dma = [r] ∧ t.vlt = s.vlt ∧ t.fld Reg.ADC_RING_HEAD 0 14 = head ∧
            t.reg Reg.ADC_RING_DROP = s.reg Reg.ADC_RING_DROP) ∧
          (¬ wait → t.adc.dma = []) ∧
          (¬ room → ¬ wait → t.vlt = s.vlt ∧ t.fld Reg.ADC_RING_HEAD 0 14 = head ∧
            (t.reg Reg.ADC_RING_DROP).toNat = min (2 ^ 32 - 1) ((s.reg Reg.ADC_RING_DROP).toNat + 1)))) ∧
    (∀ (v : Word) (p : Path),
      let tail := s.fld Reg.ADC_RING_TAIL 0 14
      let ok := (bitsAt v 0 14 + 2 ^ 14 - tail) % 2 ^ 14 ≤ (s.fld Reg.ADC_RING_HEAD 0 14 + 2 ^ 14 - tail) % 2 ^ 14
      (∀ n, exec (.adcRingTailWrite (.pf1 n) v) s = .next s) ∧
      ((∀ n, p ≠ .pf1 n) → ok → ∃ t, exec (.adcRingTailWrite p v) s = .next t ∧ t = { s with regs := t.regs } ∧
        t.fld Reg.ADC_RING_TAIL 0 14 = bitsAt v 0 14 ∧ RegsBut s t [Reg.ADC_RING_TAIL]) ∧
      ((∀ n, p ≠ .pf1 n) → ¬ ok → ∃ t, exec (.adcRingTailWrite p v) s = .next t ∧ t.adc = s.adc ∧ Logged s t))

namespace Sys2Proof.Statements

/-- The command that the Curator executes now with this opcode is c of mailbox m, which stands first in its queue with nothing of the
mailbox begun (R452, R454). -/
def Turn (s : State) (m : Fin 36) (op : Nat) (c : Cmd) (rest : List Cmd) : Prop :=
  s.due m op = some c ∧ (s.mbx m).queue = c :: rest ∧ (∀ q ∈ rest, c.stamp < q.stamp) ∧ (s.mbx m).begun = []

/-- Such a command of a host mailbox that may send every privileged command, with a well-formed header, inline payload p and every
other payload byte 0 (R447, R448, R463). -/
def Inline (s : State) (m : Fin 36) (op : Nat) (c : Cmd) (rest : List Cmd) (p : Nat) : Prop :=
  Turn s m op c rest ∧ m.val < 23 ∧ s.docent ≠ 3 ∧ c.badHeader = false ∧ c.desc = false ∧ c.payload = p

/-- The mailbox has answered its command: one response more, the command gone (R449). -/
def Answered (s t : State) (m : Fin 36) (c : Cmd) (rest : List Cmd) (r : Rsp) : Prop :=
  t.mbx m = { s.mbx m with queue := rest, rsps := (s.mbx m).rsps ++ [rspBytes c.op r.status.code r.detail c.tag r.len c.stamp r.payload] }

/-- The mailbox has begun its command, which waits (R452). -/
def Waits (s t : State) (m : Fin 36) (c : Cmd) (rest : List Cmd) (part : Option Nat) (frees : Bool) (w : Wait) : Prop :=
  t.mbx m = { s.mbx m with queue := rest, begun := [⟨c, part, frees, false, w, none⟩] }

/-- Nothing but the Curator's state has changed. -/
def CurOnly (s t : State) : Prop := t = { s with cur := t.cur }

/-- A row of a mailbox command does nothing when the Curator does not execute a command of its opcode now, and answers one with a
malformed header with RANGE and detail 0 (R448, R452, R462). -/
def CommandRow (op : Nat) (row : Fin 36 → Instr) (sel : Cmd → Bool) : Prop :=
  ∀ (s : State) (m : Fin 36), (s.due m op = none → exec (row m) s = .next s) ∧
    ∀ c rest, Turn s m op c rest → sel c = true → c.badHeader = true →
      ∃ t, exec (row m) s = .next t ∧ Answered s t m c rest (rspEmpty .range 0) ∧ CurOnly s t ∧ ∀ k, k ≠ m → t.mbx k = s.mbx k

end Sys2Proof.Statements

/-- R448, R452, R454, R462: every row of a mailbox command acts only when the Curator executes a command of its opcode now, and answers
one with a malformed header with RANGE, whatever the mailbox and the row's other operands. -/
def Obligations.CommandRowsTakeTheirTurn : Prop :=
  let any := fun (_ : Cmd) => true
  let p0 := fun (c : Cmd) => c.pay 0 1
  CommandRow 0x0001 .statusRead any ∧ (∀ x e, CommandRow 0x0002 (fun m => .regRead m x e) any) ∧
  (∀ x, CommandRow 0x0003 (fun m => .regWrite m x) any) ∧
  CommandRow 0x0004 .resetDevice (fun c => p0 c != 2) ∧ CommandRow 0x0004 .resetDocent (fun c => p0 c == 2) ∧
  CommandRow 0x0005 .go any ∧ CommandRow 0x0006 .timeSet any ∧ CommandRow 0x0007 .laneSet any ∧
  (∀ i b, CommandRow 0x0008 (fun m => .flashWrite m i b) any) ∧
  (∀ b, CommandRow 0x0009 (fun m => .fuseProgramSlot m b) (fun c => c.desc || (p0 c != 2 && p0 c != 3))) ∧
  CommandRow 0x0009 .fuseRevokeSlot (fun c => !c.desc && p0 c == 2) ∧ CommandRow 0x0009 .fuseRaiseMinSvn (fun c => !c.desc && p0 c == 3) ∧
  (∀ i e, CommandRow 0x0101 (fun m => .load m i e) any) ∧ CommandRow 0x0102 .unload any ∧ CommandRow 0x0103 .arm any ∧
  CommandRow 0x0104 .run any ∧ CommandRow 0x0105 .halt any ∧ CommandRow 0x0106 .forcedHalt any ∧
  (∀ b, CommandRow 0x0107 (fun m => .deposit m b) any) ∧ CommandRow 0x0108 .wsRead any ∧ (∀ i, CommandRow 0x0109 (fun m => .vtrLoad m i) any) ∧
  CommandRow 0x0201 .captureRead any ∧ CommandRow 0x0202 .checkpoint any ∧ (∀ k, CommandRow 0x0203 (fun m => .ckptExport m k) any) ∧
  (∀ i, CommandRow 0x0204 (fun m => .restore m i) any) ∧ (∀ l, CommandRow 0x0205 (fun m => .replay m l) any) ∧
  CommandRow 0x0301 .loan any ∧ CommandRow 0x0302 .depotGrant any ∧ CommandRow 0x0303 .depotReturn any ∧ CommandRow 0x0304 .bufAlloc any ∧
  CommandRow 0x0305 .bufFree any ∧ (∀ d k, CommandRow 0x0306 (fun m => .dma m d k) any) ∧
  (∀ k p, CommandRow 0x0401 (fun m => .accession m k p) any) ∧ CommandRow 0x0402 .deaccession any ∧ CommandRow 0x0403 .setOp any ∧
  CommandRow 0x0404 .setPowerRun (fun c => c.pay 1 1 == 0 || decide (3 < c.pay 1 1)) ∧ CommandRow 0x0404 .setPowerHold (fun c => c.pay 1 1 == 1) ∧
  CommandRow 0x0404 .setPowerNap (fun c => c.pay 1 1 == 2) ∧ CommandRow 0x0404 .setPowerDormant (fun c => c.pay 1 1 == 3) ∧
  CommandRow 0x0405 .thermalShutdown any ∧ CommandRow 0x0501 .tallyRead any ∧ CommandRow 0x0502 .tallyClock any ∧
  CommandRow 0x0503 .tallyTenant any ∧ (∀ k, CommandRow 0x0504 (fun m => .lgbToken m k) any)

/-- R386, R395, R441, R442, R462, R468: the device commands of a privileged host mailbox, and STATUS_READ of a tenant.  FUSE acts once on
a slot and raises MIN_SVN only; a go that finds CFG_DONE seen high acts at once. -/
def Obligations.DeviceCommands : Prop :=
  ∀ (s : State) (m : Fin 36) (c : Cmd) (rest : List Cmd),
    let status := s.ident + (s.reg Reg.CFG_STATUS).toNat * 2 ^ 32 + (s.reg Reg.MBX_FW).toNat * 2 ^ 64
    let keys := fun (t : State) => (t.reg Reg.CFG_KEYS).toNat
    (Inline s m 0x0001 c rest 0 → ∃ t, exec (.statusRead m) s = .next t ∧ CurOnly s t ∧
      Answered s t m c rest ⟨.ok, 0, 24, status + s.reg64 Reg.MBX_STAMP_LO * 2 ^ 128⟩) ∧
    (∀ n : Fin 8, m.val = 24 + n.val → Turn s m 0x0001 c rest → s.docent ≠ 3 → (s.part n).state ≠ .empty → c.badHeader = false →
      c.desc = false → c.payload = 0 → ∃ t, exec (.statusRead m) s = .next t ∧ CurOnly s t ∧
        Answered s t m c rest ⟨.ok, 0, 40, status + s.block n * 2 ^ 128⟩) ∧
    (Inline s m 0x0004 c rest 1 → ∃ t, exec (.resetDevice m) s = .next t ∧ CurOnly s t ∧ t.cur.resetAsked = true ∧
      Answered s t m c rest (rspEmpty .ok 0)) ∧
    (Inline s m 0x0004 c rest 2 → ∃ t, exec (.resetDocent m) s = .next t ∧ Waits s t m c rest none false .docent ∧ t.docent = 2 ∧
      t.cur.restart = some 3 ∧ t.parts = s.parts) ∧
    (Inline s m 0x0005 c rest 0 → ∃ t, exec (.go m) s = .next t ∧ Answered s t m c rest ⟨.ok, 0, 1, s.goWaiters.length⟩ ∧
      t.fld Reg.CFG_LINE 4 1 = 1 ∧ t.parts = s.parts ∧ RegsBut s t [Reg.CFG_LINE]) ∧
    (∀ v, Inline s m 0x0006 c rest v → v < 2 ^ 64 →
      (s.fld Reg.LNK_TIME_CTRL 0 1 = 1 → ∃ t, exec (.timeSet m) s = .next t ∧ t.lnk = { s.lnk with timebase := v, slew := 0 } ∧
        Answered s t m c rest (rspEmpty .ok 0) ∧ t.regs = s.regs ∧ t.parts = s.parts) ∧
      (s.fld Reg.LNK_TIME_CTRL 0 1 = 0 → ∃ t, exec (.timeSet m) s = .next t ∧ CurOnly s t ∧ Answered s t m c rest (rspEmpty .range 0))) ∧
    (∀ (q : Fin 24) (use : Fin 3) (bind : Fin 32) (half man : Bool), s.hasQuad q = true →
      Inline s m 0x0007 c rest (q + use * 2 ^ 8 + bind * 2 ^ 10 + b2n half * 2 ^ 16 + b2n man * 2 ^ 17) →
      (s.quadFixed q = true → ∃ t, exec (.laneSet m) s = .next t ∧ CurOnly s t ∧
        (Answered s t m c rest (rspEmpty .range 0) ∨ Answered s t m c rest (rspEmpty .range 2))) ∧
      (s.quadFixed q = false → use.val = 0 → ∃ t, exec (.laneSet m) s = .next t ∧ Answered s t m c rest (rspEmpty .ok 0) ∧
        t.fld (Reg.LANE_QUAD q) 0 2 = 0 ∧ t.fld (Reg.LANE_QUAD q) 2 5 = bind ∧ t.fld (Reg.LANE_QUAD q) 7 1 = b2n half ∧
        t.fld (Reg.LANE_QUAD q) 8 1 = b2n man ∧ t.fld (Reg.LANE_QUAD q) 9 1 = b2n man ∧ t.parts = s.parts)) ∧
    (∀ type addr len img toB, type = 1 ∨ type = 2 → addr < 2 ^ 64 → addr % 8 = 0 → len < 2 ^ 64 →
      Inline s m 0x0008 c rest (type + addr * 2 ^ 64 + len * 2 ^ 128) →
      ∃ t, exec (.flashWrite m (some img) toB) s = .next t ∧ CurOnly { s with cfg := { s.cfg with dir := t.cfg.dir } } t ∧ Answered s t m c rest
        (if s.stagingBytes < img.totalLen.toNat then rspEmpty .range 0
         else match s.contCheck img type len with
           | some x => rspEmpty x.1 (if x.1 = .range then 9 else 0)
           | none => ⟨.ok, 0, 1, b2n (s.slotFor type toB)⟩) ∧
        (img.totalLen.toNat ≤ s.stagingBytes → s.contCheck img type len = none →
          t.cfg.dir = dirWritten s.cfg.dir type len (s.slotFor type toB))) ∧
    (∀ (slot : Byte) hash, Turn s m 0x0009 c rest → m.val < 23 → s.docent ≠ 3 → c.badHeader = false → c.desc = true → c.pay 0 8 % 8 = 0 →
      1 ≤ slot.toNat → slot.toNat ≤ 4 → s.fld Reg.CFG_KEYS slot.toNat 1 = 0 → s.fld Reg.CFG_KEYS (slot.toNat + 4) 1 = 0 →
      ∃ t, exec (.fuseProgramSlot m (some (slot, hash))) s = .next t ∧ t.fld Reg.CFG_KEYS slot.toNat 1 = 1 ∧
        (slot.toNat, hash) ∈ t.cfg.hashes ∧ Answered s t m c rest ⟨.ok, 0, 4, keys t⟩ ∧ RegsBut s t [Reg.CFG_KEYS] ∧ t.parts = s.parts) ∧
    (∀ slot : Fin 5, 0 < slot.val → Inline s m 0x0009 c rest (2 + slot * 2 ^ 8) →
      (s.fld Reg.CFG_KEYS (slot + 4) 1 = 0 → ∃ t, exec (.fuseRevokeSlot m) s = .next t ∧ t.fld Reg.CFG_KEYS (slot + 4) 1 = 1 ∧
        Answered s t m c rest ⟨.ok, 0, 4, keys t⟩ ∧ RegsBut s t [Reg.CFG_KEYS] ∧ t = { s with regs := t.regs, cur := t.cur }) ∧
      (s.fld Reg.CFG_KEYS (slot + 4) 1 = 1 → ∃ t, exec (.fuseRevokeSlot m) s = .next t ∧ CurOnly s t ∧
        Answered s t m c rest (rspEmpty .range 2))) ∧
    (∀ svn, svn < 2 ^ 16 → Inline s m 0x0009 c rest (3 + svn * 2 ^ 16) →
      (s.fld Reg.CFG_KEYS 16 16 < svn → ∃ t, exec (.fuseRaiseMinSvn m) s = .next t ∧ t.fld Reg.CFG_KEYS 16 16 = svn ∧
        t.fld Reg.CFG_KEYS 0 16 = s.fld Reg.CFG_KEYS 0 16 ∧ Answered s t m c rest ⟨.ok, 0, 4, keys t⟩ ∧ RegsBut s t [Reg.CFG_KEYS]) ∧
      (svn ≤ s.fld Reg.CFG_KEYS 16 16 → ∃ t, exec (.fuseRaiseMinSvn m) s = .next t ∧ CurOnly s t ∧
        Answered s t m c rest (rspEmpty .range 3)))

/-- R449, R450, R451, R455, R457, R460: a doorbell stamps the buffer with the next order stamp and queues it when its mailbox has room and
the Docent runs, or else shows RETRY and changes nothing else; RSP_POP removes the oldest response.  A mailbox block that the path may not
write is logged.  A function-level reset empties the queues of its function's mailboxes.  The management port writes a command and rings,
and reads the oldest response away.  A silent Docent core restarts the Docent, which answers when it runs again. -/
def Obligations.DoorbellsAndResponses : Prop :=
  (∀ (s : State) (m : Fin 36), s.awake = true →
    let x := s.mbx m
    let stamp := s.reg64 Reg.MBX_STAMP_LO
    let c : Cmd := ⟨stamp, s.cur.order + 1, setBitsAt (BitVec.ofNat 512 (s.cmdBuf m)) 64 64 stamp⟩
    let path : Path := if h : 24 ≤ m.val ∧ m.val < 32 then .pf1 ⟨m.val - 24, by omega⟩ else .pf0
    let rung := fun (t : State) (code : Nat) => (∀ k, k ≠ m → t.mbx k = s.mbx k) ∧ t.reg64 Reg.MBX_STAMP_LO = (stamp + 1) % 2 ^ 64 ∧
      t.reg64 (Reg.MBX_DB_STAMP_LO m) = stamp ∧ t.fld (Reg.MBX_DB_RESULT m) 0 8 = code ∧ t.fld (Reg.MBX_DB_RESULT m) 31 1 = 1 ∧
      t.parts = s.parts ∧ t.vlt = s.vlt
    (m.val < 32 →
      (x.queue.length < 8 → x.busy < 16 → (c.safety = true ∨ (x.held = [] ∧ s.rgs.userFull = false ∧ s.docent = 1)) →
        ∃ t, exec (.doorbell path m 1) s = .next t ∧ rung t 0 ∧ t.mbx m = { x with queue := x.queue ++ [c] }) ∧
      ((8 ≤ x.queue.length ∨ 16 ≤ x.busy ∨ (c.safety = false ∧ (s.docent = 0 ∨ s.docent = 2))) →
        ∃ t, exec (.doorbell path m 1) s = .next t ∧ rung t 1 ∧ t.mbx m = x) ∧
      exec (.doorbell path m 0) s = .next s ∧
      (∃ t, exec (.rspPop path m 1) s = .next t ∧ t.mbx m = { x with rsps := x.rsps.tail } ∧ (∀ k, k ≠ m → t.mbx k = s.mbx k) ∧ CurOnly s t)) ∧
    (24 ≤ m.val → ∀ v, ∃ t, exec (.doorbell .pf0 m v) s = .next t ∧ Logged s t ∧ (∀ k, t.mbx k = s.mbx k) ∧ t.parts = s.parts)) ∧
  (∀ (s : State) (m : Fin 36) raw hs, (s.mbx m).held = raw :: hs →
    (16 ≤ (s.mbx m).busy → exec (.noticeSlotFreed m) s = .next s) ∧
    ((s.mbx m).busy < 16 → ∃ t, exec (.noticeSlotFreed m) s = .next t ∧ CurOnly s t ∧
      t.mbx m = { s.mbx m with held := hs, rsps := (s.mbx m).rsps ++ [raw] })) ∧
  (∀ (s : State) (pf1 : Bool), ∃ t, exec (.functionLevelReset pf1) s = .next t ∧ t.parts = s.parts ∧ t.vlt = s.vlt ∧
    ∀ m : Fin 36,
      let its := if pf1 then 24 ≤ m.val ∧ m.val < 32 else m.val < 24
      (its → (t.mbx m).queue = [] ∧ (t.mbx m).begun.length = (s.mbx m).begun.length ∧ (∀ b ∈ (t.mbx m).begun, b.discard = true) ∧
        (∀ r ∈ (t.mbx m).rsps, r ∈ (s.mbx m).held) ∧ ∀ b ∈ t.cur.bufs, b.2 ≠ m.val) ∧
      (¬ its → t.mbx m = s.mbx m)) ∧
  (∀ (s : State) (j : Fin 4) (bytes : BitVec 512) (m : Fin 36), m.val = 32 + j.val →
    exec (.mgmtBlockWrite j bytes false) s = .next s ∧
    (s.inReset = false → s.pwr.phase = .run → s.docent = 1 → s.rgs.userFull = false → (s.mbx m).held = [] → (s.mbx m).queue.length < 8 →
      (s.mbx m).busy < 16 →
      ∃ t, exec (.mgmtBlockWrite j bytes true) s = .next t ∧ t.reg64 (Reg.MBX_DB_STAMP_LO m) = s.reg64 Reg.MBX_STAMP_LO ∧
        (t.mbx m).queue.length = (s.mbx m).queue.length + 1 ∧ (t.mbx m).rsps = (s.mbx m).rsps ∧ t.parts = s.parts) ∧
    (∃ t, exec (.mgmtBlockRead j true) s = .next t ∧ t.busOut = s.reg (Reg.MBX_DB_RESULT m) ∧ t = { s with busOut := t.busOut }) ∧
    (∃ t, exec (.mgmtBlockRead j false) s = .next t ∧ t.cur.mgmtOut = (s.mbx m).rsps.headD 0 ∧
      t.mbx m = { s.mbx m with rsps := (s.mbx m).rsps.tail } ∧ CurOnly s t)) ∧
  (∀ (s : State) (k : Fin 8),
    (s.docentCore k = false → exec (.docentHeartbeat k) s = .next s) ∧
    (s.docentCore k = true → ∃ t, exec (.docentHeartbeat k) s = .next t ∧ CurOnly s t ∧ vget t.cur.beats k = s.tly.time ∧
      ∀ j, j ≠ k → vget t.cur.beats j = vget s.cur.beats j) ∧
    (s.tly.time < vget s.cur.beats k + silentTicks → exec (.docentWatchdog k) s = .next s) ∧
    (s.docent = 1 → s.docentCore k = true → s.awake = true → (vget s.lgb.cores k).waitRec = none →
      vget s.cur.beats k + silentTicks ≤ s.tly.time →
      ∃ t, exec (.docentWatchdog k) s = .next t ∧ t.docent = 2 ∧ t.cur.restart = some 1 ∧ t.parts = s.parts ∧ ∀ m, t.mbx m = s.mbx m) ∧
    (∀ b a o f, s.docent ≠ 2 → exec (.docentRunning b a o f) s = .next s) ∧
    (∀ b cont len o, s.docent = 2 → s.contCheck cont 1 (s.docentLen true len) = none → ∃ t, exec (.docentRunning b (some (cont, len)) o 0) s = .next t ∧
      t.docent = 1 ∧ t.cur.restart = none ∧ t.fld Reg.MBX_FW 2 1 = b2n (s.docentSlot true b) ∧ t.fld Reg.MBX_FW 16 16 = cont.svn.toNat ∧ t.parts = s.parts ∧
      (∀ m : Fin 36, (s.mbx m).queue = (t.mbx m).queue)) ∧
    (∀ b cont len o, s.docent = 2 → s.contCheck cont 1 (s.docentLen true len) = none → s.docentCore k.val = true →
      ∃ t, exec (.docentRunning b (some (cont, len)) o (1#8 <<< k.val)) s = .next t ∧ t.fld Reg.SPR_CORES (2 * k.val) 2 = 3 ∧
      ∀ j : Fin 8, 2 ≤ j.val → s.fld Reg.SPR_CORES (2 * j.val) 2 = 2 → (∀ i, 2 ≤ i → i < j.val → s.fld Reg.SPR_CORES (2 * i) 2 ≠ 2) →
        t.fld Reg.SPR_CORES (2 * j.val) 2 = 1))

/-- R302, R318, R319, R321, R333, R396, R453, R466, R469 to R473: the partition, capture and checkpoint commands of a privileged host
mailbox.  A load that every check passes leaves the partition LOADED with the image's tables, and one that a check refuses changes
nothing; ARM, RUN, HALT and UNLOAD make the states R469 names; a deposit or a read waits for the frame boundary of a live partition and
acts at once on another. -/
def Obligations.PartitionCommands : Prop :=
  ∀ (s : State) (m : Fin 36) (c : Cmd) (rest : List Cmd) (n : Fin 8),
    let p := s.part n
    let still := s.recovering n = false
    (∀ src addr len img e, src < 2 → addr < 2 ^ 64 → addr % 8 = 0 → len < 2 ^ 64 → still → img.totalLen.toNat ≤ s.stagingBytes →
      Inline s m 0x0101 c rest (n + src * 2 ^ 8 + addr * 2 ^ 64 + len * 2 ^ 128) →
      (∀ st k, s.loadCheck n img e len 1 25 = some (st, k) → ∃ t, exec (.load m (some (img, e)) .written) s = .next t ∧ t.parts = s.parts ∧
        t.reg (Reg.CFG_LOAD n) = BitVec.ofNat 32 (st.code + k * 2 ^ 8 + 2 ^ 31) ∧ RegsBut s t [Reg.CFG_LOAD n] ∧
        Answered s t m c rest (t.rspBlock n st k)) ∧
      (s.loadCheck n img e len 1 25 = none → ∃ t, exec (.load m (some (img, e)) .written) s = .next t ∧ PartsBut s t n ∧
        (t.part n).state = .loaded ∧ (t.part n).eph = e.toEph s.variant ∧ (t.part n).img.ws = (e.toEph s.variant).wsInit ∧
        t.reg (Reg.CFG_LOAD n) = BitVec.ofNat 32 (2 ^ 31) ∧ Answered s t m c rest (t.rspBlock n .ok 0))) ∧
    (Inline s m 0x0102 c rest n →
      (p.state = .running → ∃ t, exec (.unload m) s = .next t ∧ CurOnly s t ∧ Answered s t m c rest (s.rspBlock n .range 0)) ∧
      (p.state = .empty → ∃ t, exec (.unload m) s = .next t ∧ CurOnly s t ∧ Answered s t m c rest (s.rspBlock n .ok 0)) ∧
      (p.state ≠ .running → p.state ≠ .empty → ∃ t, exec (.unload m) s = .next t ∧ t.part n = Part.reset ∧ PartsBut s t n ∧
        (∀ b ∈ t.cur.bufs, b.2 ≠ 24 + n.val) ∧ Answered s t m c rest (t.rspBlock n .ok 0))) ∧
    (∀ (go : Bool) start, start < 2 ^ 48 → still → p.state = .loaded ∨ p.state = .halted → p.eph.spans = false →
      Inline s m 0x0103 c rest (n + b2n go * 2 ^ 8 + start * 2 ^ 64) →
      ∃ t, exec (.arm m) s = .next t ∧ PartsBut s t n ∧ (t.part n).state = .armed ∧ (t.part n).frame = start ∧ (t.part n).start = start ∧
        (t.part n).goWait = go ∧ Answered s t m c rest (t.rspBlock n .ok 0)) ∧
    (∀ count, count < 2 ^ 32 → p.state = .armed ∨ p.state = .halted → Inline s m 0x0104 c rest (n + count * 2 ^ 32) →
      (∀ k, s.safetySince n c = some k → ∃ t, exec (.run m) s = .next t ∧ CurOnly s t ∧ Answered s t m c rest (s.rspMoot n k)) ∧
      (s.safetySince n c = none → p.state = .halted → p.haltCause = some .frameLimit →
        ∃ t, exec (.run m) s = .next t ∧ CurOnly s t ∧ Answered s t m c rest (s.rspBlock n .range 0)) ∧
      (s.safetySince n c = none → p.atLimit = false → ∃ t, exec (.run m) s = .next t ∧ PartsBut s t n ∧ (t.part n).state = .running ∧
        (t.part n).remaining = count ∧ (t.part n).goWait = false ∧ Answered s t m c rest (t.rspBlock n .ok 0))) ∧
    (∀ f, f < 2 ^ 48 → f = 0 ∨ s.shownFrame n ≤ f → p.eph.spans = false ∨ f ≠ 0 → Inline s m 0x0105 c rest (n + f * 2 ^ 64) →
      (p.state = .running → ∃ t, exec (.halt m) s = .next t ∧ CurOnly s t ∧ Waits s t m c rest (some n.val) true (.halt n f)) ∧
      (p.state = .armed → still → ∃ t, exec (.halt m) s = .next t ∧ PartsBut s t n ∧
        t.part n = (if f = 0 then { p with haltReqs := .host :: p.haltReqs } else { p with haltAt := some f }) ∧
        t.regs = s.regs ∧ Answered s t m c rest (t.rspBlock n .ok 0))) ∧
    (Inline s m 0x0106 c rest n → s.live n = true → p.state ≠ .empty → ∃ t, exec (.forcedHalt m) s = .next t ∧ CurOnly s t ∧
      Waits s t m c rest (some n.val) true (.forced false [n.val] [])) ∧
    (∀ w : DWord, still → s.replaying n = false → p.state ≠ .empty → p.state ≠ .fault → p.badEntry false w = false →
      (updateForces (updateForces p.forces (sortBy (·.stamp) p.deps)) (depositsOf c.stamp [w])).length ≤ 256 →
      Inline s m 0x0107 c rest (n + 2 ^ 8 + w.toNat * 2 ^ 64) →
      (p.state = .running → ∃ t, exec (.deposit m none) s = .next t ∧ PartsBut s t n ∧
        t.part n = { p with deps := p.deps ++ depositsOf c.stamp [w] } ∧ t.regs = s.regs ∧
        Waits s t m c rest (some n.val) true (.deposit n [depEntry w] none)) ∧
      (p.state ≠ .running → ∃ t, exec (.deposit m none) s = .next t ∧ PartsBut s t n ∧
        (t.part n).img.ws = applyDeposits p.img.ws (depositsOf c.stamp [w]) ∧ t.regs = s.regs ∧
        Answered s t m c rest (t.rspBlock n .ok 0))) ∧
    (∀ w : DWord, p.state ≠ .empty → p.badEntry true w = false → Inline s m 0x0108 c rest (n + 2 ^ 8 + w.toNat * 2 ^ 64) →
      (s.live n = true → ∃ t, exec (.wsRead m) s = .next t ∧ CurOnly s t ∧
        Waits s t m c rest (some n.val) true (.wsRead n [depEntry w] none 0)) ∧
      (s.live n = false → ∃ t, exec (.wsRead m) s = .next t ∧ CurOnly s t ∧
        Answered s t m c rest ⟨.ok, 0, 9, (p.frame + 2 ^ 48 - 1) % 2 ^ 48 + readEntries p.img.ws [depEntry w] * 2 ^ 64⟩)) ∧
    (∀ (mask : Fin 256) src addr len img, src < 2 → addr < 2 ^ 64 → addr % 8 = 0 → len < 2 ^ 64 → s.variant ≠ .r → mask.val < 2 ^ s.nRegions →
      (∀ r : Fin 8, bitOf mask r = true → s.regState r ≠ 1 ∧ s.regState r ≠ 2) → img.cont.totalLen.toNat ≤ s.stagingBytes →
      s.vtrCheck { img with len := len } = none → (∃ x ∈ img.loads, bitOf mask x.1 = true) →
      Inline s m 0x0109 c rest (mask + src * 2 ^ 8 + addr * 2 ^ 64 + len * 2 ^ 128) →
      ∃ t left, exec (.vtrLoad m (some img)) s = .next t ∧ t.parts = s.parts ∧ Waits s t m c rest none false (.vtrLoad left 0) ∧
        ∀ r : Fin 8, (∃ x ∈ img.loads, x.1 = r ∧ bitOf mask r = true) → bitOf left r = true ∧ t.regState r = 1) ∧
    (∀ d first addr len, d < 4 → s.hasDie d = true → addr < 2 ^ 64 → addr % 8 = 0 → len % 32 = 0 → len ≤ 2 ^ 24 →
      first + len / 32 ≤ s.shareUnits n d → Inline s m 0x0201 c rest (n + d * 2 ^ 8 + first * 2 ^ 32 + addr * 2 ^ 64 + len * 2 ^ 128) →
      ∃ t, exec (.captureRead m) s = .next t ∧ CurOnly s t ∧ Answered s t m c rest ⟨.ok, 0, 4, len⟩) ∧
    (∀ b, b < 2 ^ 48 → p.state = .running → b = 0 ∨ s.nextBoundary n ≤ b → s.ckBusy n = false → 0 < s.ckSlotBytes n →
      s.ckSize n ≤ s.ckSlotBytes n → s.ckAreaOk n = true → Inline s m 0x0202 c rest (n + b * 2 ^ 64) →
      ∃ t, exec (.checkpoint m) s = .next t ∧ (t.ck n).want = some b ∧ t.parts = s.parts ∧ t.regs = s.regs ∧
        Waits s t m c rest (some n.val) true (.checkpoint n)) ∧
    (∀ addr len i, addr < 2 ^ 64 → addr % 8 = 0 → len < 2 ^ 64 → s.ckBusy n = false → (s.ck n).latest = some i →
      Inline s m 0x0203 c rest (n + addr * 2 ^ 64 + len * 2 ^ 128) →
      ∃ t, exec (.ckptExport m true) s = .next t ∧ CurOnly s t ∧
        Answered s t m c rest (if len < s.exportSize n i then rspEmpty .range 17 else ⟨.ok, 0, 8, s.exportSize n i⟩)) ∧
    (∀ i, still → (s.ck n).latest = some i → Inline s m 0x0204 c rest n →
      (∀ st, s.restoreRefusal n i true = some st → ∃ t, exec (.restore m none) s = .next t ∧ CurOnly s t ∧
        Answered s t m c rest (s.rspBlock n st 0)) ∧
      (s.restoreRefusal n i true = none → ∃ t, exec (.restore m none) s = .next t ∧ PartsBut s t n ∧ (t.part n).state = .armed ∧
        (t.part n).frame = i.boundary ∧ (t.part n).img = i.img ∧ (t.part n).start = i.start ∧ (t.part n).remaining = i.seq.remaining ∧
        Answered s t m c rest ⟨.ok, 0, 25, t.block n + s.unmatched i * 2 ^ 192⟩)) ∧
    (∀ mask addr tail i e l, mask < 2 ^ 24 → addr < 2 ^ 64 → addr % 8 = 0 → tail < 2 ^ 64 → (s.ck n).restored = some i → p.state = .armed →
      s.depotCheck (.part n) addr false = .ok → e.start = true → e.tbRel = i.digest → e.frame = i.start →
      Inline s m 0x0205 c rest (n + mask * 2 ^ 32 + addr * 2 ^ 64 + tail * 2 ^ 128) →
      ∃ t, exec (.replay m (e :: l)) s = .next t ∧ PartsBut s t n ∧ (t.part n).state = .running ∧ t.replaying n = true ∧
        t.fld (Reg.CKP_REPLAY n) 0 1 = 1 ∧ (t.reg (Reg.CKP_REPLAY_LINKS n)).toNat = mask ∧ Answered s t m c rest (t.rspBlock n .ok 0))

/-- R188 to R190, R220, R339, R345, R357, R454, R458, R459, R466, R474 to R476, R494 to R498, R505, R516, R520, R523: the resource,
reserve, power and metering commands of a privileged host mailbox. -/
def Obligations.ResourceCommands : Prop :=
  ∀ (s : State) (m : Fin 36) (c : Cmd) (rest : List Cmd),
    let now := fun (t : State) (r : Rsp) => CurOnly s t ∧ Answered s t m c rest r
    (∀ bank owner (scrub : Bool), s.hasBank bank = true → owner < 14 → s.loanKept bank owner = false → s.loanState bank = 0 →
      Inline s m 0x0301 c rest (bank + owner * 2 ^ 16 + b2n scrub * 2 ^ 24) →
      ∃ t, exec (.loan m) s = .next t ∧ t.parts = s.parts ∧ t.fld (loanReg bank) 0 4 = owner ∧ t.fld (loanReg bank) 11 1 = 0 ∧
        (owner = s.loanOwner bank → scrub = false → Answered s t m c rest ⟨.ok, 0, 4, (t.reg (loanReg bank)).toNat⟩ ∧ RegsBut s t [loanReg bank]) ∧
        (owner ≠ s.loanOwner bank ∨ scrub = true → Waits s t m c rest none false (.loan bank) ∧ t.loanState bank = 1 ∧
          t.fld (loanReg bank) 12 4 = s.loanOwner bank ∧ (bank ∈ t.vlt.scrub ↔ scrub = true) ∧ (owner ≠ 8 → bank ∉ t.cur.pool))) ∧
    (∀ first count owner (ro : Bool), 0 < count → first + count ≤ 65536 → owner < 14 → s.waiting = [] →
      (∀ k < count, (s.rangeOfSeg (first + k)).isSome = true ∧ s.segKept (first + k) = false) →
      let given := fun (t : State) (o : Nat) (r : Bool) =>
        (s.segBusy first count = true → CurOnly s t ∧ Waits s t m c rest none false (.depotMap first count o r)) ∧
        (s.segBusy first count = false → Answered s t m c rest (rspEmpty .ok 0) ∧ t.parts = s.parts ∧
          (∀ k < count, bitsAt (t.depotEntry (first + k)) 0 1 = 1 ∧ bitsAt (t.depotEntry (first + k)) 1 4 = o ∧
            bitsAt (t.depotEntry (first + k)) 5 1 = b2n r) ∧
          ∀ g, g < first ∨ first + count ≤ g → t.depotEntry g = s.depotEntry g)
      (Inline s m 0x0302 c rest (first + (count - 1) * 2 ^ 16 + owner * 2 ^ 32 + b2n ro * 2 ^ 40) →
        ∃ t, exec (.depotGrant m) s = .next t ∧ given t owner ro) ∧
      (Inline s m 0x0303 c rest (first + (count - 1) * 2 ^ 16) → ∃ t, exec (.depotReturn m) s = .next t ∧ given t 13 false)) ∧
    (∀ k, 0 < k → k ≤ 8 → Inline s m 0x0304 c rest k →
      let ids := s.freeBufs.take k
      (ids.length < k → ∃ t, exec (.bufAlloc m) s = .next t ∧ now t (rspEmpty .retry 0)) ∧
      (ids.length = k → ∃ t, exec (.bufAlloc m) s = .next t ∧ t.cur.bufs = s.cur.bufs ++ ids.map (fun i => (i, m.val)) ∧ t.parts = s.parts ∧
        (∀ i ∈ ids, (i, m.val) ∉ s.cur.bufPrev → ∀ w < 512, t.vword (i / 16) (i % 16 * 512 + w) = 0) ∧ RegsBut s t [Reg.MBX_POOL] ∧
        Answered s t m c rest ⟨.ok, 0, 16, (ids.zip (List.range 8)).foldl (fun a (x : Nat × Nat) => a + x.1 * 2 ^ (16 * x.2)) 0⟩)) ∧
    (∀ id, id < 2 ^ 16 → Inline s m 0x0305 c rest id →
      let bad := fun (t : State) (owner : Nat) => t.cur.bufs = s.cur.bufs ∧ Answered s t m c rest (rspEmpty .badFree 0) ∧
        t.reg Reg.MBX_LAST_BAD_FREE = BitVec.ofNat 32 (id % 2 ^ 14 + m.val * 2 ^ 14 + owner * 2 ^ 20 + 2 ^ 31) ∧
        RegsBut s t [Reg.MBX_LAST_BAD_FREE, Reg.MBX_BAD_FREE] ∧ t.parts = s.parts
      (s.cur.bufs.find? (fun x => x.1 == id) = some (id, m.val) → ∃ t, exec (.bufFree m) s = .next t ∧
        t.cur.bufs = s.cur.bufs.filter (fun x => x.1 != id) ∧ Answered s t m c rest (rspEmpty .ok 0) ∧ RegsBut s t [Reg.MBX_POOL]) ∧
      (∀ o, s.cur.bufs.find? (fun x => x.1 == id) = some (id, o) → o ≠ m.val → ∃ t, exec (.bufFree m) s = .next t ∧ bad t o) ∧
      (s.cur.bufs.find? (fun x => x.1 == id) = none → ∃ t, exec (.bufFree m) s = .next t ∧ bad t 0x3F)) ∧
    (∀ id off len (data : List DWord), id < 2 ^ 16 → off % 8 = 0 → len % 8 = 0 → off + len ≤ 4096 → (id, m.val) ∈ s.cur.bufs →
      let at_ := fun (i : Nat) => id % 16 * 512 + off / 8 + i
      (Inline s m 0x0306 c rest (id * 2 ^ 16 + off * 2 ^ 32 + len * 2 ^ 192) → (∀ i < len / 8, s.wordLogged (id / 16) (at_ i) = false) →
        ∀ sbe, ∃ t, exec (.dma m data (none, sbe)) s = .next t ∧ (∀ i < len / 8, t.vword (id / 16) (at_ i) = data.getD i 0) ∧ t.parts = s.parts ∧
          t.regs = s.regs ∧ Answered s t m c rest ⟨.ok, 0, 4, len⟩) ∧
      (Inline s m 0x0306 c rest (1 + id * 2 ^ 16 + off * 2 ^ 32 + len * 2 ^ 192) → (∀ i < len / 8, s.isDbe (id / 16) (at_ i) = false) →
        ∃ t, exec (.dma m data (none, [])) s = .next t ∧ now t ⟨.ok, 0, 4, len⟩)) ∧
    (∀ kind id q n spare parity, kind = 1 ∨ kind = 2 → id < 2 ^ 24 → s.accUnit kind id = some q → s.hasSpare q = true →
      (∀ x ∈ s.spr.pend, x.kind ≠ 1 ∨ kind ≠ 1 ∨ x.unit / 16 ≠ q.unit / 16 ∨ x.unit = q.unit) → s.unitHolder q = some n →
      (s.part n).state = .running → Inline s m 0x0401 c rest (kind + id * 2 ^ 8) →
      ∃ t, exec (.accession m spare parity) s = .next t ∧ q ∈ t.spr.pend ∧ t.parts = s.parts ∧ RegsBut s t [Reg.SPR_STATUS] ∧
        Waits s t m c rest (some n.val) true (.accession n q.kind q.unit none 0)) ∧
    (∀ id, id < 4352 → s.hasDie (id % 256 / 64) = true → Inline s m 0x0402 c rest (1 + id * 2 ^ 8) →
      s.fld (Reg.SPR_CHEALTH (id % 256) (id / 256)) 8 3 = 1 ∨ s.fld (Reg.SPR_CHEALTH (id % 256) (id / 256)) 8 3 = 2 →
      ∃ t, exec (.deaccession m) s = .next t ∧ t.fld (Reg.SPR_CHEALTH (id % 256) (id / 256)) 8 3 = 3 ∧ t.parts = s.parts ∧
        t.idleClu (id % 256) = 0x1F ∧ Answered s t m c rest ⟨.ok, 0, 4, (t.reg Reg.SPR_LAST_ACC).toNat⟩) ∧
    (∀ (mask : Fin 16) op, op < 4 → (∀ d < 4, bitOf mask d = true → s.hasDie d = true) → s.splitsPart mask = false →
      (∀ n : Fin 8, op < 2 → (s.part n).state ≠ .empty → (s.part n).eph.debug = true → ∀ d ∈ s.diesIn mask, bitOf (s.part n).eph.dieMask d = false) →
      s.fld Reg.PWR_VR 7 1 = 1 → Inline s m 0x0403 c rest (mask + op * 2 ^ 8) →
      let change := (s.diesIn mask).filter fun d => s.dieOp d != op
      (change = [] → ∃ t, exec (.setOp m) s = .next t ∧ now t ⟨.ok, 0, 1, 0⟩) ∧
      (change ≠ [] → ∃ t, exec (.setOp m) s = .next t ∧ Waits s t m c rest none false (.setOp (maskOf change)) ∧ t.pwr.change.isSome = true ∧
        (∀ d ∈ change, t.fld (Reg.PWR_DIE_OP d) 2 2 = op ∧ t.fld (Reg.PWR_DIE_OP d) 4 1 = 1 ∧ t.dieOp d = s.dieOp d) ∧
        s.fld Reg.PWR_VCORE 0 10 ≤ t.fld Reg.PWR_VCORE 0 10 ∧ opMv op ≤ t.fld Reg.PWR_VCORE 0 10)) ∧
    (∀ n : Fin 8,
      (Inline s m 0x0404 c rest n →
        (vget s.pwr.nap n = .none → ∃ t, exec (.setPowerRun m) s = .next t ∧ vget t.pwr.own n = false ∧ vget t.pwr.dev n = false ∧
          (vget s.pwr.dorm n = false → vget s.pwr.relock n = false → t.part n = { s.part n with held := none, holdReq := false }) ∧
          PartsBut s t n ∧ t.regs = s.regs ∧ Answered s t m c rest (t.rspBlock n .ok 0)) ∧
        (vget s.pwr.nap n = .napping → ∃ t, exec (.setPowerRun m) s = .next t ∧ vget t.pwr.nap n = .leaving ∧ t.parts = s.parts ∧
          t.regs = s.regs ∧ Waits s t m c rest (some n.val) false (.napExit n))) ∧
      ((s.part n).state = .running → vget s.pwr.nap n = .none → (s.part n).held = none → (s.part n).bholds = [] →
        let asked := fun (t : State) (k : Nat) => t.part n = { s.part n with holdReq := true } ∧ PartsBut s t n ∧ t.regs = s.regs ∧
          Waits s t m c rest (some n.val) false (.hold [n.val] n.val k)
        (Inline s m 0x0404 c rest (n + 2 ^ 8) → ∃ t, exec (.setPowerHold m) s = .next t ∧ vget t.pwr.own n = true ∧ asked t 1) ∧
        (Inline s m 0x0404 c rest (n + 2 * 2 ^ 8) → ∃ t, exec (.setPowerNap m) s = .next t ∧ vget t.pwr.nap n = .entering ∧ asked t 2))) ∧
    (Inline s m 0x0404 c rest (0xFF + 3 * 2 ^ 8) → (∀ n, (s.part n).state = .running → (s.part n).eph.spans = false) →
      ∃ t, exec (.setPowerDormant m) s = .next t ∧ t.pwr.phase = .entering ∧ t.rgs.stopped = true ∧ t.pwr.wakes = 0 ∧
        (∀ n, (s.part n).state = .running → vget t.pwr.dorm n = true) ∧ Waits s t m c rest none false .dormant) ∧
    (Inline s m 0x0405 c rest 0 → s.pwr.shut = none →
      let left := s.loadedParts.filter s.live
      (left ≠ [] → ∃ t, exec (.thermalShutdown m) s = .next t ∧ t.pwr.shut = some (c.stamp, left.map fun n => n.val) ∧
        (∀ n, t.part n = if n ∈ left then { s.part n with haltReqs := (s.part n).haltReqs ++ [.safety] } else s.part n) ∧
        t.regs = s.regs ∧ Waits s t m c rest none true .dormant) ∧
      (left = [] → s.pwr.phase = .run → ∃ t, exec (.thermalShutdown m) s = .next t ∧ t.pwr.phase = .entering ∧
        Waits s t m c rest none true .dormant)) ∧
    (∀ n addr count, n < 8 ∨ n = 255 → addr < 2 ^ 64 → addr % 8 = 0 → count < 2 ^ 32 →
      Inline s m 0x0501 c rest (n + addr * 2 ^ 64 + count * 2 ^ 128) →
      let got := (s.tly.unread.filter fun x => n == 0xFF || x.2 == n).take count
      ∃ t, exec (.tallyRead m) s = .next t ∧ t.tly = { s.tly with unread := s.tly.unread.filter fun x => !got.contains x } ∧
        t.regs = s.regs ∧ t.parts = s.parts ∧ Answered s t m c rest ⟨.ok, 0, 4, got.length⟩) ∧
    (∀ v, v < 2 ^ 64 → Inline s m 0x0502 c rest v → ∃ t, exec (.tallyClock m) s = .next t ∧ t.tly.wallRef = v ∧ t.tly.wallAt = s.tly.time ∧
      t.tly.clockSet = true ∧ t.regs = s.regs ∧ t.parts = s.parts ∧ Answered s t m c rest (rspEmpty .ok 0)) ∧
    (∀ (n : Fin 8) id, id < 2 ^ 32 → Inline s m 0x0503 c rest (n + id * 2 ^ 32) →
      (s.live n = true → ∃ t, exec (.tallyTenant m) s = .next t ∧ CurOnly s t ∧ Waits s t m c rest (some n.val) true (.tenant n id none)) ∧
      (s.live n = false → ∃ t, exec (.tallyTenant m) s = .next t ∧ t.tenant n = id ∧ t.parts = s.parts ∧
        RegsBut s t [Reg.TLY_TENANT n] ∧ Answered s t m c rest (t.rspBlock n .ok 0))) ∧
    (∀ v, v < 2 ^ 256 → Inline s m 0x0504 c rest v →
      (∃ t, exec (.lgbToken m false) s = .next t ∧ now t (rspEmpty .authFail 0)) ∧
      (∃ t, exec (.lgbToken m true) s = .next t ∧ t.fld Reg.LGB_STATUS 0 1 = 1 ∧ t.parts = s.parts ∧ RegsBut s t [Reg.LGB_STATUS] ∧
        Answered s t m c rest ⟨.ok, 0, 1, 1⟩))

namespace Sys2Proof.Statements

/-- Nothing but the Registrar's lists has changed. -/
def RgsOnly (s t : State) : Prop := t = { s with rgs := t.rgs }

/-- A record of the decision trace is written at HEAD with the timebase, or, where the ring or its bank does not take it, dropped and
counted (R189, R191, R489). -/
def Traced (s t : State) (w0 : Nat) : Prop :=
  let bank := s.fld Reg.RGS_TRACE 0 10
  let head := s.fld Reg.RGS_TRACE_HEAD 0 12
  let room := (head + 1) % 4096 ≠ s.fld Reg.RGS_TRACE_TAIL 0 12
  let on := s.fld Reg.RGS_TRACE 10 1 = 1 ∧ s.hasBank bank = true ∧ room ∧ s.unitAsk bank 12 = none
  t.parts = s.parts ∧
  (on → t.vword bank (2 * head) = BitVec.ofNat 64 w0 ∧ t.vword bank (2 * head + 1) = BitVec.ofNat 64 s.lnk.timebase ∧
    t.fld Reg.RGS_TRACE_HEAD 0 12 = (head + 1) % 4096 ∧ RegsBut s t [Reg.RGS_TRACE_HEAD]) ∧
  (¬ on → t.vlt = s.vlt ∧ RegsBut s t [Reg.RGS_TRACE_DROP, Reg.VLT_REJECT, Reg.VLT_LAST_REJECT] ∧
    t.fld Reg.RGS_TRACE_DROP 0 24 = min (2 ^ 24 - 1) (s.fld Reg.RGS_TRACE_DROP 0 24 + 1))

/-- A task of the Registrar with this id. -/
def TaskIs (s : State) (id : Nat) (f : Task → Prop) : Prop := ∃ x ∈ s.rgs.tasks, x.id = id ∧ f x

end Sys2Proof.Statements

/-- R480 to R486, R489 to R491: tasks are created READY in the next cycle, on the delay list, or held; a cycle lets completions, yields
and cancels act first, makes tasks READY, and dispatches READY tasks while the Docent runs; a done, a yield and a cancel wait for the
cycle; a held source enters its list; the trace's tail and window. -/
def Obligations.RegistrarCommands : Prop :=
  (∀ (s : State) (kind : Fin 4) (owner : BitVec 4) (param : Word) (delay : BitVec 23),
    let k := kind.val + 2
    let prio := s.kindPrio k
    let full := s.rgs.free = 0 ∨ s.rgs.stopped = true
    let waits := s.rgs.dataFull = true ∨ ∃ h ∈ s.rgs.held, h.kind = k
    let late := fun (i : Nat) =>
      (⟨i, .delayed, k, prio, owner.toNat, 0, false, 0, 0, 0, (s.rgs.now + delay.toNat) % 2 ^ 32, param⟩ : Task)
    (full ∨ (delay = 0 ∧ waits) → ∃ t, exec (.taskCreate kind owner param delay) s = .next t ∧
      t.rgs = { s.rgs with held := s.rgs.held ++ [⟨k, owner.toNat, param⟩] } ∧
      Traced s t (0x7FF + 7 * 2 ^ 11 + prio * 2 ^ 18 + k * 2 ^ 21 + owner.toNat * 2 ^ 25 + k * 2 ^ 32)) ∧
    (∀ i, ¬ full → s.rgs.freeId = some i →
      (delay = 0 → ¬ waits → ∃ t, exec (.taskCreate kind owner param delay) s = .next t ∧ RgsOnly s t ∧
        t.rgs = { s.rgs with tasks := insertBy Task.id ⟨i, .fresh, k, prio, owner.toNat, 0, false, 0, 0, 0, 0, param⟩ s.rgs.tasks }) ∧
      (delay ≠ 0 → s.rgs.delayed < 256 → ∃ t, exec (.taskCreate kind owner param delay) s = .next t ∧
        t.rgs = { s.rgs with tasks := insertBy Task.id (late i) s.rgs.tasks } ∧
        Traced s t (i + 3 * 2 ^ 11 + prio * 2 ^ 18 + k * 2 ^ 21 + owner.toNat * 2 ^ 25 + delay.toNat * 2 ^ 32)))) ∧
  (∀ s : State, (s.rgs.tasks.map Task.id).Nodup →
    let u := s.setRgs { s.rgs with cycle := s.rgs.cycle + 1 }
    let tick := (s.rgs.cycle + 1) % 1000 = 0
    let now := if tick then (s.rgs.now + 1) % 2 ^ 32 else s.rgs.now
    let quiet := s.rgs.dones = [] ∧ s.rgs.yields = [] ∧ s.rgs.cancels = []
    ∃ t, exec .registrarCycle s = .next t ∧ t.rgs.cycle = s.rgs.cycle + 1 ∧ t.rgs.now = now ∧ t.rgs.dones = [] ∧ t.rgs.yields = [] ∧
      t.rgs.cancels = [] ∧ t.parts = s.parts ∧
      (∀ k st x, s.rgs.dones = [(k, st)] → s.rgs.taskOn k = some x → ∀ y ∈ t.rgs.tasks, y.id ≠ x.id) ∧
      (∀ k d x, s.rgs.dones = [] → s.rgs.yields = [(k, d)] → s.rgs.cancels = [] → 0 < d → d < 2 ^ 23 → s.rgs.taskOn k = some x →
        (s.rgs.delayed < 256 → TaskIs t x.id fun y => y.st = .delayed ∧ y.expiry = (now + d) % 2 ^ 32 ∧ y.lastCore = x.lastCore) ∧
        (256 ≤ s.rgs.delayed → TaskIs t x.id (fun y => y = x) ∧ vget t.rgs.refused k = true)) ∧
      (∀ x ∈ s.rgs.tasks, x.id ∈ s.rgs.cancels → s.rgs.dones = [] → s.rgs.yields = [] → x.st = .delayed ∨ x.st = .ready ∨ x.st = .fresh →
        ∀ y ∈ t.rgs.tasks, y.id ≠ x.id) ∧
      (∀ x ∈ s.rgs.tasks, quiet → x.st = .fresh → TaskIs t x.id fun y => (y.st = .ready ∨ ∃ k, y.st = .running k) ∧ y.readyAt = s.rgs.cycle + 1) ∧
      (∀ x ∈ s.rgs.tasks, quiet → x.st = .ready → s.docent ≠ 1 ∨ s.rgs.stopped = true → x ∈ t.rgs.tasks) ∧
      (∀ x ∈ s.rgs.tasks, ∀ y ∈ s.rgs.tasks, ∀ k, quiet → x.st = .ready → y.st = .ready → x ∈ t.rgs.tasks →
        TaskIs t y.id (fun z => z.st = .running k) → u.mayTake k x = true → u.mayTake k y = true ∧ u.before x y = false ∧ s.docentCore k = true) ∧
      (quiet → tick → (∃ x ∈ s.rgs.tasks, x.st = .delayed ∧ expired (s.rgs.now + 1) x.expiry = true) → exec .delayExpiry s = .next t) ∧
      (¬ tick → exec .delayExpiry s = .next s)) ∧
  (∀ (s : State) (k : Fin 8) (status : Byte) (d : BitVec 23),
    (s.rgs.taskOn k = none → exec (.taskDone k status) s = .next s ∧ exec (.taskYield k d) s = .next s) ∧
    ((s.rgs.taskOn k).isSome = true → (∀ x ∈ s.rgs.dones, x.1 ≠ k) → (∀ x ∈ s.rgs.yields, x.1 ≠ k) →
      exec (.taskDone k status) s = .next { s with rgs := { s.rgs with dones := insertBy (fun x => x.1.val) (k, status.toNat) s.rgs.dones } } ∧
      exec (.taskYield k d) s = .next { s with rgs := { s.rgs with yields := insertBy (fun x => x.1.val) (k, d.toNat) s.rgs.yields } })) ∧
  (∀ (s : State) (id : BitVec 10),
    let asked := { s with rgs := { s.rgs with cancels := s.rgs.cancels ++ [id.toNat] } }
    exec (.taskCancel none id) s = .next asked ∧
    (∀ k, s.rgs.taskOn k = none → exec (.taskCancel (some k) id) s = .next s) ∧
    (∀ k x y, s.rgs.taskOn k = some x → s.rgs.tasks.find? (fun t => t.id == id.toNat) = some y →
      exec (.taskCancel (some k) id) s = .next (if x.owner = y.owner then asked else s))) ∧
  (∀ (s : State) (kind : Fin 4),
    ((∀ h ∈ s.rgs.held, h.kind ≠ kind.val + 2) ∨ s.rgs.dataFull = true ∨ s.rgs.stopped = true → exec (.dataSourceRelease kind) s = .next s) ∧
    (∀ h i, s.rgs.held.find? (fun h => h.kind == kind.val + 2) = some h → s.rgs.dataFull = false → s.rgs.stopped = false →
      s.rgs.freeId = some i → ∃ t, exec (.dataSourceRelease kind) s = .next t ∧ t.rgs.held = s.rgs.held.erase h ∧
        t.rgs.tasks = insertBy Task.id ⟨i, .fresh, h.kind, s.kindPrio h.kind, h.owner, 0, false, 0, 0, 0, 0, h.param⟩ s.rgs.tasks ∧
        Traced s t (0x7FF + 8 * 2 ^ 11 + s.kindPrio h.kind * 2 ^ 18 + h.kind * 2 ^ 21 + h.owner * 2 ^ 25 + h.kind * 2 ^ 32))) ∧
  (∀ (s : State) (v : Word) (p : Path),
    let tail := s.fld Reg.RGS_TRACE_TAIL 0 12
    let ok := (bitsAt v 0 12 + 4096 - tail) % 4096 ≤ (s.fld Reg.RGS_TRACE_HEAD 0 12 + 4096 - tail) % 4096
    (∀ n, exec (.rgsTraceTailWrite (.pf1 n) v) s = .next s) ∧
    ((∀ n, p ≠ .pf1 n) → ok → ∃ t, exec (.rgsTraceTailWrite p v) s = .next t ∧ t = { s with regs := t.regs } ∧
      t.fld Reg.RGS_TRACE_TAIL 0 12 = bitsAt v 0 12 ∧ RegsBut s t [Reg.RGS_TRACE_TAIL]) ∧
    ((∀ n, p ≠ .pf1 n) → ¬ ok → ∃ t, exec (.rgsTraceTailWrite p v) s = .next t ∧ t.rgs = s.rgs ∧ Logged s t)) ∧
  ∀ (s : State) (p : Path) (off : BitVec 14) (meet : Meet) (ecc : Ecc),
    let bank := s.fld Reg.RGS_TRACE 0 10
    let open_ := (∀ n, p ≠ .pf1 n) ∧ s.unitAsk bank 12 = none ∧ s.hasBank bank = true
    (∀ n, exec (.traceWindowRead (.pf1 n) off meet ecc) s = .next { s with busOut := 0 }) ∧
    (open_ → meet = .none ∨ meet = .read → s.isDbe bank (off.toNat / 2) = false → ecc = .good →
      exec (.traceWindowRead p off meet ecc) s =
        .next { s with busOut := BitVec.ofNat 32 ((s.vwordN bank (off.toNat / 2)).toNat / 2 ^ (32 * (off.toNat % 2))) }) ∧
    (open_ → meet = .fullWrite ∨ meet = .partialWrite → ∃ t, exec (.traceWindowRead p off meet ecc) s = .next t ∧ t.busOut = 0 ∧
      t.fld Reg.RGS_TRACE_DROP 24 8 = min 255 (s.fld Reg.RGS_TRACE_DROP 24 8 + 1) ∧ t.parts = s.parts ∧ t.vlt.mem = s.vlt.mem)

namespace Sys2Proof.Statements

/-- Every command that alone has begun in its mailbox and waits so is answered: with nothing earlier open its response is posted (R449,
R452). -/
def Finishes (s t : State) (w : Wait → Prop) (r : Rsp) : Prop :=
  ∀ (m : Fin 36) (b : Begun), (s.mbx m).begun = [b] → w b.wait → b.result = none → b.discard = false →
    (∀ q ∈ (s.mbx m).queue, b.cmd.stamp < q.stamp) →
    t.mbx m = { s.mbx m with begun := [], rsps := (s.mbx m).rsps ++ [rspBytes b.cmd.op r.status.code r.detail b.cmd.tag r.len b.cmd.stamp r.payload] }

/-- A wake cause is enabled (R500): a management access always is. -/
def WakeOn (s : State) (k : Nat) : Prop := s.fld Reg.PWR_CTRL (3 + k) 1 = 1

/-- How a wake acts (R500): latched during the entry, starting the exit in DORMANT, and without effect otherwise. -/
def Wakes (s : State) (k : Nat) (o : Host.Outcome State Fault Refusal) : Prop :=
  let q := s.pwr
  let latch : Pwr := if q.wakes = 0 then { q with wakes := 1, wake := k, during := true, wakeAt := s.tly.time } else { q with wakes := q.wakes + 1 }
  (WakeOn s k → q.phase = .entering → o = .next (s.setPwr latch)) ∧
  (WakeOn s k → s.pwr.phase = .dormant → ∃ t, o = .next t ∧ t.pwr.phase = .exiting ∧ t.pwr.wakes = s.pwr.wakes + 1 ∧
    (s.pwr.wakes = 0 → t.pwr.wake = k ∧ t.pwr.during = false) ∧ t.fld Reg.PWR_VCORE 0 10 = s.needMv ∧ (t.reg Reg.CLK_FIXED).toNat = 15 ∧
    t.rgs.stopped = false ∧ t.fld Reg.LNK_TIME_STATUS 16 1 = 0 ∧ t.parts = s.parts) ∧
  (¬ WakeOn s k ∨ s.pwr.phase = .run ∨ s.pwr.phase = .exiting → o = .next s)

end Sys2Proof.Statements

/-- R379, R402, R494, R496 to R500, R503, R505, R508, R514, R515, R536: NAP and DORMANT end their entry and their exit, wakes are latched,
a trip stops the clocks, an operating-point change goes on when VCORE settles and ends when its dies have relocked, and a fall of PWR_OK
leaves what the always-on island and the fuses keep. -/
def Obligations.PowerEvents : Prop :=
  (∀ (s : State) (n : Fin 8),
    (vget s.pwr.nap n = .entering → (s.part n).held.isSome = true → s.pwr.phase ≠ .dormant → ∃ t, exec (.napEntryDone n) s = .next t ∧
      PartsBut s t n ∧ t.part n = { s.part n with held := some .nap } ∧
      ((∃ x ∈ s.waiting, x.2.wait = .napExit n) → vget t.pwr.nap n = .leaving) ∧
      ((∀ x ∈ s.waiting, x.2.wait ≠ .napExit n) → vget t.pwr.nap n = .napping)) ∧
    (vget s.pwr.nap n ≠ .entering ∨ (s.part n).held = none → exec (.napEntryDone n) s = .next s) ∧
    (vget s.pwr.nap n = .leaving → ∃ t, exec (.napExitDone n) s = .next t ∧ PartsBut s t n ∧ vget t.pwr.nap n = .none ∧ t.regs = s.regs ∧
      (vget s.pwr.own n = false → vget s.pwr.dev n = false → vget s.pwr.dorm n = false → vget s.pwr.relock n = false →
        t.part n = { s.part n with held := none, holdReq := false }) ∧ Finishes s t (fun w => w = .napExit n) (t.rspBlock n .ok 0)) ∧
    (vget s.pwr.nap n ≠ .leaving → exec (.napExitDone n) s = .next s)) ∧
  (∀ s : State,
    let ready := s.pwr.phase = .entering ∧ s.ackWaits = false ∧ ∀ n, vget s.pwr.dorm n = true → (s.part n).holdReq = false
    (¬ ready → exec .dormantEntryDone s = .next s) ∧
    (ready → ∃ t, exec .dormantEntryDone s = .next t ∧ t.pwr.phase = (if s.pwr.wakes = 0 then .dormant else .exiting) ∧
      t.fld Reg.PWR_DORMANT_TIME 0 16 = min 65535 ((s.lnk.timebase - s.pwr.since) / 10000) ∧
      (s.pwr.wakes = 0 → t.fld Reg.PWR_VCORE 0 10 = 600 ∧ t.fld Reg.PWR_VCORE 26 1 = 0 ∧ (t.reg Reg.CLK_FIXED).toNat = 8 ∧
        ∀ d < 4, s.hasDie d = true → (t.reg (Reg.CLK_STEP d)).toNat = 4)) ∧
    (∀ waited,
      let up := waited = true ∨ ∀ i ∈ s.pwr.ports, s.fld (Reg.DEP_PORT_STATE i) 0 3 = 3
      (s.pwr.phase ≠ .exiting ∨ ¬ up → exec (.dormantExitDone waited) s = .next s) ∧
      (s.pwr.phase = .exiting → up → s.pwr.mgmt = [] → s.pwr.shut = none → ∃ t, exec (.dormantExitDone waited) s = .next t ∧
        t.pwr.phase = .run ∧ t.fld Reg.PWR_STATE 0 3 = 0 ∧ t.fld Reg.PWR_LAST_WAKE 0 4 = s.pwr.wake % 16 ∧
        t.fld Reg.PWR_DORMANT_TIME 16 16 = min 65535 ((s.lnk.timebase - s.pwr.since) / 10000) ∧
        (∀ n, vget s.pwr.own n = false → vget s.pwr.relock n = false → vget s.pwr.nap n = .none →
          t.part n = { s.part n with held := none, holdReq := false }) ∧ Finishes s t (fun w => w = .dormant) ⟨.ok, 0, 1, 0⟩)) ∧
    Wakes s 1 (exec .wakeN s) ∧ Wakes s 2 (exec .pcieWake s) ∧
    (s.pwr.phase = .dormant → s.reg Reg.PWR_WAKE_TIMER ≠ 0 → Wakes s 4 (exec .wakeTimer s)) ∧
    (s.pwr.phase ≠ .dormant ∨ s.reg Reg.PWR_WAKE_TIMER = 0 → exec .wakeTimer s = .next s)) ∧
  (∀ (s : State) (d : Fin 4),
    let step := fun (t : State) => (t.reg (Reg.CLK_STEP d)).toNat
    let op := s.fld (Reg.PWR_DIE_OP d) 2 2
    let mine := ∃ c, s.pwr.change = some c ∧ d.val ∈ c.left
    (s.hasDie d.val = false → exec (.thermtrip d) s = .next s ∧ exec (.pllLocked d) s = .next s ∧
      exec (.lockStable d) s = .next s ∧ exec (.relockFail d) s = .next s) ∧
    (s.hasDie d.val = true →
      (∃ t, exec (.thermtrip d) s = .next t ∧ t.pwr.tripped = true ∧ t.fld Reg.PWR_THERMTRIP d 1 = 1 ∧ t.fld Reg.PWR_THERMTRIP 31 1 = 1 ∧
        (t.reg Reg.CLK_FIXED).toNat = 8 ∧ (∀ e < 4, s.hasDie e = true → (t.reg (Reg.CLK_STEP e)).toNat = 4) ∧
        (∀ l < 104, s.hasLane l = true → t.fld (Reg.LANE_STATE l) 3 1 = 1) ∧ t.parts = s.parts ∧
        t.vlt = { s.vlt with busyLow := false, busyLeft := 0 } ∧ t.plt.trigDrive = Vector.replicate 8 []) ∧
      (s.fld (Reg.CLK_STEP d) 0 3 ≠ 2 → exec (.pllLocked d) s = .next s) ∧
      (s.fld (Reg.CLK_STEP d) 0 3 = 2 → ∃ t, exec (.pllLocked d) s = .next t ∧ t.fld (Reg.CLK_STEP d) 0 3 = 3 ∧
        RegsBut s t [Reg.CLK_STEP d] ∧ t = { s with regs := t.regs }) ∧
      (s.fld (Reg.CLK_STEP d) 0 3 ≠ 3 ∨ ¬ mine → exec (.lockStable d) s = .next s) ∧
      (s.fld (Reg.CLK_STEP d) 0 3 ≠ 2 ∨ ¬ mine → exec (.relockFail d) s = .next s) ∧
      (∀ c, s.pwr.change = some c → d.val ∈ c.left →
        let last := ∀ e ∈ c.left, e = d.val
        (s.fld (Reg.CLK_STEP d) 0 3 = 3 → ∃ t, exec (.lockStable d) s = .next t ∧ step t = opMhz op * 16 ∧ t.dieOp d = op ∧
          t.fld (Reg.PWR_DIE_OP d) 4 1 = 0 ∧ (last → t.pwr.change = none ∧ (c.failed = [] →
            Finishes s t (fun w => ∃ mask, w = .setOp mask) ⟨.ok, 0, 1, maskOf c.dies⟩)) ∧
          (¬ last → t.pwr.change = some { c with left := c.left.filter fun k => k != d.val } ∧ t.parts = s.parts)) ∧
        (s.fld (Reg.CLK_STEP d) 0 3 = 2 → ∃ t, exec (.relockFail d) s = .next t ∧ step t = 1 + 500 * 16 ∧ t.dieOp d = 3 ∧
          t.fld (Reg.CLK_RELOCK_FAIL d) 0 16 = min 65535 (s.fld (Reg.CLK_RELOCK_FAIL d) 0 16 + 3) ∧
          (last → t.pwr.change = none ∧ Finishes s t (fun w => ∃ mask, w = .setOp mask) (rspEmpty .range 0)))))) ∧
  (∀ s : State,
    let volt := ∃ c, s.pwr.change = some c ∧ c.volt = true
    (s.awake = false ∨ s.fld Reg.PWR_VCORE 26 1 = 1 → exec .vcoreSettled s = .next s) ∧
    (s.awake = true → s.fld Reg.PWR_VCORE 26 1 = 0 → ∃ t, exec .vcoreSettled s = .next t ∧ t.fld Reg.PWR_VCORE 26 1 = 1 ∧
      (¬ volt → t.pwr = s.pwr ∧ t.parts = s.parts ∧ RegsBut s t [Reg.PWR_VCORE]) ∧
      (∀ c, s.pwr.change = some c → c.volt = true → t.pwr.change = some { c with volt := false, since := s.lnk.timebase })) ∧
    (¬ volt → exec .vrTimeout s = .next s) ∧
    (∀ c, s.pwr.change = some c → c.volt = true → ∃ t, exec .vrTimeout s = .next t ∧ t.fld Reg.PWR_VCORE 27 1 = 1 ∧ t.pwr.change = none ∧
      (∀ d ∈ c.dies, d < 4 → t.fld (Reg.PWR_DIE_OP d) 5 3 = 3 ∧ t.dieOp d = s.dieOp d) ∧
      Finishes s t (fun w => ∃ mask, w = .setOp mask) (rspEmpty .range 0)) ∧
    (∀ vaonLost, ∃ t, exec (.pwrOkFall vaonLost) s = .next t ∧ t.parts = State.reset.parts ∧ t.cur = State.reset.cur ∧ t.pwr = Pwr.reset ∧
      t.pin.pwrOk = false ∧ t.reg Reg.CFG_KEYS = s.reg Reg.CFG_KEYS ∧ t.cfg.hashes = s.cfg.hashes ∧
      RegsBut State.reset t [Reg.CFG_KEYS, Reg.PWR_THERMTRIP, Reg.TLY_PERIOD, Reg.TLY_PERIOD_NO, Reg.TLY_MERGED] ∧
      (vaonLost = false → t.pin.vaon = s.pin.vaon ∧ t.lnk.timebase = s.lnk.timebase ∧ t.tly.time = s.tly.time ∧ t.tly.rows = s.tly.rows ∧
        t.tap = s.tap ∧ t.reg Reg.PWR_THERMTRIP = s.reg Reg.PWR_THERMTRIP) ∧
      (vaonLost = true → t.pin.vaon = false ∧ t.lnk = Lnk.reset ∧ t.tly = { Tly.reset with powerOn := s.tly.powerOn } ∧ t.tap = Tap.reset ∧
        t.reg Reg.PWR_THERMTRIP = State.reset.reg Reg.PWR_THERMTRIP)))

namespace Sys2Proof.Statements

/-- A register, single or half of a 64-bit one, that the part carries stands at PF0 offset a, where the offset of the path leads. -/
def RegHere (s : State) (p : Path) (off : BitVec 28) (a : Nat) (r : RegInfo) (h : Half) : Prop :=
  off.toNat % 4 = 0 ∧ p.addr off.toNat = some a ∧ s.absent a = false ∧ (∃ i, regAt a = some (r, i)) ∧ r.half = h

/-- A command of a management mailbox that may read and write registers, with inline payload p (R468). -/
def Managed (s : State) (m : Fin 36) (op : Nat) (c : Cmd) (rest : List Cmd) (p : Nat) : Prop :=
  Turn s m op c rest ∧ 32 ≤ m.val ∧ m.val < 35 ∧ s.docent ≠ 3 ∧ c.badHeader = false ∧ c.desc = false ∧ c.payload = p

/-- Nothing but the TAP has changed. -/
def TapIs (s : State) (o : Host.Outcome State Fault Refusal) (ir : Byte) (data latch : BitVec 2362) : Prop :=
  o = .next (if s.pin.vaon then { s with tap := ⟨ir, data, latch⟩ } else s)

end Sys2Proof.Statements

/-- R8, R9, R11 to R13, R177, R446, R468: a read returns the register and clears its RC fields; a 64-bit register is read through its
capture and written by its upper half; a write obeys the fields' types.  R11: with byte enables missing, a write is dropped and enters the
access log, and a read answers the bytes addressed with what a full read does.  The management port reads and writes registers; a cleared
hazard buffer. -/
def Obligations.RegisterAccesses : Prop :=
  (∀ (s : State) (p : Path) (off : BitVec 28) (v : Word) (be : BitVec 4),
    (be ≠ 15 → off.toNat % 4 = 0 → ∃ t, exec (.registerWrite (some p) off v be) s = .next t ∧ Logged s t ∧
      t = { s with regs := t.regs, cur := t.cur } ∧ ∀ m, t.mbx m = s.mbx m) ∧
    (∃ t, exec (.readClear p off 15) s = .next t ∧
      exec (.readClear p off be) s = .next { t with busOut := w32 (t.busOut.toNat &&& byteMask be.toNat) })) ∧
  (∀ (s : State) (p : Path) (off : BitVec 28) (a : Nat) (r : RegInfo) (v : Word) (be : BitVec 4),
    let cleared := fun (t : State) => t.reg a = w32 ((s.reg a).toNat &&& (2 ^ 32 - 1 - rcMask r.flds)) ∧ RegsBut s t [a] ∧ t.parts = s.parts
    let kept := fun (t : State) => RegsBut s t [a] ∧ t = { s with regs := t.regs, vlt := t.vlt } ∧ t.vlt.mem = s.vlt.mem ∧
      (a ≠ Reg.VLT_BUSY_PIN → t.vlt = s.vlt)
    let plain := unitOf a < 7 ∧ unitOf a ≠ 1
    (RegHere s p off a r .single →
      (∃ t, exec (.readClear p off be) s = .next t ∧ t.busOut = w32 ((s.readReg p a).toNat &&& byteMask be.toNat) ∧ cleared t) ∧
      exec (.regLoRead p off) s = .next s ∧ exec (.regHiWrite p off v be) s = .next s ∧
      (plain → ∃ t, exec (.registerWrite (some p) off v 15) s = .next t ∧ t.reg a = writeFields (s.reg a) v r.flds ∧ kept t) ∧
      (plain → p = .pf0 → s.docentMay a = true →
        ∃ t, exec (.registerWrite none off v 15) s = .next t ∧ t.reg a = writeFields (s.reg a) v r.flds ∧ kept t)) ∧
    (RegHere s p off a r .lo →
      (∃ t, exec (.regLoRead p off) s = .next t ∧ t.busOut = s.readReg p a ∧ t.capt p = s.readReg p (a + 4) ∧ cleared t) ∧
      (regWritable r = true → exec (.registerWrite (some p) off v 15) s = .next (s.setHold p v))) ∧
    (RegHere s p off a r .hi → exec (.readClear p off 15) s = .next { s with busOut := s.capt p }) ∧
    (∀ r0 i, RegHere s p off a r .hi → 4 ≤ a → regAt (a - 4) = some (r0, i) → regWritable r = true → (∀ n : Fin 8, a ≠ Reg.CAP_MARK_HI n) →
      (unitOf a = 9 → s.isRunning (fin8 (a / 0x1000)) = false) →
      ∃ t, exec (.regHiWrite p off v 15) s = .next t ∧ t.reg (a - 4) = writeFields (s.reg (a - 4)) (s.holdReg p) r0.flds ∧
        t.reg a = writeFields (s.reg a) v r.flds ∧ RegsBut s t [a - 4, a] ∧ t = { s with regs := t.regs })) ∧
  (∀ (s : State) (m : Fin 36) (c : Cmd) (rest : List Cmd) (off : BitVec 28) (r : RegInfo) (v : Word),
    let a := off.toNat
    (a % 4 ≠ 0 → (Managed s m 0x0002 c rest a → ∃ t, exec (.regRead m .none .good) s = .next t ∧ CurOnly s t ∧ Answered s t m c rest (rspEmpty .range 1)) ∧
      (Managed s m 0x0003 c rest (a + v.toNat * 2 ^ 32) → ∃ t, exec (.regWrite m .none) s = .next t ∧ CurOnly s t ∧
        Answered s t m c rest (rspEmpty .range 1))) ∧
    (RegHere s .mgmt off a r .single →
      (Managed s m 0x0002 c rest a → ∃ t, exec (.regRead m .none .good) s = .next t ∧ RegsBut s t [a] ∧ t.parts = s.parts ∧
        Answered s t m c rest ⟨.ok, 0, 4, (s.readReg .mgmt a).toNat⟩) ∧
      (Managed s m 0x0003 c rest (a + v.toNat * 2 ^ 32) → unitOf a < 7 → unitOf a ≠ 1 → ∃ t, exec (.regWrite m .none) s = .next t ∧
        t.reg a = writeFields (s.reg a) v r.flds ∧ RegsBut s t [a] ∧ t.parts = s.parts ∧ Answered s t m c rest (rspEmpty .ok 0)))) ∧
  ∀ (s : State) (n : Fin 8),
    ((s.part n).eph.debug = false → exec (.dbgClear n) s = .next s) ∧
    ((s.part n).eph.debug = true → ∃ t, exec (.dbgClear n) s = .next t ∧ t.part n = { s.part n with
        hazBuf := [], hazHalt := unstored (s.part n).hazHalt, haltHaz := unstored (s.part n).haltHaz,
        fxs := (s.part n).fxs.map fun f => { f with hazard := unstored f.hazard } } ∧ PartsBut s t n ∧
      t.reg (Reg.DBG_TOTAL n) = 0 ∧ t.reg (Reg.DBG_LOST n) = 0 ∧ RegsBut s t [Reg.DBG_TOTAL n, Reg.DBG_LOST n])

/-- R302, R512, R514, R515, R517 to R519, R521, R522, R524, R539, R544: a billing period closes with a record of each row, or merges into
the next when the ring lacks room; a traced core's record enters the Logbook, waits, or is dropped; the Logbook's tail; rails and DEVCLK;
and the TAP, which scans while VAON is present and tests only in reset. -/
def Obligations.MeteringTraceAndPins : Prop :=
  (∀ s : State,
    let s0 : State := { s with tly := { s.tly with time := max s.tly.time s.tly.bound } }
    let fits := s.tly.rows.length ≤ s.tallyRoom
    ∃ t, exec .periodBoundary s = .next t ∧ t.tly.time = max s.tly.time s.tly.bound ∧ t.tly.bound = s.tly.bound + s.periodLen ∧
      t.reg Reg.TLY_PERIOD_NO = BitVec.ofNat 32 ((s.reg Reg.TLY_PERIOD_NO).toNat + 1) ∧
      t.parts = s.parts ∧
      (fits → t.tly.rows = [] ∧ t.tly.clockBack = false ∧ t.tly.clockSet = false ∧ t.tly.unread.length = s.tly.unread.length + s.tly.rows.length ∧ RegsBut s t [Reg.TLY_PERIOD_NO]) ∧
      (∀ r, s.tly.rows = [r] → fits → t.tly.unread = s.tly.unread ++ [(s.tly.head, r.part)] ∧ t.tly.head = (s.tly.head + 1) % 680 ∧
        ∀ i < 11, t.vword 252 (s.tly.head * 12 + i) = BitVec.ofNat 64 ((s0.periodWords r false s0.tly.time s0.wall).getD i 0)) ∧
      (¬ fits → t.tly.rows = s.tly.rows.map (fun r => { r with merged := true }) ∧ t.vlt = s.vlt ∧ t.tly.clockSet = s.tly.clockSet ∧
        (t.reg Reg.TLY_MERGED).toNat = min (2 ^ 32 - 1) ((s.reg Reg.TLY_MERGED).toNat + 1))) ∧
  (∀ (s : State) (k : Fin 8) (pc dst : Word) (e : LgbEv),
    let c := vget s.lgb.cores k
    let h := s.fld Reg.LGB_HEAD 0 16
    let w0 := 2 + k.val * 16 + s.lnk.timebase % 2 ^ 32 * 2 ^ 32
    let traced := s.lgbOn k = true ∧ s.awake = true ∧ c.on = true
    let quiet := s.lgb.dropped = 0 ∧ c.due = false
    (s.lgbOn k = false ∨ s.awake = false → exec (.logbookRecord k pc e) s = .next s) ∧
    (traced → s.lgbExcluded k = true → exec (.logbookRecord k pc (.branch dst)) s = .next s) ∧
    (traced → quiet → s.lgbExcluded k = false →
      (s.lgbRoom = true → ∃ t, exec (.logbookRecord k pc (.branch dst)) s = .next t ∧ t.fld Reg.LGB_HEAD 0 16 = (h + 1) % 65536 ∧
        mget dWord64 t.lgb.buf (2 * h) = BitVec.ofNat 64 w0 ∧
        mget dWord64 t.lgb.buf (2 * h + 1) = BitVec.ofNat 64 (pc.toNat + dst.toNat * 2 ^ 32) ∧ RegsBut s t [Reg.LGB_HEAD] ∧ t.parts = s.parts) ∧
      (s.lgbRoom = false → ∃ t, exec (.logbookRecord k pc (.branch dst)) s = .next t ∧ t.lgb.buf = s.lgb.buf ∧ t.parts = s.parts ∧
        (s.fld Reg.LGB_CTRL 2 1 = 1 → s.docentCore k = true → (vget t.lgb.cores k).waitRec.isSome = true ∧
          t.fld Reg.LGB_STATUS (1 + k.val) 1 = 1 ∧ RegsBut s t [Reg.LGB_STATUS]) ∧
        (s.fld Reg.LGB_CTRL 2 1 = 0 ∨ s.docentCore k = false → t.lgb.dropped = 1 ∧
          (t.reg Reg.LGB_DROP).toNat = min (2 ^ 32 - 1) ((s.reg Reg.LGB_DROP).toNat + 1) ∧ RegsBut s t [Reg.LGB_DROP]))) ∧
    ((∀ j, (vget s.lgb.cores j).waitRec = none) ∨ s.lgbRoom = false → exec .logbookSpaceFreed s = .next s) ∧
    (∀ w, c.waitRec = some (pc, w) → (∀ j, j ≠ k → (vget s.lgb.cores j).waitRec = none) → quiet → s.lgbRoom = true →
      ∃ t, exec .logbookSpaceFreed s = .next t ∧ t.fld Reg.LGB_HEAD 0 16 = (h + 1) % 65536 ∧ (vget t.lgb.cores k).waitRec = none ∧
        t.fld Reg.LGB_STATUS (1 + k.val) 1 = 0 ∧ mget dWord64 t.lgb.buf (2 * h) = BitVec.ofNat 64 w ∧
        mget dWord64 t.lgb.buf (2 * h + 1) = BitVec.ofNat 64 (w / 2 ^ 64) ∧ RegsBut s t [Reg.LGB_HEAD, Reg.LGB_STATUS])) ∧
  (∀ (s : State) (v : Word) (p : Path),
    let tail := s.fld Reg.LGB_TAIL 0 16
    let ok := (bitsAt v 0 16 + 2 ^ 16 - tail) % 2 ^ 16 ≤ (s.fld Reg.LGB_HEAD 0 16 + 2 ^ 16 - tail) % 2 ^ 16
    (∀ n, exec (.lgbTailWrite (.pf1 n) v) s = .next s) ∧
    ((∀ n, p ≠ .pf1 n) → ok → ∃ t, exec (.lgbTailWrite p v) s = .next t ∧ t = { s with regs := t.regs } ∧
      t.fld Reg.LGB_TAIL 0 16 = bitsAt v 0 16 ∧ RegsBut s t [Reg.LGB_TAIL]) ∧
    ((∀ n, p ≠ .pf1 n) → ¬ ok → ∃ t, exec (.lgbTailWrite p v) s = .next t ∧ t.lgb = s.lgb ∧ Logged s t)) ∧
  (∀ (s : State) (sel : Bool) (addr : BitVec 2),
    (s.pin.vaon = true → exec .vaonRise s = .next s) ∧
    (s.pin.vaon = false → ∃ t, exec .vaonRise s = .next t ∧ t = { s with pin := t.pin, tly := t.tly } ∧ t.pin = { s.pin with vaon := true } ∧
      t.tly = { Tly.reset with powerOn := (s.tly.powerOn + 1) % 2 ^ 32 }) ∧
    (s.pin.vaon = true → s.pin.pwrOk = false →
      exec (.pwrOkRise sel addr) s = .next { s with pin := ⟨true, true, sel, addr⟩, tap := Tap.reset }) ∧
    (s.pin.vaon = false ∨ s.pin.pwrOk = true → exec (.pwrOkRise sel addr) s = .next s) ∧
    ∃ t, exec .devclkLost s = .next t ∧ (t.reg Reg.CLK_DEVCLK).toNat = 2 ∧ RegsBut s t [Reg.CLK_DEVCLK] ∧ t = { s with regs := t.regs }) ∧
  ∀ (s : State) (balls : BitVec 2362) (shift : Option (BitVec 2362)) (code : Byte),
    let cells := fun (v : BitVec 2362) => BitVec.ofNat 2362 (v.toNat % 2 ^ s.scanLen)
    let after := match shift with | some v => cells v | none => s.tap.latch
    let test := fun (o : Host.Outcome State Fault Refusal) (ir : Byte) =>
      (s.inReset = true → TapIs s o ir (cells balls) after) ∧ (s.inReset = false → TapIs s o 0xFF 0 s.tap.latch)
    TapIs s (exec .idcode s) 1 0x1B1E233B s.tap.latch ∧ TapIs s (exec (.samplePreload balls shift) s) 2 (cells balls) after ∧
    test (exec (.extest balls shift) s) 3 ∧ test (exec (.extestPulse balls shift) s) 4 ∧ test (exec (.extestTrain balls shift) s) 5 ∧
    TapIs s (exec .highz s) (if s.inReset then 6 else 0xFF) 0 s.tap.latch ∧ TapIs s (exec .clamp s) (if s.inReset then 7 else 0xFF) 0 s.tap.latch ∧
    TapIs s (exec (.bypass code) s) (if code = 0 ∨ 7 < code.toNat then code else 0xFF) 0 s.tap.latch

namespace Sys2Proof.Statements

/-- The register file and the vaults' memory are in canonical form: addresses strictly rising, and nothing listed that equals what an
unlisted address reads as. -/
def Canonical (s : State) : Prop := mwf resetWord s.regs = true ∧ mwf dByte s.vlt.mem = true

end Sys2Proof.Statements

/-- R25, R452: every step that completes, from any state whose register file and vault memory are in canonical form, leaves
them in that form, takes exactly the front command from the queue, and leaves the device the variant it is.  The canonical form is the
model's own (DESIGN CHOICE, log entry 19). -/
def Obligations.EveryStepKeepsTheCanonicalForm : Prop :=
  ∀ s t : State, Canonical s → step s = .next t → Canonical t ∧ t.pending = s.pending.tail ∧ t.variant = s.variant

/-- R379, R469: the state after reset is in canonical form, lists no byte of the vaults, waits for no command, and every partition is
EMPTY; a register holds its table's reset value. -/
def Obligations.ResetIsCanonical : Prop :=
  Canonical State.reset ∧ State.reset.vlt.mem = [] ∧ State.reset.pending = [] ∧ (∀ n, (State.reset.part n).state = .empty) ∧
    ∀ a, State.reset.reg a = resetWord a
end

