-- ==== Sys2Proof/Laws/Maps.lean ====
section
/-!
SUPPORT. Laws of sparse stores and of vectors: what a store reads after a write, and that a write keeps the canonical form.
-/
namespace Sys2Proof

theorem mget_mdel_ne {α : Type} (d : Nat → α) {a b : Nat} (h : b ≠ a) :
    ∀ m : List (Nat × α), mget d (mdel a m) b = mget d m b
  | [] => rfl
  | (k, w) :: r => by
    have ih := mget_mdel_ne d h r
    by_cases hk : k = a
    · subst hk; simp [mdel, mget, h, ih]
    · simp [mdel, mget, hk, ih]

theorem mget_mdel_self {α : Type} (d : Nat → α) (a : Nat) : ∀ m : List (Nat × α), mget d (mdel a m) a = d a
  | [] => rfl
  | (k, w) :: r => by
    have ih := mget_mdel_self d a r
    by_cases hk : k = a
    · simp [mdel, hk, ih]
    · simp [mdel, mget, hk, ih, Ne.symm hk]

theorem mget_mins_ne {α : Type} (d : Nat → α) {a b : Nat} (v : α) (h : b ≠ a) :
    ∀ m : List (Nat × α), mget d (mins a v m) b = mget d m b
  | [] => by simp [mins, mget, h]
  | (k, w) :: r => by
    have ih := mget_mins_ne d v h r
    by_cases hk : a < k
    · simp [mins, hk, mget, h]
    · simp [mins, hk, mget, ih]

theorem mget_mins_self {α : Type} (d : Nat → α) (a : Nat) (v : α) :
    ∀ m : List (Nat × α), (∀ e ∈ m, e.1 ≠ a) → mget d (mins a v m) a = v
  | [], _ => by simp [mins, mget]
  | (k, w) :: r, h => by
    have hk : a ≠ k := fun e => h (k, w) (by simp) e.symm
    have ih := mget_mins_self d a v r (fun e he => h e (by simp [he]))
    by_cases hl : a < k
    · simp [mins, hl, mget]
    · simp [mins, hl, mget, hk, ih]

theorem not_mem_mdel {α : Type} (a : Nat) : ∀ (m : List (Nat × α)), ∀ e ∈ mdel a m, e.1 ≠ a
  | [], e, h => by simp [mdel] at h
  | (k, w) :: r, e, h => by
    by_cases hk : k = a
    · simp only [mdel, hk, if_true] at h; exact not_mem_mdel a r e h
    · simp only [mdel, hk, if_false, List.mem_cons] at h
      rcases h with rfl | h
      · exact hk
      · exact not_mem_mdel a r e h

/-- The written key reads as written. -/
@[simp] theorem mget_mset_self {α : Type} [DecidableEq α] (d : Nat → α) (m : List (Nat × α)) (a : Nat) (v : α) :
    mget d (mset d m a v) a = v := by
  unfold mset
  split
  · rename_i h; rw [mget_mdel_self, h]
  · exact mget_mins_self d a v _ (not_mem_mdel a m)

/-- Every other key reads as before. -/
theorem mget_mset_ne {α : Type} [DecidableEq α] (d : Nat → α) (m : List (Nat × α)) {a b : Nat} (v : α) (h : b ≠ a) :
    mget d (mset d m a v) b = mget d m b := by
  unfold mset
  split
  · exact mget_mdel_ne d h m
  · rw [mget_mins_ne d v h, mget_mdel_ne d h]

theorem mget_mset {α : Type} [DecidableEq α] (d : Nat → α) (m : List (Nat × α)) (a b : Nat) (v : α) :
    mget d (mset d m a v) b = if b = a then v else mget d m b := by
  split
  · rename_i h; rw [h, mget_mset_self]
  · rename_i h; exact mget_mset_ne d m v h

/-- Storing a list of pairs leaves every key that none of them names. -/
theorem mget_msetAll_ne {α : Type} [DecidableEq α] (d : Nat → α) {b : Nat} :
    ∀ (l m : List (Nat × α)), (∀ e ∈ l, e.1 ≠ b) → mget d (msetAll d m l) b = mget d m b
  | [], m, _ => rfl
  | (a, v) :: r, m, h => by
    have ha : b ≠ a := fun e => h (a, v) (by simp) e.symm
    simp only [msetAll]
    rw [mget_msetAll_ne d r _ (fun e he => h e (by simp [he])), mget_mset_ne d m v ha]

/-- A lower bound below which an entry may stand. -/
def mlow (lo : Option Nat) (k : Nat) : Bool := match lo with | none => true | some l => decide (l < k)

theorem mwfFrom_cons {α : Type} [DecidableEq α] (d : Nat → α) (lo : Option Nat) (k : Nat) (v : α) (r : List (Nat × α)) :
    mwfFrom d lo ((k, v) :: r) = (mlow lo k && !decide (v = d k) && mwfFrom d (some k) r) := rfl

theorem mwfFrom_mono {α : Type} [DecidableEq α] (d : Nat → α) (lo lo' : Option Nat) (m : List (Nat × α))
    (h : ∀ k, mlow lo k = true → mlow lo' k = true) (hm : mwfFrom d lo m = true) : mwfFrom d lo' m = true := by
  cases m with
  | nil => rfl
  | cons e r =>
    obtain ⟨k, v⟩ := e
    simp only [mwfFrom_cons, Bool.and_eq_true] at hm ⊢
    exact ⟨⟨h k hm.1.1, hm.1.2⟩, hm.2⟩

theorem mwfFrom_mdel {α : Type} [DecidableEq α] (d : Nat → α) (a : Nat) :
    ∀ (m : List (Nat × α)) (lo : Option Nat), mwfFrom d lo m = true → mwfFrom d lo (mdel a m) = true
  | [], _, _ => rfl
  | (k, v) :: r, lo, h => by
    simp only [mwfFrom_cons, Bool.and_eq_true] at h
    have ih := mwfFrom_mdel d a r (some k) h.2
    by_cases hk : k = a
    · simp only [mdel, hk, if_true]
      refine mwfFrom_mono d (some k) lo _ ?_ ih
      intro j hj
      have h1 := h.1.1
      cases lo with
      | none => rfl
      | some l => simp only [mlow, decide_eq_true_eq] at *; omega
    · simp only [mdel, hk, if_false, mwfFrom_cons, Bool.and_eq_true]
      exact ⟨h.1, ih⟩

theorem mwfFrom_mins {α : Type} [DecidableEq α] (d : Nat → α) (a : Nat) (v : α) (hv : v ≠ d a) :
    ∀ (m : List (Nat × α)) (lo : Option Nat), mwfFrom d lo m = true → mlow lo a = true → (∀ e ∈ m, e.1 ≠ a) →
      mwfFrom d lo (mins a v m) = true
  | [], lo, _, hl, _ => by simp [mins, mwfFrom_cons, hl, hv, mwfFrom]
  | (k, w) :: r, lo, h, hl, hn => by
    have hk : k ≠ a := hn (k, w) (by simp)
    by_cases hak : a < k
    · simp only [mins, hak, if_true, mwfFrom_cons, Bool.and_eq_true] at h ⊢
      refine ⟨⟨hl, by simp [hv]⟩, ⟨by simp [mlow, hak], h.1.2⟩, h.2⟩
    · simp only [mins, hak, if_false, mwfFrom_cons, Bool.and_eq_true] at h ⊢
      refine ⟨h.1, mwfFrom_mins d a v hv r (some k) h.2 ?_ (fun e he => hn e (by simp [he]))⟩
      simp only [mlow, decide_eq_true_eq]; omega

/-- A write keeps the canonical form. -/
theorem mwf_mset {α : Type} [DecidableEq α] (d : Nat → α) (m : List (Nat × α)) (a : Nat) (v : α) (h : mwf d m = true) :
    mwf d (mset d m a v) = true := by
  unfold mwf mset at *
  split
  · exact mwfFrom_mdel d a m none h
  · rename_i hv
    exact mwfFrom_mins d a v hv _ none (mwfFrom_mdel d a m none h) rfl (not_mem_mdel a m)

/-- Storing a list of pairs keeps the canonical form. -/
theorem mwf_msetAll {α : Type} [DecidableEq α] (d : Nat → α) :
    ∀ (l m : List (Nat × α)), mwf d m = true → mwf d (msetAll d m l) = true
  | [], _, h => h
  | (a, v) :: r, m, h => mwf_msetAll d r _ (mwf_mset d m a v h)

@[simp] theorem vget_vset_self {α : Type} {k : Nat} (v : Vector α k) (i : Fin k) (x : α) : vget (vset v i x) i = x := by
  simp [vget, vset]

theorem vget_vset_ne {α : Type} {k : Nat} (v : Vector α k) {i j : Fin k} (x : α) (h : j ≠ i) :
    vget (vset v i x) j = vget v j := by
  have : (i : Nat) ≠ (j : Nat) := fun e => h (Fin.ext e.symm)
  simp [vget, vset, this]

theorem vset_vset {α : Type} {k : Nat} (v : Vector α k) (i : Fin k) (x y : α) : vset (vset v i x) i y = vset v i y := by
  simp [vset]

end Sys2Proof
end

