-- ==== Sys2Proof/Laws/State.lean ====
section
/-!
SUPPORT. What the named updates of the state leave and what reads after them give: one lemma per field per update.
-/
namespace Sys2Proof.Machine

@[simp] theorem State.setReg_variant (s : State) (a : Nat) (w : Word) : (s.setReg a w).variant = s.variant := rfl
@[simp] theorem State.setReg_holds (s : State) (a : Nat) (w : Word) : (s.setReg a w).holds = s.holds := rfl
@[simp] theorem State.setReg_capts (s : State) (a : Nat) (w : Word) : (s.setReg a w).capts = s.capts := rfl
@[simp] theorem State.setReg_busOut (s : State) (a : Nat) (w : Word) : (s.setReg a w).busOut = s.busOut := rfl
@[simp] theorem State.setReg_freeCtr (s : State) (a : Nat) (w : Word) : (s.setReg a w).freeCtr = s.freeCtr := rfl
@[simp] theorem State.setReg_parts (s : State) (a : Nat) (w : Word) : (s.setReg a w).parts = s.parts := rfl
@[simp] theorem State.setReg_vlt (s : State) (a : Nat) (w : Word) : (s.setReg a w).vlt = s.vlt := rfl
@[simp] theorem State.setReg_noc (s : State) (a : Nat) (w : Word) : (s.setReg a w).noc = s.noc := rfl
@[simp] theorem State.setReg_dep (s : State) (a : Nat) (w : Word) : (s.setReg a w).dep = s.dep := rfl
@[simp] theorem State.setReg_lnk (s : State) (a : Nat) (w : Word) : (s.setReg a w).lnk = s.lnk := rfl
@[simp] theorem State.setReg_lan (s : State) (a : Nat) (w : Word) : (s.setReg a w).lan = s.lan := rfl
@[simp] theorem State.setReg_cfg (s : State) (a : Nat) (w : Word) : (s.setReg a w).cfg = s.cfg := rfl
@[simp] theorem State.setReg_vtr (s : State) (a : Nat) (w : Word) : (s.setReg a w).vtr = s.vtr := rfl
@[simp] theorem State.setReg_cur (s : State) (a : Nat) (w : Word) : (s.setReg a w).cur = s.cur := rfl
@[simp] theorem State.setReg_rgs (s : State) (a : Nat) (w : Word) : (s.setReg a w).rgs = s.rgs := rfl
@[simp] theorem State.setReg_pwr (s : State) (a : Nat) (w : Word) : (s.setReg a w).pwr = s.pwr := rfl
@[simp] theorem State.setReg_adc (s : State) (a : Nat) (w : Word) : (s.setReg a w).adc = s.adc := rfl
@[simp] theorem State.setReg_pin (s : State) (a : Nat) (w : Word) : (s.setReg a w).pin = s.pin := rfl
@[simp] theorem State.setReg_tap (s : State) (a : Nat) (w : Word) : (s.setReg a w).tap = s.tap := rfl
@[simp] theorem State.setReg_plt (s : State) (a : Nat) (w : Word) : (s.setReg a w).plt = s.plt := rfl
@[simp] theorem State.setReg_ckp (s : State) (a : Nat) (w : Word) : (s.setReg a w).ckp = s.ckp := rfl
@[simp] theorem State.setReg_spr (s : State) (a : Nat) (w : Word) : (s.setReg a w).spr = s.spr := rfl
@[simp] theorem State.setReg_phm (s : State) (a : Nat) (w : Word) : (s.setReg a w).phm = s.phm := rfl
@[simp] theorem State.setReg_tly (s : State) (a : Nat) (w : Word) : (s.setReg a w).tly = s.tly := rfl
@[simp] theorem State.setReg_lgb (s : State) (a : Nat) (w : Word) : (s.setReg a w).lgb = s.lgb := rfl
@[simp] theorem State.setReg_pending (s : State) (a : Nat) (w : Word) : (s.setReg a w).pending = s.pending := rfl

@[simp] theorem State.setPart_variant (s : State) (n : Fin 8) (p : Part) : (s.setPart n p).variant = s.variant := rfl
@[simp] theorem State.setPart_regs (s : State) (n : Fin 8) (p : Part) : (s.setPart n p).regs = s.regs := rfl
@[simp] theorem State.setPart_holds (s : State) (n : Fin 8) (p : Part) : (s.setPart n p).holds = s.holds := rfl
@[simp] theorem State.setPart_capts (s : State) (n : Fin 8) (p : Part) : (s.setPart n p).capts = s.capts := rfl
@[simp] theorem State.setPart_busOut (s : State) (n : Fin 8) (p : Part) : (s.setPart n p).busOut = s.busOut := rfl
@[simp] theorem State.setPart_freeCtr (s : State) (n : Fin 8) (p : Part) : (s.setPart n p).freeCtr = s.freeCtr := rfl
@[simp] theorem State.setPart_vlt (s : State) (n : Fin 8) (p : Part) : (s.setPart n p).vlt = s.vlt := rfl
@[simp] theorem State.setPart_noc (s : State) (n : Fin 8) (p : Part) : (s.setPart n p).noc = s.noc := rfl
@[simp] theorem State.setPart_dep (s : State) (n : Fin 8) (p : Part) : (s.setPart n p).dep = s.dep := rfl
@[simp] theorem State.setPart_lnk (s : State) (n : Fin 8) (p : Part) : (s.setPart n p).lnk = s.lnk := rfl
@[simp] theorem State.setPart_lan (s : State) (n : Fin 8) (p : Part) : (s.setPart n p).lan = s.lan := rfl
@[simp] theorem State.setPart_cfg (s : State) (n : Fin 8) (p : Part) : (s.setPart n p).cfg = s.cfg := rfl
@[simp] theorem State.setPart_vtr (s : State) (n : Fin 8) (p : Part) : (s.setPart n p).vtr = s.vtr := rfl
@[simp] theorem State.setPart_cur (s : State) (n : Fin 8) (p : Part) : (s.setPart n p).cur = s.cur := rfl
@[simp] theorem State.setPart_rgs (s : State) (n : Fin 8) (p : Part) : (s.setPart n p).rgs = s.rgs := rfl
@[simp] theorem State.setPart_pwr (s : State) (n : Fin 8) (p : Part) : (s.setPart n p).pwr = s.pwr := rfl
@[simp] theorem State.setPart_adc (s : State) (n : Fin 8) (p : Part) : (s.setPart n p).adc = s.adc := rfl
@[simp] theorem State.setPart_pin (s : State) (n : Fin 8) (p : Part) : (s.setPart n p).pin = s.pin := rfl
@[simp] theorem State.setPart_tap (s : State) (n : Fin 8) (p : Part) : (s.setPart n p).tap = s.tap := rfl
@[simp] theorem State.setPart_plt (s : State) (n : Fin 8) (p : Part) : (s.setPart n p).plt = s.plt := rfl
@[simp] theorem State.setPart_ckp (s : State) (n : Fin 8) (p : Part) : (s.setPart n p).ckp = s.ckp := rfl
@[simp] theorem State.setPart_spr (s : State) (n : Fin 8) (p : Part) : (s.setPart n p).spr = s.spr := rfl
@[simp] theorem State.setPart_phm (s : State) (n : Fin 8) (p : Part) : (s.setPart n p).phm = s.phm := rfl
@[simp] theorem State.setPart_tly (s : State) (n : Fin 8) (p : Part) : (s.setPart n p).tly = s.tly := rfl
@[simp] theorem State.setPart_lgb (s : State) (n : Fin 8) (p : Part) : (s.setPart n p).lgb = s.lgb := rfl
@[simp] theorem State.setPart_pending (s : State) (n : Fin 8) (p : Part) : (s.setPart n p).pending = s.pending := rfl

@[simp] theorem State.setCk_variant (s : State) (n : Fin 8) (c : Ckp) : (s.setCk n c).variant = s.variant := rfl
@[simp] theorem State.setCk_regs (s : State) (n : Fin 8) (c : Ckp) : (s.setCk n c).regs = s.regs := rfl
@[simp] theorem State.setCk_holds (s : State) (n : Fin 8) (c : Ckp) : (s.setCk n c).holds = s.holds := rfl
@[simp] theorem State.setCk_capts (s : State) (n : Fin 8) (c : Ckp) : (s.setCk n c).capts = s.capts := rfl
@[simp] theorem State.setCk_busOut (s : State) (n : Fin 8) (c : Ckp) : (s.setCk n c).busOut = s.busOut := rfl
@[simp] theorem State.setCk_freeCtr (s : State) (n : Fin 8) (c : Ckp) : (s.setCk n c).freeCtr = s.freeCtr := rfl
@[simp] theorem State.setCk_parts (s : State) (n : Fin 8) (c : Ckp) : (s.setCk n c).parts = s.parts := rfl
@[simp] theorem State.setCk_vlt (s : State) (n : Fin 8) (c : Ckp) : (s.setCk n c).vlt = s.vlt := rfl
@[simp] theorem State.setCk_noc (s : State) (n : Fin 8) (c : Ckp) : (s.setCk n c).noc = s.noc := rfl
@[simp] theorem State.setCk_dep (s : State) (n : Fin 8) (c : Ckp) : (s.setCk n c).dep = s.dep := rfl
@[simp] theorem State.setCk_lnk (s : State) (n : Fin 8) (c : Ckp) : (s.setCk n c).lnk = s.lnk := rfl
@[simp] theorem State.setCk_lan (s : State) (n : Fin 8) (c : Ckp) : (s.setCk n c).lan = s.lan := rfl
@[simp] theorem State.setCk_cfg (s : State) (n : Fin 8) (c : Ckp) : (s.setCk n c).cfg = s.cfg := rfl
@[simp] theorem State.setCk_vtr (s : State) (n : Fin 8) (c : Ckp) : (s.setCk n c).vtr = s.vtr := rfl
@[simp] theorem State.setCk_cur (s : State) (n : Fin 8) (c : Ckp) : (s.setCk n c).cur = s.cur := rfl
@[simp] theorem State.setCk_rgs (s : State) (n : Fin 8) (c : Ckp) : (s.setCk n c).rgs = s.rgs := rfl
@[simp] theorem State.setCk_pwr (s : State) (n : Fin 8) (c : Ckp) : (s.setCk n c).pwr = s.pwr := rfl
@[simp] theorem State.setCk_adc (s : State) (n : Fin 8) (c : Ckp) : (s.setCk n c).adc = s.adc := rfl
@[simp] theorem State.setCk_pin (s : State) (n : Fin 8) (c : Ckp) : (s.setCk n c).pin = s.pin := rfl
@[simp] theorem State.setCk_tap (s : State) (n : Fin 8) (c : Ckp) : (s.setCk n c).tap = s.tap := rfl
@[simp] theorem State.setCk_plt (s : State) (n : Fin 8) (c : Ckp) : (s.setCk n c).plt = s.plt := rfl
@[simp] theorem State.setCk_spr (s : State) (n : Fin 8) (c : Ckp) : (s.setCk n c).spr = s.spr := rfl
@[simp] theorem State.setCk_phm (s : State) (n : Fin 8) (c : Ckp) : (s.setCk n c).phm = s.phm := rfl
@[simp] theorem State.setCk_tly (s : State) (n : Fin 8) (c : Ckp) : (s.setCk n c).tly = s.tly := rfl
@[simp] theorem State.setCk_lgb (s : State) (n : Fin 8) (c : Ckp) : (s.setCk n c).lgb = s.lgb := rfl
@[simp] theorem State.setCk_pending (s : State) (n : Fin 8) (c : Ckp) : (s.setCk n c).pending = s.pending := rfl

theorem State.setFld_eq (s : State) (a lo w x : Nat) : s.setFld a lo w x = s.setReg a (setBitsAt (s.reg a) lo w x) := rfl

theorem State.modPart_eq (s : State) (n : Fin 8) (f : Part → Part) : s.modPart n f = s.setPart n (f (s.part n)) := rfl

theorem State.modCk_eq (s : State) (n : Fin 8) (f : Ckp → Ckp) : s.modCk n f = s.setCk n (f (s.ck n)) := rfl

/-- A register reads as it was written. -/
@[simp] theorem State.reg_setReg_self (s : State) (a : Nat) (w : Word) : (s.setReg a w).reg a = w :=
  mget_mset_self resetWord s.regs a w

/-- Every other register is unchanged. -/
theorem State.reg_setReg_ne (s : State) {a b : Nat} (w : Word) (h : b ≠ a) : (s.setReg a w).reg b = s.reg b :=
  mget_mset_ne resetWord s.regs w h

theorem State.reg_setReg (s : State) (a b : Nat) (w : Word) : (s.setReg a w).reg b = if b = a then w else s.reg b :=
  mget_mset resetWord s.regs a b w

@[simp] theorem State.reg_setPart (s : State) (n : Fin 8) (p : Part) (a : Nat) : (s.setPart n p).reg a = s.reg a := rfl

@[simp] theorem State.reg_setCk (s : State) (n : Fin 8) (c : Ckp) (a : Nat) : (s.setCk n c).reg a = s.reg a := rfl

@[simp] theorem State.part_setReg (s : State) (a : Nat) (w : Word) (n : Fin 8) : (s.setReg a w).part n = s.part n := rfl

@[simp] theorem State.part_setCk (s : State) (m : Fin 8) (c : Ckp) (n : Fin 8) : (s.setCk m c).part n = s.part n := rfl

@[simp] theorem State.ck_setReg (s : State) (a : Nat) (w : Word) (n : Fin 8) : (s.setReg a w).ck n = s.ck n := rfl

@[simp] theorem State.ck_setPart (s : State) (m : Fin 8) (p : Part) (n : Fin 8) : (s.setPart m p).ck n = s.ck n := rfl

@[simp] theorem State.part_setPart_self (s : State) (n : Fin 8) (p : Part) : (s.setPart n p).part n = p :=
  vget_vset_self s.parts n p

theorem State.part_setPart_ne (s : State) {m n : Fin 8} (p : Part) (h : m ≠ n) : (s.setPart n p).part m = s.part m :=
  vget_vset_ne s.parts p h

@[simp] theorem State.ck_setCk_self (s : State) (n : Fin 8) (c : Ckp) : (s.setCk n c).ck n = c :=
  vget_vset_self s.ckp n c

theorem State.ck_setCk_ne (s : State) {m n : Fin 8} (c : Ckp) (h : m ≠ n) : (s.setCk n c).ck m = s.ck m :=
  vget_vset_ne s.ckp c h

/-- A field update leaves every other register. -/
theorem State.reg_setFld_ne (s : State) {a b : Nat} (lo w x : Nat) (h : b ≠ a) : (s.setFld a lo w x).reg b = s.reg b :=
  State.reg_setReg_ne s _ h

theorem State.reg_setFld_self (s : State) (a lo w x : Nat) : (s.setFld a lo w x).reg a = setBitsAt (s.reg a) lo w x :=
  State.reg_setReg_self s a _

@[simp] theorem State.part_setFld (s : State) (a lo w x : Nat) (n : Fin 8) : (s.setFld a lo w x).part n = s.part n := rfl

@[simp] theorem State.pending_setFld (s : State) (a lo w x : Nat) : (s.setFld a lo w x).pending = s.pending := rfl

@[simp] theorem State.variant_setFld (s : State) (a lo w x : Nat) : (s.setFld a lo w x).variant = s.variant := rfl

end Sys2Proof.Machine
end

