-- ==== Sys2Proof/Laws/Units.lean ====
section
/-!
SUPPORT. The units' own updates (mailboxes, ports, machines, links, capture, regions, Photometers): what each leaves, field by field,
and how the updated entry reads; and when a command on a unit answers a next state.
-/
namespace Sys2Proof.Machine

/-- What a command on a unit can do: its effect where the part carries the unit, and nothing else. -/
theorem guardUnit_eq (s t : State) (ok : Bool) : guardUnit s ok t = .next (if ok = true then t else s) := rfl

/-- A command on a unit that the part carries. -/
@[simp] theorem guardUnit_true (s t : State) : guardUnit s true t = .next t := rfl

/-- A command on a unit that the part lacks. -/
@[simp] theorem guardUnit_false (s t : State) : guardUnit s false t = .next s := rfl

/-- A saturating count: the field afterwards stands in the register it counts in. -/
theorem State.reg_addFld_ne (s : State) {a b : Nat} (lo w k : Nat) (h : b ≠ a) : (s.addFld a lo w k).reg b = s.reg b :=
  State.reg_setFld_ne s lo w _ h

/-- A count leaves every other field of the state. -/
theorem State.addFld_frame (s : State) (a lo w k : Nat) : s.addFld a lo w k = { s with regs := (s.addFld a lo w k).regs } := rfl

/-- A field write leaves every other field of the state. -/
theorem State.setFld_frame (s : State) (a lo w x : Nat) : s.setFld a lo w x = { s with regs := (s.setFld a lo w x).regs } := rfl

/-- What State.setMbx leaves. -/
@[simp] theorem State.setMbx_variant (s : State) (m : Fin 36) (x : Mbx) : (s.setMbx m x).variant = s.variant := rfl
@[simp] theorem State.setMbx_regs (s : State) (m : Fin 36) (x : Mbx) : (s.setMbx m x).regs = s.regs := rfl
@[simp] theorem State.setMbx_holds (s : State) (m : Fin 36) (x : Mbx) : (s.setMbx m x).holds = s.holds := rfl
@[simp] theorem State.setMbx_capts (s : State) (m : Fin 36) (x : Mbx) : (s.setMbx m x).capts = s.capts := rfl
@[simp] theorem State.setMbx_busOut (s : State) (m : Fin 36) (x : Mbx) : (s.setMbx m x).busOut = s.busOut := rfl
@[simp] theorem State.setMbx_freeCtr (s : State) (m : Fin 36) (x : Mbx) : (s.setMbx m x).freeCtr = s.freeCtr := rfl
@[simp] theorem State.setMbx_parts (s : State) (m : Fin 36) (x : Mbx) : (s.setMbx m x).parts = s.parts := rfl
@[simp] theorem State.setMbx_vlt (s : State) (m : Fin 36) (x : Mbx) : (s.setMbx m x).vlt = s.vlt := rfl
@[simp] theorem State.setMbx_noc (s : State) (m : Fin 36) (x : Mbx) : (s.setMbx m x).noc = s.noc := rfl
@[simp] theorem State.setMbx_dep (s : State) (m : Fin 36) (x : Mbx) : (s.setMbx m x).dep = s.dep := rfl
@[simp] theorem State.setMbx_lnk (s : State) (m : Fin 36) (x : Mbx) : (s.setMbx m x).lnk = s.lnk := rfl
@[simp] theorem State.setMbx_lan (s : State) (m : Fin 36) (x : Mbx) : (s.setMbx m x).lan = s.lan := rfl
@[simp] theorem State.setMbx_cfg (s : State) (m : Fin 36) (x : Mbx) : (s.setMbx m x).cfg = s.cfg := rfl
@[simp] theorem State.setMbx_vtr (s : State) (m : Fin 36) (x : Mbx) : (s.setMbx m x).vtr = s.vtr := rfl
@[simp] theorem State.setMbx_rgs (s : State) (m : Fin 36) (x : Mbx) : (s.setMbx m x).rgs = s.rgs := rfl
@[simp] theorem State.setMbx_pwr (s : State) (m : Fin 36) (x : Mbx) : (s.setMbx m x).pwr = s.pwr := rfl
@[simp] theorem State.setMbx_adc (s : State) (m : Fin 36) (x : Mbx) : (s.setMbx m x).adc = s.adc := rfl
@[simp] theorem State.setMbx_pin (s : State) (m : Fin 36) (x : Mbx) : (s.setMbx m x).pin = s.pin := rfl
@[simp] theorem State.setMbx_tap (s : State) (m : Fin 36) (x : Mbx) : (s.setMbx m x).tap = s.tap := rfl
@[simp] theorem State.setMbx_plt (s : State) (m : Fin 36) (x : Mbx) : (s.setMbx m x).plt = s.plt := rfl
@[simp] theorem State.setMbx_ckp (s : State) (m : Fin 36) (x : Mbx) : (s.setMbx m x).ckp = s.ckp := rfl
@[simp] theorem State.setMbx_spr (s : State) (m : Fin 36) (x : Mbx) : (s.setMbx m x).spr = s.spr := rfl
@[simp] theorem State.setMbx_phm (s : State) (m : Fin 36) (x : Mbx) : (s.setMbx m x).phm = s.phm := rfl
@[simp] theorem State.setMbx_tly (s : State) (m : Fin 36) (x : Mbx) : (s.setMbx m x).tly = s.tly := rfl
@[simp] theorem State.setMbx_lgb (s : State) (m : Fin 36) (x : Mbx) : (s.setMbx m x).lgb = s.lgb := rfl
@[simp] theorem State.setMbx_pending (s : State) (m : Fin 36) (x : Mbx) : (s.setMbx m x).pending = s.pending := rfl

@[simp] theorem State.mbx_setMbx_self (s : State) (m : Fin 36) (x : Mbx) : (s.setMbx m x).mbx m = x := vget_vset_self _ _ _

theorem State.mbx_setMbx_ne (s : State) {m j : Fin 36} (x : Mbx) (h : j ≠ m) : (s.setMbx m x).mbx j = s.mbx j := vget_vset_ne _ _ h

/-- What State.setPort leaves. -/
@[simp] theorem State.setPort_variant (s : State) (i : Fin 8) (x : DPort) : (s.setPort i x).variant = s.variant := rfl
@[simp] theorem State.setPort_regs (s : State) (i : Fin 8) (x : DPort) : (s.setPort i x).regs = s.regs := rfl
@[simp] theorem State.setPort_holds (s : State) (i : Fin 8) (x : DPort) : (s.setPort i x).holds = s.holds := rfl
@[simp] theorem State.setPort_capts (s : State) (i : Fin 8) (x : DPort) : (s.setPort i x).capts = s.capts := rfl
@[simp] theorem State.setPort_busOut (s : State) (i : Fin 8) (x : DPort) : (s.setPort i x).busOut = s.busOut := rfl
@[simp] theorem State.setPort_freeCtr (s : State) (i : Fin 8) (x : DPort) : (s.setPort i x).freeCtr = s.freeCtr := rfl
@[simp] theorem State.setPort_parts (s : State) (i : Fin 8) (x : DPort) : (s.setPort i x).parts = s.parts := rfl
@[simp] theorem State.setPort_vlt (s : State) (i : Fin 8) (x : DPort) : (s.setPort i x).vlt = s.vlt := rfl
@[simp] theorem State.setPort_noc (s : State) (i : Fin 8) (x : DPort) : (s.setPort i x).noc = s.noc := rfl
@[simp] theorem State.setPort_lnk (s : State) (i : Fin 8) (x : DPort) : (s.setPort i x).lnk = s.lnk := rfl
@[simp] theorem State.setPort_lan (s : State) (i : Fin 8) (x : DPort) : (s.setPort i x).lan = s.lan := rfl
@[simp] theorem State.setPort_cfg (s : State) (i : Fin 8) (x : DPort) : (s.setPort i x).cfg = s.cfg := rfl
@[simp] theorem State.setPort_vtr (s : State) (i : Fin 8) (x : DPort) : (s.setPort i x).vtr = s.vtr := rfl
@[simp] theorem State.setPort_cur (s : State) (i : Fin 8) (x : DPort) : (s.setPort i x).cur = s.cur := rfl
@[simp] theorem State.setPort_rgs (s : State) (i : Fin 8) (x : DPort) : (s.setPort i x).rgs = s.rgs := rfl
@[simp] theorem State.setPort_pwr (s : State) (i : Fin 8) (x : DPort) : (s.setPort i x).pwr = s.pwr := rfl
@[simp] theorem State.setPort_adc (s : State) (i : Fin 8) (x : DPort) : (s.setPort i x).adc = s.adc := rfl
@[simp] theorem State.setPort_pin (s : State) (i : Fin 8) (x : DPort) : (s.setPort i x).pin = s.pin := rfl
@[simp] theorem State.setPort_tap (s : State) (i : Fin 8) (x : DPort) : (s.setPort i x).tap = s.tap := rfl
@[simp] theorem State.setPort_plt (s : State) (i : Fin 8) (x : DPort) : (s.setPort i x).plt = s.plt := rfl
@[simp] theorem State.setPort_ckp (s : State) (i : Fin 8) (x : DPort) : (s.setPort i x).ckp = s.ckp := rfl
@[simp] theorem State.setPort_spr (s : State) (i : Fin 8) (x : DPort) : (s.setPort i x).spr = s.spr := rfl
@[simp] theorem State.setPort_phm (s : State) (i : Fin 8) (x : DPort) : (s.setPort i x).phm = s.phm := rfl
@[simp] theorem State.setPort_tly (s : State) (i : Fin 8) (x : DPort) : (s.setPort i x).tly = s.tly := rfl
@[simp] theorem State.setPort_lgb (s : State) (i : Fin 8) (x : DPort) : (s.setPort i x).lgb = s.lgb := rfl
@[simp] theorem State.setPort_pending (s : State) (i : Fin 8) (x : DPort) : (s.setPort i x).pending = s.pending := rfl

@[simp] theorem State.port_setPort_self (s : State) (i : Fin 8) (x : DPort) : (s.setPort i x).port i = x := vget_vset_self _ _ _

theorem State.port_setPort_ne (s : State) {i j : Fin 8} (x : DPort) (h : j ≠ i) : (s.setPort i x).port j = s.port j := vget_vset_ne _ _ h

/-- What State.setMach leaves. -/
@[simp] theorem State.setMach_variant (s : State) (n : Fin 8) (x : Mach) : (s.setMach n x).variant = s.variant := rfl
@[simp] theorem State.setMach_regs (s : State) (n : Fin 8) (x : Mach) : (s.setMach n x).regs = s.regs := rfl
@[simp] theorem State.setMach_holds (s : State) (n : Fin 8) (x : Mach) : (s.setMach n x).holds = s.holds := rfl
@[simp] theorem State.setMach_capts (s : State) (n : Fin 8) (x : Mach) : (s.setMach n x).capts = s.capts := rfl
@[simp] theorem State.setMach_busOut (s : State) (n : Fin 8) (x : Mach) : (s.setMach n x).busOut = s.busOut := rfl
@[simp] theorem State.setMach_freeCtr (s : State) (n : Fin 8) (x : Mach) : (s.setMach n x).freeCtr = s.freeCtr := rfl
@[simp] theorem State.setMach_parts (s : State) (n : Fin 8) (x : Mach) : (s.setMach n x).parts = s.parts := rfl
@[simp] theorem State.setMach_vlt (s : State) (n : Fin 8) (x : Mach) : (s.setMach n x).vlt = s.vlt := rfl
@[simp] theorem State.setMach_noc (s : State) (n : Fin 8) (x : Mach) : (s.setMach n x).noc = s.noc := rfl
@[simp] theorem State.setMach_dep (s : State) (n : Fin 8) (x : Mach) : (s.setMach n x).dep = s.dep := rfl
@[simp] theorem State.setMach_lan (s : State) (n : Fin 8) (x : Mach) : (s.setMach n x).lan = s.lan := rfl
@[simp] theorem State.setMach_cfg (s : State) (n : Fin 8) (x : Mach) : (s.setMach n x).cfg = s.cfg := rfl
@[simp] theorem State.setMach_vtr (s : State) (n : Fin 8) (x : Mach) : (s.setMach n x).vtr = s.vtr := rfl
@[simp] theorem State.setMach_cur (s : State) (n : Fin 8) (x : Mach) : (s.setMach n x).cur = s.cur := rfl
@[simp] theorem State.setMach_rgs (s : State) (n : Fin 8) (x : Mach) : (s.setMach n x).rgs = s.rgs := rfl
@[simp] theorem State.setMach_pwr (s : State) (n : Fin 8) (x : Mach) : (s.setMach n x).pwr = s.pwr := rfl
@[simp] theorem State.setMach_adc (s : State) (n : Fin 8) (x : Mach) : (s.setMach n x).adc = s.adc := rfl
@[simp] theorem State.setMach_pin (s : State) (n : Fin 8) (x : Mach) : (s.setMach n x).pin = s.pin := rfl
@[simp] theorem State.setMach_tap (s : State) (n : Fin 8) (x : Mach) : (s.setMach n x).tap = s.tap := rfl
@[simp] theorem State.setMach_plt (s : State) (n : Fin 8) (x : Mach) : (s.setMach n x).plt = s.plt := rfl
@[simp] theorem State.setMach_ckp (s : State) (n : Fin 8) (x : Mach) : (s.setMach n x).ckp = s.ckp := rfl
@[simp] theorem State.setMach_spr (s : State) (n : Fin 8) (x : Mach) : (s.setMach n x).spr = s.spr := rfl
@[simp] theorem State.setMach_phm (s : State) (n : Fin 8) (x : Mach) : (s.setMach n x).phm = s.phm := rfl
@[simp] theorem State.setMach_tly (s : State) (n : Fin 8) (x : Mach) : (s.setMach n x).tly = s.tly := rfl
@[simp] theorem State.setMach_lgb (s : State) (n : Fin 8) (x : Mach) : (s.setMach n x).lgb = s.lgb := rfl
@[simp] theorem State.setMach_pending (s : State) (n : Fin 8) (x : Mach) : (s.setMach n x).pending = s.pending := rfl

@[simp] theorem State.mach_setMach_self (s : State) (n : Fin 8) (x : Mach) : (s.setMach n x).mach n = x := vget_vset_self _ _ _

theorem State.mach_setMach_ne (s : State) {n j : Fin 8} (x : Mach) (h : j ≠ n) : (s.setMach n x).mach j = s.mach j := vget_vset_ne _ _ h

/-- What State.setLink leaves. -/
@[simp] theorem State.setLink_variant (s : State) (k : Fin 24) (x : Link) : (s.setLink k x).variant = s.variant := rfl
@[simp] theorem State.setLink_regs (s : State) (k : Fin 24) (x : Link) : (s.setLink k x).regs = s.regs := rfl
@[simp] theorem State.setLink_holds (s : State) (k : Fin 24) (x : Link) : (s.setLink k x).holds = s.holds := rfl
@[simp] theorem State.setLink_capts (s : State) (k : Fin 24) (x : Link) : (s.setLink k x).capts = s.capts := rfl
@[simp] theorem State.setLink_busOut (s : State) (k : Fin 24) (x : Link) : (s.setLink k x).busOut = s.busOut := rfl
@[simp] theorem State.setLink_freeCtr (s : State) (k : Fin 24) (x : Link) : (s.setLink k x).freeCtr = s.freeCtr := rfl
@[simp] theorem State.setLink_parts (s : State) (k : Fin 24) (x : Link) : (s.setLink k x).parts = s.parts := rfl
@[simp] theorem State.setLink_vlt (s : State) (k : Fin 24) (x : Link) : (s.setLink k x).vlt = s.vlt := rfl
@[simp] theorem State.setLink_noc (s : State) (k : Fin 24) (x : Link) : (s.setLink k x).noc = s.noc := rfl
@[simp] theorem State.setLink_dep (s : State) (k : Fin 24) (x : Link) : (s.setLink k x).dep = s.dep := rfl
@[simp] theorem State.setLink_lan (s : State) (k : Fin 24) (x : Link) : (s.setLink k x).lan = s.lan := rfl
@[simp] theorem State.setLink_cfg (s : State) (k : Fin 24) (x : Link) : (s.setLink k x).cfg = s.cfg := rfl
@[simp] theorem State.setLink_vtr (s : State) (k : Fin 24) (x : Link) : (s.setLink k x).vtr = s.vtr := rfl
@[simp] theorem State.setLink_cur (s : State) (k : Fin 24) (x : Link) : (s.setLink k x).cur = s.cur := rfl
@[simp] theorem State.setLink_rgs (s : State) (k : Fin 24) (x : Link) : (s.setLink k x).rgs = s.rgs := rfl
@[simp] theorem State.setLink_pwr (s : State) (k : Fin 24) (x : Link) : (s.setLink k x).pwr = s.pwr := rfl
@[simp] theorem State.setLink_adc (s : State) (k : Fin 24) (x : Link) : (s.setLink k x).adc = s.adc := rfl
@[simp] theorem State.setLink_pin (s : State) (k : Fin 24) (x : Link) : (s.setLink k x).pin = s.pin := rfl
@[simp] theorem State.setLink_tap (s : State) (k : Fin 24) (x : Link) : (s.setLink k x).tap = s.tap := rfl
@[simp] theorem State.setLink_plt (s : State) (k : Fin 24) (x : Link) : (s.setLink k x).plt = s.plt := rfl
@[simp] theorem State.setLink_ckp (s : State) (k : Fin 24) (x : Link) : (s.setLink k x).ckp = s.ckp := rfl
@[simp] theorem State.setLink_spr (s : State) (k : Fin 24) (x : Link) : (s.setLink k x).spr = s.spr := rfl
@[simp] theorem State.setLink_phm (s : State) (k : Fin 24) (x : Link) : (s.setLink k x).phm = s.phm := rfl
@[simp] theorem State.setLink_tly (s : State) (k : Fin 24) (x : Link) : (s.setLink k x).tly = s.tly := rfl
@[simp] theorem State.setLink_lgb (s : State) (k : Fin 24) (x : Link) : (s.setLink k x).lgb = s.lgb := rfl
@[simp] theorem State.setLink_pending (s : State) (k : Fin 24) (x : Link) : (s.setLink k x).pending = s.pending := rfl

@[simp] theorem State.link_setLink_self (s : State) (k : Fin 24) (x : Link) : (s.setLink k x).link k = x := vget_vset_self _ _ _

theorem State.link_setLink_ne (s : State) {k j : Fin 24} (x : Link) (h : j ≠ k) : (s.setLink k x).link j = s.link j := vget_vset_ne _ _ h

/-- What State.setCap leaves. -/
@[simp] theorem State.setCap_variant (s : State) (n : Fin 8) (x : Cap) : (s.setCap n x).variant = s.variant := rfl
@[simp] theorem State.setCap_regs (s : State) (n : Fin 8) (x : Cap) : (s.setCap n x).regs = s.regs := rfl
@[simp] theorem State.setCap_holds (s : State) (n : Fin 8) (x : Cap) : (s.setCap n x).holds = s.holds := rfl
@[simp] theorem State.setCap_capts (s : State) (n : Fin 8) (x : Cap) : (s.setCap n x).capts = s.capts := rfl
@[simp] theorem State.setCap_busOut (s : State) (n : Fin 8) (x : Cap) : (s.setCap n x).busOut = s.busOut := rfl
@[simp] theorem State.setCap_freeCtr (s : State) (n : Fin 8) (x : Cap) : (s.setCap n x).freeCtr = s.freeCtr := rfl
@[simp] theorem State.setCap_parts (s : State) (n : Fin 8) (x : Cap) : (s.setCap n x).parts = s.parts := rfl
@[simp] theorem State.setCap_vlt (s : State) (n : Fin 8) (x : Cap) : (s.setCap n x).vlt = s.vlt := rfl
@[simp] theorem State.setCap_noc (s : State) (n : Fin 8) (x : Cap) : (s.setCap n x).noc = s.noc := rfl
@[simp] theorem State.setCap_dep (s : State) (n : Fin 8) (x : Cap) : (s.setCap n x).dep = s.dep := rfl
@[simp] theorem State.setCap_lnk (s : State) (n : Fin 8) (x : Cap) : (s.setCap n x).lnk = s.lnk := rfl
@[simp] theorem State.setCap_lan (s : State) (n : Fin 8) (x : Cap) : (s.setCap n x).lan = s.lan := rfl
@[simp] theorem State.setCap_cfg (s : State) (n : Fin 8) (x : Cap) : (s.setCap n x).cfg = s.cfg := rfl
@[simp] theorem State.setCap_vtr (s : State) (n : Fin 8) (x : Cap) : (s.setCap n x).vtr = s.vtr := rfl
@[simp] theorem State.setCap_cur (s : State) (n : Fin 8) (x : Cap) : (s.setCap n x).cur = s.cur := rfl
@[simp] theorem State.setCap_rgs (s : State) (n : Fin 8) (x : Cap) : (s.setCap n x).rgs = s.rgs := rfl
@[simp] theorem State.setCap_pwr (s : State) (n : Fin 8) (x : Cap) : (s.setCap n x).pwr = s.pwr := rfl
@[simp] theorem State.setCap_adc (s : State) (n : Fin 8) (x : Cap) : (s.setCap n x).adc = s.adc := rfl
@[simp] theorem State.setCap_pin (s : State) (n : Fin 8) (x : Cap) : (s.setCap n x).pin = s.pin := rfl
@[simp] theorem State.setCap_tap (s : State) (n : Fin 8) (x : Cap) : (s.setCap n x).tap = s.tap := rfl
@[simp] theorem State.setCap_ckp (s : State) (n : Fin 8) (x : Cap) : (s.setCap n x).ckp = s.ckp := rfl
@[simp] theorem State.setCap_spr (s : State) (n : Fin 8) (x : Cap) : (s.setCap n x).spr = s.spr := rfl
@[simp] theorem State.setCap_phm (s : State) (n : Fin 8) (x : Cap) : (s.setCap n x).phm = s.phm := rfl
@[simp] theorem State.setCap_tly (s : State) (n : Fin 8) (x : Cap) : (s.setCap n x).tly = s.tly := rfl
@[simp] theorem State.setCap_lgb (s : State) (n : Fin 8) (x : Cap) : (s.setCap n x).lgb = s.lgb := rfl
@[simp] theorem State.setCap_pending (s : State) (n : Fin 8) (x : Cap) : (s.setCap n x).pending = s.pending := rfl

@[simp] theorem State.cap_setCap_self (s : State) (n : Fin 8) (x : Cap) : (s.setCap n x).cap n = x := vget_vset_self _ _ _

theorem State.cap_setCap_ne (s : State) {n j : Fin 8} (x : Cap) (h : j ≠ n) : (s.setCap n x).cap j = s.cap j := vget_vset_ne _ _ h

/-- What State.setRegion leaves. -/
@[simp] theorem State.setRegion_variant (s : State) (r : Fin 8) (x : VRegion) : (s.setRegion r x).variant = s.variant := rfl
@[simp] theorem State.setRegion_regs (s : State) (r : Fin 8) (x : VRegion) : (s.setRegion r x).regs = s.regs := rfl
@[simp] theorem State.setRegion_holds (s : State) (r : Fin 8) (x : VRegion) : (s.setRegion r x).holds = s.holds := rfl
@[simp] theorem State.setRegion_capts (s : State) (r : Fin 8) (x : VRegion) : (s.setRegion r x).capts = s.capts := rfl
@[simp] theorem State.setRegion_busOut (s : State) (r : Fin 8) (x : VRegion) : (s.setRegion r x).busOut = s.busOut := rfl
@[simp] theorem State.setRegion_freeCtr (s : State) (r : Fin 8) (x : VRegion) : (s.setRegion r x).freeCtr = s.freeCtr := rfl
@[simp] theorem State.setRegion_parts (s : State) (r : Fin 8) (x : VRegion) : (s.setRegion r x).parts = s.parts := rfl
@[simp] theorem State.setRegion_vlt (s : State) (r : Fin 8) (x : VRegion) : (s.setRegion r x).vlt = s.vlt := rfl
@[simp] theorem State.setRegion_noc (s : State) (r : Fin 8) (x : VRegion) : (s.setRegion r x).noc = s.noc := rfl
@[simp] theorem State.setRegion_dep (s : State) (r : Fin 8) (x : VRegion) : (s.setRegion r x).dep = s.dep := rfl
@[simp] theorem State.setRegion_lnk (s : State) (r : Fin 8) (x : VRegion) : (s.setRegion r x).lnk = s.lnk := rfl
@[simp] theorem State.setRegion_lan (s : State) (r : Fin 8) (x : VRegion) : (s.setRegion r x).lan = s.lan := rfl
@[simp] theorem State.setRegion_cfg (s : State) (r : Fin 8) (x : VRegion) : (s.setRegion r x).cfg = s.cfg := rfl
@[simp] theorem State.setRegion_cur (s : State) (r : Fin 8) (x : VRegion) : (s.setRegion r x).cur = s.cur := rfl
@[simp] theorem State.setRegion_rgs (s : State) (r : Fin 8) (x : VRegion) : (s.setRegion r x).rgs = s.rgs := rfl
@[simp] theorem State.setRegion_pwr (s : State) (r : Fin 8) (x : VRegion) : (s.setRegion r x).pwr = s.pwr := rfl
@[simp] theorem State.setRegion_adc (s : State) (r : Fin 8) (x : VRegion) : (s.setRegion r x).adc = s.adc := rfl
@[simp] theorem State.setRegion_pin (s : State) (r : Fin 8) (x : VRegion) : (s.setRegion r x).pin = s.pin := rfl
@[simp] theorem State.setRegion_tap (s : State) (r : Fin 8) (x : VRegion) : (s.setRegion r x).tap = s.tap := rfl
@[simp] theorem State.setRegion_plt (s : State) (r : Fin 8) (x : VRegion) : (s.setRegion r x).plt = s.plt := rfl
@[simp] theorem State.setRegion_ckp (s : State) (r : Fin 8) (x : VRegion) : (s.setRegion r x).ckp = s.ckp := rfl
@[simp] theorem State.setRegion_spr (s : State) (r : Fin 8) (x : VRegion) : (s.setRegion r x).spr = s.spr := rfl
@[simp] theorem State.setRegion_phm (s : State) (r : Fin 8) (x : VRegion) : (s.setRegion r x).phm = s.phm := rfl
@[simp] theorem State.setRegion_tly (s : State) (r : Fin 8) (x : VRegion) : (s.setRegion r x).tly = s.tly := rfl
@[simp] theorem State.setRegion_lgb (s : State) (r : Fin 8) (x : VRegion) : (s.setRegion r x).lgb = s.lgb := rfl
@[simp] theorem State.setRegion_pending (s : State) (r : Fin 8) (x : VRegion) : (s.setRegion r x).pending = s.pending := rfl

@[simp] theorem State.region_setRegion_self (s : State) (r : Fin 8) (x : VRegion) : (s.setRegion r x).region r = x := vget_vset_self _ _ _

theorem State.region_setRegion_ne (s : State) {r j : Fin 8} (x : VRegion) (h : j ≠ r) : (s.setRegion r x).region j = s.region j := vget_vset_ne _ _ h

/-- What State.setPhm leaves. -/
@[simp] theorem State.setPhm_variant (s : State) (d : Fin 4) (x : Phm) : (s.setPhm d x).variant = s.variant := rfl
@[simp] theorem State.setPhm_regs (s : State) (d : Fin 4) (x : Phm) : (s.setPhm d x).regs = s.regs := rfl
@[simp] theorem State.setPhm_holds (s : State) (d : Fin 4) (x : Phm) : (s.setPhm d x).holds = s.holds := rfl
@[simp] theorem State.setPhm_capts (s : State) (d : Fin 4) (x : Phm) : (s.setPhm d x).capts = s.capts := rfl
@[simp] theorem State.setPhm_busOut (s : State) (d : Fin 4) (x : Phm) : (s.setPhm d x).busOut = s.busOut := rfl
@[simp] theorem State.setPhm_freeCtr (s : State) (d : Fin 4) (x : Phm) : (s.setPhm d x).freeCtr = s.freeCtr := rfl
@[simp] theorem State.setPhm_parts (s : State) (d : Fin 4) (x : Phm) : (s.setPhm d x).parts = s.parts := rfl
@[simp] theorem State.setPhm_vlt (s : State) (d : Fin 4) (x : Phm) : (s.setPhm d x).vlt = s.vlt := rfl
@[simp] theorem State.setPhm_noc (s : State) (d : Fin 4) (x : Phm) : (s.setPhm d x).noc = s.noc := rfl
@[simp] theorem State.setPhm_dep (s : State) (d : Fin 4) (x : Phm) : (s.setPhm d x).dep = s.dep := rfl
@[simp] theorem State.setPhm_lnk (s : State) (d : Fin 4) (x : Phm) : (s.setPhm d x).lnk = s.lnk := rfl
@[simp] theorem State.setPhm_lan (s : State) (d : Fin 4) (x : Phm) : (s.setPhm d x).lan = s.lan := rfl
@[simp] theorem State.setPhm_cfg (s : State) (d : Fin 4) (x : Phm) : (s.setPhm d x).cfg = s.cfg := rfl
@[simp] theorem State.setPhm_vtr (s : State) (d : Fin 4) (x : Phm) : (s.setPhm d x).vtr = s.vtr := rfl
@[simp] theorem State.setPhm_cur (s : State) (d : Fin 4) (x : Phm) : (s.setPhm d x).cur = s.cur := rfl
@[simp] theorem State.setPhm_rgs (s : State) (d : Fin 4) (x : Phm) : (s.setPhm d x).rgs = s.rgs := rfl
@[simp] theorem State.setPhm_pwr (s : State) (d : Fin 4) (x : Phm) : (s.setPhm d x).pwr = s.pwr := rfl
@[simp] theorem State.setPhm_adc (s : State) (d : Fin 4) (x : Phm) : (s.setPhm d x).adc = s.adc := rfl
@[simp] theorem State.setPhm_pin (s : State) (d : Fin 4) (x : Phm) : (s.setPhm d x).pin = s.pin := rfl
@[simp] theorem State.setPhm_tap (s : State) (d : Fin 4) (x : Phm) : (s.setPhm d x).tap = s.tap := rfl
@[simp] theorem State.setPhm_plt (s : State) (d : Fin 4) (x : Phm) : (s.setPhm d x).plt = s.plt := rfl
@[simp] theorem State.setPhm_ckp (s : State) (d : Fin 4) (x : Phm) : (s.setPhm d x).ckp = s.ckp := rfl
@[simp] theorem State.setPhm_spr (s : State) (d : Fin 4) (x : Phm) : (s.setPhm d x).spr = s.spr := rfl
@[simp] theorem State.setPhm_tly (s : State) (d : Fin 4) (x : Phm) : (s.setPhm d x).tly = s.tly := rfl
@[simp] theorem State.setPhm_lgb (s : State) (d : Fin 4) (x : Phm) : (s.setPhm d x).lgb = s.lgb := rfl
@[simp] theorem State.setPhm_pending (s : State) (d : Fin 4) (x : Phm) : (s.setPhm d x).pending = s.pending := rfl

@[simp] theorem State.phmOf_setPhm_self (s : State) (d : Fin 4) (x : Phm) : (s.setPhm d x).phmOf d = x := vget_vset_self _ _ _

theorem State.phmOf_setPhm_ne (s : State) {d j : Fin 4} (x : Phm) (h : j ≠ d) : (s.setPhm d x).phmOf j = s.phmOf j := vget_vset_ne _ _ h

@[simp] theorem State.setAdc_reg (s : State) (a : Adc) (k : Nat) : (s.setAdc a).reg k = s.reg k := rfl
@[simp] theorem State.setAdc_adc (s : State) (a : Adc) : (s.setAdc a).adc = a := rfl
@[simp] theorem State.setAdc_part (s : State) (a : Adc) (n : Fin 8) : (s.setAdc a).part n = s.part n := rfl

@[simp] theorem State.setRgs_reg (s : State) (r : Rgs) (k : Nat) : (s.setRgs r).reg k = s.reg k := rfl
@[simp] theorem State.setRgs_rgs (s : State) (r : Rgs) : (s.setRgs r).rgs = r := rfl
@[simp] theorem State.setRgs_part (s : State) (r : Rgs) (n : Fin 8) : (s.setRgs r).part n = s.part n := rfl

@[simp] theorem State.setPwr_reg (s : State) (p : Pwr) (k : Nat) : (s.setPwr p).reg k = s.reg k := rfl
@[simp] theorem State.setPwr_pwr (s : State) (p : Pwr) : (s.setPwr p).pwr = p := rfl
@[simp] theorem State.setPwr_part (s : State) (p : Pwr) (n : Fin 8) : (s.setPwr p).part n = s.part n := rfl

@[simp] theorem State.setLgb_reg (s : State) (l : Lgb) (k : Nat) : (s.setLgb l).reg k = s.reg k := rfl
@[simp] theorem State.setLgb_lgb (s : State) (l : Lgb) : (s.setLgb l).lgb = l := rfl
@[simp] theorem State.setLgb_part (s : State) (l : Lgb) (n : Fin 8) : (s.setLgb l).part n = s.part n := rfl

/-- Everything an instruction of the Photometer can do: where the part lacks the die, or in DORMANT, nothing; on a core that runs and stands at its
opcode it leaves what `f` says and counts the cycles; else nothing. -/
theorem State.phmRun_eq (s : State) (d : Fin 4) (op : Nat) (f : Phm → Word → Phm × Nat) :
    s.phmRun d op f =
      if s.phmOn d = true then
        .next (if (s.phmOf d).running = true ∧ bitsAt (s.phmOf d).word 26 6 = op then
          (s.setPhm d (f (s.phmOf d) (s.phmOf d).word).1.boundary).addFld (Reg.PHM_BUSY d) 0 32 (f (s.phmOf d) (s.phmOf d).word).2 else s)
      else .next s := by
  unfold State.phmRun
  split
  · dsimp only
    split <;> rfl
  · rfl

/-- No check between two numbers fails: what `loadCheck` answers says so (R168). -/
theorem loadCheck_none (s : State) (n : Fin 8) (c : Cont) (e : EphRec) (len lo hi : Nat) :
    s.loadCheck n c e len lo hi = none ↔ ∀ x ∈ s.loadChecks n c e len, lo ≤ x.1 → x.1 ≤ hi → x.2.2 = false := by
  unfold State.loadCheck
  split
  · rename_i x hx
    have hp := List.find?_some hx
    have hm := List.mem_of_find?_eq_some hx
    simp only [Bool.and_eq_true, decide_eq_true_eq] at hp
    simp only [reduceCtorEq, false_iff]
    intro h
    simpa [hp.2] using h x hm hp.1.1 hp.1.2
  · rename_i hx
    rw [List.find?_eq_none] at hx
    simp only [true_iff]
    intro x hm a b
    simpa [a, b] using hx x hm

end Sys2Proof.Machine
end

