-- ==== Sys2Proof/Laws/Vault.lean ====
section
/-!
SUPPORT. Vault memory (R179, R181): every operation on it keeps its canonical form, a byte written reads back, and a write leaves
every byte outside the word as it was.
-/
namespace Sys2Proof.Machine

open Sys2Proof

/-- The keys of the bytes of a word. -/
theorem dwordBytes_keys (a : Nat) (v : DWord) : ∀ e ∈ dwordBytes a v, a ≤ e.1 ∧ e.1 < a + 8 := by
  intro e h
  simp only [dwordBytes, List.mem_map, List.mem_range] at h
  obtain ⟨i, hi, rfl⟩ := h
  exact ⟨Nat.le_add_right a i, by simpa using hi⟩

/-- A word store keeps the canonical form. -/
theorem wf_memWr64 (m : List Host.Cell) (a : Nat) (v : DWord) (h : Memory.wf m = true) : Memory.wf (memWr64 m a v) = true :=
  mwf_msetAll dByte _ m h

/-- A word store leaves every byte outside the word. -/
theorem mget_memWr64_ne (m : List Host.Cell) (a : Nat) (v : DWord) {b : Nat} (h : b < a ∨ a + 8 ≤ b) :
    mget dByte (memWr64 m a v) b = mget dByte m b := by
  refine mget_msetAll_ne dByte _ m ?_
  intro e he hb
  have := dwordBytes_keys a v e he
  omega

/-- A word of another place reads as before. -/
theorem memRd64_memWr64_ne (m : List Host.Cell) (a b : Nat) (v : DWord) (h : b + 8 ≤ a ∨ a + 8 ≤ b) :
    memRd64 (memWr64 m a v) b = memRd64 m b := by
  have e : ∀ i, i < 8 → mget dByte (memWr64 m a v) (b + i) = mget dByte m (b + i) := fun i hi => mget_memWr64_ne m a v (by omega)
  have f : ∀ (l : List Nat) (x : Nat), (∀ i ∈ l, i < 8) →
      l.foldl (fun acc i => acc + (mget dByte (memWr64 m a v) (b + i)).toNat * 2 ^ (8 * i)) x =
        l.foldl (fun acc i => acc + (mget dByte m (b + i)).toNat * 2 ^ (8 * i)) x := by
    intro l
    induction l with
    | nil => intro x _; rfl
    | cons i r ih =>
      intro x hl
      simp only [List.foldl_cons]
      rw [e i (hl i (by simp)), ih _ (fun j hj => hl j (by simp [hj]))]
  unfold memRd64
  rw [f _ _ (fun i hi => List.mem_range.mp hi)]

/-- Dropping addresses keeps the canonical form. -/
theorem wf_filter (p : Host.Cell → Bool) :
    ∀ (m : List Host.Cell) (lo : Option Nat), mwfFrom dByte lo m = true → mwfFrom dByte lo (m.filter p) = true
  | [], _, _ => rfl
  | (k, v) :: r, lo, h => by
    have h' := h
    simp only [mwfFrom_cons, Bool.and_eq_true] at h'
    by_cases hp : p (k, v) = true
    · rw [List.filter_cons_of_pos hp]
      simp only [mwfFrom_cons, Bool.and_eq_true]
      exact ⟨h'.1, wf_filter p r (some k) h'.2⟩
    · rw [List.filter_cons_of_neg hp]
      refine mwfFrom_mono dByte (some k) lo _ ?_ (wf_filter p r (some k) h'.2)
      intro j hj
      cases lo with
      | none => rfl
      | some l =>
        have h1 := h'.1.1
        simp only [mlow, decide_eq_true_eq] at *
        omega

/-- A fold whose every step keeps the form keeps it. -/
theorem wf_foldl {α : Type} (f : List Host.Cell → α → List Host.Cell) (hf : ∀ m x, Memory.wf m = true → Memory.wf (f m x) = true) :
    ∀ (l : List α) (m : List Host.Cell), Memory.wf m = true → Memory.wf (l.foldl f m) = true
  | [], _, h => h
  | x :: r, m, h => wf_foldl f hf r (f m x) (hf m x h)

/-- A restore of banks keeps the form (R321). -/
theorem restoreBanks_wf (m : List Host.Cell) (now : List Nat) (banks : List (Nat × List Host.Cell)) (h : Memory.wf m = true) :
    Memory.wf (restoreBanks m now banks) = true :=
  wf_foldl _ (fun m _ hm => wf_foldl _ (fun m _ hm => mwf_msetAll dByte _ _ (wf_filter _ m none hm)) _ m hm) _ m h

/-- Scrubbing a bank keeps the form (R189). -/
theorem State.scrubBank_wf (s : State) (bank : Nat) (h : Memory.wf s.vlt.mem = true) : Memory.wf (s.scrubBank bank).vlt.mem = true :=
  wf_filter _ _ none h

/-- Undoing a frame's logged writes keeps the form (R194). -/
theorem releasedMem_wf (p : Part) (m : List Host.Cell) (h : Memory.wf m = true) : Memory.wf (p.releasedMem m) = true :=
  wf_foldl _ (fun m _ hm => wf_memWr64 m _ _ hm) _ m h

/-- A write through State.setVword keeps the form. -/
theorem State.setVword_wf (s : State) (bank word : Nat) (v : DWord) (h : Memory.wf s.vlt.mem = true) :
    Memory.wf (s.setVword bank word v).vlt.mem = true := wf_memWr64 _ _ _ h

/-- A write of one vault word leaves every other word. -/
theorem State.setVword_vword_ne (s : State) (bank word b w : Nat) (v : DWord) (h : bankAddr b w + 8 ≤ bankAddr bank word ∨ bankAddr bank word + 8 ≤ bankAddr b w) :
    (s.setVword bank word v).vword b w = s.vword b w := memRd64_memWr64_ne _ _ _ _ h

/-- The memory of the state after reset is canonical. -/
theorem State.reset_mem_wf : Memory.wf State.reset.vlt.mem = true := rfl

end Sys2Proof.Machine
end

