-- ==== Sys2Proof/Laws/Word.lean ====
section
/-!
SUPPORT. Laws of bit fields: what a field reads after a field is written.
-/
namespace Sys2Proof

theorem field_lt {x r lo w : Nat} (h1 : x < 2 ^ w) (h2 : r < 2 ^ lo) : x * 2 ^ lo + r < 2 ^ (lo + w) := by
  have h3 : (x + 1) * 2 ^ lo ≤ 2 ^ w * 2 ^ lo := Nat.mul_le_mul_right _ h1
  rw [← pow_add, Nat.add_comm w] at h3
  have h4 : (x + 1) * 2 ^ lo = x * 2 ^ lo + 2 ^ lo := by ring
  omega

theorem setBitsAt_toNat {n : Nat} (v : BitVec n) (lo w x : Nat) (h : lo + w ≤ n) :
    (setBitsAt v lo w x).toNat = v.toNat / 2 ^ (lo + w) * 2 ^ (lo + w) + x % 2 ^ w * 2 ^ lo + v.toNat % 2 ^ lo := by
  unfold setBitsAt
  rw [BitVec.toNat_ofNat]
  apply Nat.mod_eq_of_lt
  have hv : v.toNat < 2 ^ n := v.isLt
  have h1 : x % 2 ^ w < 2 ^ w := Nat.mod_lt _ (by positivity)
  have h2 : v.toNat % 2 ^ lo < 2 ^ lo := Nat.mod_lt _ (by positivity)
  obtain ⟨k, rfl⟩ := Nat.exists_eq_add_of_le h
  have hq : v.toNat / 2 ^ (lo + w) < 2 ^ k := by
    rw [Nat.div_lt_iff_lt_mul (by positivity), ← pow_add, Nat.add_comm k]; exact hv
  have h3 : x % 2 ^ w * 2 ^ lo + v.toNat % 2 ^ lo < 2 ^ (lo + w) := by
    exact field_lt h1 h2
  calc _ < v.toNat / 2 ^ (lo + w) * 2 ^ (lo + w) + 2 ^ (lo + w) := by omega
    _ = (v.toNat / 2 ^ (lo + w) + 1) * 2 ^ (lo + w) := by ring
    _ ≤ 2 ^ k * 2 ^ (lo + w) := Nat.mul_le_mul_right _ hq
    _ = 2 ^ (lo + w + k) := by rw [← pow_add]; congr 1; omega

/-- A written field reads as written. -/
theorem bitsAt_setBitsAt_self {n : Nat} (v : BitVec n) (lo w x : Nat) (h : lo + w ≤ n) :
    bitsAt (setBitsAt v lo w x) lo w = x % 2 ^ w := by
  unfold bitsAt
  rw [setBitsAt_toNat v lo w x h]
  have h2 : v.toNat % 2 ^ lo < 2 ^ lo := Nat.mod_lt _ (by positivity)
  have e : v.toNat / 2 ^ (lo + w) * 2 ^ (lo + w) + x % 2 ^ w * 2 ^ lo + v.toNat % 2 ^ lo =
      v.toNat % 2 ^ lo + (v.toNat / 2 ^ (lo + w) * 2 ^ w + x % 2 ^ w) * 2 ^ lo := by rw [pow_add]; ring
  rw [e, Nat.add_mul_div_right _ _ (by positivity), Nat.div_eq_of_lt h2, Nat.zero_add, Nat.mul_add_mod_self_right, Nat.mod_mod]

/-- A field below the written one is unchanged. -/
theorem bitsAt_setBitsAt_below {n : Nat} (v : BitVec n) (lo w x lo' w' : Nat) (h : lo + w ≤ n) (hd : lo' + w' ≤ lo) :
    bitsAt (setBitsAt v lo w x) lo' w' = bitsAt v lo' w' := by
  unfold bitsAt
  rw [setBitsAt_toNat v lo w x h]
  obtain ⟨k, rfl⟩ := Nat.exists_eq_add_of_le hd
  have e : v.toNat / 2 ^ (lo' + w' + k + w) * 2 ^ (lo' + w' + k + w) + x % 2 ^ w * 2 ^ (lo' + w' + k) +
      v.toNat % 2 ^ (lo' + w' + k) =
      v.toNat % 2 ^ (lo' + w' + k) +
        2 ^ (lo' + w') * (2 ^ k * (v.toNat / 2 ^ (lo' + w' + k + w) * 2 ^ w + x % 2 ^ w)) := by
    rw [pow_add _ (lo' + w' + k) w, pow_add _ (lo' + w') k]; ring
  rw [e]
  have m1 : ∀ a b : Nat, (a % 2 ^ (lo' + w' + k) + 2 ^ (lo' + w') * b) / 2 ^ lo' % 2 ^ w' = a / 2 ^ lo' % 2 ^ w' := by
    intro a b
    have r : ∀ c : Nat, c / 2 ^ lo' % 2 ^ w' = c % 2 ^ (lo' + w') / 2 ^ lo' := by
      intro c; rw [pow_add, Nat.mod_mul_right_div_self]
    rw [r, r, Nat.add_mul_mod_self_left, Nat.mod_mod_of_dvd _ (pow_dvd_pow 2 (by omega))]
  exact m1 _ _

/-- A field above the written one is unchanged. -/
theorem bitsAt_setBitsAt_above {n : Nat} (v : BitVec n) (lo w x lo' w' : Nat) (h : lo + w ≤ n) (hd : lo + w ≤ lo') :
    bitsAt (setBitsAt v lo w x) lo' w' = bitsAt v lo' w' := by
  unfold bitsAt
  rw [setBitsAt_toNat v lo w x h]
  obtain ⟨k, rfl⟩ := Nat.exists_eq_add_of_le hd
  have h1 : x % 2 ^ w < 2 ^ w := Nat.mod_lt _ (by positivity)
  have h2 : v.toNat % 2 ^ lo < 2 ^ lo := Nat.mod_lt _ (by positivity)
  have h3 : x % 2 ^ w * 2 ^ lo + v.toNat % 2 ^ lo < 2 ^ (lo + w) := field_lt h1 h2
  have d : (v.toNat / 2 ^ (lo + w) * 2 ^ (lo + w) + x % 2 ^ w * 2 ^ lo + v.toNat % 2 ^ lo) / 2 ^ (lo + w) =
      v.toNat / 2 ^ (lo + w) := by
    rw [Nat.add_assoc, Nat.add_comm, Nat.add_mul_div_right _ _ (by positivity), Nat.div_eq_of_lt h3, Nat.zero_add]
  rw [pow_add _ (lo + w) k, ← Nat.div_div_eq_div_mul, ← Nat.div_div_eq_div_mul, d]

end Sys2Proof
end

