-- ==== Sys2Proof/Machine/CkLayout.lean ====
section
/-!
DEFINITION. The bytes that a checkpoint and the input record spell at the depot node: header, section table and sections
(R319, R320, R376), entries and items (R323, R324).  Bytes are little-endian; sections follow the table without gaps, in
ascending TYPE but for UNDO, which grows and stands last (DESIGN CHOICE, log entry 142).
-/
namespace Sys2Proof.Machine

/-- Byte i of a number. -/
def byteOf (v i : Nat) : Nat := v / 2 ^ (8 * i) % 256

/-- Byte i of a bit map: bits 8i to 8i + 7. -/
def mapByte (m : Nat → Bool) (i : Nat) : Nat := (List.range 8).foldl (fun a j => a + b2n (m (8 * i + j)) * 2 ^ j) 0

/-- BP i of a shape, 64 in every cluster, in the order of R162. -/
def Eph.bpAt (e : Eph) (i : Nat) : Nat :=
  let k := max 1 (e.tLast + 1 - e.tFirst)
  let t := i / 1024
  (e.dies.getD (t / k) 0 * 64 + e.tFirst + t % k) * 1024 + i % 1024

/-- A section of a checkpoint: TYPE, LENGTH and its bytes. -/
structure CkSect where
  type : Nat
  len : Nat
  byte : Nat → Nat

/-- WS (R320). -/
def CkImg.sectWs (i : CkImg) (e : Eph) : CkSect :=
  { type := 1, len := e.nClusters * 64 * 256, byte := fun k => mapByte (i.img.wsAt (e.bpAt (k / 256))) (k % 256) }

/-- REGS (R320): VD, XD, then RX0 to RX7 in one byte. -/
def CkImg.sectRegs (i : CkImg) (e : Eph) : CkSect :=
  { type := 2, len := e.nClusters * 64 * 17,
    byte := fun k =>
      let bp := e.bpAt (k / 17)
      let o := k % 17
      if o < 8 then byteOf (i.img.vdAt bp).toNat o
      else if o < 16 then byteOf (i.img.xdAt bp).toNat (o - 8)
      else mapByte (i.img.rxAt bp) 0 }

/-- VAULT (R320): the banks in ascending packed address. -/
def CkImg.sectVault (i : CkImg) : CkSect :=
  { type := 3, len := 65536 * i.banks.length, byte := fun k => (mget dByte (i.banks.getD (k / 65536) (0, [])).2 (k % 65536)).toNat }

/-- SEQ (R320): the words of the FRM block from 0x028 to 0x05C, each at its offset less 0x028, zeros where no register named by R320
stands; then status bits, STALLED_LAST and epoch in the last 8 bytes (DESIGN CHOICE, log entry 142). -/
def CkImg.sectSeq (i : CkImg) : CkSect :=
  let q := i.seq
  let by_ := fun (k : Nat) => q.stallBy.getD k 0
  let w := [q.remaining, 0, 0, 0, q.stallTotal % 2 ^ 32, q.stallTotal / 2 ^ 32, by_ 0, by_ 1, by_ 2, by_ 3, by_ 4, q.stallMax, 0,
    q.consec + q.aborts * 2 ^ 16, q.status + b2n q.stalled * 2 ^ 8, q.epoch]
  { type := 4, len := 64, byte := fun k => byteOf (w.getD (k / 4) 0) (k % 4) }

/-- The values of the end of CAPTURE in R320's order: sequencer state, counts, V′, WAITING count, plate number.  How they are spelled
R320 does not say: Config.captureByte. -/
def CapSnap.tailValues (x : CapSnap) : List Nat :=
  x.seqr.st :: (x.seqr.counts.flatMap fun c => [c.1, c.2]) ++ (x.seqr.vprev.flatMap fun c => [c.1, c.2]) ++
    [x.waited, ((x.regs.find? fun r => r.1 == 0x1C).map fun r => r.2.toNat).getD 0]

/-- CAPTURE (R320): the block at 0x000 to 0x01C, 0x400 to 0x5FF and 0x800 to 0xFFF, then the values of R303. -/
def CkImg.sectCapture (i : CkImg) : CkSect :=
  let at_ := fun (k : Nat) => if k < 0x20 then k else if k < 0x220 then 0x400 + (k - 0x20) else 0x800 + (k - 0x220)
  { type := 5, len := 0xA20 + Config.captureTail.val,
    byte := fun k =>
      if k < 0xA20 then byteOf (((i.cap.regs.find? fun r => r.1 == at_ k / 4 * 4).map fun r => r.2.toNat).getD 0) (at_ k % 4)
      else (Config.captureByte i.cap.tailValues (k - 0xA20)).toNat }

/-- Byte k of a region's snapshot (R376). -/
def RegionSnap.byte (x : RegionSnap) (k : Nat) : Nat :=
  if k < 64 then byteOf x.fabric.storage.toNat k
  else if k < 124 then byteOf x.fabric.cells.toNat (k - 64)
  else if k = 124 then x.state % 256
  else if k = 125 then x.relseq % 256
  else if k < 128 then 0
  else if k < 132 then byteOf x.image.toNat (k - 128)
  else if k < 164 then byteOf x.pub.toNat (k - 132)
  else 0

/-- VITRINE (R320, R376): output vector, input latch, and the regions in ascending number. -/
def CkImg.sectVitrine (i : CkImg) : CkSect :=
  { type := 6, len := 512 + 256 * i.regions.length,
    byte := fun k =>
      if k < 256 then mapByte (mget dBit i.img.outv) k
      else if k < 512 then mapByte (mget dBit i.bins) (k - 256)
      else match i.regions[(k - 512) / 256]? with
        | some x => x.byte (k % 256)
        | none => 0 }

/-- Depot address of a granule (R317). -/
def granuleAddr (g : Nat) : Nat := 65536 * g

/-- UNDO (R320). -/
def CkImg.sectUndo (i : CkImg) : CkSect :=
  { type := 7, len := 8 * i.granules.length, byte := fun k => byteOf (granuleAddr (i.granules.getD (k / 8) 0)) (k % 8) }

/-- DEPOT (R320), of an export: address and content of each granule, as the node gives it. -/
def sectDepot (granules : List Nat) (node : Nat → Byte) : CkSect :=
  { type := 8, len := 65544 * granules.length,
    byte := fun k =>
      let a := granuleAddr (granules.getD (k / 65544) 0)
      let o := k % 65544
      if o < 8 then byteOf a o else (node (a + (o - 8))).toNat }

/-- An exchange entry as the word 0 of its XCHG record (R164). -/
def XSlot.word0 (x : XSlot) : Nat :=
  x.tile + x.cluster * 2 ^ 8 + x.slot * 2 ^ 12 + b2n x.incoming * 2 ^ 20 + x.f * 2 ^ 21 + x.link * 2 ^ 24 + x.mslot * 2 ^ 32

/-- The word that frame c takes for an incoming slot with f = 1 (R128): that held, or the 0 of an arm. -/
def CkImg.heldWord (i : CkImg) (x : XSlot) : DWord :=
  match i.xheld.find? fun h => h.cl == x.tile * 16 + x.cluster && h.slot == x.slot with
  | some h => h.word
  | none => 0

/-- XHELD (R320). -/
def CkImg.sectXheld (i : CkImg) (e : Eph) : CkSect :=
  let xs := e.xchg.filter fun x => x.incoming && x.f == 1
  { type := 9, len := 16 * xs.length,
    byte := fun k => match xs[k / 16]? with
      | some x => if k % 16 < 8 then byteOf x.word0 (k % 8) else byteOf (i.heldWord x).toNat (k % 8)
      | none => 0 }

/-- The sections of a checkpoint: UNDO on the device; DEPOT in an export (R320). -/
def CkImg.sections (i : CkImg) (e : Eph) (depot : Option CkSect) : List CkSect :=
  [i.sectWs e, i.sectRegs e, i.sectVault, i.sectSeq, i.sectCapture] ++ (if e.bound.isEmpty then [] else [i.sectVitrine]) ++
    (match depot with | some x => [x] | none => []) ++ (if e.spans then [i.sectXheld e] else []) ++
    (match depot with | some _ => [] | none => [i.sectUndo])

/-- CRC-32 of a string of bytes (R161). -/
def byteCrc (len : Nat) (byte : Nat → Nat) : Word := crc32 ((List.range len).flatMap fun k => numBits 8 (byte k))

/-- Bytes before a section: header, table and the sections that precede it. -/
def sectOffset (l : List CkSect) (j : Nat) : Nat := 128 + 24 * l.length + ((l.take j).map CkSect.len).foldl (· + ·) 0

/-- An entry of the section table (R161): TYPE, CRC, OFFSET, LENGTH. -/
def sectEntry (l : List CkSect) (j : Nat) (x : CkSect) : Nat :=
  packFields [(0, 16, x.type), (32, 32, (byteCrc x.len x.byte).toNat), (64, 64, sectOffset l j), (128, 64, x.len)]

/-- Bytes 0x00 to 0x7B of the header (R319). -/
def State.ckHeader (s : State) (n : Fin 8) (i : CkImg) (exported : Bool) (nSections : Nat) : Nat :=
  let e := (s.part n).eph
  packFields [(0, 32, 0x54504B43), (8 * 0x04, 16, 1), (8 * 0x06, 16, b2n exported + 2 * b2n e.deep + 4 * b2n e.spans),
    (8 * 0x08, 8, s.ident), (8 * 0x09, 8, s.ident / 2 ^ 8), (8 * 0x0A, 8, n.val), (8 * 0x0B, 8, nSections), (8 * 0x0C, 16, e.depth),
    (8 * 0x10, 48, i.boundary), (8 * 0x18, 48, i.start), (8 * 0x20, 64, i.tb), (8 * 0x28, 64, i.digest), (8 * 0x30, 32, e.machineId),
    (8 * 0x34, 16, e.devIndex), (8 * 0x36, 16, e.nDevices), (8 * 0x38, 64, i.recPos)]

/-- Byte k of a checkpoint as its slot, or an export, spells it (R319, R320). -/
def State.ckByte (s : State) (n : Fin 8) (i : CkImg) (depot : Option CkSect) (k : Nat) : Nat :=
  let l := i.sections (s.part n).eph depot
  let h := s.ckHeader n i depot.isSome l.length
  if k < 0x7C then byteOf h k
  else if k < 0x80 then byteOf (byteCrc 0x7C (byteOf h)).toNat (k - 0x7C)
  else if k < 128 + 24 * l.length then
    match l[(k - 128) / 24]? with
    | some x => byteOf (sectEntry l ((k - 128) / 24) x) ((k - 128) % 24)
    | none => 0
  else
    match l.zipIdx.find? fun x => decide (sectOffset l x.2 ≤ k) && decide (k < sectOffset l x.2 + x.1.len) with
    | some x => x.1.byte (k - sectOffset l x.2)
    | none => 0

/-- The words of an item (R324): TYPE in [7:0] of the first, whole 32-byte units. -/
def RecItem.words (evt : Nat → Evt → BitVec 256) : RecItem → List Nat
  | .deposit key val op stamp => [1 + key / 2048 * 2 ^ 8 + key % 2048 * 2 ^ 26 + b2n val * 2 ^ 38 + op * 2 ^ 39, stamp, 0, 0]
  | .xtrig mask => [2 + mask * 2 ^ 8, 0, 0, 0]
  | .capctl acts => [3 + acts * 2 ^ 8, 0, 0, 0]
  | .async die e => [4 + die * 2 ^ 8, 0, 0, 0] ++ (List.range 4).map fun j => bitsAt (evt die e) (64 * j) 64
  | .xchg mslot link word => [5 + mslot * 2 ^ 8 + link * 2 ^ 32, word.toNat, 0, 0]

/-- The words of an entry (R323): header, boundary inputs, items. -/
def RecE.words (evt : Nat → Evt → BitVec 256) (e : RecE) : List Nat :=
  let items := (e.items.map RecItem.units).foldl (· + ·) 0
  [e.frame % 2 ^ 48 + b2n (!e.start && e.stalled) * 2 ^ 48 + (if e.start then 2 else 1) * 2 ^ 60, e.tb, e.tbRel,
   items + e.inUnits * 2 ^ 16 + e.outCrc.toNat * 2 ^ 32] ++
  ((List.range (4 * e.inUnits)).map fun w => (List.range 64).foldl (fun a j => a + b2n (mget dBit e.inputs (64 * w + j)) * 2 ^ j) 0) ++
  e.items.flatMap (RecItem.words evt)

/-- An entry as partition n's engine writes it into the ring (R323, R324). -/
def State.entryWords (s : State) (e : RecE) : List Nat := e.words s.evtRec

end Sys2Proof.Machine
end

