-- ==== Sys2Proof/WellFormed.lean ====
section
/-!
DEFINITION. Well-formed commands: operands that the spec's formats hold and that their types leave open.
-/
namespace Sys2Proof

open Sys2Proof.Machine

namespace Machine

/-- LEN counts the data flits (R208): those that the packet carries, of a READ those it asks for. -/
def Pkt.lenWf (p : Pkt) : Bool := if p.op = 0 then p.data.isEmpty else p.len == (p.data.length + 3) / 4

/-- A packet whose fields fit its header (R208), in a class of its opcode (R210). -/
def Pkt.wf (p : Pkt) : Bool :=
  decide (p.dest < 256) && decide (p.ep < 16) && decide (p.src < 256) && decide (p.sep < 16) && decide (p.cls < 4) &&
    decide (p.age < 1024) && decide (p.op < 16) && decide (p.len ≤ 8) && decide (p.tag < 256) && decide (p.status < 256) &&
    decide (p.addr < 2 ^ 56) && decide (p.wmask < 2 ^ 32) && decide (p.bmask < 256) && decide (p.data.length ≤ 32) && classOk p.op p.cls && p.lenWf

/-- An INIT whose fields fit its payload (R236). -/
def InitMsg.wf (m : InitMsg) : Bool :=
  decide (m.chan < 8) && decide (m.machineId < 2 ^ 32) && decide (m.nDevices < 2 ^ 16) && decide (m.devIndex < 2 ^ 16) &&
    decide (m.start < 2 ^ 48) && decide (m.depth < 2 ^ 16)

/-- A vote entry that fits its 2 bytes (R235). -/
def VoteE.wf (v : VoteE) : Bool := decide (v.dev < 256) && decide (v.cause < 64)

/-- What the detectors report names BPs, route words, dies, vault words and clusters that exist (R16, R139, R180). -/
def StepEnv.wf (e : StepEnv) : Bool :=
  e.bps.all (fun x => decide (x.1 < 2 ^ 18)) && (e.routeCorr ++ e.routeUnc).all (fun x => decide (x.1 < 256) && decide (x.2 < 128)) &&
    e.latPar.all (fun d => decide (d < 4)) && e.latBad.all (fun x => decide (x.1 < 2 ^ 18) && decide (x.2 < 8)) && (e.vaultSbe ++ e.vaultDbe).all (fun x => decide (x.1 < 1024) && decide (x.2 < 8192)) &&
    (e.copyPar ++ e.restoreUnc).all fun c => decide (c < 4096)

/-- The words of an ephemeris lie inside the largest sections (R160 to R162). -/
def EphRec.wf (e : EphRec) : Bool :=
  e.head.length == 16 && decide (e.table.length ≤ 16) && e.data.all fun x => x.2.all fun w => decide (w.1 < 2 ^ 29)

/-- What configuration finds names clusters and banks that exist (R348, R352). -/
def Boot.wf (b : Boot) : Bool :=
  b.badClusters.all (fun k => decide (k < 256 * 17)) && b.badBanks.all (fun k => decide (k < 4 * 264)) && decide (b.vddio.length ≤ 10)

/-- An autoload image whose ephemeris is well formed. -/
def AutoImg.wf : AutoImg → Bool
  | .absent => true
  | .eph _ _ e _ => e.wf
  | .vtr _ => true

/-- An offset of the peek window (R199). -/
def isPeekOff (a : Nat) : Bool := decide (0x2000000 ≤ a) && decide (a < 0x6000000)

end Machine

/-- Well-formed commands. -/
def Instr.wf : Instr → Bool
  | .eval _ _ => true
  | .hold _ _ => true
  | .latch _ _ => true
  | .vput _ _ => true
  | .vget _ _ => true
  | .xput _ _ => true
  | .xget _ _ => true
  | .iput _ _ => true
  | .iget _ _ => true
  | .stop _ _ => true
  | .mark _ _ => true
  | .nop _ _ => true
  | .reservedClass _ _ => true
  | .stepCycle _ env => env.wf
  | .latticeDrain _ env => env.wf
  | .vitrineExchange _ => true
  | .depositsApplied _ => true
  | .tapRecordsClosed _ => true
  | .errorGather _ => true
  | .voteSend _ => true
  | .commitDecision _ => true
  | .shadowCopy _ env => env.wf
  | .release _ => true
  | .tallyUpdate _ => true
  | .counterUpdate _ => true
  | .frameTick _ => true
  | .frameLimit _ => true
  | .runFramesExpiry _ => true
  | .stallLimit _ => true
  | .stallLong _ => true
  | .abortLimit _ => true
  | .staleReadsReturned _ => true
  | .writebackHoldEnd _ => true
  | .heldShareFreed _ => true
  | .vltLoanWrite _ _ _ => true
  | .loanDrained _ => true
  | .loanScrubDone _ => true
  | .portNAccess _ _ _ => true
  | .patrolScrub _ _ _ _ => true
  | .vaultBusyNRelease => true
  | .bankSpareRemap _ _ => true
  | .peekRead _ addr _ _ => isPeekOff addr && addr % 8 == 0
  | .peekWrite _ addr _ _ => isPeekOff addr && addr % 8 == 4
  | .ageTick => true
  | .read pkt _ => pkt.wf
  | .write pkt _ => pkt.wf
  | .cfgWrite a => a.pkt.wf
  | .msg a => a.pkt.wf
  | .creditReq _ _ _ _ want => decide (0 < want.credits.val)
  | .creditReply _ _ _ _ req => req.pkt.wf
  | .creditReturn _ _ _ _ => true
  | .readData pkt _ => pkt.wf
  | .writeDone pkt _ => pkt.wf
  | .nocTimeout _ _ _ => true
  | .linkOutOfService _ _ => true
  | .routerFence _ _ => true
  | .depotAttach _ => true
  | .depotEchoReply _ roundTrip turn => decide (turn ≤ roundTrip)
  | .depotInfo _ _ _ => true
  | .depotInfoTimeout _ => true
  | .depotRequest _ => true
  | .depotReadData _ tag _ data => decide (tag < 2 ^ 16) && decide (data.length ≤ 32)
  | .depotWriteAck _ tag _ => decide (tag < 2 ^ 16)
  | .depotQueueSend _ => true
  | .undoCopyDone _ _ => true
  | .init _ _ _ m => m.wf
  | .initRepeat _ => true
  | .armTimeout _ => true
  | .token _ _ _ _ _ _ _ => true
  | .vote _ _ _ _ _ _ _ entries => decide (1 ≤ entries.length) && decide (entries.length ≤ 11) && entries.all VoteE.wf
  | .xchgFlit _ _ _ _ words _ _ _ _ => decide (1 ≤ words.length) && decide (words.length ≤ 3)
  | .xtrig _ _ _ _ _ _ _ _ => true
  | .ack _ _ _ _ _ => true
  | .nak _ _ _ _ => true
  | .replayTimeout _ _ => true
  | .syncSend => true
  | .sync _ _ _ _ _ => true
  | .syncReply _ _ _ _ _ => true
  | .filler _ _ _ _ _ _ _ => true
  | .quietEnd _ => true
  | .signalDetect _ => true
  | .lockAcquired _ => true
  | .lockTimeout _ => true
  | .adaptDone _ _ => true
  | .adaptTimeout _ => true
  | .alignTimeout _ => true
  | .los _ => true
  | .absent _ => true
  | .acceptResult _ _ => true
  | .spareActivate _ _ _ _ => true
  | .laneCapture _ _ => true
  | .laneSlip _ _ _ => true
  | .laneAccept _ _ _ => true
  | .laneRetrain _ _ _ => true
  | .frameBlockWrite _ => true
  | .trigIn _ _ => true
  | .trigPulseEnd _ => true
  | .autoTimeout _ => true
  | .plateClose _ => true
  | .drainPart _ => true
  | .drainAck _ _ => true
  | .captureArm _ _ => true
  | .captureForce _ => true
  | .captureClose _ => true
  | .captureDisarm _ => true
  | .hostMark _ _ => true
  | .drainRestart _ => true
  | .capDrainTailWrite _ _ _ => true
  | .capStoreTailWrite _ _ _ _ => true
  | .autoCheckpoint _ => true
  | .checkpointReadDone _ => true
  | .checkpointComplete _ _ => true
  | .inputRecordEntry _ => true
  | .recRingSpace _ => true
  | .ckpRecTailWrite _ _ _ => true
  | .unitLocated _ _ => true
  | .recoveryRestoreDone _ => true
  | .catchUpFrame _ => true
  | .recoveryDone _ => true
  | .replayEnd _ => true
  | .healthDecay => true
  | .stagingDone _ => true
  | .clusterAccession _ _ _ => true
  | .deaccession _ => true
  | .ghostTraffic _ _ _ => true
  | .reserveRecordWrite => true
  | .curatorMismatch => true
  | .wearWindow _ _ _ => true
  | .wearCrossCheck _ _ => true
  | .regionCopyUpdate _ _ => true
  | .publish _ _ _ => true
  | .publishMove _ => true
  | .readySighting _ _ => true
  | .homeClockLost _ => true
  | .homeClockReturn _ => true
  | .regionLoadDone _ _ => true
  | .regionSettled _ => true
  | .vtrCalStart _ => true
  | .calibrationDone _ => true
  | .vtrCalApply => true
  | .vtrDelayWrite _ _ _ => true
  | .configurationStart b => b.wf
  | .resetAbandon => true
  | .stageTimeout stage _ => decide (1 ≤ stage.val)
  | .docentStarted _ _ _ => true
  | .cfgLaneWaitExpiry => true
  | .autoloadEntry img => img.wf
  | .configurationDone => true
  | .frameGo => true
  | .goAct => true
  | .cfgDoneRelease => true
  | .handover _ _ => true
  | .phmTimer _ => true
  | .resultRecordOut _ => true
  | .phmNop _ => true
  | .clra _ => true
  | .mac _ => true
  | .mac2 _ => true
  | .adda _ => true
  | .st _ => true
  | .ld _ => true
  | .ldi _ => true
  | .std _ => true
  | .setx _ => true
  | .modx _ => true
  | .movx _ => true
  | .rep _ => true
  | .br _ => true
  | .djnz _ => true
  | .wait _ => true
  | .emit _ => true
  | .put _ => true
  | .phmHalt _ => true
  | .phmStart _ => true
  | .phmCtrlHalt _ => true
  | .clrFlags _ => true
  | .phmRingTailWrite _ _ => true
  | .adcSlot _ _ _ _ => true
  | .droop _ _ _ => true
  | .injGo _ => true
  | .refSettled => true
  | .adcRingTailWrite _ _ => true
  | .taskCreate _ _ _ _ => true
  | .registrarCycle => true
  | .delayExpiry => true
  | .taskDone _ _ => true
  | .taskYield _ _ => true
  | .taskCancel _ _ => true
  | .dataSourceRelease _ => true
  | .rgsTraceTailWrite _ _ => true
  | .traceWindowRead _ _ _ _ => true
  | .docentHeartbeat _ => true
  | .docentWatchdog _ => true
  | .docentRunning _ _ _ _ => true
  | .doorbell _ _ _ => true
  | .rspPop _ _ _ => true
  | .noticeSlotFreed _ => true
  | .functionLevelReset _ => true
  | .mgmtBlockWrite _ _ _ => true
  | .mgmtBlockRead _ _ => true
  | .statusRead _ => true
  | .regRead _ _ _ => true
  | .regWrite _ _ => true
  | .resetDevice _ => true
  | .resetDocent _ => true
  | .go _ => true
  | .timeSet _ => true
  | .laneSet _ => true
  | .flashWrite _ _ _ => true
  | .fuseProgramSlot _ _ => true
  | .fuseRevokeSlot _ => true
  | .fuseRaiseMinSvn _ => true
  | .load _ img _ => (match img with | some (_, e) => e.wf | none => true)
  | .unload _ => true
  | .arm _ => true
  | .run _ => true
  | .halt _ => true
  | .forcedHalt _ => true
  | .deposit _ _ => true
  | .wsRead _ => true
  | .vtrLoad _ _ => true
  | .captureRead _ => true
  | .checkpoint _ => true
  | .ckptExport _ _ => true
  | .restore _ _ => true
  | .replay _ entries => entries.all fun e => decide (e.frame < 2 ^ 48)
  | .loan _ => true
  | .depotGrant _ => true
  | .depotReturn _ => true
  | .bufAlloc _ => true
  | .bufFree _ => true
  | .dma _ data _ => decide (data.length ≤ 2 ^ 29)
  | .accession _ _ _ => true
  | .setOp _ => true
  | .setPowerRun _ => true
  | .setPowerHold _ => true
  | .setPowerNap _ => true
  | .setPowerDormant _ => true
  | .thermalShutdown _ => true
  | .tallyRead _ => true
  | .tallyClock _ => true
  | .tallyTenant _ => true
  | .lgbToken _ _ => true
  | .napEntryDone _ => true
  | .napExitDone _ => true
  | .dormantEntryDone => true
  | .dormantExitDone _ => true
  | .wakeN => true
  | .pcieWake => true
  | .wakeTimer => true
  | .thermtrip _ => true
  | .vcoreSettled => true
  | .vrTimeout => true
  | .pllLocked _ => true
  | .lockStable _ => true
  | .relockFail _ => true
  | .pwrOkFall _ => true
  | .periodBoundary => true
  | .logbookRecord _ _ _ => true
  | .logbookSpaceFreed => true
  | .lgbTailWrite _ _ => true
  | .dbgClear _ => true
  | .regLoRead _ off => off.toNat % 4 == 0
  | .regHiWrite _ off _ _ => off.toNat % 4 == 0
  | .readClear _ off _ => off.toNat % 4 == 0
  | .registerWrite _ off _ _ => off.toNat % 4 == 0
  | .idcode => true
  | .samplePreload _ _ => true
  | .extest _ _ => true
  | .extestPulse _ _ => true
  | .extestTrain _ _ => true
  | .highz => true
  | .clamp => true
  | .bypass _ => true
  | .vaonRise => true
  | .pwrOkRise _ _ => true
  | .devclkLost => true
  | .quadRefOk _ => true
  | .ackTimer _ _ => true
  | .prbsRxLock _ _ => true
  | .laneCaptureDone _ => true
  | .phmReservedOp _ => true

end Sys2Proof
end

