-- ==== Sys2Proof/Tests/Slice0.lean ====
section
/-!
SUPPORT. Own tests: for each statement of Certificates/Slice0 a state and operands that meet its hypotheses, clause by clause; what a
command does there, by the rules of spec/ named; and an ill-formed term for each check of WellFormed.  Expected values are worked
out from the rules by hand.
-/

open Sys2Proof Sys2Proof.Machine Sys2Proof.Statements

namespace Sys2Proof.Tests

set_option Elab.async false

/-- The outcome is a next state that passes the check. -/
def shows (o : Host.Outcome State Fault Refusal) (f : State → Bool) : Bool := match o with | .next t => f t | _ => false

/-- An instruction word (R58). -/
def word (cls fni flags sa sb sc sd : Nat) : DWord :=
  BitVec.ofNat 64 (cls * 2 ^ 60 + fni * 2 ^ 54 + flags * 2 ^ 49 + sa * 2 ^ 36 + sb * 2 ^ 24 + sc * 2 ^ 12 + sd)

/-- An ephemeris of depth 4 on tiles 0 to 3 of die 0, with FT entry 1 = A and 2 = not A. -/
def eph : Eph :=
  { Eph.none with
    depth := 4, dieMask := 1, tFirst := 0, tLast := 3,
    ft := msetAll dFt [] [(1, 0xAAAA), (2, 0x5555), (64 + 1, 0xAAAA), (4095 * 64 + 1, 0xAAAA)],
    xchg := [⟨0, 0, 3, false, 1, 0, 0, 2, 20⟩, ⟨0, 0, 9, true, 1, 0, 0, 2, 20⟩], bound := [⟨0, 8, 16, false⟩, ⟨0, 32, 16, true⟩],
    taps := [⟨0, 1, 5, 0, 0, 0x11⟩] }

/-- A running partition at step k with one slot of BP 0 there. -/
def part (k : Nat) (w : DWord) : Part :=
  { Part.reset with
    state := .running, eph := { eph with slots := [(k, w)] }, step := k, frame := 6, cur := 6,
    img := { Img.zero with ws := [(0, true), (2048 * 4095, true)] } }

/-- The part with that partition as partition n. -/
def at_ (n : Fin 8) (p : Part) : State := State.reset.setPart n p

/-- BP bp may execute a slot of its class in partition n of the state (R102). -/
def may (cls : Nat → Bool) (bp : Nat) (n : Fin 8) (s : State) : Bool := s.hasDie (bp / 65536) && s.bpReady cls bp == some n

/-- EVAL with SEND and TAP of a true operand (R85, R91). -/
theorem test_eval : (let s := at_ 0 (part 1 (word 0 1 0b11000 0 0x900 0x900 0x900))
    may (· == 0) 0 0 s && shows (exec (.eval 0 {}) s) (fun t =>
      (t.part 0).img.wsAt 0 1 && (t.part 0).offers == [(0, true)] && (t.part 0).taps.length == 1 && (t.part 0).step == 1)) = true := by
  decide +kernel

/-- The last BP of the last tile, in partition 7, at the last evaluation step, with a corrected word; KEEP leaves the bit (R85). -/
theorem test_eval_edge : (let p := part 3 0
    let s := at_ 7 { p with eph := { p.eph with slots := [(4095 * 2048 + 3, word 0 1 0b00110 0 0x900 0x900 0x900)] } }
    may (· == 0) 4095 7 s && shows (exec (.eval 4095 { slotCorr := true }) s) (fun t =>
      !(t.part 7).img.wsAt 4095 3 && (t.part 7).done == [4095])) = true := by
  decide +kernel

/-- HOLD with A = 0 keeps the old bit (R92). -/
theorem test_hold : (let p := part 1 (word 1 2 0 0x900 0x900 0x900 0x900)
    let s := at_ 0 { p with img := { p.img with ws := [(1, true)] } }
    may (· == 1) 0 0 s && shows (exec (.hold 0 {}) s) (fun t => (t.part 0).img.wsAt 0 1)) = true := by decide +kernel

/-- LATCH with A = 1 takes the entry at A = 0 (R94). -/
theorem test_latch : (let s := at_ 0 (part 1 (word 2 2 0 0x901 0x900 0x900 0x900))
    may (· == 2) 0 0 s && shows (exec (.latch 0 {}) s) (fun t => (t.part 0).img.wsAt 0 1)) = true := by decide +kernel

/-- IGET with a selector below 2,048 reads boundary input bit SA of the frame (R112). -/
theorem test_iget : (let p := part 1 (word 8 1 0 8 0x900 0x900 0x900)
    let s := at_ 0 { p with bins := [(6, [(8, true)])] }
    may (· == 8) 0 0 s && shows (exec (.iget 0 {}) s) (fun t => (t.part 0).img.wsAt 0 1)) = true := by decide +kernel

/-- STOP with a result of 1 requests a stop with its FNI (R96). -/
theorem test_stop : (let s := at_ 0 (part 1 (word 9 1 0 0x901 0x900 0x900 0x900))
    may (· == 9) 0 0 s && shows (exec (.stop 0 {}) s) (fun t => (t.part 0).stops == [(0, 1)])) = true := by decide +kernel

/-- VPUT to address lane 39, the last of group 1, of port 2 (R114, R115). -/
theorem test_vput : (let s := at_ 0 (part 1 (word 3 1 0 0x901 0x900 0x900 (256 + 2 * 64 + 39)))
    may (· == 3) 0 0 s && shows (exec (.vput 0 {}) s) (fun t => (t.part 0).lanes == [⟨2, 1, 39, true, 0⟩])) = true := by decide +kernel

/-- VPUT to lane 40 of group 1 stages nothing. -/
theorem test_vput_unused : (let s := at_ 0 (part 1 (word 3 1 0 0x901 0x900 0x900 (256 + 2 * 64 + 40)))
    may (· == 3) 0 0 s && shows (exec (.vput 0 {}) s) (fun t => (t.part 0).lanes == [] && (t.part 0).img.wsAt 0 1)) = true := by
  decide +kernel

/-- XPUT at its slot's SEND_STEP writes bit b of the word in formation (R125). -/
theorem test_xput : (let s := at_ 0 (part 2 (word 5 1 0 0x901 0x900 0x900 3))
    may (· == 5) 0 0 s && shows (exec (.xput 0 {}) s) (fun t => (t.part 0).xform == [(3, 1)])) = true := by decide +kernel

/-- One step later the word is sealed. -/
theorem test_xput_sealed : (let s := at_ 0 (part 3 (word 5 1 0 0x901 0x900 0x900 3))
    may (· == 5) 0 0 s && shows (exec (.xput 0 {}) s) (fun t => (t.part 0).xform == [])) = true := by decide +kernel

/-- IPUT to the last allocated output bit, 7 (R129). -/
theorem test_iput : (let s := at_ 0 (part 2 (word 7 1 0 0x901 0x900 0x900 15))
    may (· == 7) 0 0 s && shows (exec (.iput 0 {}) s) (fun t => (t.part 0).outs == [(15, true, 0)])) = true := by decide +kernel

/-- Output bit 16 is not allocated. -/
theorem test_iput_unallocated : (let s := at_ 0 (part 2 (word 7 1 0 0x901 0x900 0x900 16))
    may (· == 7) 0 0 s && shows (exec (.iput 0 {}) s) (fun t => (t.part 0).outs == [])) = true := by decide +kernel

/-- VGET asks port 3 of its tile (R116). -/
theorem test_vget : (let s := at_ 0 (part 2 (word 4 0 0 0x900 0x900 0x900 (3 * 64)))
    may (· == 4) 0 0 s && shows (exec (.vget 0 {}) s) (fun t => (t.part 0).gets == [(3, 0)] && !(t.part 0).img.wsAt 0 2)) = true := by
  decide +kernel

/-- XGET takes the sender's word of frame n − F (R126). -/
theorem test_xget : (let p := part 2 (word 6 0 0 0x900 0x900 0x900 9)
    let s := at_ 0 { p with xheld := [⟨0, 9, 4, 0, 7⟩, ⟨0, 9, 5, 0, 0xABCD⟩] }
    may (· == 6) 0 0 s && shows (exec (.xget 0 {}) s) (fun t => (t.part 0).img.xdAt 0 == 0xABCD)) = true := by decide +kernel

/-- MARK and NOP change no store (R99, R101). -/
theorem test_mark : (let s := at_ 0 (part 2 (word 10 1 0 0x901 0x900 0x900 0x900))
    may (· == 10) 0 0 s && shows (exec (.mark 0 {}) s) (fun t => (t.part 0).img == (s.part 0).img)) = true := by decide +kernel

/-- A slot the ephemeris does not list is the canonical NOP (R165). -/
theorem test_nop : (let s := at_ 0 (part 2 (word 10 1 0 0x901 0x900 0x900 0x900))
    may (· == 15) 1 0 s && shows (exec (.nop 1 {}) s) (fun t => (t.part 0).img == (s.part 0).img && (t.part 0).done == [1])) = true := by
  decide +kernel

/-- Classes 0xB and 0xE are reserved (R59): noted for the end of the step. -/
theorem test_reservedClass : (let s := at_ 0 (part 2 (word 11 0 0 0 0 0 0))
    let u := at_ 0 (part 2 (word 14 0 0 0 0 0 0))
    may (fun c => decide (11 ≤ c) && decide (c ≤ 14)) 0 0 s && may (fun c => decide (11 ≤ c) && decide (c ≤ 14)) 0 0 u &&
    shows (exec (.reservedClass 0 {}) s) (fun t => (t.part 0).reserved == [0]) &&
    shows (exec (.reservedClass 0 {}) u) (fun t => (t.part 0).reserved == [0])) = true := by decide +kernel

/-- In deep mode slot 2,048 + s of a pair stands with the odd BP, whose FT serves it (R73). -/
theorem test_deep : (let p := part 0 0
    let s := at_ 0 { p with step := 2049, eph := { p.eph with deep := true, depth := 2052, slots := [(2049, word 0 1 0 0x901 0x900 0x900 0x900)] } }
    may (· == 0) 0 0 s && shows (exec (.eval 0 {}) s) (fun t => (t.part 0).img.wsAt 0 2049)) = true := by decide +kernel

/-- A step cycle at the last evaluation step advances to C0; one that waits for an exchange word is a stall step (R42, R44, R52). -/
theorem test_stepCycle : (let s := at_ 3 (part 3 0)
    let u := at_ 3 (part 3 (word 6 0 0 0x900 0x900 0x900 9))
    s.cycling 3 && (s.absentAt 3).isNone && !(s.part 3).holdReq && (s.part 3).reserved.isEmpty &&
    shows (exec (.stepCycle 3 {}) s) (fun t => (t.part 3).step == 4 && (t.part 3).runSteps == 1) &&
    u.cycling 3 && u.absentAt 3 == some .xget &&
    shows (exec (.stepCycle 3 {}) u) (fun t => (t.part 3).step == 3 && (t.part 3).stallCause == 2 && (t.part 3).stallTotal == 1 &&
      (t.reg (Reg.FRM_STALL_XGET 3)).toNat == 1)) = true := by decide +kernel

/-- No slot of a partition without listed slots is of a reserved class. -/
theorem test_no_reserved_class : ∀ bp, ¬ (11 ≤ wCls ((part 3 0).slot bp 3) ∧ wCls ((part 3 0).slot bp 3) ≤ 14) := by
  intro bp
  simp only [part, Part.slot, mget, dSlot]
  split <;> decide

/-- A partition at commit step Ck. -/
def com (k : Nat) (f : Part → Part) : State := at_ 2 (f (part (4 + k) 0))

/-- The part with a register field set. -/
def put (a lo w x : Nat) (s : State) : State := s.setFld a lo w x

/-- A checkpoint image at boundary 6. -/
def img (p : Part) : CkImg :=
  { boundary := 6, start := 2, tb := 0, digest := 0, stepping := 0, recPos := 5, img := p.img, banks := [], seq := ⟨0, false, 0, 0, 0, [], 0, 0, 0⟩,
    cap := ⟨[], 0, Seqr.reset, 0, none, 0, 0⟩, bins := [], regions := [], xheld := [], xinit := false, granules := [] }

/-- The checkpoint engine of partition 2 in a state. -/
def ckp (k : Ckp) (s : State) : State := s.setCk 2 k

/-- A record entry of one unit, for a frame. -/
def entry (f : Nat) : RecE := ⟨false, f, false, 0, 0, 0, [], [], 0, 0⟩

/-- A recovery of partition 2 in a phase. -/
def recover (phase : Nat) (up : Bool) (k : Ckp) (s : State) : State :=
  put (Reg.CKP_RECOVERY 2) 0 4 (1 + phase * 2) (ckp { k with recov := some ⟨.abortLimit, 6, 8, 3, 0, [], up⟩, latest := some (img (part 0 0)) } s)

/-- C0 to C2: the lattice drains (R146). -/
theorem test_latticeDrain : AtCommit (com 0 id) 2 0 ∧ shows (exec (.latticeDrain 2 {}) (com 0 id)) (fun t => (t.part 2).step == 7) = true := by
  unfold AtCommit; decide +kernel

/-- C3 latches the inputs of frame n + 1 once (R131). -/
theorem test_vitrineExchange : AtCommit (com 3 id) 2 3 ∧
    shows (exec (.vitrineExchange 2) (com 3 id)) (fun t => (t.part 2).bins.any (fun b => b.1 == 7)) = true ∧
    shows (exec (.vitrineExchange 2) (com 3 fun p => { p with bins := [(7, [(3, true)])] }))
      (fun t => (t.part 2).bins == [(7, [(3, true)])]) = true := by unfold AtCommit; decide +kernel

/-- C4: a force and then the deposits in stamp order (R49, R470). -/
theorem test_depositsApplied :
    let s := com 4 fun p => { p with forces := [⟨1, 0, 1, false⟩], deps := [⟨9, 7, 0, true⟩, ⟨8, 7, 0, false⟩, ⟨10, 0, 2, false⟩] }
    AtCommit s 2 4 ∧ s.replaying 2 = false ∧ s.catchingUp 2 = false ∧
    shows (exec (.depositsApplied 2) s) (fun t =>
      !(t.part 2).img.wsAt 0 0 && (t.part 2).img.wsAt 0 7 && (t.part 2).deps.isEmpty && (t.part 2).forces.isEmpty) = true := by
  unfold AtCommit; decide +kernel

/-- A re-executed C4 applies what the first execution did (R35). -/
theorem test_depositsApplied_again :
    let s := com 4 fun p => { p with hiFrame := 8, c4 := [⟨6, [], [⟨8, 7, 0, true⟩]⟩], deps := [⟨9, 7, 0, false⟩] }
    AtCommit s 2 4 ∧ shows (exec (.depositsApplied 2) s) (fun t => (t.part 2).img.wsAt 0 7 && (t.part 2).deps.length == 1) = true := by
  unfold AtCommit; decide +kernel

/-- C5 (R283). -/
theorem test_tapRecordsClosed : AtCommit (com 5 id) 2 5 ∧ shows (exec (.tapRecordsClosed 2) (com 5 id)) (fun t => (t.part 2).step == 10) = true := by
  unfold AtCommit; decide +kernel

/-- C6 and C7 latch the errors and the STOP request (R97). -/
theorem test_errorGather :
    let s := com 6 fun p => { p with err := ⟨true, false, false, true⟩, stops := [(5, 33)] }
    AtCommit s 2 6 ∧ shows (exec (.errorGather 2) s) (fun t => (t.part 2).errReg == 0x2119) = true := by unfold AtCommit; decide +kernel

/-- C8 (R243). -/
theorem test_voteSend : AtCommit (com 8 id) 2 8 ∧ shows (exec (.voteSend 2) (com 8 id)) (fun t => (t.part 2).step == 13) = true := by
  unfold AtCommit; decide +kernel

/-- C9 within one device: no error commits, an error aborts (R33). -/
theorem test_commitDecision : AtCommit (com 9 id) 2 9 ∧
    shows (exec (.commitDecision 2) (com 9 id)) (fun t => (t.part 2).decision == some (6, true)) = true ∧
    shows (exec (.commitDecision 2) (com 9 fun p => { p with errReg := 2 })) (fun t => (t.part 2).decision == some (6, false)) = true := by
  unfold AtCommit; decide +kernel

/-- A partition over two devices with votes of frame 5. -/
def span2 (k : Nat) (es : List VoteE) (f : Part → Part) : State :=
  let s := com k fun p => f { p with eph := { p.eph with spans := true, nDevices := 2, devIndex := 1 } }
  s.setMach 2 { s.mach 2 with votes := es.map fun e => (5, e) }

/-- C9 of a partition that spans devices decides the frame before, from the votes of every device (R34). -/
theorem test_commitDecision_spans :
    let s := span2 9 [⟨0, false, false, 0⟩, ⟨1, false, false, 0⟩] id
    let u := span2 9 [⟨0, true, false, 0⟩, ⟨1, false, false, 0⟩] id
    AtCommit s 2 9 ∧ AtCommit u 2 9 ∧ AtCommit (span2 9 [] fun p => { p with decidesNone := true }) 2 9 ∧
    shows (exec (.commitDecision 2) s) (fun t => (t.part 2).decision == some (5, true)) = true ∧
    shows (exec (.commitDecision 2) u) (fun t => (t.part 2).decision == some (5, false)) = true := by unfold AtCommit; decide +kernel

/-- C10 and C11 copy into bank 7 mod 2, or restore the aborted frame's bank (R33, R35). -/
theorem test_shadowCopy :
    let s := com 10 fun p => { p with shadow1 := { Img.zero with ws := [(9, true)] } }
    let u := com 10 fun p => { p with decision := some (6, false), shadow0 := { Img.zero with ws := [(9, true), (1999, true)] } }
    AtCommit s 2 10 ∧ AtCommit u 2 10 ∧ mwf dBit (s.part 2).img.ws = true ∧ (s.part 2).restoreFrom = none ∧
    (u.part 2).restoreFrom = some 6 ∧ (u.part 2).shadowBad 6 = [] ∧ mwf dBit ((u.part 2).shadow 6).ws = true ∧
    shows (exec (.shadowCopy 2 {}) s) (fun t => (t.part 2).shadow1.ws == (s.part 2).img.ws) = true ∧
    shows (exec (.shadowCopy 2 {}) u) (fun t => (t.part 2).img.ws == [(9, true), (1999, true)]) = true := by
  unfold AtCommit; decide +kernel

/-- The effects of a frame with nothing to show. -/
def fx (f : Nat) : FrameFx := ⟨f, Err.zero, none, none, [], [], [(1, 1)], []⟩

/-- C12 releases frame 6, or discards it and writes its vault log back (R194, R195). -/
theorem test_release :
    let s := com 12 fun p => { p with decision := some (6, true), fxs := [fx 6], vlog := [⟨0, 6, 3, 9, 77⟩, ⟨0, 7, 3, 9, 78⟩] }
    let u := com 12 fun p => { p with decision := some (6, false), fxs := [fx 6], vlog := [⟨0, 6, 3, 9, 77⟩] }
    AtCommit s 2 12 ∧ AtCommit u 2 12 ∧ (s.part 2).fxs.find? (fun f => f.frame == 6) = some (fx 6) ∧
    shows (exec (.release 2) s) (fun t => (t.part 2).vlog.length == 1 && (t.part 2).rho == [(1, 1)] && t.vword 3 9 == 0) = true ∧
    shows (exec (.release 2) u) (fun t => (t.part 2).vlog.isEmpty && t.vword 3 9 == 77) = true := by unfold AtCommit; decide +kernel

/-- C13 hands over the counts (R516). -/
theorem test_tallyUpdate :
    let s := com 13 fun p => { p with runSteps := 12, stallSteps := 3 }
    AtCommit s 2 13 ∧ shows (exec (.tallyUpdate 2) s) (fun t => (t.part 2).runSteps == 0 && (t.part 2).stallSteps == 0) = true := by
  unfold AtCommit; decide +kernel

/-- C14 (R30, R47). -/
theorem test_counterUpdate :
    let s := com 14 fun p => { p with decision := some (6, true), consec := 2 }
    let u := com 14 fun p => { p with decision := some (6, false), ownAbort := true }
    AtCommit s 2 14 ∧ AtCommit u 2 14 ∧
    shows (exec (.counterUpdate 2) s) (fun t => (t.part 2).committed == 6 && (t.part 2).frame == 7 && (t.part 2).consec == 0) = true ∧
    shows (exec (.counterUpdate 2) u) (fun t => (t.part 2).committed == 0 && (t.part 2).frame == 6 && (t.part 2).aborts == 1) = true := by
  unfold AtCommit; decide +kernel

/-- FRM_FRAME stops at 2^48 − 1 (R31). -/
theorem test_counterUpdate_top :
    let s := com 14 fun p => { p with decision := some (2 ^ 48 - 1, true), frame := 2 ^ 48 - 1, cur := 2 ^ 48 - 1 }
    AtCommit s 2 14 ∧ shows (exec (.counterUpdate 2) s) (fun t => (t.part 2).frame == 2 ^ 48 - 1) = true := by unfold AtCommit; decide +kernel

/-- C12 and C14 of a machine that halts (R37), with nothing decided, and in catch-up (R328). -/
theorem test_release_other :
    let s := span2 12 [] fun p => { p with decision := some (5, true), haltPend := [.stop], fxs := [fx 5], vlog := [⟨0, 6, 3, 9, 77⟩] }
    let u := recover 3 true Ckp.reset (com 12 fun p => { p with state := .fault, decision := some (6, true), fxs := [fx 6], vlog := [⟨0, 6, 3, 9, 77⟩] })
    let v := com 12 fun p => { p with haltPend := [.frameLimit], vlog := [⟨0, 6, 3, 9, 77⟩] }
    let w := recover 3 true Ckp.reset (com 14 fun p => { p with state := .fault, decision := some (6, true) })
    AtCommit s 2 12 ∧ AtCommit u 2 12 ∧ AtCommit v 2 12 ∧ AtCommit w 2 14 ∧ s.catchingUp 2 = false ∧ u.catchingUp 2 = true ∧ w.catchingUp 2 = true ∧
    shows (exec (.release 2) s) (fun t => (t.part 2).vlog.isEmpty && t.vword 3 9 == 77) = true ∧
    shows (exec (.release 2) u) (fun t => (t.part 2).vlog.isEmpty && t.vword 3 9 == 0) = true ∧
    shows (exec (.release 2) v) (fun t => (t.part 2).vlog.isEmpty && t.vword 3 9 == 77) = true ∧
    shows (exec (.counterUpdate 2) w) (fun t => (t.part 2).frame == 7 && (t.part 2).committed == 0) = true := by unfold AtCommit; decide +kernel

/-- C4 and C9 in catch-up (R328): the items of the next entry act, and the frame decides itself. -/
theorem test_catchUp_commit :
    let s := recover 3 true { Ckp.reset with record := [{ entry 7 with items := [.deposit 7 true 0 1] }] } (com 4 fun p => { p with state := .fault })
    let u := recover 3 true Ckp.reset (com 9 fun p => { p with state := .fault, errReg := 2 })
    AtCommit s 2 4 ∧ AtCommit u 2 9 ∧ s.catchingUp 2 = true ∧ u.catchingUp 2 = true ∧
    shows (exec (.depositsApplied 2) s) (fun t => (t.part 2).img.wsAt 0 7) = true ∧
    shows (exec (.commitDecision 2) u) (fun t => (t.part 2).decision == some (6, false)) = true := by unfold AtCommit; decide +kernel

/-- C15 with nothing pending: the next frame begins (R29, R42). -/
theorem test_frameTick :
    let s := com 15 fun p => { p with frame := 7, stages := [(0, ⟨1, 2, 3⟩)] }
    AtCommit s 2 15 ∧ s.catchingUp 2 = false ∧ s.replaying 2 = false ∧
    shows (exec (.frameTick 2) s) (fun t => (t.part 2).step == 0 && (t.part 2).cur == 7 && (t.part 2).stages.isEmpty) = true := by
  unfold AtCommit; decide +kernel

/-- A frame at the frame limit halts (R31). -/
theorem test_frameLimit :
    let s := com 15 fun p => { p with haltPend := [.stop, .frameLimit] }
    AtCommit s 2 15 ∧ shows (exec (.frameLimit 2) s) (fun t => (t.part 2).state == .halted && (t.part 2).haltCause == some .stop) = true := by
  unfold AtCommit; decide +kernel

/-- The count of RUN n ends; SAFETY comes first (R46). -/
theorem test_runFramesExpiry :
    let s := com 15 fun p => { p with haltPend := [.runFrames, .safety] }
    AtCommit s 2 15 ∧ shows (exec (.runFramesExpiry 2) s) (fun t => (t.part 2).state == .halted && (t.part 2).haltCause == some .safety) = true := by
  unfold AtCommit; decide +kernel

/-- The tick after the limiting abort (R47). -/
theorem test_abortLimit :
    let s := com 15 fun p => { p with faultPend := some .abortLimit }
    AtCommit s 2 15 ∧ shows (exec (.abortLimit 2) s) (fun t => (t.part 2).state == .fault && (t.part 2).faultCause == .abortLimit) = true := by
  unfold AtCommit; decide +kernel

/-- A stall that stands at its limit is a fault (R45). -/
theorem test_stallLimit : (let p := part 3 (word 6 0 0 0x900 0x900 0x900 9)
    let s := at_ 2 { p with stalled := true, stallLen := 5, limit := 5, stallCause := 2 }
    s.cycling 2 && !(s.part 2).holdReq && (s.absentAt 2).isSome && !s.catchingUp 2 &&
    shows (exec (.stallLimit 2) s) (fun t => (t.part 2).state == .fault && (t.part 2).faultStall == 2 && (t.part 2).faultStep == 3)) = true := by
  decide +kernel

/-- The stall step that reaches FRM_STALL_WARN sets STALL_LONG (R52). -/
theorem test_stallLong : (let p := part 3 (word 6 0 0 0x900 0x900 0x900 9)
    let s := put (Reg.FRM_STALL_WARN 2) 0 32 6 (at_ 2 { p with stalled := true, stallLen := 5, stallCause := 2 })
    s.warnDue 2 && s.cycling 2 && !(s.part 2).holdReq && (s.absentAt 2).isSome &&
    shows (exec (.stallLong 2) s) (fun t => t.fld (Reg.FRM_IRQ_STATUS 2) 3 1 == 1 && (t.part 2).stallLen == 6)) = true := by decide +kernel

/-- The boundary's holds end one by one (R50). -/
theorem test_holds_end : (let s := at_ 2 { part 0 0 with bholds := [.stale, .writeback 3, .share, .curator] }
    !(s.part 2).reads.any (·.stale) && s.sharesFree 2 &&
    shows (exec (.staleReadsReturned 2) s) (fun t => (t.part 2).bholds == [.writeback 3, .share, .curator]) &&
    shows (exec (.writebackHoldEnd 2) s) (fun t => (t.part 2).bholds == [.stale, .share, .curator]) &&
    shows (exec (.heldShareFreed 2) s) (fun t => (t.part 2).bholds == [.stale, .writeback 3, .curator])) = true := by decide +kernel


/-- A loan changes hands (R189, R190): the last bank of the part to HDMA with a scrub, a refused owner code, and an owner it has. -/
theorem test_vltLoanWrite : (let s := put (Reg.VLT_LOAN 3 255) 0 4 3 State.reset
    s.hasBank 1023 && s.loanState 1023 == 0 &&
    shows (exec (.vltLoanWrite 1023 8 true) s) (fun t => t.reg (Reg.VLT_LOAN 3 255) == 0x3108) &&
    shows (exec (.vltLoanWrite 1023 13 false) s) (fun t => t.loanOwner 1023 == 13) &&
    shows (exec (.vltLoanWrite 1023 14 false) s) (fun t => t.reg (Reg.VLT_LOAN 3 255) == 0xDC03) &&
    shows (exec (.vltLoanWrite 1023 3 true) s) (fun t => t.loanState 1023 == 1)) = true := by decide +kernel

/-- A write to a draining bank is refused. -/
theorem test_vltLoanWrite_draining : (let s := put (Reg.VLT_LOAN 0 0) 8 2 1 State.reset
    s.hasBank 0 && s.loanState 0 != 0 && shows (exec (.vltLoanWrite 0 8 true) s) (fun t => t.fld (Reg.VLT_LOAN 0 0) 11 1 == 1 && t.loanState 0 == 1)) = true := by
  decide +kernel

/-- DRAINING ends in SCRUBBING when the handover scrubs, else in LENT (R189). -/
theorem test_loanDrained : (let s := put (Reg.VLT_LOAN 0 7) 8 2 1 State.reset
    let u := { s with vlt := { s.vlt with scrub := [7] } }
    s.loanState 7 == 1 && s.vlt.qNoc.isEmpty && shows (exec (.loanDrained 7) u) (fun t => t.loanState 7 == 2) &&
    shows (exec (.loanDrained 7) s) (fun t => t.loanState 7 == 0 && t.fld (Reg.VLT_LOAN 0 7) 10 1 == 1)) = true := by decide +kernel

/-- The scrub clears the bank and no other (R189). -/
theorem test_loanScrubDone : (let s := ((put (Reg.VLT_LOAN 0 7) 8 2 2 State.reset).setVword 7 8191 5).setVword 8 0 6
    s.loanState 7 == 2 && shows (exec (.loanScrubDone 7) s) (fun t => t.vword 7 8191 == 0 && t.vword 8 0 == 6 && t.loanState 7 == 0)) = true := by
  decide +kernel

/-- The patrol counts what SECDED finds (R183, R184). -/
theorem test_patrolScrub : (let s := put Reg.VLT_SCRUB 0 1 1 State.reset
    s.hasBank 1023 && s.loanState 1023 == 0 && !s.isDbe 1023 8191 &&
    shows (exec (.patrolScrub 1023 8191 .single false) s) (fun t => (t.reg (Reg.VLT_CORR 3)).toNat == 1) &&
    shows (exec (.patrolScrub 1023 8191 .double false) s) (fun t => (t.reg (Reg.VLT_DBE 3)).toNat == 1 &&
      t.reg Reg.VLT_LAST_DBE == BitVec.ofNat 32 (1023 + 8191 * 1024 + 3 * 2 ^ 23 + 2 ^ 31)) &&
    shows (exec (.patrolScrub 1023 8191 .double true) s) (fun t => t == s)) = true := by decide +kernel

/-- The ball is released (R198). -/
theorem test_vaultBusyNRelease : shows (exec .vaultBusyNRelease { State.reset with vlt := { Vlt.reset with busyLow := true, busyLeft := 3 } })
    (fun t => !t.vlt.busyLow) = true := by decide +kernel

/-- A packet of the HDMA unit. -/
def pkt (op dest ep : Nat) (data : List DWord) : Pkt :=
  { dest := dest, ep := ep, src := 16, sep := 13, cls := match op with | 0 | 1 => 1 | 8 | 9 => 2 | _ => 0,
    age := 0, owner := .hdma, op := op, len := (data.length + 3) / 4, tag := 7, status := 0, derr := false,
    addr := 8191, wmask := 3, bmask := 255, data := data }

/-- A bank lent to HDMA with that packet queued. -/
def queued (p : Pkt) : State :=
  let s := put (Reg.VLT_LOAN 0 5) 0 4 8 State.reset
  { s with vlt := { s.vlt with qNoc := [⟨5, 8191, 2, p⟩] } }

/-- Port N serves the bank's owner (R181, R194, R196, R197): a read that wraps in the bank, a write, and a write to a logged word. -/
theorem test_portNAccess : (let r := ((queued (pkt 0 1 1 [])).setVword 5 8191 9).setVword 5 0 8
    let w := queued (pkt 1 1 1 [4, 6])
    let l := w.setPart 0 { Part.reset with vlog := [⟨0, 2, 5, 0, 3⟩] }
    r.hasBank 5 && r.loanState 5 == 0 && r.loanOwner 5 == 8 && !r.isDbe 5 8191 && !r.isDbe 5 0 &&
    shows (exec (.portNAccess 5 .none .good) r) (fun t => t.noc.pkts.map (·.pkt.data) == [[9, 8]] && t.vlt.qNoc.isEmpty) &&
    shows (exec (.portNAccess 5 .none .good) w) (fun t => t.vword 5 8191 == 4 && t.vword 5 0 == 6 && t.noc.pkts.map (·.pkt.op) == [9]) &&
    l.writeLogged 5 8191 (pkt 1 1 1 [4, 6]) &&
    shows (exec (.portNAccess 5 .none .good) l) (fun t => t.vlt.mem == l.vlt.mem && t.noc.pkts.map (·.pkt.status) == [6])) = true := by
  decide +kernel

/-- The meeting of a write with an earlier read answers BUSY (R197). -/
theorem test_portNAccess_meets : (let w := queued (pkt 1 1 1 [4, 6])
    shows (exec (.portNAccess 5 .read .good) w) (fun t => t.vlt.mem == w.vlt.mem && (t.reg (Reg.VLT_BUSY 0)).toNat == 1)) = true := by
  decide +kernel

/-- The peek window (R12, R194, R199, R200): the released content of a logged word, its upper half captured; a bank of DOC. -/
theorem test_peekRead : (let s := ((put (Reg.VLT_LOAN 3 255) 0 4 8 State.reset).setVword 1023 8191 0x1111111122222222).setPart 4 { Part.reset with vlog := [⟨0, 2, 1023, 8191, 0x3333333344444444⟩] }
    let d := put (Reg.VLT_LOAN 3 255) 0 4 12 s
    s.isPeek 0x5FFFFF8 && (s.peekRefuses 1023).isNone && !s.isDbe 1023 8191 &&
    shows (exec (.peekRead .pf0 0x5FFFFF8 .none .good) s) (fun t => t.busOut == 0x44444444 && t.capt .pf0 == 0x33333333) &&
    shows (exec (.peekRead .mgmt 0x5FFFFF8 .none .good) d) (fun t => t.busOut == 0 && t.vlt.peekMgmt == BitVec.ofNat 32 (5 + 1023 * 512 + 2 ^ 31)) &&
    shows (exec (.peekRead (.pf1 2) 0x5FFFFF8 .none .good) s) (fun t => t.busOut == 0)) = true := by decide +kernel

/-- A high-half write commits the word with the held lower half (R12, R200). -/
theorem test_peekWrite : (let s := (put (Reg.VLT_LOAN 0 0) 0 4 8 State.reset).setHold .pf0 0x55
    let d := put (Reg.VLT_LOAN 0 0) 0 4 13 s
    s.isPeek 0x2000004 && (s.peekRefuses 0).isNone && !s.wordLogged 0 0 &&
    shows (exec (.peekWrite .pf0 0x2000004 0xAA .none) s) (fun t => t.vword 0 0 == 0xAA00000055 && t.vword 0 1 == 0) &&
    shows (exec (.peekWrite .pf0 0x2000004 0xAA .none) d) (fun t => t.vlt.mem.isEmpty && bitsAt t.vlt.peekPf0 0 8 == 5)) = true := by
  decide +kernel

/-- Packets held in routers. -/
def held (l : List Pkt) : State := { State.reset with noc := { Noc.reset with pkts := l.map Pkt.launch } }

/-- A request is queued at its bank (R181); at endpoint 6 nothing is listed, and RANGE answers (R209). -/
theorem test_read : (let s := held [pkt 0 1 1 []]
    let u := held [pkt 0 1 6 []]
    s.hasDie 0 && (s.portNRefuses 5 8 false false).isNone && s.reaches (pkt 0 1 1 []) && !unitAt 1 6 &&
    shows (exec (.read (pkt 0 1 1 []) false) s) (fun t => t.vlt.qNoc.map (·.bank) == [5] && t.noc.pkts.isEmpty) &&
    shows (exec (.read (pkt 0 1 6 []) false) u) (fun t => t.noc.pkts.map (·.pkt.status) == [9]) &&
    shows (exec (.read (pkt 0 1 1 []) true) s) (fun t => t.vlt.qNoc.isEmpty && t.noc.pkts.isEmpty)) = true := by decide +kernel

/-- A request for the depot is taken by the port attached at its router (R209). -/
theorem test_write : (let s := put (Reg.DEP_PORT_STATE 2) 16 8 192 (put (Reg.DEP_PORT_STATE 2) 0 3 3 (held [pkt 1 192 8 [1]]))
    s.hasDie 3 && s.portAt 192 == some 2 &&
    shows (exec (.write (pkt 1 192 8 [1]) false) s) (fun t => (t.port 2).arrived.length == 1 && t.noc.pkts.isEmpty)) = true := by decide +kernel

/-- CFG_WRITE and MSG (R209, R210). -/
theorem test_cfgWrite : (shows (exec (.cfgWrite ⟨(pkt 2 3 5 [1]), false⟩) (held [pkt 2 3 5 [1]])) (fun t => t.noc.msgs.length == 1 && t.noc.pkts.map (·.pkt.op) == [9]) &&
    shows (exec (.cfgWrite ⟨(pkt 2 3 9 [1]), false⟩) (held [pkt 2 3 9 [1]])) (fun t => t.noc.msgs.isEmpty && t.noc.pkts.map (·.pkt.status) == [9])) = true := by
  decide +kernel

/-- MSG at the endpoint of die 0's unit 9, and at a router without it. -/
theorem test_msg : (unitAt 0 9 && !unitAt 1 9 && shows (exec (.msg ⟨(pkt 3 0 9 [1]), false⟩) (held [pkt 3 0 9 [1]])) (fun t => t.noc.msgs.length == 1) &&
    shows (exec (.msg ⟨(pkt 3 1 9 [1]), false⟩) (held [pkt 3 1 9 [1]])) (fun t => t.noc.msgs.isEmpty && t.noc.pkts.map (·.pkt.status) == [9])) = true := by
  decide +kernel

/-- Credits (R213): all of 4 asked for where 16 fit; none of a bank in handover; the ask reserves a landing entry. -/
theorem test_creditReq : (let s := put (Reg.VLT_LOAN 0 6) 8 2 1 State.reset
    !s.grantsNone 1 1 && s.grantsNone 1 2 && s.freeLanding 16 13 == some 0 && s.heldReq 4 ⟨16, 13, 1, 1, false⟩ == none &&
    shows (exec (.creditReq 16 13 1 1 ⟨4, false, false⟩) s) (fun t => t.noc.pkts.map (·.pkt.addr) == [4] && t.noc.asks.map (·.age) == [0]) &&
    shows (exec (.creditReq 16 13 1 2 ⟨4, false, false⟩) s) (fun t => t.noc.pkts.map (·.pkt.addr) == [0] && t.noc.pkts.map (·.pkt.status) == [1]) &&
    shows (exec (.creditReq 16 13 1 1 ⟨4, false, true⟩) s) (fun t => t.noc.pkts.isEmpty)) = true := by decide +kernel

/-- A reply in the network and the ask it answers, 5 ticks old. -/
def keyB : CreditKey := ⟨16, 13, 1, 1, false⟩
def reply (n : Nat) : State :=
  { State.reset with noc := { Noc.reset with pkts := [(creditPkt 10 keyB n 3 0 (if n = 0 then 1 else 0)).launch], asks := [⟨keyB, 4, 3, 5, false, none⟩] } }
theorem test_creditReply : (
    (reply 4).heldReq 10 keyB == some (creditPkt 10 keyB 4 3 0 0) && (reply 4).askOf 16 13 3 == some ⟨keyB, 4, 3, 5, false, none⟩ &&
    ({ reply 4 with noc := { (reply 4).noc with asks := [] } } : State).mayLeave { pkt 0 1 1 [] with age := 5 } &&
    shows (exec (.creditReply 16 13 1 1 ⟨(pkt 0 1 1 []), false⟩) (reply 4)) (fun t => t.noc.landing.map (·.tag) == [7] && t.noc.pkts.map (·.pkt.op) == [0] &&
      t.noc.pkts.map (·.pkt.age) == [5] && t.noc.credits == [⟨keyB, 3, 1⟩]) &&
    shows (exec (.creditReply 16 13 1 1 ⟨(pkt 0 1 1 []), false⟩) (reply 0)) (fun t => t.noc.landing.isEmpty && t.noc.landed.map (·.status) == [1] &&
      t.noc.asks.map (·.refused) == [true])) = true := by
  decide +kernel

theorem test_creditReturn : shows (exec (.creditReturn 16 13 1 (1, false)) { State.reset with noc := { Noc.reset with credits := [⟨keyB, 4, 1⟩, ⟨⟨16, 13, 1, 2, false⟩, 4, 0⟩] } })
    (fun t => t.noc.credits == [⟨⟨16, 13, 1, 2, false⟩, 4, 0⟩, ⟨keyB, 0, 1⟩]) = true := by decide +kernel

/-- Routes (R205, R207, R230): the positive way at half the ring; round by the other way past a closed link; part D's ring of 8. -/
theorem test_route : (let r := fun (s : State) (dest : Nat) => (s.route (pkt 0 dest 1 [])).map fun l => (l.length, (l.map (·.router)).getLastD 0)
    let cut := put (Reg.NOC_LINKS 64) 1 1 0 (put (Reg.NOC_LINKS 7) 0 1 0 State.reset)
    r State.reset 80 == some (9, 80) && (State.reset.nextDir 16 4 80) == some 0 && (State.reset.nextDir 16 4 65) == some 1 &&
    r cut 80 == some (9, 80) && cut.nextDir 16 4 80 == some 0 && cut.nextDir 0 4 64 == some 1 && r { State.reset with variant := .d } 48 == some (5, 48) &&
    ({ State.reset with variant := .d } : State).nextDir 16 4 48 == some 2) = true := by decide +kernel

/-- NoC cycles (R205, R206, R212): of two packets at one router that go the same way the older is served; the other waits. -/
theorem test_nocCycle : (let s := held [pkt 0 18 1 [], { pkt 0 18 2 [] with age := 70, tag := 8 }]
    let t := s.nocCycle.nocCycle.nocCycle
    t.noc.pkts.map (fun f => f.chans.map (·.router)) == [[], [17]] && s.nocCycle.noc.pkts.map (·.todo) == [1, 0]) = true := by decide +kernel

/-- AGE saturates at 1,023 (R211). -/
theorem test_ageTick : shows (exec .ageTick { held [{ pkt 0 1 1 [] with age := 1023 }, pkt 0 1 1 []] with noc := { (held [{ pkt 0 1 1 [] with age := 1023 }, pkt 0 1 1 []]).noc with asks := [⟨keyB, 4, 3, 5, false, none⟩] } })
    (fun t => t.noc.pkts.map (·.pkt.age) == [1023, 1] && t.noc.asks.map (·.age) == [6]) = true := by
  decide +kernel

/-- A response lands where an entry waits (R213); a stale read drops its data (R122). -/
def rsp (op ep : Nat) : Pkt := { pkt op 16 ep [5] with src := 1, sep := 1 }
def lands (p : Pkt) : State := { State.reset with noc := { Noc.reset with pkts := [p.launch], landing := [⟨16, 13, 7, 1, 1, 0, false, false⟩] } }
def staleRead : VRead := ⟨16 * 1024, 64, false, 4, 0, false, false, true, 2, 0, 7, 64⟩
theorem test_readData : (shows (exec (.readData (rsp 8 13) false) (lands (rsp 8 13))) (fun t => t.noc.landing.isEmpty && t.noc.landed.map (·.data) == [[5]]) &&
    (let s := (held [rsp 8 4]).setPart 3 { Part.reset with reads := [staleRead] }
     s.readOf 16 7 == some (3, staleRead) && shows (exec (.readData (rsp 8 4) false) s) (fun t => (t.part 3).reads.isEmpty))) = true := by decide +kernel
theorem test_writeDone : shows (exec (.writeDone (rsp 9 13) false) (lands (rsp 9 13))) (fun t => t.noc.landing.isEmpty && t.noc.pkts.isEmpty) = true := by
  decide +kernel

/-- A timeout lands BUSY with DERR (R217). -/
theorem test_nocTimeout : shows (exec (.nocTimeout 16 13 7) (lands (rsp 8 13)))
    (fun t => t.noc.landed == [⟨16, 13, 7, 6, true, [0]⟩] && t.noc.landing.isEmpty) = true := by decide +kernel

/-- A link out of service at both routers (R207): tile 7's X+ neighbour is tile 0 of die 1. -/
theorem test_linkOutOfService : (let s := State.reset
    s.neighbour 7 0 == 64 && s.fld (Reg.NOC_LINKS 7) 0 1 == 1 &&
    shows (exec (.linkOutOfService 7 0) s) (fun t => t.fld (Reg.NOC_LINKS 7) 0 1 == 0 && t.fld (Reg.NOC_LINKS 64) 1 1 == 0)) = true := by decide +kernel

/-- The second link of a router in one ring fences it (R351). -/
theorem test_routerFence : (let s := put (Reg.NOC_LINKS 7) 1 1 0 State.reset
    s.fld (Reg.NOC_LINKS 7) 4 1 == 1 && shows (exec (.routerFence 7 0) s) (fun t => t.fld (Reg.NOC_LINKS 7) 4 1 == 0 && t.fld (Reg.SPR_TILE 7) 6 1 == 1)) = true := by
  decide +kernel

/-- Depot port 7 on quad 3 in a state (R229). -/
def portIn (st : Nat) (p : DPort) : State :=
  (put (Reg.DEP_PORT_STATE 7) 8 5 3 (put (Reg.DEP_PORT_STATE 7) 0 3 st (put (Reg.LANE_QUAD 3) 10 4 15 State.reset))).setPort 7 p

theorem test_depotAttach : (let s := portIn 1 DPort.reset
    s.hasPort 7 && s.portState 7 == 1 && s.fld (Reg.LANE_QUAD (s.fld (Reg.DEP_PORT_STATE 7) 8 5)) 10 4 == 15 &&
    shows (exec (.depotAttach 7) s) (fun t => t.portState 7 == 2)) = true := by decide +kernel

/-- The 16th ECHO records the smallest round trip less the turnaround (R223). -/
theorem test_depotEchoReply : (let s := portIn 2 { DPort.reset with echoes := 15, bestRtt := 50 }
    s.portState 7 == 2 && shows (exec (.depotEchoReply 7 60 20) s) (fun t => t.fld (Reg.DEP_PORT_RTT 7) 0 16 == 40 && (t.port 7).echoes == 16)) = true := by
  decide +kernel

theorem test_depotInfo : (let s := portIn 2 { DPort.reset with echoes := 16 }
    s.portState 7 == 2 && shows (exec (.depotInfo 7 300 4096) s) (fun t => t.portState 7 == 3 && t.fld (Reg.DEP_NODE 7) 0 16 == 300 &&
      t.fld (Reg.DEP_NODE_CAP 7) 0 24 == 4096)) = true := by decide +kernel

theorem test_depotInfoTimeout : (let s := portIn 2 { DPort.reset with echoes := 16, outst := [⟨depotReadMsg 0 1, none, none, 0, []⟩] }
    shows (exec (.depotInfoTimeout 7) s) (fun t => t.portState 7 == 4 && (t.port 7).outst.isEmpty)) = true := by decide +kernel

/-- A port UP with one segment granted to HDMA at node 3 (R219, R220). -/
def mapped (owner : Nat) (p : DPort) : State := (portIn 3 p).setDepotEntry 2 (BitVec.ofNat 64 (1 + owner * 2 + 7 * 2 ^ 8 + 3 * 2 ^ 16))
def dpkt : Pkt := { pkt 0 192 8 [] with addr := 2 * 2 ^ 30 + 16 }

/-- The map check (R220): an owner's read goes to the node of the map; another's answers NOT_OWNER. -/
theorem test_depotRequest : (let s := mapped 8 { DPort.reset with arrived := [dpkt] }
    let u := mapped 9 { DPort.reset with arrived := [dpkt] }
    s.depotCheck .hdma dpkt.addr false == .ok && !s.segFenced dpkt && (s.port 7).held.isEmpty && u.depotCheck .hdma dpkt.addr false == .notOwner &&
    shows (exec (.depotRequest 7) s) (fun t => (t.port 7).outst.map (·.msg.header) == [BitVec.ofNat 256 (1 + 3 * 2 ^ 62)]) &&
    shows (exec (.depotRequest 7) u) (fun t => (t.port 7).outst.isEmpty && t.noc.pkts.map (·.pkt.status) == [5])) = true := by decide +kernel

/-- READ_DATA: a single word is the one of the 32-byte unit that ADDR names (R222). -/
theorem test_depotReadData : (let r : DReq := ⟨{ depotReadMsg dpkt.addr 1 with tag := 5 }, some dpkt, none, dpkt.addr, [none]⟩
    let s := mapped 8 { DPort.reset with outst := [r] }
    shows (exec (.depotReadData 7 5 0 [1, 2, 3, 4]) s) (fun t => (t.port 7).outst.isEmpty && t.noc.pkts.map (·.pkt.data) == [[3]]) &&
    shows (exec (.depotReadData 7 5 1 [1, 2, 3, 4]) s) (fun t => t.noc.pkts.map (·.pkt.derr) == [true])) = true := by decide +kernel

/-- A partial write reads the word from the node, and writes it with the enabled byte (R208, R221). -/
theorem test_depotPartial : (let p := { dpkt with op := 1, data := [0xAA], bmask := 1, wmask := 1 }
    let s := mapped 8 { DPort.reset with arrived := [p] }
    match exec (.depotRequest 7) s with
    | .next t => ((t.port 7).outst.map (·.msg.type) == [1]) && shows (exec (.depotReadData 7 0 0 [1, 2, 0x1111, 4]) t) (fun u =>
        (u.port 7).outst.map (fun r => (r.msg.type, r.msg.wmask, r.msg.data)) == [(2, 4, [0, 0, 0x11AA, 0])])
    | _ => false) = true := by decide +kernel

/-- WRITE_ACK frees the held write it was sent for (R224). -/
theorem test_depotWriteAck : (let r : DReq := ⟨{ depotWordMsg 0 9 with tag := 5 }, none, some (0, 3, 0), 0, []⟩
    let s := mapped 8 { DPort.reset with outst := [r], held := [⟨0, 3, 0, 9, true, true⟩, ⟨0, 4, 0, 9, false, false⟩] }
    shows (exec (.depotWriteAck 7 5 0) s) (fun t => (t.port 7).outst.isEmpty && (t.port 7).held.map (·.frame) == [4])) = true := by decide +kernel

theorem test_depotQueueSend : (let r : DReq := ⟨{ depotWordMsg 0 9 with tag := 5 }, none, some (0, 3, 0), 0, []⟩
    shows (exec (.depotQueueSend 7) (mapped 8 { DPort.reset with queue := [r] })) (fun t => (t.port 7).outst == [{ r with msg := { r.msg with tag := 0 } }] && (t.port 7).queue.isEmpty)) = true := by
  decide +kernel

/-- Link k UP with its four lanes, on quad q. -/
def linked (k : Fin 24) (x : Stream) : State := (put (Reg.LNK_STATE k) 0 6 0b111110 State.reset).setStream k 3 x

/-- A token in sequence on lane 3 of the last link is accepted; the eighth flit is acknowledged; another SEQ is answered NAK (R237). -/
theorem test_token : (let s := linked 23 { Stream.reset with rxSeq := 4095, sinceAck := 7 }
    decide (23 < s.nLinks) && s.laneUp 23 3 &&
    shows (exec (.token 23 3 true 4095 0 5 0) s) (fun t => (t.stream 23 3).rxSeq == 0 && (t.stream 23 3).ctl == [.ack 0]) &&
    shows (exec (.token 23 3 true 0 0 5 0) s) (fun t => (t.stream 23 3).ctl == [.nak 4095]) &&
    shows (exec (.token 23 3 false 4095 0 5 0) s) (fun t => (t.reg (Reg.LNK_CRC 23)).toNat == 1)) = true := by decide +kernel

/-- Sequenced flits of every kind. -/
theorem test_sequenced : Sequenced 23 3 (fun ok q => .token 23 3 ok q 0 5 0) ∧ Sequenced 23 3 (fun ok q => .xtrig 23 3 ok q 1 1 1 0) :=
  ⟨.inl ⟨_, _, _, rfl⟩, .inr (.inr (.inr ⟨_, _, _, _, rfl⟩))⟩

/-- The channel of partition 2 on link 0, at epoch 15. -/
def chan : State :=
  let s := put (Reg.LNK_MAP 0) 28 4 10 (linked 0 Stream.reset)
  s.setMach 2 { s.mach 2 with epoch := 15 }

/-- Tokens of CHAN 7 (R239, R240): of the epoch, of the next, and of neither. -/
theorem test_token_taken : (chan.chanPart 0 7 == some 2 && chan.chanPart 0 0 == none && (chan.mach 2).epoch == 15 &&
    shows (exec (.token 0 3 true 0 7 5 15) chan) (fun t => (t.mach 2).tokens == [(0, 5)]) &&
    shows (exec (.token 0 3 true 0 7 5 0) chan) (fun t => (t.mach 2).aside.length == 1) &&
    shows (exec (.token 0 3 true 0 7 5 1) chan) (fun t => (t.reg (Reg.LNK_DROP 0)).toNat == 1) &&
    shows (exec (.token 0 3 true 0 0 5 15) chan) (fun t => (t.reg (Reg.LNK_DROP 0)).toNat == 1)) = true := by decide +kernel

/-- LaneUp of the state above. -/
theorem test_laneUp : LaneUp chan 0 3 ∧ FirstUp chan 0 0 ∧ (0#12).toNat = (chan.stream 0 3).rxSeq := by
  refine ⟨by unfold LaneUp; decide +kernel, ⟨by decide +kernel, ?_⟩, by decide +kernel⟩
  intro j h; exact absurd h (by omega)

/-- New votes are held once per device (R243). -/
theorem test_vote : shows (exec (.vote 0 3 true 0 7 5 15 [⟨1, true, false, 0⟩, ⟨2, false, true, 9⟩])
    (chan.setMach 2 { chan.mach 2 with votes := [(5, ⟨1, false, false, 0⟩)] }))
    (fun t => (t.mach 2).votes == [(5, ⟨1, false, false, 0⟩), (5, ⟨2, false, true, 9⟩)]) = true := by decide +kernel

/-- An exchange word is held for the slot that accepts it (R127). -/
theorem test_xchgFlit : (let e : Eph := { eph with xchg := [⟨1, 2, 9, true, 1, 0, 77, 2, 20⟩] }
    let s := chan.setPart 2 { Part.reset with eph := e, frame := 300 }
    (e.accepting 0 77).length == 1 && shows (exec (.xchgFlit 0 3 true 0 [0xABC] 77 7 44 15) s)
      (fun t => (t.part 2).xheld == [⟨18, 9, 300, 15, 0xABC⟩])) = true := by decide +kernel

/-- A cross-trigger newer than the last of its source, in the half-range of 2^15 (R248). -/
theorem test_xtrig : (xseqNewer (some 65535) 0 && !xseqNewer (some 0) 32768 && !xseqNewer (some 5) 5 && xseqNewer none 5 &&
    shows (exec (.xtrig 0 3 true 0 9 0x8001 5 0) chan) (fun t => t.lnk.xlast == [(9, 5)] && (t.cap 4).xtrig == 0x8001) &&
    shows (exec (.xtrig 0 3 true 0 9 0x8001 5 0) { chan with lnk := { chan.lnk with xlast := [(9, 5)] } }) (fun t => (t.cap 4).xtrig == 0)) = true := by
  decide +kernel

/-- A stream with flits 10 to 12 held. -/
def sent3 : Stream := { Stream.reset with txSeq := 13, replay := [(10, .token 0 1 0), (11, .token 0 2 0), (12, .token 0 3 0)], sent := 3 }

/-- ACK(12) frees two flits (R237). -/
theorem test_ack : ((linked 0 sent3).laneUp 0 3 && freedBy sent3 12 == 2 && freedBy sent3 13 == 3 && freedBy sent3 14 == 0 &&
    shows (exec (.ack 0 3 true 12 500) (linked 0 sent3)) (fun t => (t.stream 0 3).replay == [(12, .token 0 3 0)] && t.fld (Reg.LNK_RTT 0) 0 16 == 500)) = true := by
  decide +kernel

theorem test_nak : shows (exec (.nak 0 3 true 11) (linked 0 { sent3 with resends := 6 }))
    (fun t => (t.stream 0 3).replay.length == 2 && (t.stream 0 3).resends == 1 && (t.reg (Reg.LNK_REPLAY 0)).toNat == 1) = true := by decide +kernel

/-- The eighth resend without progress takes the lane down and keeps its buffer (R237). -/
theorem test_replayTimeout : (shows (exec (.replayTimeout 0 3) (linked 0 sent3)) (fun t => (t.stream 0 3).resends == 1) &&
    shows (exec (.replayTimeout 0 3) (linked 0 { sent3 with resends := 7 })) (fun t => (t.stream 0 3).resends == 0 && (t.stream 0 3).sent == 0 && (t.stream 0 3).replay.length == 3)) = true := by
  decide +kernel

theorem test_ackTimer : shows (exec (.ackTimer 0 3) (linked 0 { Stream.reset with rxSeq := 9, sinceAck := 1 }))
    (fun t => (t.stream 0 3).ctl == [.ack 9] && (t.stream 0 3).sinceAck == 0) = true := by decide +kernel

/-- A follower of link 0. -/
def follower (tb : Nat) (first : Bool) (good : Nat) : State :=
  let s := put Reg.LNK_TIME_CTRL 0 2 2 (linked 0 Stream.reset)
  { s with lnk := { s.lnk with timebase := tb, first := first, good := good } }

theorem test_syncSend : ((follower 40 true 0).upstream == some 0 && State.reset.upstream == none &&
    shows (exec .syncSend (follower 40 true 0)) (fun t => (t.stream 0 0).ctl == [.sync 40])) = true := by decide +kernel

theorem test_sync : shows (exec (.sync 0 3 true 100 0) (follower 40 true 0)) (fun t => (t.stream 0 3).ctl == [.syncReply 100 40 40]) = true := by
  decide +kernel

/-- The first offset steps the timebase; a later one within 1 µs is slewed; the sixteenth within 2 ns locks (R250). -/
theorem test_syncReply : (let s := follower 1100 true 0
    let u := follower 1100 false 15
    syncOffset 1000 2050 2060 1100 == 8040 && syncOffset 1000 2040 2060 1100 == 8000 && syncOffset 1000 1050 1050 1100 == 0 &&
    shows (exec (.syncReply 0 true 1000 2040 2060) u) (fun t => t.lnk.timebase == 1100 && t.lnk.slew == 1000) &&
    shows (exec (.syncReply 0 true 1000 2050 2060) s) (fun t => t.lnk.timebase == 1100 + 1005 && !t.lnk.first) &&
    shows (exec (.syncReply 0 true 1000 1050 1050) u) (fun t => t.lnk.timebase == 1100 && t.fld Reg.LNK_TIME_STATUS 16 1 == 1)) = true := by decide +kernel

/-- Partition 1 of machine 0x77 arms on link 0, as device 1 of 2. -/
def arms : State :=
  let s := linked 0 Stream.reset
  let p : Part := { Part.reset with state := .loaded, eph := { eph with spans := true, machineId := 0x77, nDevices := 2, devIndex := 1, links := [⟨0, 0, 0⟩] } }
  (s.setPart 1 p).setMach 1 { s.mach 1 with arming := some ⟨9, [], none, false, false⟩ }

/-- An INIT that agrees arms the partition with the partner's CHAN; one that differs ends the arm (R238). -/
theorem test_init : (LaneUp arms 0 3 ∧ (arms.part 1).linksOf = [0] ∧ arms.armingOn 0 0x77 = [1] ∧ arms.linkState 0 = 2) ∧
    (let m : InitMsg := ⟨7, 0x77, 2, 0, 9, 4⟩
     m.fits (arms.part 1).eph 9 && !InitMsg.fits { m with start := 10 } (arms.part 1).eph 9 &&
     shows (exec (.init 0 3 true m) arms) (fun t => (t.part 1).state == .armed && (t.part 1).frame == 9 && t.fld (Reg.LNK_MAP 0) 28 4 == 9) &&
     shows (exec (.init 0 3 true { m with start := 10 }) arms) (fun t => (t.part 1).state == .loaded && (t.mach 1).arming.isNone) &&
     shows (exec (.init 0 3 true { m with machineId := 0x78 }) arms) (fun t => ((t.link 0).initFor 0x78).isSome)) = true := by
  unfold LaneUp; decide +kernel

theorem test_initRepeat : shows (exec (.initRepeat 1) arms) (fun t => (t.stream 0 0).ctl == [.init ⟨1, 0x77, 2, 1, 9, 4⟩]) = true := by
  decide +kernel

theorem test_armTimeout : shows (exec (.armTimeout 1) arms) (fun t => (t.mach 1).arming.isNone && (t.part 1).state == .loaded) = true := by decide +kernel

/-- Lane l with its receiver in a state. -/
def lane (l rx : Nat) : State := put (Reg.LANE_STATE l) 0 3 rx State.reset

/-- The receiver's states (R267), at the last physical lane. -/
theorem test_receiver : (State.reset.hasLane 103 && (lane 103 5).rx 103 == 5 &&
    shows (exec (.signalDetect 103) (lane 103 1)) (fun t => t.rx 103 == 2) &&
    shows (exec (.lockAcquired 103) (lane 103 2)) (fun t => t.rx 103 == 3) &&
    shows (exec (.adaptDone 103 (18, 143)) (lane 103 3)) (fun t => t.rx 103 == 4 && t.fld (Reg.LANE_STATE 103) 24 5 == 18) &&
    shows (exec (.lockTimeout 103) (lane 103 2)) (fun t => t.rx 103 == 1 && t.fld (Reg.LANE_EVENTS 103) 0 8 == 1) &&
    shows (exec (.adaptTimeout 103) (lane 103 3)) (fun t => t.rx 103 == 1) &&
    shows (exec (.alignTimeout 103) (lane 103 4)) (fun t => t.rx 103 == 1 && t.fld (Reg.LANE_EVENTS 103) 8 8 == 1) &&
    shows (exec (.los 103) (lane 103 5)) (fun t => t.rx 103 == 1 && t.fld (Reg.LANE_EVENTS 103) 16 8 == 1) &&
    shows (exec (.absent 103) (lane 103 1)) (fun t => t.fld (Reg.LANE_STATE 103) 5 1 == 1) &&
    shows (exec (.quietEnd 103) (lane 103 5)) (fun t => t.fld (Reg.LANE_STATE 103) 3 1 == 0)) = true := by decide +kernel

/-- In far-end loopback ADAPT is the last state (R272). -/
theorem test_adaptDone_loopback : (let s := put (Reg.LANE_QUAD 0) 9 1 1 { lane 1 3 with lan := { Lan.reset with cfg := [(1, 0x300)] } }
    s.loopback 1 == 3 && shows (exec (.adaptDone 1 (0, 0)) s) (fun t => t.rx 1 == 3)) = true := by decide +kernel

/-- A lane of a MANUAL quad. -/
def manual (l rx : Nat) : State := put (Reg.LANE_QUAD (l / 4)) 9 1 1 (lane l rx)

/-- Slips move the boundary modulo 144, up to 143 (R271). -/
theorem test_laneSlip : (let s := put (Reg.LANE_ALIGN_STAT 95) 0 8 143 (manual 95 4)
    s.quadManual (quadOf 95) && shows (exec (.laneSlip (some .pf0) 95 143) s) (fun t => t.fld (Reg.LANE_ALIGN_STAT 95) 0 8 == 142) &&
    shows (exec (.laneSlip none 95 144) s) (fun t => t.fld (Reg.LANE_ALIGN_STAT 95) 0 8 == 143) &&
    shows (exec (.laneSlip (some .pf0) 91 1) (lane 91 4)) (fun t => (t.reg Reg.MBX_ACCLOG_COUNT).toNat == 1)) = true := by decide +kernel

theorem test_laneAccept : shows (exec (.laneAccept (some .mgmt) 95 3) (manual 95 4)) (fun t => t.reg (Reg.LANE_ALIGN_STAT 95) == 0x103) = true := by
  decide +kernel

theorem test_acceptResult : (let s := put (Reg.LANE_ALIGN_STAT 95) 8 2 1 (manual 95 4)
    shows (exec (.acceptResult 95 true) s) (fun t => t.rx 95 == 5 && t.fld (Reg.LANE_ALIGN_STAT 95) 8 2 == 2) &&
    shows (exec (.acceptResult 95 false) s) (fun t => t.rx 95 == 4 && t.fld (Reg.LANE_ALIGN_STAT 95) 8 2 == 3)) = true := by decide +kernel

theorem test_laneCapture : shows (exec (.laneCapture (some .pf0) 95) (manual 95 4)) (fun t => t.lan.capt && t.reg Reg.LANE_CAPT_SEL == 95) = true := by
  decide +kernel

/-- The FILLER of R271's example: logical lane 2, TRAIN = 0, quad 10. -/
def exFiller : BitVec 288 := FillerF.flit ⟨2, false, false, 10, 0⟩

/-- The marker (R265), the precoder's example (R258), the levels (R257) and the taps (R260). -/
theorem test_coding : bitsAt exFiller 0 32 = 0xC35A0000 ∧ precode 0 [2, 3, 0, 1] = [2, 1, 3, 2] ∧ unprecode 0 [2, 1, 3, 2] = [2, 3, 0, 1] ∧
    [levelOf 2, levelOf 1, levelOf 3, levelOf 2] = [1, -1, 3, 1] ∧ tapsOf 0x1F2 = ⟨-2, 38, -24⟩ ∧
    toX true [false, false, true, false, true, true, false, true] = [0, 1, 2, 3] := by decide +kernel

/-- The capture of R271's example, the marker 57 symbols after the boundary, from scrambled symbols of the partner. -/
theorem test_laneCaptureDone : (let b := numBits 288 exFiller.toNat
    let ys := toX true (scramble 0 (b ++ b ++ b))
    let syms := BitVec.ofNat 636 (((ys.drop 57).take 318).zipIdx.foldl (fun a x => a + x.1 * 4 ^ x.2) 0)
    shows (exec (.laneCaptureDone syms) { manual 42 4 with lan := { Lan.reset with capt := true } })
      (fun t => t.reg (Reg.LANE_CAPT 4) == 0x280B0D68 && t.fld Reg.LANE_CAPT_SEL 30 1 == 1)) = true := by decide +kernel

/-- A lane in near-end loopback finds its own FILLER good in its second slot (R271, R272). -/
theorem test_hearSelf : (let s := { manual 42 4 with lan := { Lan.reset with cfg := [(42, 0x211)] } }
    let t := (put (Reg.LANE_ALIGN_STAT 42) 8 2 1 (s.laneSlot 42)).laneSlot 42
    s.hearsSelf 42 && (t.sender 42).syms.length == 144 && (t.recv 42).good == 1 && t.rx 42 == 4) = true := by decide +kernel

/-- A flit slot takes LINKCTL first, then flits to be sent again, then a queued one (R232, R237). -/
theorem test_streamTake : ((({ sent3 with sent := 0, ctl := [.ack 9] } : Stream).take 0).map (fun x => (bitsAt x.1 0 24, x.2.sent)) = some (0x010004, 0) ∧
    (({ sent3 with sent := 1, queue := [.token 0 4 0] } : Stream).take 0).map (fun x => (bitsAt x.1 0 24, x.2.sent)) = some (0x0100B2, 2) ∧
    (({ sent3 with queue := [.xchg [7] 5 1 2 3] } : Stream).take 0).map (fun x => (bitsAt x.1 0 24, x.2.txSeq, bitsAt x.1 208 64)) =
      some (0x0700D1, 14, 0x0000030205000005)) := by decide +kernel

theorem test_laneRetrain : shows (exec (.laneRetrain (some .pf0) 95 0xFFFFFFFF) (manual 95 4))
    (fun t => t.reg (Reg.LANE_CFG 95) == 0x377 && t.rx 95 == 1 && t.fld (Reg.LANE_STATE 95) 3 1 == 1) = true := by decide +kernel

/-- The first filler with TRAIN = 0 puts the lane and its link in service (R268). -/
theorem test_filler : (let s := put (Reg.LANE_QUAD 23) 0 7 (1 + 23 * 4) (lane 95 5)
    s.rx 95 == 5 && s.carrier 23 3 == 95 && !s.configuring &&
    shows (exec (.filler 95 3 false false 23 200 41) s) (fun t => t.fld (Reg.LANE_QUAD 23) 10 4 == 8 && t.fld (Reg.LNK_STATE 23) 5 1 == 1 && t.linkState 23 == 2 && t.fld (Reg.LANE_STATE 95) 16 8 == 200) &&
    shows (exec (.filler 95 3 false false 23 200 128) s) (fun t => t.rx 95 == 1 && t.fld (Reg.LANE_EVENTS 95) 24 8 == 1)) = true := by decide +kernel

/-- Spare lane 0 of group 0 takes over lane 3 of quad 2, which it protects (R274). -/
theorem test_spareActivate : (let s := put (Reg.LANE_SPARE 0) 0 5 2 (put (Reg.LANE_QUAD 2) 8 1 1 (put (Reg.LANE_QUAD 2) 0 7 (1 + 5 * 4) (lane 11 2)))
    s.quadOn 2 && s.carrier 2 3 == 11 && s.idleSpare 2 == some 0 && s.fld (Reg.LANE_QUAD 2) 13 1 == 0 &&
    shows (exec (.spareActivate 2 3 true false) s) (fun t => t.fld (Reg.LANE_SPARE 0) 0 8 == 2 + 7 * 32 && t.carrier 2 3 == 96)) = true := by decide +kernel

/-- Without an idle spare the link of a lane that cannot return is in FAULT (R237). -/
theorem test_spareActivate_gone : (let s := put (Reg.LANE_QUAD 23) 8 1 1 (put (Reg.LANE_QUAD 23) 0 7 (1 + 5 * 4) State.reset)
    let u := (List.range 8).foldl (fun t n => put (Reg.LANE_SPARE n) 7 1 1 t) s
    u.idleSpare 23 == none && shows (exec (.spareActivate 23 0 true true) u) (fun t => t.linkState 5 == 3)) = true := by decide +kernel

theorem test_quadRefOk : (let s := put (Reg.LANE_QUAD 23) 8 1 1 State.reset
    s.quadOn 23 && s.fld (Reg.LANE_QUAD 23) 14 1 == 0 && s.hasLane 100 &&
    shows (exec (.quadRefOk 23) s) (fun t => t.rx 95 == 1 && t.rx 92 == 1 && t.fld (Reg.LANE_QUAD 23) 14 1 == 1)) = true := by decide +kernel

theorem test_prbsRxLock : (let s := put (Reg.LANE_PRBS 95) 1 1 1 (manual 95 1)
    shows (exec (.prbsRxLock 95 7) s) (fun t => t.fld (Reg.LANE_PRBS 95) 2 1 == 1 && (t.reg (Reg.LANE_PRBS_ERR 95)).toNat == 7)) = true := by decide +kernel

/-- A state whose capture of partition 6 is c. -/
def capt (c : Cap) (s : State) : State := s.setCap 6 c

/-- A share of 8 units on die 0, with the partition's shape there. -/
def shared (st : Nat) (c : Cap) : State :=
  capt c (put (Reg.CAP_KEY_INTERVAL 6) 0 24 0 <| put (Reg.CAP_STORE_SIZE 6 0) 0 21 8 (put (Reg.CAP_STATUS 6) 0 2 st (at_ 6 { part 0 0 with frame := 6 })))

/-- ARM waits for the tick; without a share it is logged (R294). -/
theorem test_captureArm : (!(shared 0 Cap.reset).capNoShare 6 && State.reset.capNoShare 6 &&
    shows (exec (.captureArm 6 .pf0) (shared 0 Cap.reset)) (fun t => (t.cap 6).actions == 1) &&
    shows (exec (.captureArm 6 .pf0) State.reset) (fun t => (t.cap 6).actions == 0 && (t.reg Reg.MBX_ACCLOG_COUNT).toNat == 1)) = true := by decide +kernel

theorem test_captureControls : (shows (exec (.captureForce 6) (capt { Cap.reset with actions := 1 } State.reset)) (fun t => (t.cap 6).actions == 3) &&
    shows (exec (.captureClose 6) State.reset) (fun t => (t.cap 6).actions == 4) &&
    shows (exec (.captureDisarm 6) State.reset) (fun t => (t.cap 6).actions == 8)) = true := by decide +kernel

/-- A mark is tagged when it is written (R286). -/
theorem test_hostMark : (let s := put (Reg.CAP_EVENT_EN 6) 9 1 1 (at_ 6 { part 3 0 with frame := 9 })
    s.fld (Reg.CAP_EVENT_EN 6) 9 1 == 1 && (put (Reg.CAP_EVENT_EN 6) 9 1 0 s).fld (Reg.CAP_EVENT_EN 6) 9 1 == 0 &&
    shows (exec (.hostMark 6 77) s) (fun t => (t.cap 6).marks == [⟨3, 0, 0, 6, 77, 9, 3, 0⟩])) = true := by decide +kernel

/-- The drain of partition 6: a ring of 16 units with 4 in use, in a segment granted to it at port 7. -/
def drains (tail head : Nat) (c : Cap) : State :=
  capt c (put (Reg.CAP_DRAIN_SIZE 6) 0 32 16 (put (Reg.CAP_DRAIN_HEAD 6) 0 32 head (put (Reg.CAP_DRAIN_TAIL 6) 0 32 tail
    (put (Reg.CAP_CFG 6) 2 1 1 (put (Reg.CAP_STORE_SIZE 6 1) 0 21 8 (put (Reg.CAP_DRAIN_BASE_HI 6) 0 32 0 (put (Reg.CAP_DRAIN_BASE_LO 6) 31 1 1 (mapped 6 DPort.reset))))))))

/-- A part that fills the ring but for one unit is drained; one more unit does not fit (R301). -/
theorem test_drainPart : (let s := drains 14 2 { Cap.reset with closed := [⟨1, 6, 11, 0⟩] }
    (s.cap 6).nextPart == some ⟨1, 6, 11, 0⟩ && ringDist 16 14 2 + 11 + 1 == 16 && s.fld (Reg.CAP_CFG 6) 2 1 == 1 && s.fld (Reg.CAP_STATUS 6) 6 1 == 0 &&
    shows (exec (.drainPart 6) s) (fun t => (t.cap 6).drain == some ⟨1, 6, 11, 0⟩) &&
    shows (exec (.drainPart 6) (drains 14 3 { Cap.reset with closed := [⟨1, 6, 11, 0⟩] })) (fun t => (t.cap 6).drain == none)) = true := by decide +kernel

/-- The acknowledged part frees its units; a refused one sets DRAIN_ERR, which a write clears (R301). -/
theorem test_drainAck : (let s := put (Reg.CAP_STORE_TAIL 6 1) 0 20 6 (put (Reg.CAP_STORE_HEAD 6 1) 0 20 1 (drains 14 15 { Cap.reset with drain := some ⟨1, 6, 3, 0⟩, closed := [⟨1, 6, 3, 0⟩] }))
    (s.drainEnds 6 3).all (fun a => s.depotCheck (.part 6) a true == .ok) && (s.drainEnds 6 3).length == 4 &&
    shows (exec (.drainAck 6 true) s) (fun t => (t.reg (Reg.CAP_DRAIN_HEAD 6)).toNat == 2 && t.fld (Reg.CAP_STORE_TAIL 6 1) 0 20 == 1 && (t.cap 6).closed.isEmpty) &&
    shows (exec (.drainAck 6 false) s) (fun t => t.fld (Reg.CAP_STATUS 6) 6 1 == 1 && (t.cap 6).closed.length == 1) &&
    shows (exec (.drainRestart 6) (put (Reg.CAP_STATUS 6) 6 1 1 s)) (fun t => t.fld (Reg.CAP_STATUS 6) 6 1 == 0)) = true := by decide +kernel

/-- CAP_DRAIN_TAIL moves up to the head and no further (R302). -/
theorem test_capDrainTailWrite : (let s := drains 14 2 Cap.reset
    ringDist 16 14 2 == 4 && shows (exec (.capDrainTailWrite 6 .pf0 2) s) (fun t => t.reg (Reg.CAP_DRAIN_TAIL 6) == 2) &&
    shows (exec (.capDrainTailWrite 6 .pf0 3) s) (fun t => t.reg (Reg.CAP_DRAIN_TAIL 6) == 14 && (t.reg Reg.MBX_ACCLOG_COUNT).toNat == 1)) = true := by decide +kernel

/-- CAP_STORE_TAIL moves only without drain (R302). -/
theorem test_capStoreTailWrite : (let s := put (Reg.CAP_STORE_TAIL 6 1) 0 20 6 (drains 0 0 { Cap.reset with closed := [⟨1, 6, 3, 0⟩] })
    let u := put (Reg.CAP_CFG 6) 2 1 0 s
    s.hasDie 1 && u.shareUnits 6 1 == 8 && u.fld (Reg.CAP_STORE_TAIL 6 1) 0 20 == 6 &&
    shows (exec (.capStoreTailWrite 6 1 .pf0 1) s) (fun t => (t.cap 6).closed.length == 1 && (t.reg Reg.MBX_ACCLOG_COUNT).toNat == 1) &&
    shows (exec (.capStoreTailWrite 6 1 .pf0 1) u) (fun t => (t.cap 6).closed.isEmpty && t.fld (Reg.CAP_STORE_TAIL 6 1) 0 20 == 1)) = true := by decide +kernel

/-- The block due of a frame with k changed groups on die 0. -/
def due (k : Nat) : BlockDue :=
  ⟨⟨9, (List.range k).map fun i => ⟨i, 5, some 1, 1⟩, [], Seqr.reset, 0, false, 0, 0, none⟩, false, false, []⟩

/-- Blocks: 5 records and a header slot fit the share of 8 units, 6 do not (R287, R298). -/
theorem test_frameBlockWrite : (let s := shared 2 { Cap.reset with due := some (due 5), keyNext := false }
    let u := shared 2 { Cap.reset with due := some (due 6), keyNext := false }
    (s.part 6).eph.dies == [0] && s.capState 6 == 2 && !(s.cap 6).autoDue && s.shareUnits 6 0 == 8 && s.fld (Reg.CAP_KEY_INTERVAL 6) 0 24 == 0 &&
    (vget s.plt.fifos 0).isEmpty && (s.cap 6).dead.isEmpty &&
    shows (exec (.frameBlockWrite 6) s) (fun t => (t.cap 6).segs == [⟨0, 0, 7, 9, false, true⟩] && t.fld (Reg.CAP_STORE_HEAD 6 0) 0 20 == 7) &&
    shows (exec (.frameBlockWrite 6) u) (fun t => (t.cap 6).segs.isEmpty && (t.reg (Reg.CAP_DEAD_FRAMES 6 0)).toNat == 1) &&
    shows (exec (.frameBlockWrite 6) (shared 3 { Cap.reset with due := some (due 7) })) (fun t => (t.cap 6).due.isNone && (t.cap 6).segs.isEmpty)) = true := by
  decide +kernel

/-- AUTO opens the plate at the frame that reaches its timeout (R294). -/
theorem test_autoTimeout : (let s := shared 1 { Cap.reset with due := some (due 1), autoDue := true, post := 4 }
    s.capState 6 == 1 && shows (exec (.autoTimeout 6) s) (fun t => t.capState 6 == 2 && (t.cap 6).plate == some ⟨9, 9, 13, 1, false, false⟩)) = true := by
  decide +kernel

/-- The plate closes when its last frame has been written (R294). -/
theorem test_plateClose : (let c : Cap := { Cap.reset with plate := some ⟨9, 9, 13, 0, false, false⟩, lastRel := some 13, segs := [⟨0, 0, 3, 9, true, true⟩] }
    let s := shared 2 c
    shows (exec (.plateClose 6) s) (fun t => t.capState 6 == 1 && (t.cap 6).plate.isNone && (t.cap 6).closed == [⟨0, 0, 3, 0⟩] && (t.reg (Reg.CAP_PLATES 6)).toNat == 1) &&
    shows (exec (.plateClose 6) (put (Reg.CAP_CFG 6) 0 2 1 s)) (fun t => t.capState 6 == 3) &&
    shows (exec (.plateClose 6) (capt { c with lastRel := some 12 } s)) (fun t => t.capState 6 == 2)) = true := by decide +kernel

/-- An edge on TRIG ball 5 (R286, R289). -/
theorem test_trigIn : (let s := put (Reg.CAP_EVENT_EN 6) 5 1 1 (shared 1 Cap.reset)
    (s.part 6).eph.homeDie == 0 && s.capState 6 == 1 &&
    shows (exec (.trigIn 5 0x20) s) (fun t => (t.cap 0).edges == 32 && (vget t.plt.fifos 0).map (·.payload) == [32] && t.fld Reg.CAP_TRIG_BALLS 8 8 == 32) &&
    shows (exec (.trigIn 5 0x20) (put Reg.CAP_TRIG_BALLS 5 1 1 s)) (fun t => (t.cap 0).edges == 0 && (vget t.plt.fifos 0).isEmpty)) = true := by decide +kernel

theorem test_trigPulseEnd : (let s := { State.reset with plt := { Plt.reset with trigDrive := vset (vset Plt.reset.trigDrive 6 [3, 4]) 1 [2] } }
    shows (exec (.trigPulseEnd 6) (put Reg.CAP_TRIG_BALLS 0 8 255 s)) (fun t => t.fld Reg.CAP_TRIG_BALLS 8 8 == 6)) = true := by decide +kernel

/-- A tick at a boundary of the interval (R318). -/
def boundary : State :=
  put (Reg.CKP_SLOT_SIZE 2) 0 32 200 (put (Reg.CKP_INTERVAL 2) 0 32 4 (com 15 fun p => { p with start := 2, frame := 6, cur := 5, decision := some (5, true) }))

/-- Its checkpoint fits the slot, whatever the tail of CAPTURE is. -/
theorem test_autoCheckpoint_fits : boundary.ckSize 2 ≤ boundary.ckSlotBytes 2 := by
  have h : boundary.ckFixed 2 ≤ 1200000 := by decide +kernel
  have g : boundary.ckSlotBytes 2 = 13107200 := by decide +kernel
  have c := Config.captureTail.isLt
  rw [g]; unfold State.ckSize; omega

theorem test_autoCheckpoint : AtCommit boundary 2 15 ∧ boundary.boundaryAt 2 = some 6 ∧ boundary.ckAuto 2 6 = true ∧ boundary.catchingUp 2 = false ∧
    boundary.replaying 2 = false ∧ (boundary.part 2).state = .running ∧ (boundary.part 2).faultPend = none ∧ (boundary.part 2).haltPend = [] ∧
    (boundary.ck 2).busy = none ∧ (boundary.ck 2).recov = none ∧ (boundary.ck 2).want = none ∧ 0 < boundary.ckSlotBytes 2 ∧
    State.reset.boundaryAt 2 = none := by unfold AtCommit; decide +kernel

theorem test_checkpointReadDone : (let s := ckp { Ckp.reset with busy := some ⟨img (part 0 0), 1, true, 0⟩ } (com 0 fun p => { p with bholds := [.share, .checkpoint] })
    shows (exec (.checkpointReadDone 2) s) (fun t => (t.part 2).bholds == [.share] && ((t.ck 2).busy.map (·.reading)) == some false)) = true := by decide +kernel

/-- A checkpoint completes in slot 1 of its area, or fails (R318). -/
theorem test_checkpointComplete : (let s := ckp { Ckp.reset with busy := some ⟨img (part 0 0), 1, false, 0⟩ } (put (Reg.CKP_AREA_LO 2) 31 1 1 (mapped 2 DPort.reset))
    s.depotCheck (.part 2) (s.ckSlotAddr 2 1) true == .ok &&
    shows (exec (.checkpointComplete 2 true) s) (fun t => (t.ck 2).latest.isSome && t.fld (Reg.CKP_STATUS 2) 2 1 == 1 && t.reg64 (Reg.CKP_LAST_LO 2) == 6 + 2 ^ 63) &&
    shows (exec (.checkpointComplete 2 false) s) (fun t => (t.ck 2).latest.isNone && t.fld (Reg.CKP_STATUS 2) 6 1 == 1)) = true := by decide +kernel

/-- A record ring of 4 units with the tail at 3 and the head given. -/
def ring (head : Nat) (k : Ckp) : State :=
  ckp k (put (Reg.CKP_REC_SIZE 2) 0 32 4 (put (Reg.CKP_REC_TAIL 2) 0 32 3 (put (Reg.CKP_REC_HEAD 2) 0 32 head (com 0 fun p => { p with bholds := [.record] }))))

/-- The third unit fits a ring of four, the fourth does not; REC_FULL stops the recording (R325). -/
theorem test_inputRecordEntry : (let s := ring 1 { Ckp.reset with due := [entry 9] }
    let u := ring 2 { Ckp.reset with due := [entry 9] }
    ringDist 4 3 1 + (entry 9).units + 1 == 4 && (s.cap 2).due.isNone && (s.cap 2).plate.isNone &&
    shows (exec (.inputRecordEntry 2) s) (fun t => (t.ck 2).record == [{ entry 9 with pos := 1 }] && (t.reg (Reg.CKP_REC_HEAD 2)).toNat == 2) &&
    shows (exec (.inputRecordEntry 2) u) (fun t => (t.ck 2).due.length == 1) &&
    shows (exec (.inputRecordEntry 2) (put (Reg.CKP_CFG 2) 2 1 1 u)) (fun t => (t.ck 2).due.isEmpty && t.fld (Reg.CKP_STATUS 2) 5 1 == 1)) = true := by decide +kernel

theorem test_recRingSpace : (shows (exec (.recRingSpace 2) (ring 2 { Ckp.reset with due := [entry 9] })) (fun t => (t.part 2).bholds == [.record]) &&
    shows (exec (.recRingSpace 2) (ring 2 Ckp.reset)) (fun t => (t.part 2).bholds == [])) = true := by decide +kernel

/-- The tail moves to REC_POS of the latest checkpoint at most (R325). -/
theorem test_ckpRecTailWrite : (let s := ring 2 { Ckp.reset with latest := some { img (part 0 0) with recPos := 1 } }
    shows (exec (.ckpRecTailWrite 2 .pf0 1) s) (fun t => t.reg (Reg.CKP_REC_TAIL 2) == 1) &&
    shows (exec (.ckpRecTailWrite 2 .pf0 2) s) (fun t => t.reg (Reg.CKP_REC_TAIL 2) == 3 && (t.reg Reg.MBX_ACCLOG_COUNT).toNat == 1)) = true := by decide +kernel

/-- A located cluster moves to the idle one, or none is idle (R326, R330). -/
theorem test_unitLocated : (let s := recover 1 false Ckp.reset (com 0 fun p => { p with state := .fault })
    let u := put (Reg.SPR_TILE 3) 0 5 0x1F s
    s.recovPhase 2 == 1 && s.hasLocated (.cluster 3 15) && s.locatable 2 (.cluster 3 15) && (s.locateOne 2 (.cluster 3 15)).2 &&
    !(u.locateOne 2 (.cluster 3 15)).2 && shows (exec (.unitLocated 2 [.link 255 3]) s) (fun t => t.recovPhase 2 == 2 && t.fld (Reg.NOC_LINKS 255) 3 1 == 0 &&
      ((t.ck 2).recov.map (·.units)) == some [unitEntry 5 1023 3]) &&
    shows (exec (.unitLocated 2 [.cluster 3 15]) s) (fun t => t.recovPhase 2 == 2 && ((t.ck 2).recov.map (·.units.length)) == some 1) &&
    shows (exec (.unitLocated 2 [.cluster 3 15]) u) (fun t => (t.ck 2).recov.isNone && t.fld (Reg.CKP_RECOVERY 2) 8 8 == 3)) = true := by decide +kernel

/-- The checkpoint comes back, and catch-up begins at its boundary (R326, R328). -/
theorem test_recoveryRestoreDone : (let s := recover 2 false Ckp.reset (com 0 fun p => { p with state := .fault, img := Img.zero })
    s.recovPhase 2 == 2 && shows (exec (.recoveryRestoreDone 2) s) (fun t => (t.part 2).img == (part 0 0).img && (t.part 2).frame == 6 && t.catchingUp 2)) = true := by
  decide +kernel

/-- A catch-up frame is followed by the next of the record, or by the wait for stage 5 (R328). -/
theorem test_catchUpFrame :
    let s := recover 3 true { Ckp.reset with record := [entry 7] } (com 15 fun p => { p with state := .fault, frame := 7, decision := some (6, true) })
    let u := recover 3 true Ckp.reset (com 15 fun p => { p with state := .fault, frame := 7, decision := some (6, true) })
    AtCommit s 2 15 ∧ AtCommit u 2 15 ∧ s.catchingUp 2 = true ∧ (s.recEntry 2 7).isSome = true ∧ u.recEntry 2 7 = none ∧
    shows (exec (.catchUpFrame 2) s) (fun t => (t.part 2).step == 0 && (t.part 2).cur == 7) = true ∧
    shows (exec (.catchUpFrame 2) u) (fun t => (t.part 2).bholds.contains .curator) = true := by unfold AtCommit; decide +kernel

theorem test_recoveryDone : (let s := recover 3 true Ckp.reset (com 0 fun p => { p with state := .fault, step := 0, frame := 9, bholds := [.curator] })
    s.catchingUp 2 && shows (exec (.recoveryDone 2) s) (fun t => (t.part 2).state == .running && (t.part 2).cur == 9 && (t.ck 2).recov.isNone &&
      (t.reg (Reg.CKP_RECOVERIES 2)).toNat == 1)) = true := by decide +kernel

/-- A replay with no further entry ends halted (R333). -/
theorem test_replayEnd :
    let s := ckp { Ckp.reset with replay := some [entry 6] } (com 15 fun p => { p with frame := 7 })
    AtCommit s 2 15 ∧ s.replaying 2 = true ∧ s.recEntry 2 7 = none ∧ s.catchingUp 2 = false ∧
    shows (exec (.replayEnd 2) s) (fun t => (t.part 2).state == .halted && !t.replaying 2 && t.fld (Reg.CKP_REPLAY 2) 2 1 == 1) = true := by
  unfold AtCommit; decide +kernel

/-- Accessions wait in a state. -/
def pends (q : List Pend) (s : State) : State := { s with spr := { s.spr with pend := q } }

/-- The last tile's cluster 15 goes to the idle cluster (R342, R346); a parity error stops its partition (R343). -/
theorem test_clusterAccession : (let s := put (Reg.SPR_CHEALTH 255 15) 12 4 15 (pends [⟨1, 255 * 16 + 15⟩] State.reset)
    let p := part 0 0
    let u := pends [⟨1, 15⟩] (at_ 2 { p with state := .halted })
    s.hasDie 3 && s.accMay ⟨1, 255 * 16 + 15⟩ && s.idleClu 255 == 16 && s.physOf 255 15 == 15 &&
    shows (exec (.clusterAccession 255 15 false) s) (fun t => t.physOf 255 15 == 16 && t.idleClu 255 == 0x1F && t.fld (Reg.SPR_CHEALTH 255 15) 8 3 == 3 &&
      t.fld (Reg.SPR_CHEALTH 255 15) 12 4 == 0 && t.spr.pend.isEmpty) &&
    u.accMay ⟨1, 15⟩ && u.unitHolder ⟨1, 15⟩ == some 2 && !u.inRecovery ⟨1, 15⟩ && u.idleClu 0 != 0x1F &&
    shows (exec (.clusterAccession 0 15 true) u) (fun t => (t.part 2).state == .fault && (t.part 2).faultCause == .abortLimit) &&
    shows (exec (.clusterAccession 0 14 false) u) (fun t => t.spr.pend.length == 1)) = true := by decide +kernel

/-- The last bank of the part waits for a spare (R201), another bank does not. -/
theorem test_bankSpareRemap : (let s := pends [⟨2, 1023⟩] State.reset
    s.hasBank 1023 && s.accMay ⟨2, 1023⟩ && s.fld (Reg.SPR_BHEALTH 3 263) 8 3 == 1 && s.physBank 1023 == 3 * 264 + 255 &&
    shows (exec (.bankSpareRemap 1022 7) s) (fun t => t.physBank 1022 == 3 * 264 + 254)) = true := by decide +kernel

/-- An hour lowers scores by one and not below 0 (R338). -/
theorem test_healthDecay : (let s := put (Reg.SPR_BHEALTH 3 263) 0 8 200 (put (Reg.SPR_CHEALTH 0 1) 0 8 5 State.reset)
    mwf resetWord s.regs && shows (exec .healthDecay s) (fun t => t.fld (Reg.SPR_CHEALTH 0 1) 0 8 == 4 && t.fld (Reg.SPR_BHEALTH 3 263) 0 8 == 199)) = true := by
  decide +kernel

/-- A staging of the last tile completes (R341). -/
theorem test_stagingDone : (let s := { State.reset with spr := { Spr.reset with staging := [(0, 3), (255, 3)] } }
    s.hasDie 3 && shows (exec (.stagingDone 255) s) (fun t => t.fld (Reg.SPR_TILE 255) 5 1 == 1 && t.spr.staged == [(255, 3)] &&
      t.fld (Reg.SPR_CHEALTH 255 16) 8 3 == 2) &&
    shows (exec (.stagingDone 254) s) (fun t => t.spr.staged.isEmpty)) = true := by decide +kernel

/-- A record of 30 valid windows. -/
def worn31 : State := put Reg.SPR_THRESH 16 8 255 <| put Reg.SPR_CTRL 2 1 1 { State.reset with spr := { Spr.reset with wear := [(255, ⟨List.replicate 30 (some 1000), 63⟩)] } }

/-- CONF counts valid windows; below 32 no wear shows (R355). -/
theorem test_wearWindow : (worn31.fld (Reg.SPR_WEAR 255) 24 1 == 0 && worn31.hasDie 3 &&
    shows (exec (.wearWindow 255 1000 true) worn31) (fun t => t.fld (Reg.SPR_WEAR 255) 16 8 == 31 && t.fld (Reg.SPR_WEAR 255) 0 16 == 0xFFFF && (t.site 255).since == 64 && t.fld (Reg.SPR_WEAR_AUX 255) 0 16 == 1) &&
    shows (exec (.wearWindow 255 1000 false) worn31) (fun t => t.fld (Reg.SPR_WEAR 255) 16 8 == 30 && t.fld (Reg.SPR_WEAR_AUX 255) 16 16 == 1) &&
    shows (exec (.wearWindow 255 1000 true) (put (Reg.SPR_WEAR 255) 24 1 1 worn31)) (fun t => t.fld (Reg.SPR_WEAR 255) 0 16 == 0xFFFF && t.fld (Reg.SPR_WEAR 255) 16 8 == 0) &&
    shows (exec (.wearWindow 255 1000 true) (put Reg.SPR_CTRL 2 1 0 State.reset)) (fun t => (t.site 255).windows.isEmpty)) = true := by decide +kernel

/-- The cross-check is due at 64 windows, not at 63 (R356). -/
theorem test_wearCrossCheck : (let s := { State.reset with spr := { Spr.reset with wear := [(255, ⟨[some 1000], 64⟩)] } }
    (s.site 255).since == 64 && (worn31.site 255).since == 63 &&
    shows (exec (.wearCrossCheck 255 true) s) (fun t => t.fld (Reg.SPR_WEAR 255) 24 1 == 1 && t.fld (Reg.SPR_WEAR 255) 0 16 == 0xFFFF && (t.site 255).since == 0) &&
    shows (exec (.wearCrossCheck 255 false) s) (fun t => t.fld (Reg.SPR_WEAR 255) 24 1 == 0 && (t.site 255).since == 0) &&
    shows (exec (.wearCrossCheck 255 true) worn31) (fun t => (t.site 255).since == 63)) = true := by decide +kernel

/-- Traffic of a RETIRED cluster and bank (R347). -/
theorem test_ghostTraffic : (let s := put (Reg.SPR_CHEALTH 255 16) 8 3 3 (put (Reg.SPR_BHEALTH 3 263) 8 3 2 State.reset)
    s.hasPhys 1 (255 + 16 * 256) && s.hasPhys 2 (263 + 3 * 512) &&
    shows (exec (.ghostTraffic 1 (BitVec.ofNat 22 (255 + 16 * 256)) true) s) (fun t => t.fld (Reg.SPR_CHEALTH 255 16) 8 3 == 4 && t.fld (Reg.SPR_CHEALTH 255 16) 16 16 == 1 &&
      (t.reg Reg.SPR_GHOST_GEN).toNat == 1 && (t.reg Reg.SPR_GHOST_LAST).toNat == 1 + (255 + 16 * 256) * 16 + 2 ^ 26 + 2 ^ 31) &&
    shows (exec (.ghostTraffic 2 (BitVec.ofNat 22 (263 + 3 * 512)) false) s) (fun t => t.fld (Reg.SPR_BHEALTH 3 263) 8 3 == 2 && t.fld (Reg.SPR_BHEALTH 3 263) 16 16 == 1 &&
      (t.reg Reg.SPR_GHOST_ISO).toNat == 1)) = true := by decide +kernel

theorem test_reserveRecordWrite : shows (exec .reserveRecordWrite (put (Reg.SPR_CHEALTH 0 1) 0 8 5 worn31))
    (fun t => mget resetWord t.spr.recRegs (Reg.SPR_CHEALTH 0 1) % 256 == 5 && t.spr.recWear.length == 1) = true := by decide +kernel

theorem test_curatorMismatch : shows (exec .curatorMismatch State.reset) (fun t => t.cur.alert && (t.part 7).haltReqs == [.safety]) = true := by decide +kernel

/-- The last region of the part in a state of R373, owned by partition 2. -/
def reg7 (st : Nat) (x : VRegion) (s : State) : State :=
  put (Reg.VTR_REGION_STATE 7) 0 7 (st + 2 * 8) { s with vtr := { s.vtr with regions := vset s.vtr.regions 7 x, rel := vset s.vtr.rel 2 300, bout := [(256 * 7 + 255, true)] } }

/-- A waiting release is presented with its tag (R366). -/
theorem test_regionCopyUpdate : (let s := reg7 3 { VRegion.reset with pend := true } State.reset
    (7 < s.nRegions) && s.regOwner 7 == 2 && !s.regLost 7 &&
    shows (exec (.regionCopyUpdate 7 ⟨[], 6⟩) s) (fun t => (t.region 7).copy.getLsbD 255 && (t.region 7).strobe && !(t.region 7).pend && t.fld (Reg.VTR_REGION_STATE 7) 16 8 == 44) &&
    shows (exec (.regionCopyUpdate 7 ⟨[], 6⟩) (put (Reg.VTR_REGION_STATE 7) 12 1 1 s)) (fun t => (t.region 7).pend) &&
    shows (exec (.regionCopyUpdate 7 ⟨[], 6⟩) (reg7 3 VRegion.reset State.reset)) (fun t => (t.region 7).fabric.storage == 0)) = true := by decide +kernel

/-- A region whose macrocells 0 and 1 of block 1 add input lines 0 and 1 with carry, and drive their bits (R361, R362). -/
def adder : VNet :=
  let m : VMac :=
    { terms := [(0, ⟨1, 0⟩), (1, ⟨2, 0⟩)], steer := false, invert := false, store := .comb, net := 0, fall := false,
      enable := none, set := none, reset := none, carry := true, drives := true }
  { VNet.empty with
      blocks := vset VNet.empty.blocks 1
        { lines := [(0, .bout 2046), (1, .bout 2047)], macs := [(0, m), (1, { m with store := .dff })], carryIn := false } }

/-- 1 + 1 makes sum 0 and carry 1, which the next macrocell adds to 1 + 1 (R362); its flip-flop takes it at the edge (R361). -/
theorem test_fabric : (let s := reg7 3 { VRegion.reset with net := adder, copy := BitVec.ofNat 256 (3 * 2 ^ 254) } State.reset
    (s.driven 7 == 0) && s.edgeStorage 7 == BitVec.ofNat 512 (2 ^ 129)) = true := by decide +kernel

/-- A publish of a running region (R367); the later one replaces it; it moves and is counted. -/
theorem test_publish : (let s := put (Reg.VTR_REGION_STATE 7) 11 1 1 (reg7 3 { VRegion.reset with transit := some 9, net := adder, copy := BitVec.ofNat 256 (2 ^ 255) } State.reset)
    s.regOpen 7 && !s.regLost 7 &&
    shows (exec (.publish 7 [(7, ⟨5, 0⟩)] 6) s) (fun t => (t.region 7).transit == some (BitVec.ofNat 256 (2 ^ 64)) && (t.region 7).stepCopy == 0 && (t.region 7).fabric.cells == 6) &&
    shows (exec (.publish 7 [] 6) (put (Reg.VTR_REGION_STATE 7) 11 1 0 s)) (fun t => (t.region 7).transit == some 9 && (t.region 7).fabric.cells == 6) &&
    shows (exec (.publish 7 [] 6) (reg7 2 VRegion.reset State.reset)) (fun t => (t.region 7).transit.isNone) &&
    shows (exec (.publishMove 7) s) (fun t => (t.region 7).stepCopy == 9 && (t.region 7).transit.isNone && (t.reg (Reg.VTR_REGION_PUB 7)).toNat == 1) &&
    shows (exec (.publishMove 7) State.reset) (fun t => (t.reg (Reg.VTR_REGION_PUB 7)).toNat == 0)) = true := by decide +kernel

/-- A sighting with the tag of 300 releases, 44, and with another (R368). -/
theorem test_readySighting : (let s := reg7 3 { VRegion.reset with transit := some 9 } State.reset
    shows (exec (.readySighting 7 44) s) (fun t => t.fld (Reg.VTR_REGION_STATE 7) 24 1 == 1 && (t.region 7).stepCopy == 9) == (vget s.vtr.rel 2 == 44) &&
    shows (exec (.readySighting 7 43) s) (fun t => t.fld (Reg.VTR_REGION_STATE 7) 24 1 == 0 && (t.region 7).stepCopy == 9)) = true := by decide +kernel

/-- Home clock 5 goes and comes back (R365). -/
theorem test_homeClock : (let s := put Reg.VTR_CLK 0 8 0xFF (put (Reg.VTR_REGION_STATE 7) 7 3 5 (reg7 3 VRegion.reset State.reset))
    s.hasVtr && shows (exec (.homeClockLost 5) s) (fun t => t.regLost 7 && t.fld Reg.VTR_CLK 0 16 == 0x20DF && !t.regLost 6) &&
    shows (exec (.homeClockReturn 5) (put (Reg.VTR_REGION_STATE 7) 12 1 1 (put Reg.VTR_CLK 0 16 0x20DF s))) (fun t => !t.regLost 7 && t.fld Reg.VTR_CLK 0 16 == 0x20FF)) = true := by
  decide +kernel

/-- The image of a region. -/
def vimage : VImage := { id := 77, home := 5, pace := true, pubAlways := false, init := 9, isoCells := 3, isoSources := 4, delays := [], net := VNet.empty, cells := [(79, { VCell.plain with outDouble := true, oeDouble := true })] }

/-- Cell 639 drives its falling-edge value after a falling edge when it is double rate, nothing while its bank's VDDIO does not
match, and its isolation value while its region loads (R370, R372, R374). -/
theorem test_cellBall : (let f : FabricRegs := ⟨0, BitVec.ofNat 480 ((2 ^ 3 + 2 ^ 4 + 2 ^ 5) * 2 ^ 474)⟩
    let s := reg7 3 { VRegion.reset with fabric := f, cells := vimage.cells, isoCells := BitVec.ofNat 160 (3 * 2 ^ 158) } State.reset
    s.cellBall 639 false == some false && s.cellBall 639 true == some true && s.cellBall 638 true == none &&
    (put (Reg.VTR_BANK 9) 16 1 1 s).cellBall 639 true == none && (s.regionLoad 7 vimage).cellBall 639 true == some false &&
    (put (Reg.VTR_REGION_STATE 7) 0 3 4 s).cellBall 639 true == none) = true := by decide +kernel

/-- A load settles, or fails; a settled region runs (R373). -/
theorem test_regionLoadDone : (let s := reg7 1 { VRegion.reset with loading := some vimage } State.reset
    s.waiting.isEmpty && s.regState 7 == 1 &&
    shows (exec (.regionLoadDone 7 true) s) (fun t => t.regState 7 == 2 && t.reg (Reg.VTR_REGION_IMAGE 7) == 77 && t.fld (Reg.VTR_REGION_STATE 7) 7 3 == 5 && (t.region 7).fabric.storage == 9) &&
    shows (exec (.regionLoadDone 7 false) s) (fun t => t.regState 7 == 4 && (t.region 7).loading.isNone && t.reg (Reg.VTR_REGION_IMAGE 7) == 0) &&
    shows (exec (.regionSettled 7) (reg7 2 { VRegion.reset with loading := some vimage } State.reset)) (fun t => t.regOpen 7 && (t.region 7).isoCells == 3 && (t.region 7).isoSources == 4) &&
    shows (exec (.regionSettled 7) s) (fun t => t.regState 7 == 1)) = true := by decide +kernel

/-- Calibration of the last bank (R371). -/
theorem test_calibration : (let s := { State.reset with vtr := { Vtr.reset with calRun := [0, 9] } }
    (9 < s.nVtrBanks) && shows (exec (.vtrCalStart 0x201) State.reset) (fun t => t.vtr.calRun == [0, 9] && t.fld Reg.VTR_CAL_STATUS 0 1 == 1 && t.fld Reg.VTR_CAL 16 10 == 0x201) &&
    shows (exec (.calibrationDone 9) s) (fun t => t.vtr.calRun == [0] && t.fld Reg.VTR_CAL_STATUS 0 11 == 0x401) &&
    shows (exec (.calibrationDone 8) s) (fun t => t.vtr.calRun == [0, 9]) &&
    shows (exec .vtrCalApply (put Reg.VTR_CAL_STATUS 0 11 0x400 s)) (fun t => t.fld (Reg.VTR_BANK 9) 17 1 == 1 && t.fld (Reg.VTR_BANK 8) 17 1 == 0 && t.fld Reg.VTR_CAL_STATUS 1 10 == 0) &&
    shows (exec .vtrCalApply State.reset) (fun t => t.fld (Reg.VTR_BANK 9) 17 1 == 0)) = true := by decide +kernel

/-- A delay code is PENDING until the cell's next edge (R371). -/
theorem test_vtrDelayWrite : shows (exec (.vtrDelayWrite 639 0x12 0x34) State.reset) (fun t => (t.reg (Reg.VTR_DELAY 639)).toNat == 0x13412 && t.vtr.edges == [639]) = true := by decide +kernel

/-- A container of a type that passes every check of R388 once owner slot 1 is fused. -/
def cont (type : Nat) : Cont :=
  let total := if type = 5 then 0x61000 else 1024
  { head := BitVec.ofNat 256 (0x4D49424B + 2 ^ 32 + type * 2 ^ 48 + 0x10 * 2 ^ 64 + 2 ^ 72 + (if type = 5 then 2 else 1) * 2 ^ 96 + total * 2 ^ 128 + 77 * 2 ^ 192),
    segs := if type = 5 then [(3, 0, 0x80, 16), (0x107, 0, 0x100, 393216)] else [(if type = 3 then 0x12 else BitVec.ofNat 32 type, 0, 0x40, 64)],
    sig := BitVec.ofNat 64 (0x42474953 + (if type ≤ 2 then 0 else 1) * 2 ^ 32 + 2 ^ 40), crcOk := true, sigOk := true, digest := 5 }

/-- Keys: Heliosys's and owner slot 1. -/
def keyed (s : State) : State := put Reg.CFG_KEYS 0 2 3 s

/-- The header of R160 from some of its fields. -/
def ephHead (hdr variants rev depth shape ndev kib nsect resv : Nat) : List DWord :=
  [BitVec.ofNat 64 (0x4D485045 + 2 * 2 ^ 32 + hdr * 2 ^ 48), BitVec.ofNat 64 (0x10 + variants * 2 ^ 8 + rev * 2 ^ 16 + depth * 2 ^ 32),
   BitVec.ofNat 64 (shape + ndev * 2 ^ 48), 0, BitVec.ofNat 64 (kib + nsect * 2 ^ 32), 0, 0, BitVec.ofNat 64 resv, 0, 0, 0, 0, 0, 0, 0, 0]

/-- The four required sections of tile 0 of die 0 at depth 64, with their CRCs. -/
def ephTable (c1 c2 c4 c5 : Word) : List (Word × Word × DWord × DWord) :=
  [(1, c1, 0x1000, 524288), (2, c2, 0x100000, 131072), (4, c4, 0x140000, 68608), (5, c5, 0xFE0, 32)]

/-- An ephemeris for that shape with no listed word; no CRC. -/
def ephZero : EphRec := { head := ephHead 0x80 1 2 64 1 1 0 4 0, table := ephTable 0 0 0 0, length := 0x200000, data := [] }

/-- The same with the CRC of every section. -/
def ephRec : EphRec :=
  { ephZero with table := ephTable (crc32 (ephZero.sectBits 1)) (crc32 (ephZero.sectBits 2)) (crc32 (ephZero.sectBits 4)) (crc32 (ephZero.sectBits 5)) }

/-- A section's bits do not depend on its CRC. -/
theorem ephRec_sectBits : ephRec.sectBits 1 = ephZero.sectBits 1 ∧ ephRec.sectBits 2 = ephZero.sectBits 2 ∧ ephRec.sectBits 4 = ephZero.sectBits 4 ∧
    ephRec.sectBits 5 = ephZero.sectBits 5 := by
  have h : ∀ t, ephRec.len t = ephZero.len t → ephRec.sectBits t = ephZero.sectBits t := fun t h => by
    unfold EphRec.sectBits EphRec.listed
    rw [h]
    rfl
  exact ⟨h 1 (by decide +kernel), h 2 (by decide +kernel), h 4 (by decide +kernel), h 5 (by decide +kernel)⟩

/-- Check 14 passes. -/
theorem ephRec_badCrc : ephRec.badCrc = false := by
  obtain ⟨h1, h2, h4, h5⟩ := ephRec_sectBits
  have hs : ephRec.sections = [⟨1, 0, (crc32 (ephZero.sectBits 1)).toNat, 0x1000, 524288⟩, ⟨2, 0, (crc32 (ephZero.sectBits 2)).toNat, 0x100000, 131072⟩,
      ⟨4, 0, (crc32 (ephZero.sectBits 4)).toNat, 0x140000, 68608⟩, ⟨5, 0, (crc32 (ephZero.sectBits 5)).toNat, 0xFE0, 32⟩] := by
    have hn : ephRec.nSections = 4 := by decide +kernel
    unfold EphRec.sections
    rw [hn]
    rfl
  unfold EphRec.badCrc
  rw [hs]
  simp [h1, h2, h4, h5]

/-- The 25 checks pass if those before, at and after check 14 do. -/
theorem loadCheck_join (s : State) (n : Fin 8) (c : Cont) (e : EphRec) (len lo hi : Nat) (h1 : s.loadCheck n c e len 1 13 = none) (h2 : e.badCrc = false)
    (h3 : s.loadCheck n c e len 15 25 = none) (hl : 1 ≤ lo) (hh : hi ≤ 25) : s.loadCheck n c e len lo hi = none := by
  rw [loadCheck_none] at h1 h3 ⊢
  intro x hx ha hb
  by_cases a : x.1 ≤ 13
  · exact h1 x hx (hl.trans ha) a
  · by_cases b : 15 ≤ x.1
    · exact h3 x hx b (hb.trans hh)
    · have h14 : x.1 = 14 := by omega
      simp only [State.loadChecks, List.mem_cons, List.not_mem_nil, or_false] at hx
      rcases hx with h | h | h | h | h | h | h | h | h | h | h | h | h | h | h | h | h | h | h | h | h | h | h | h | h <;> subst h <;> first | exact h2 | (simp at h14)

/-- Changes of the ephemeris that one check each refuses. -/
def ephBad (hdr rev depth shape ndev kib nsect resv : Nat) : EphRec := { ephZero with head := ephHead hdr 1 rev depth shape ndev kib nsect resv }

/-- The checks of R168 but 14; each of these changes fails the one named. -/
theorem test_loadCheck : (let s := keyed State.reset
    let f := fun (c : Cont) (e : EphRec) => (s.loadCheck 5 c e 1024 1 13).map (·.2)
    let g := fun (e : EphRec) => (s.loadCheck 5 (cont 4) e 1024 15 25).map (·.2)
    f (cont 4) ephRec == none && g ephRec == none && f (cont 3) ephRec == some 1 && f { cont 4 with sig := 0x10242474953 } ephRec == some 2 && f { cont 4 with crcOk := false } ephRec == some 3 &&
    f (cont 4) (ephBad 0x40 2 64 1 1 0 4 0) == some 4 && f { cont 4 with head := (cont 4).head + 2 ^ 72 } ephRec == some 5 && f (cont 4) (ephBad 0x80 3 64 1 1 0 4 0) == some 6 &&
    f (cont 4) (ephBad 0x80 2 72 1 1 0 4 0) == some 8 && f (cont 4) (ephBad 0x80 2 64 1 2 0 4 0) == some 9 && f (cont 4) (ephBad 0x80 2 64 0x101 1 0 4 0) == some 11 &&
    f (cont 4) (ephBad 0x80 2 64 1 1 0 3 0) == some 13 && g (ephBad 0x80 2 64 1 1 0 4 1) == some 15 && g (ephBad 0x80 2 64 1 1 32769 4 0) == some 25) = true := by decide +kernel

/-- Check 14: the CRC-32 of 32 zero bytes is 0x190A55AD (R161). -/
theorem test_sectionCrc : (let e := fun (c : Word) => { ephZero with head := ephHead 0x80 1 2 64 1 1 0 1 0, table := [(5, c, 0x100, 32)] }
    !(e 0x190A55AD).badCrc && (e 0).badCrc) = true := by decide +kernel

/-- The state in which configuration has reached a stage. -/
def config (stage : Nat) (c : Cfg) : State := put Reg.CFG_STATUS 0 4 stage { keyed State.reset with cfg := c }

/-- A boot input. -/
def boot : Boot :=
  { join := true, curator := true, badCores := 0, flash := none, patch := none, board := none, record := false, badClusters := [], badBanks := [],
    ops := Vector.replicate 4 0, vddio := [] }

/-- A Curator that fails stops configuration (R397); a flash that does not answer leads to recovery mode. -/
theorem test_configurationStart : (let s := { State.reset with pin := { State.reset.pin with pwrOk := true } }
    s.inReset && s.pin.pwrOk && !s.pwr.tripped && s.reg Reg.CFG_STATUS == 0 && s.cfg == Cfg.reset &&
    shows (exec (.configurationStart { boot with curator := false }) s) (fun t => t.fld Reg.CFG_STATUS 4 4 == 3 && t.cur.alert)) = true := by decide +kernel

theorem test_configurationStart_noFlash : (let s := { State.reset with pin := { State.reset.pin with pwrOk := true } }
    shows (exec (.configurationStart boot) s) (fun t => t.docent == 3 && t.fld Reg.CFG_STATUS 4 4 == 4 && t.fld Reg.CFG_LINE 1 1 == 1)) = true := by
  decide +kernel

/-- A directory of one PATCH entry of 1,024 bytes in slot B without its CRC, and with a CRC (R383). -/
def dirBase : Nat := 0x5244424B + 7 * 2 ^ 32 + 2 ^ 64 + (2 + 3 * 2 ^ 16) * 2 ^ 512 + 1024 * 2 ^ 640
def flashDir (c : Word) : BitVec 32768 := BitVec.ofNat 32768 (dirBase + c.toNat * 2 ^ 32736)

/-- Bits below a sum's high part. -/
theorem bits_below (b c k lo w : Nat) (h : lo + w ≤ k) : (b + c * 2 ^ k) / 2 ^ lo % 2 ^ w = b / 2 ^ lo % 2 ^ w := by
  obtain ⟨m, rfl⟩ := Nat.exists_eq_add_of_le h
  rw [show c * 2 ^ (lo + w + m) = 2 ^ lo * (2 ^ w * (c * 2 ^ m)) by rw [Nat.pow_add, Nat.pow_add]; ring,
    Nat.add_mul_div_left _ _ (Nat.two_pow_pos lo), Nat.add_mul_mod_self_left]

theorem dirBase_lt (k : Nat) (h : 255 ≤ k) : dirBase < 2 ^ (k + 445) :=
  Nat.lt_of_lt_of_le (show dirBase < 2 ^ 200 * 2 ^ 250 * 2 ^ 250 by decide +kernel)
    (by rw [← Nat.pow_add, ← Nat.pow_add]; exact Nat.pow_le_pow_right (by decide) (by omega))

theorem ofNat_parts (b c k w : Nat) (hb : b < 2 ^ k) (hc : c + 1 ≤ 2 ^ w) : (BitVec.ofNat (w + k) (b + c * 2 ^ k)).toNat = b + c * 2 ^ k := by
  rw [BitVec.toNat_ofNat, Nat.pow_add]
  refine Nat.mod_eq_of_lt (Nat.lt_of_lt_of_le (Nat.add_lt_add_right hb _) ?_)
  rw [Nat.add_comm, ← Nat.succ_mul]
  exact Nat.mul_le_mul_right _ hc

theorem flashDir_toNat (c : Word) : (flashDir c).toNat = dirBase + c.toNat * 2 ^ 32736 :=
  ofNat_parts dirBase c.toNat 32736 32 (dirBase_lt 32291 (by decide)) c.isLt

theorem flashDir_bytes (c : Word) (a n : Nat) (h : 8 * a + 8 * n ≤ 32736) : dirBytes (flashDir c) a n = dirBase / 2 ^ (8 * a) % 2 ^ (8 * n) := by
  unfold dirBytes bitsAt
  rw [flashDir_toNat]
  exact bits_below _ _ _ _ _ h

theorem flashDir_ok (c : Word) (hc : crc32 (numBits 32736 dirBase) = c) : dirOk (flashDir c) = true := by
  have hn : numBits (8 * 0xFFC) (flashDir c).toNat = numBits 32736 dirBase := by
    unfold numBits
    refine List.map_congr_left fun i hi => ?_
    have := List.mem_range.mp hi
    unfold bitOf
    rw [flashDir_toNat]
    have h := bits_below dirBase c.toNat 32736 i 1 (by omega)
    simp only [Nat.pow_one] at h
    rw [h]
  have he : dirBytes (flashDir c) 0xFFC 4 = c.toNat := by
    unfold dirBytes bitsAt
    rw [flashDir_toNat, show 8 * 0xFFC = 32736 from rfl, Nat.add_mul_div_right _ _ (Nat.two_pow_pos _),
      Nat.div_eq_of_lt (dirBase_lt 32291 (by decide)), Nat.zero_add]
    exact Nat.mod_eq_of_lt c.isLt
  unfold dirOk
  rw [hn, hc, he, flashDir_bytes c 0 4 (by decide), flashDir_bytes c 8 1 (by decide), beq_self_eq_true, Bool.and_true]
  decide +kernel

theorem boot_dir (x : BitVec 32768 × BitVec 32768) : { boot with flash := some x }.dir = (dirPick x.1 x.2).map dirEntries := rfl

theorem flashDir_boot (c : Word) (hc : crc32 (numBits 32736 dirBase) = c) :
    { boot with flash := some (0, flashDir c) }.dir = some [⟨2, true, true, 0, 1024⟩] := by
  rw [boot_dir]
  have h0 : dirOk 0 = false := by unfold dirOk; rw [show (dirBytes 0 0 4 == 0x5244424B) = false by decide +kernel, Bool.false_and, Bool.false_and, Bool.false_and]
  have hp : dirPick 0 (flashDir c) = some (flashDir c) := by unfold dirPick; rw [h0, flashDir_ok c hc, if_neg Bool.false_ne_true, if_pos rfl]
  have he : dirEntries (flashDir c) = [⟨2, true, true, 0, 1024⟩] := by
    unfold dirEntries
    rw [flashDir_bytes c 8 1 (by decide), show dirBase / 2 ^ (8 * 8) % 2 ^ (8 * 1) = 1 by decide +kernel, List.range_one, List.map_cons, List.map_nil]
    show [DirEntry.mk (dirBytes (flashDir c) 64 2) (dirBytes (flashDir c) 66 2 % 2 == 1) (dirBytes (flashDir c) 66 2 / 2 % 2 == 1)
      (dirBytes (flashDir c) 72 8) (dirBytes (flashDir c) 80 8)] = _
    rw [flashDir_bytes c 64 2 (by decide), flashDir_bytes c 66 2 (by decide), flashDir_bytes c 72 8 (by decide), flashDir_bytes c 80 8 (by decide)]
    decide +kernel
  exact (congrArg (Option.map dirEntries) hp).trans (congrArg some he)

/-- A good copy counts where the other is bad, and gives its entries (R383).  FLASH_WRITE moves ACTIVE (R442). -/
theorem test_flashDir : (∃ d, { boot with flash := some (0, d) }.dir = some [⟨2, true, true, 0, 1024⟩]) ∧
    dirWritten [⟨2, true, true, 0, 1024⟩] 2 64 false = [⟨2, false, true, 0, 1024⟩, ⟨2, true, false, 0, 64⟩] :=
  ⟨⟨flashDir (crc32 (numBits 32736 dirBase)), flashDir_boot _ (Eq.refl _)⟩, by decide⟩

/-- Stage 3 runs out with no Docent image (R381). -/
theorem test_stageTimeout : (let s := config 3 Cfg.reset
    s.configuring && shows (exec (.stageTimeout 3 0) s) (fun t => t.docent == 3 && t.fld Reg.CFG_STATUS 4 4 == 4 && t.cur.alert) &&
    !(State.configuring State.reset)) = true := by decide +kernel

/-- The ACTIVE image, the other one, and none (R380). -/
theorem test_docentStarted : (let s := config 3 Cfg.reset
    s.contCheck (cont 1) 1 1024 == none && s.configuring &&
    shows (exec (.docentStarted true (some (cont 1, 1024)) none) s) (fun t => t.docent == 1 && t.fld Reg.CFG_STATUS 8 2 == 1 && t.cfg.docentUp) &&
    shows (exec (.docentStarted true none (some (cont 1, 1024))) s) (fun t => t.docent == 1 && t.fld Reg.CFG_STATUS 8 2 == 2) &&
    shows (exec (.docentStarted true none none) s) (fun t => t.docent == 3) &&
    shows (exec (.docentStarted true none none) State.reset) (fun t => t.docent == State.reset.docent)) = true := by decide +kernel

/-- The lane wait ends and stage 6 begins (R381). -/
theorem test_cfgLaneWaitExpiry : (let s := config 5 { Cfg.reset with docentUp := true }
    s.configuring && (List.finRange 8).all (fun i => s.portState i != 2 && decide (s.portState i ≤ 4)) &&
    shows (exec .cfgLaneWaitExpiry s) (fun t => t.fld Reg.CFG_STATUS 0 4 == 6 && t.cfg.lanesOver)) = true := by decide +kernel

theorem test_configurationDone : (let s := config 7 { Cfg.reset with degraded := true }
    s.configuring && shows (exec .configurationDone s) (fun t => t.fld Reg.CFG_STATUS 0 8 == 0x28 && t.fld Reg.CFG_LINE 1 1 == 0 && (t.phmOf 3).running)) = true := by
  decide +kernel

theorem test_cfgDoneRelease : shows (exec .cfgDoneRelease (put Reg.CFG_LINE 1 1 1 State.reset)) (fun t => t.fld Reg.CFG_LINE 1 1 == 0 && t.cfg.released) = true := by
  decide +kernel

/-- RESET keeps the keys and the timebase, and abandons what ran (R379). -/
theorem test_resetAbandon : (let s := keyed (at_ 2 (part 1 0))
    shows (exec .resetAbandon { s with lnk := { s.lnk with timebase := 9 } }) (fun t => (t.part 2).state == .empty && t.fld Reg.CFG_KEYS 0 2 == 3 && t.lnk.timebase == 9)) = true := by
  decide +kernel

/-- A go acts when CFG_DONE is high (R395); it starts partition 7, which waits, and not partition 6. -/
theorem test_goAct : (let w : Part := { part 9 0 with state := .armed, goWait := true, frame := 12 }
    let s := put Reg.CFG_LINE 4 1 1 ((State.reset.setPart 7 w).setPart 6 { w with goWait := false })
    s.fld Reg.CFG_LINE 1 1 == 0 && s.goWaiters == [7] && shows (exec .frameGo State.reset) (fun t => t.fld Reg.CFG_LINE 4 1 == 1) &&
    shows (exec .goAct s) (fun t => (t.part 7).state == .running && (t.part 7).step == 0 && (t.part 7).cur == 12 && (t.part 6).state == .armed &&
      t.fld Reg.CFG_GO_COUNT 0 32 == 1 && t.fld Reg.CFG_LINE 2 3 == 1) &&
    shows (exec .goAct State.reset) (fun t => t.fld Reg.CFG_LINE 2 1 == 1) &&
    shows (exec .goAct (put Reg.CFG_LINE 1 1 1 s)) (fun t => (t.part 7).state == .armed)) = true := by decide +kernel

/-- An entry of the autoload list for partition 7. -/
def auto (kind : Nat) (req : Bool) : AutoEntry := ⟨kind, 7, false, false, false, req, 0, 0, 0, 0⟩

/-- Autoload (R391): an empty entry, an image that cannot be read, one that fails check 8, and one that loads. -/
theorem test_autoloadEntry : (let s := config 6 { Cfg.reset with dir := [⟨4, true, false, 0, 1024⟩], autos := [auto 0 false, auto 1 true] }
    let u := { s with cfg := { s.cfg with next := 1 } }
    s.configuring && s.cfg.autos[s.cfg.next]? == some (auto 0 false) && s.fld Reg.CFG_FAIL 31 1 == 0 &&
    shows (exec (.autoloadEntry .absent) s) (fun t => t.cfg.next == 1 && t.fld Reg.CFG_STATUS 0 4 == 6 && !t.cfg.degraded) &&
    shows (exec (.autoloadEntry .absent) u) (fun t => t.fld Reg.CFG_FAIL 0 24 == 6 + 9 * 16 + 2 ^ 12 + Status.range.code * 2 ^ 16 && t.cfg.failed && t.fld Reg.CFG_STATUS 0 4 == 7) &&
    s.autoLen (auto 1 true) 0 == some 1024 && u.loadCheck 7 (cont 4) (ephBad 0x80 2 72 1 1 0 4 0) 1024 1 17 == some (.range, 8) &&
    shows (exec (.autoloadEntry (.eph (cont 4) 1024 (ephBad 0x80 2 72 1 1 0 4 0) true)) u) (fun t =>
      (t.reg (Reg.CFG_LOAD 7)).toNat == Status.range.code + 8 * 2 ^ 8 + 2 ^ 16 + 2 ^ 31 && (t.part 7).state == .empty)) = true := by decide +kernel

/-- An image that passes every check. -/
theorem test_autoloadEntry_loads : (config 6 { Cfg.reset with dir := [⟨4, true, false, 0, 1024⟩], autos := [auto 1 true] }).loadCheck 7 (cont 4) ephRec 1024 1 17 = none ∧
    (config 6 { Cfg.reset with dir := [⟨4, true, false, 0, 1024⟩], autos := [auto 1 true] }).loadCheck 7 (cont 4) ephRec 1024 18 25 = none ∧ ephRec.loanBanks = [] ∧
    (ephRec.toEph .f).depth = 64 ∧ (ephRec.toEph .f).dieMask = 1 :=
  have h1 : (config 6 { Cfg.reset with dir := [⟨4, true, false, 0, 1024⟩], autos := [auto 1 true] }).loadCheck 7 (cont 4) ephRec 1024 1 13 = none := by decide +kernel
  have h2 : (config 6 { Cfg.reset with dir := [⟨4, true, false, 0, 1024⟩], autos := [auto 1 true] }).loadCheck 7 (cont 4) ephRec 1024 15 25 = none := by decide +kernel
  ⟨loadCheck_join _ _ _ _ _ _ _ h1 ephRec_badCrc h2 (by decide) (by decide), loadCheck_join _ _ _ _ _ _ _ h1 ephRec_badCrc h2 (by decide) (by decide),
    by decide +kernel, by decide +kernel, by decide +kernel⟩

/-- The gathered counts of a Photometer. -/
def gathered (g : Nat) (run : Nat × Nat) : Phm :=
  { Phm.reset with gCount := vset Phm.reset.gCount 7 g, gRun := vset Phm.reset.gRun 7 run, kCur := vset Phm.reset.kCur 7 2, gather := mset dNat [] 1023 55, gFirst := vset Phm.reset.gFirst 7 (2 ^ 24 + 3) }

/-- A handover with the run at the end of the counts (R403); one frame less is not due. -/
theorem test_handover : (let s := fun g => State.reset.setPhm 3 (gathered g (1023, 1))
    (s 2).hasDie 3 && !vget ((s 2).phmOf 3).batch 7 && vget ((s 2).phmOf 3).kCur 7 == 2 &&
    shows (exec (.handover 3 7) (s 2)) (fun t => let q := t.phmOf 3
      q.x 1023 == 55 && mget dNat q.gather 1023 == 0 && q.x 0x438 == 2 && q.x 0x439 == 3 && q.x 0x43A == 1 && q.x 0x43C == 1 && q.x 0x43D == 1023 && vget q.batch 7 && vget q.gCount 7 == 0) &&
    shows (exec (.handover 3 7) (s 1)) (fun t => !vget (t.phmOf 3).batch 7)) = true := by decide +kernel

/-- The Photometer of die 3, its core running at P address 4095 with the word given. -/
def core3 (op rest : Nat) (f : Phm → Phm) : State :=
  State.reset.setPhm 3 (f { Phm.reset with running := true, pc := 4095, prog := mset dProg [] 4095 (BitVec.ofNat 32 (op * 2 ^ 26 + rest)) })

/-- The word at the core of die 3 stands at an opcode. -/
def stands (op : Nat) (s : State) : Bool := s.hasDie 3 && (s.phmOf 3).running && !(s.phmOf 3).haltAsked && bitsAt (s.phmOf 3).word 26 6 == op

/-- The core of die 3 afterwards. -/
def phm3 (c : Instr) (s : State) (f : Phm → Bool) : Bool := shows (exec c s) (fun t => f (t.phmOf 3))

/-- X word 0x0C00 is all ones, Y word 4095 two. -/
def mems (p : Phm) : Phm :=
  { p with xmem := mset dPWord [] 0x0C00 0xFFFFFF, ymem := mset dPWord [] 4095 2, ix := vset (vset p.ix 0 0x0C00) 1 4095, acc := vset p.acc 2 5 }

theorem test_clra : (let s := core3 1 (4 * 2 ^ 22) mems
    stands 1 s && phm3 (.clra 3) s (fun q => vget q.acc 2 == 0 && q.pc == 0) && phm3 (.phmNop 3) s (fun q => q.pc == 4095)) = true := by decide +kernel

/-- MAC: 5 + (2^24 - 1) × 2, or signed 5 - (-1) × 2; IX0 goes round the ring of length 1, IX1 on by 1 (R408, R410). -/
theorem test_mac : (let w := 2 * 2 ^ 24 + 2 ^ 19 + 2 ^ 16 + 2 ^ 14
    let f := fun p => { mems p with bx := vset p.bx 0 0x0C00, lx := vset p.lx 0 1 }
    stands 4 (core3 4 w f) && phm3 (.mac 3) (core3 4 w f) (fun q => (vget q.acc 2).toNat == 33554435 && vget q.ix 0 == 0x0C00 && vget q.ix 1 == 4096) &&
    phm3 (.mac 3) (core3 4 (w + 2 ^ 13 + 2 ^ 12) f) (fun q => (vget q.acc 2).toNat == 7 && !q.ovf && q.lastAcc == [2])) = true := by decide +kernel

/-- The accumulation wraps and sets OVF (R408). -/
theorem test_mac_ovf : phm3 (.mac 3) (core3 4 (2 * 2 ^ 24 + 2 ^ 16) fun p => { mems p with acc := vset p.acc 2 (BitVec.ofNat 56 (2 ^ 55 - 1)) })
    (fun q => q.ovf && (vget q.acc 2).toInt == -(2 ^ 55) + 33554429) = true := by decide +kernel

/-- MAC2 on the pair 2, 3 with odd indices (R412). -/
theorem test_mac2 : (let s := core3 5 (2 ^ 25 + 2 ^ 21) fun p => { mems p with ix := vset (vset p.ix 0 0x0C01) 1 4095 }
    stands 5 s && phm3 (.mac2 3) s (fun q => (vget q.acc 2).toNat == 5 && (vget q.acc 3).toNat == 0 && vget q.ix 0 == 0x0C03)) = true := by decide +kernel

/-- ADDA just after a write of what it reads takes a cycle more (R415). -/
theorem test_adda : (let s := core3 6 (2 ^ 24 + 2 * 2 ^ 22 + 2 ^ 21) fun p => { mems p with lastAcc := [2] }
    stands 6 s && phm3 (.adda 3) s (fun q => (vget q.acc 1).toInt == -5) && shows (exec (.adda 3) s) (fun t => (t.reg (Reg.PHM_BUSY 3)).toNat == 2)) = true := by
  decide +kernel

/-- ST rounds half up and saturates; outside the general area it halts with error 3 (R409, R412). -/
theorem test_st : (let s := core3 8 (2 * 2 ^ 24 + 2 ^ 14) mems
    stands 8 s && phm3 (.st 3) s (fun q => q.x 0x0C00 == 3 && !q.stsat) &&
    phm3 (.st 3) (core3 8 (2 * 2 ^ 24) fun p => { mems p with acc := vset p.acc 2 (-1) }) (fun q => q.x 0x0C00 == 0 && q.stsat) &&
    phm3 (.st 3) (core3 8 (2 * 2 ^ 24 + 2 ^ 12) mems) (fun q => q.x 0x0C00 == 5 && q.x 0x0C01 == 0) &&
    phm3 (.st 3) (core3 8 (2 * 2 ^ 24) fun p => { mems p with ix := vset p.ix 0 0x0BFF }) (fun q => q.err == 3 && !q.running && q.pc == 4095)) = true := by
  decide +kernel

theorem test_ld : (let s := core3 9 (3 * 2 ^ 24 + 2 ^ 23 + 2 ^ 21 + 3 * 2 ^ 19) mems
    stands 9 s && phm3 (.ld 3) s (fun q => vget q.dreg 3 == 2 && vget q.ix 1 == 4094)) = true := by decide +kernel

theorem test_ldi : (let s := core3 10 (3 * 2 ^ 24 + 0xFFFFFF) id
    stands 10 s && phm3 (.ldi 3) s (fun q => vget q.dreg 3 == 0xFFFFFF)) = true := by decide +kernel

theorem test_std : (let s := core3 11 0 fun p => { mems p with dreg := vset p.dreg 0 9 }
    stands 11 s && phm3 (.std 3) s (fun q => q.x 0x0C00 == 9) &&
    phm3 (.std 3) (core3 11 (2 * 2 ^ 22) mems) (fun q => q.err == 3 && q.xmem.length == 1)) = true := by decide +kernel

theorem test_setx : (let s := core3 12 (2 * 2 ^ 24 + 3 * 2 ^ 22 + 0x1FFF) id
    stands 12 s && phm3 (.setx 3) s (fun q => vget q.lx 3 == 0x1FFF && vget q.ix 3 == 0 && vget q.bx 3 == 0)) = true := by decide +kernel

/-- MODX with −1 below a ring of 3 at 10 goes to its end (R410). -/
theorem test_modx : (let s := core3 13 (3 * 2 ^ 24 + 0x1FFF) fun p => { p with ix := vset p.ix 3 10, bx := vset p.bx 3 10, lx := vset p.lx 3 3 }
    stands 13 s && phm3 (.modx 3) s (fun q => vget q.ix 3 == 12)) = true := by decide +kernel

theorem test_movx : (let s := core3 14 (3 * 2 ^ 24 + 2 ^ 22) fun p => { p with dreg := vset p.dreg 1 0xFFFFFF }
    stands 14 s && phm3 (.movx 3) s (fun q => vget q.ix 3 == 0x1FFF)) = true := by decide +kernel

theorem test_phmNop : (stands 0 (core3 0 0 id) && phm3 (.phmNop 3) (core3 0 0 fun p => { p with rep := some ⟨4094, 4095, 2⟩ })
    (fun q => q.pc == 4094 && q.rep == some ⟨4094, 4095, 1⟩)) = true := by decide +kernel

/-- REP of 16 instructions (R413); of count 0 it skips them; inside a block it stops with error 2. -/
theorem test_rep : (let s := core3 16 (15 * 2 ^ 22 + 5) id
    stands 16 s && phm3 (.rep 3) s (fun q => q.pc == 0 && q.rep == some ⟨0, 15, 5⟩) &&
    phm3 (.rep 3) (core3 16 (15 * 2 ^ 22) id) (fun q => q.pc == 16 && q.rep.isNone) &&
    phm3 (.rep 3) (core3 16 5 fun p => { p with rep := some ⟨4090, 4095, 1⟩ }) (fun q => q.err == 2 && !q.running)) = true := by decide +kernel

theorem test_br : (let w := fun c => c * 2 ^ 22 + 77
    stands 17 (core3 17 (w 3) id) && phm3 (.br 3) (core3 17 (w 3) fun p => { p with acc := vset p.acc 0 (-1) }) (fun q => q.pc == 77) &&
    phm3 (.br 3) (core3 17 (w 3) id) (fun q => q.pc == 0) && phm3 (.br 3) (core3 17 (w 4) id) (fun q => q.pc == 77) &&
    phm3 (.br 3) (core3 17 (w 2) id) (fun q => q.pc == 0) && phm3 (.br 3) (core3 17 (w 15) id) (fun q => q.pc == 0)) = true := by decide +kernel

theorem test_djnz : (let s := core3 18 (3 * 2 ^ 24 + 77) id
    stands 18 s && phm3 (.djnz 3) s (fun q => vget q.dreg 3 == 0xFFFFFF && q.pc == 77) &&
    phm3 (.djnz 3) (core3 18 (3 * 2 ^ 24 + 77) fun p => { p with dreg := vset p.dreg 3 1 }) (fun q => q.pc == 0)) = true := by decide +kernel

/-- WAIT: the lowest pending batch of the mask, the TIMER, and none (R414). -/
theorem test_wait : (let s := core3 20 0x2FF fun p => { p with batch := vset (vset p.batch 7 true) 6 true, timer := 3 }
    stands 20 s && phm3 (.wait 3) s (fun q => vget q.dreg 0 == 6 && vget q.dreg 3 == 0x430 && q.pc == 0) &&
    phm3 (.wait 3) (core3 20 0x2FF fun p => { p with timer := 3 }) (fun q => vget q.dreg 0 == 9 && vget q.dreg 1 == 3 && q.timer == 0) &&
    phm3 (.wait 3) (core3 20 0x2FF id) (fun q => q.waiting && q.pc == 4095)) = true := by decide +kernel

theorem test_phmHalt : (stands 63 (core3 63 0 id) && phm3 (.phmHalt 3) (core3 63 0 id) (fun q => !q.running && q.err == 0) &&
    phm3 (.phmHalt 3) (core3 63 0 fun p => { p with rep := some ⟨4090, 4095, 1⟩ }) (fun q => q.err == 2)) = true := by decide +kernel

theorem test_phmReservedOp : (!phmOps.contains 0x3E && phmOps.contains 0x3F && phm3 (.phmReservedOp 3) (core3 0x3E 0 id) (fun q => !q.running && q.err == 1) &&
    phm3 (.phmReservedOp 3) (core3 0x3F 0 id) (fun q => q.running)) = true := by decide +kernel

/-- EMIT of batch 7, of one that is not pending, and with a full queue (R417). -/
theorem test_emit : (let f := fun (p : Phm) => { mems p with dreg := vset p.dreg 0 7, batch := vset p.batch 7 true }
    let s := core3 0x18 (2 * 2 ^ 24) f
    stands 0x18 s && vget (s.phmOf 3).gCount 7 == 0 &&
    phm3 (.emit 3) s (fun q => !vget q.batch 7 && q.out.map (fun r => (r.w2, r.w0 / 2 ^ 48)) == [(5, 2 ^ 8 + 31)]) &&
    phm3 (.emit 3) (core3 0x18 0 fun p => { f p with dreg := p.dreg }) (fun q => q.err == 4 && q.out.isEmpty) &&
    phm3 (.emit 3) (core3 0x18 0 fun p => { f p with out := List.replicate 16 ⟨0, 0, 0⟩ }) (fun q => q.pc == 4095 && q.out.length == 16)) = true := by decide +kernel

theorem test_put : (let s := core3 0x19 (2 * 2 ^ 24 + 2 ^ 16 + 0xAB) mems
    stands 0x19 s && phm3 (.put 3) s (fun q => q.out == [⟨3 * 2 ^ 51 + 2 * 2 ^ 56, 0xAB * 2 ^ 32, 3⟩])) = true := by decide +kernel

/-- START, HALT and CLR_FLAGS from outside (R407, R421, R422). -/
theorem test_phmStart : (let s := State.reset.setPhm 3 { mems Phm.reset with ovf := true }
    phm3 (.phmStart 3) s (fun q => q.running && q.pc == 0 && q.ovf && vget q.acc 2 == 0) &&
    shows (exec (.phmStart 3) (core3 0 0 mems)) (fun t => vget (t.phmOf 3).acc 2 == 5 && (t.reg Reg.MBX_ACCLOG_COUNT).toNat == 1)) = true := by decide +kernel

theorem test_phmCtrlHalt : (phm3 (.phmCtrlHalt 3) (core3 20 0 fun p => { p with waiting := true }) (fun q => !q.running && !q.waiting) &&
    phm3 (.phmCtrlHalt 3) (core3 0 0 id) (fun q => q.running && q.haltAsked) &&
    phm3 (.phmNop 3) (core3 0 0 fun p => { p with haltAsked := true }) (fun q => !q.running && q.pc == 0)) = true := by decide +kernel

theorem test_clrFlags : (phm3 (.clrFlags 3) (State.reset.setPhm 3 { Phm.reset with ovf := true, stsat := true }) (fun q => !q.ovf && !q.stsat) &&
    phm3 (.clrFlags 3) (core3 0 0 fun p => { p with ovf := true }) (fun q => q.ovf)) = true := by decide +kernel

theorem test_phmTimer : (phm3 (.phmTimer 3) (Tests.put (Reg.PHM_TIMER 3) 0 16 1 State.reset) (fun q => q.timer == 1) &&
    phm3 (.phmTimer 3) (Tests.put (Reg.PHM_TIMER 3) 0 16 0 State.reset) (fun q => q.timer == 0)) = true := by decide +kernel

/-- The result ring of die 3 with head and tail given, and records in the queue. -/
def ring3 (head tail : Nat) (out : List PhmRec) : State :=
  let s := Tests.put (Reg.PHM_RING_TAIL 3) 0 11 tail (Tests.put (Reg.PHM_RING_HEAD 3) 0 11 head (Tests.put (Reg.PHM_RING 3) 0 9 (255 + 256) State.reset))
  (Tests.put (Reg.VLT_LOAN 3 255) 0 4 9 s).setPhm 3 { Phm.reset with out := out }

/-- A ring with one place left takes a record, one with none drops it (R418, R419). -/
theorem test_resultRecordOut : (let r : PhmRec := ⟨2 ^ 56 + 2 * 2 ^ 48, 0, 5⟩
    let w : PhmRec := ⟨2 * 2 ^ 56, 7, 8⟩
    (ring3 2047 1 []).loanOwner 1023 == 9 && (ring3 2047 1 []).tly.rows.isEmpty &&
    shows (exec (.resultRecordOut 3) (ring3 2047 1 [w])) (fun t => t.fld (Reg.PHM_RING_HEAD 3) 0 11 == 0 && t.vword 1023 (4 * 2047 + 1) == 7 && (t.phmOf 3).out.isEmpty) &&
    shows (exec (.resultRecordOut 3) (ring3 2047 0 [w])) (fun t => t.fld (Reg.PHM_RING_HEAD 3) 0 11 == 2047 && (t.reg (Reg.PHM_RING_DROP 3)).toNat == 1) &&
    shows (exec (.resultRecordOut 3) (ring3 2047 0 [r])) (fun t => t.tly.rows == [⟨2, t.tenant 2, 0, 0, 0, 5, false, false⟩])) = true := by decide +kernel

/-- The tail may reach the head and not pass it (R418). -/
theorem test_phmRingTailWrite : (shows (exec (.phmRingTailWrite 3 3) (ring3 3 2040 [])) (fun t => t.fld (Reg.PHM_RING_TAIL 3) 0 11 == 3) &&
    shows (exec (.phmRingTailWrite 3 4) (ring3 3 2040 [])) (fun t => t.fld (Reg.PHM_RING_TAIL 3) 0 11 == 2040 && (t.reg Reg.MBX_ACCLOG_COUNT).toNat == 1)) = true := by
  decide +kernel

/-- A converter sample. -/
def smp (code : BitVec 12) : Smp := ⟨code, false, false⟩

/-- A state whose converters are a. -/
def adc (a : Adc) (s : State) : State := { s with adc := a }

/-- The state in a phase of power. -/
def phase (p : Phase) (s : State) : State := { s with pwr := { s.pwr with phase := p } }

/-- A slot converts entry 0, and the next becomes 1 when two are in use (R430); EARLY while the reference settles (R433). -/
theorem test_adcSlot : (let s := Tests.put Reg.ADC_CFG 8 5 1 (Tests.put (Reg.ADC_SEQ 0) 0 32 (3 + 18 * 2 ^ 24 + 31 * 2 ^ 8 + 31 * 2 ^ 16) State.reset)
    s.adc.ref == s.adcRef && s.pwr.phase == .run && s.fld Reg.ADC_STATUS 2 1 == 0 &&
    shows (exec (.adcSlot (smp 7) (smp 0) (smp 0) ⟨9, true, true⟩) s) (fun t =>
      t.adc.conv == [3 * 2 ^ 24 + 2 ^ 16 + 7, 78 * 2 ^ 24 + 2 ^ 16 + 2 ^ 15 + 3 * 2 ^ 12 + 0xFFF] && t.fld Reg.ADC_STATUS 8 5 < 2)) = true := by
  decide +kernel

/-- A trigger starts an injected run, which ends with its last entry (R432). -/
theorem test_adcSlot_injected : (let s := Tests.put Reg.ADC_CFG 16 2 1 (Tests.put (Reg.ADC_INJ 0) 0 32 0x1F1F1F05 (adc { Adc.reset with trig := true } State.reset))
    let u := Tests.put Reg.ADC_CFG 16 2 1 (adc { Adc.reset with run := some 0, sels := [0, 0x1F1F1F06] } State.reset)
    shows (exec (.adcSlot (smp 7) (smp 0) (smp 0) (smp 0)) s) (fun t => t.adc.run == some 0 && t.adc.conv == [5 * 2 ^ 24 + 2 ^ 17 + 2 ^ 16 + 7] && t.fld Reg.ADC_STATUS 1 1 == 1) &&
    shows (exec (.adcSlot (smp 7) (smp 0) (smp 0) (smp 0)) u) (fun t => t.adc.run == some 1 && t.adc.conv == [6 * 2 ^ 24 + 2 ^ 18 + 2 ^ 17 + 2 ^ 16 + 7])) = true := by
  decide +kernel

/-- A conversion that ends enters the ring at its last place, and is dropped at the next (R434). -/
theorem test_adcSlot_record : (let r := 19 * 2 ^ 24 + 5
    let s := fun tail => Tests.put Reg.ADC_RING_TAIL 0 14 tail (Tests.put Reg.ADC_RING_HEAD 0 14 16383 (Tests.put Reg.ADC_RING 0 11 (254 + 2 ^ 10)
      (Tests.put (Reg.VLT_LOAN 0 254) 0 4 11 (adc { Adc.reset with conv := [r] } State.reset))))
    (List.finRange 4).all (fun d => (List.finRange 4).all fun k => (s 1).fld (Reg.PHM_TAP d k) 8 1 == 0) && (s 1).loanOwner 254 == 11 &&
    shows (exec (.adcSlot (smp 0) (smp 0) (smp 0) (smp 0)) (s 1)) (fun t => (t.reg (Reg.ADC_LAST 19)).toNat == r && t.fld Reg.ADC_RING_HEAD 0 14 == 0 &&
      bitsAt (t.vword 254 8191) 32 32 == r) &&
    shows (exec (.adcSlot (smp 0) (smp 0) (smp 0) (smp 0)) (s 0)) (fun t => (t.reg Reg.ADC_RING_DROP).toNat == 1 && t.fld Reg.ADC_RING_HEAD 0 14 == 16383)) = true := by
  decide +kernel

/-- A droop fires when it rose or has re-armed; INJ_GO during a run is pending; in DORMANT nothing happens (R431, R435). -/
theorem test_droop : (let s := Tests.put Reg.ADC_CFG 20 1 1 State.reset
    s.isSupply 74 && !s.isSupply 16 && shows (exec (.droop 74 false false) s) (fun t => t.adc.trig && t.fld Reg.ADC_CAUSE 1 1 == 1 && t.fld Reg.ADC_CAUSE 8 8 == 74) &&
    shows (exec (.droop 74 false false) (adc { Adc.reset with fired := [74] } s)) (fun t => !t.adc.trig) &&
    shows (exec (.injGo false) (adc { Adc.reset with run := some 0 } s)) (fun t => !t.adc.trig && t.fld Reg.ADC_STATUS 2 1 == 1 && t.fld Reg.ADC_CAUSE 0 1 == 1) &&
    shows (exec (.injGo true) s) (fun t => !t.adc.trig && t.adc.late == 1) &&
    shows (exec (.injGo false) (phase .dormant s)) (fun t => !t.adc.trig)) = true := by decide +kernel

theorem test_refSettled : (shows (exec .refSettled State.reset) (fun t => t.fld Reg.ADC_STATUS 0 1 == 1) &&
    shows (exec .refSettled (phase .dormant (Tests.put Reg.ADC_STATUS 0 1 0 State.reset))) (fun t => t.fld Reg.ADC_STATUS 0 1 == 0)) = true := by decide +kernel

theorem test_adcRingTailWrite : (let s := Tests.put Reg.ADC_RING_TAIL 0 14 16380 (Tests.put Reg.ADC_RING_HEAD 0 14 3 State.reset)
    shows (exec (.adcRingTailWrite .mgmt 3) s) (fun t => t.fld Reg.ADC_RING_TAIL 0 14 == 3) &&
    shows (exec (.adcRingTailWrite .mgmt 4) s) (fun t => t.fld Reg.ADC_RING_TAIL 0 14 == 16380 && (t.reg Reg.MBX_ACCLOG_COUNT).toNat == 1) &&
    shows (exec (.adcRingTailWrite (.pf1 0) 3) s) (fun t => t.fld Reg.ADC_RING_TAIL 0 14 == 16380)) = true := by decide +kernel

/-- The part with the Docent running and the keys fused. -/
def dev : State := Tests.put Reg.MBX_FW 0 2 1 (keyed State.reset)

/-- A command with stamp 5 and a full inline payload. -/
def cmd (op pay : Nat) : Cmd := ⟨5, 1, BitVec.ofNat 512 (op + 48 * 2 ^ 48 + 5 * 2 ^ 64 + pay * 2 ^ 128)⟩

/-- That command alone in the queue of mailbox m. -/
def sent (s : State) (m : Fin 36) (op pay : Nat) : State := s.setMbx m { Mbx.reset with queue := [cmd op pay] }

/-- Mailbox 22, the last privileged one of the host, executes such a command, which leaves a state that passes the check. -/
def asks (s : State) (op pay : Nat) (c : Fin 36 → Instr) (f : State → Bool) : Prop :=
  Inline (sent s 22 op pay) 22 op (cmd op pay) [] pay ∧ shows (exec (c 22) (sent s 22 op pay)) f = true

/-- Status and detail of the response that mailbox 22 holds. -/
def ans (t : State) : List (Nat × Nat) := (t.mbx 22).rsps.map fun r => (r.toNat / 2 ^ 16 % 256, r.toNat / 2 ^ 24 % 256)

/-- Mailbox 22 has begun a command that waits. -/
def waits (t : State) : Bool := (t.mbx 22).queue.isEmpty && (t.mbx 22).rsps.isEmpty && (t.mbx 22).begun.length == 1

/-- A row does nothing for a command of another opcode, and refuses a bad header (R448). -/
theorem test_commandRow : (sent dev 22 0x0103 7).due 22 0x0104 = none ∧
    (let c : Cmd := ⟨5, 1, BitVec.ofNat 512 (0x103 + 49 * 2 ^ 48 + 5 * 2 ^ 64)⟩
     let s := dev.setMbx 35 { Mbx.reset with queue := [c] }
     Turn s 35 0x0103 c [] ∧ c.badHeader = true ∧ shows (exec (.arm 35) s) (fun t => (t.mbx 35).rsps.length == 1 && (t.mbx 35).queue.isEmpty) = true) := by
  unfold Turn; decide +kernel

theorem test_statusRead : asks dev 0x0001 0 .statusRead (fun t => ans t == [(0, 0)]) := by unfold asks Inline Turn; decide +kernel

/-- A tenant's STATUS_READ shows its partition's block (R468). -/
theorem test_statusRead_tenant : (let s := (dev.setPart 7 { part 1 0 with frame := 12 })
    let u := s.setMbx 31 { Mbx.reset with queue := [cmd 1 0] }
    Turn u 31 0x0001 (cmd 1 0) [] ∧ shows (exec (.statusRead 31) u) (fun t => (t.mbx 31).rsps.map (fun r => r.toNat / 2 ^ 48 % 2 ^ 16) == [40]) = true) := by
  unfold Turn; decide +kernel

theorem test_resetDevice : asks dev 0x0004 1 .resetDevice (fun t => ans t == [(0, 0)] && t.cur.resetAsked) := by unfold asks Inline Turn; decide +kernel

theorem test_resetDocent : asks dev 0x0004 2 .resetDocent (fun t => waits t && t.docent == 2 && t.cur.restart == some 3) := by
  unfold asks Inline Turn; decide +kernel

/-- GO leaves a go pending (R395). -/
theorem test_go : asks (dev.setPart 7 { part 9 0 with state := .armed, goWait := true }) 0x0005 0 .go
    (fun t => ans t == [(0, 0)] && (t.part 7).state == .armed && t.fld Reg.CFG_LINE 4 1 == 1) := by
  unfold asks Inline Turn; decide +kernel

theorem test_timeSet : asks (Tests.put Reg.LNK_TIME_CTRL 0 1 1 dev) 0x0006 (2 ^ 64 - 1) .timeSet (fun t => t.lnk.timebase == 2 ^ 64 - 1 && ans t == [(0, 0)]) ∧
    asks (Tests.put Reg.LNK_TIME_CTRL 0 1 0 dev) 0x0006 1 .timeSet (fun t => ans t == [(9, 0)]) := by unfold asks Inline Turn; decide +kernel

/-- LANE_SET of the last quad: unused, and of one whose link carries a partition (R262). -/
theorem test_laneSet : (dev.hasQuad 23 = true ∧ dev.quadFixed 23 = false ∧
    asks dev 0x0007 (23 + 2 ^ 16) .laneSet (fun t => ans t == [(0, 0)] && t.fld (Reg.LANE_QUAD 23) 7 1 == 1)) ∧
    (let s := Tests.put (Reg.LNK_MAP 5) 3 1 1 (Tests.put (Reg.LANE_QUAD 23) 0 7 (1 + 5 * 4) dev)
     s.quadFixed 23 = true ∧ asks s 0x0007 23 .laneSet (fun t => ans t == [(9, 2)] || ans t == [(9, 0)])) := by unfold asks Inline Turn; decide +kernel

/-- With a staging bank of CUR (R389), an image that passes is written; one of another type is refused. -/
theorem test_flashWrite : asks (Tests.put (Reg.VLT_LOAN 0 0) 0 4 13 dev) 0x0008 (1 + 1024 * 2 ^ 128) (fun m => .flashWrite m (some (cont 1)) true)
      (fun t => decide (1024 ≤ t.stagingBytes) && ans t == [(0, 0)]) ∧
    asks (Tests.put (Reg.VLT_LOAN 0 0) 0 4 13 dev) 0x0008 (2 + 1024 * 2 ^ 128) (fun m => .flashWrite m (some (cont 1)) true) (fun t => ans t == [(9, 9)]) := by
  unfold asks Inline Turn; decide +kernel

/-- Slot 4 is programmed with DESC (R386). -/
theorem test_fuseProgramSlot : (let c : Cmd := ⟨5, 1, BitVec.ofNat 512 (9 + 2 ^ 16 + 16 * 2 ^ 48 + 5 * 2 ^ 64)⟩
    let s := dev.setMbx 22 { Mbx.reset with queue := [c] }
    Turn s 22 0x0009 c [] ∧ c.badHeader = false ∧ c.desc = true ∧
    shows (exec (.fuseProgramSlot 22 (some (4, 77))) s) (fun t => t.fld Reg.CFG_KEYS 4 1 == 1 && t.cfg.hashes == [(4, 77)] && ans t == [(0, 0)]) = true) := by
  unfold Turn; decide +kernel

theorem test_fuseRevokeSlot : asks dev 0x0009 (2 + 4 * 2 ^ 8) .fuseRevokeSlot (fun t => t.fld Reg.CFG_KEYS 8 1 == 1 && ans t == [(0, 0)]) ∧
    asks (Tests.put Reg.CFG_KEYS 8 1 1 dev) 0x0009 (2 + 4 * 2 ^ 8) .fuseRevokeSlot (fun t => ans t == [(9, 2)]) := by unfold asks Inline Turn; decide +kernel

theorem test_fuseRaiseMinSvn : asks dev 0x0009 (3 + 65535 * 2 ^ 16) .fuseRaiseMinSvn (fun t => t.fld Reg.CFG_KEYS 16 16 == 65535 && ans t == [(0, 0)]) ∧
    asks dev 0x0009 3 .fuseRaiseMinSvn (fun t => ans t == [(9, 3)]) := by unfold asks Inline Turn; decide +kernel

/-- Doorbells (R450): accepted, with a full queue, while the Docent restarts, SAFETY there, and of a block of another path. -/
theorem test_doorbell : (let full : Mbx := { Mbx.reset with queue := List.replicate 8 (cmd 1 0) }
    let safe := Tests.put (Reg.MBX_CMD 0 0) 0 32 0x0106 (Tests.put Reg.MBX_FW 0 2 2 dev)
    dev.awake && dev.docent == 1 && !dev.rgs.userFull &&
    shows (exec (.doorbell .pf0 0 1) dev) (fun t => (t.mbx 0).queue.length == 1 && t.fld (Reg.MBX_DB_RESULT 0) 0 8 == 0 && t.reg64 Reg.MBX_STAMP_LO == dev.reg64 Reg.MBX_STAMP_LO + 1) &&
    shows (exec (.doorbell .pf0 0 1) (dev.setMbx 0 full)) (fun t => (t.mbx 0).queue.length == 8 && t.fld (Reg.MBX_DB_RESULT 0) 0 8 == 1) &&
    shows (exec (.doorbell .pf0 0 1) (Tests.put Reg.MBX_FW 0 2 2 dev)) (fun t => (t.mbx 0).queue.isEmpty && t.fld (Reg.MBX_DB_RESULT 0) 0 8 == 1) &&
    shows (exec (.doorbell .pf0 0 1) safe) (fun t => (t.mbx 0).queue.map (·.safety) == [true]) &&
    shows (exec (.doorbell (.pf1 7) 31 1) dev) (fun t => (t.mbx 31).queue.length == 1) &&
    shows (exec (.doorbell .pf0 24 1) dev) (fun t => (t.mbx 24).queue.isEmpty && (t.reg Reg.MBX_ACCLOG_COUNT).toNat == 1)) = true := by decide +kernel

theorem test_rspPop : shows (exec (.rspPop .pf0 0 1) (dev.setMbx 0 { Mbx.reset with rsps := [4, 5] })) (fun t => (t.mbx 0).rsps == [5]) = true := by decide +kernel

theorem test_noticeSlotFreed : (shows (exec (.noticeSlotFreed 0) (dev.setMbx 0 { Mbx.reset with rsps := List.replicate 15 0, held := [7, 8] }))
      (fun t => (t.mbx 0).rsps.getLast? == some 7 && (t.mbx 0).held == [8]) &&
    shows (exec (.noticeSlotFreed 0) (dev.setMbx 0 { Mbx.reset with rsps := List.replicate 16 0, held := [7, 8] })) (fun t => (t.mbx 0).held.length == 2)) = true := by
  decide +kernel

/-- A function-level reset empties its function's mailboxes (R455). -/
theorem test_functionLevelReset : (let x : Mbx := { Mbx.reset with queue := [cmd 1 0], rsps := [4] }
    shows (exec (.functionLevelReset true) ((dev.setMbx 24 x).setMbx 23 x)) (fun t => (t.mbx 24) == Mbx.reset && t.mbx 23 == x) &&
    shows (exec (.functionLevelReset false) ((dev.setMbx 24 x).setMbx 23 x)) (fun t => t.mbx 24 == x && t.mbx 23 == Mbx.reset)) = true := by decide +kernel

/-- The management port writes a command and rings, and reads responses (R457). -/
theorem test_mgmtBlock : (let s := Tests.put Reg.CFG_STATUS 0 4 8 dev
    !s.inReset && s.pwr.phase == .run && shows (exec (.mgmtBlockWrite 3 1 true) s) (fun t => (t.mbx 35).queue.map (·.op) == [1]) &&
    shows (exec (.mgmtBlockWrite 3 1 false) s) (fun t => (t.mbx 35).queue.isEmpty) &&
    shows (exec (.mgmtBlockRead 3 false) (s.setMbx 35 { Mbx.reset with rsps := [9] })) (fun t => t.cur.mgmtOut == 9 && (t.mbx 35).rsps.isEmpty) &&
    shows (exec (.mgmtBlockRead 3 true) (Tests.put (Reg.MBX_DB_RESULT 35) 0 8 1 s)) (fun t => t.busOut.toNat % 256 == 1)) = true := by decide +kernel

/-- A silent core restarts the Docent, which answers when it runs again (R441). -/
theorem test_docentWatchdog : (let s := Tests.put Reg.SPR_CORES 4 2 1 { dev with tly := { Tly.reset with time := silentTicks } }
    s.docentCore 2 && !s.docentCore 0 && shows (exec (.docentHeartbeat 2) s) (fun t => vget t.cur.beats 2 == silentTicks) &&
    shows (exec (.docentWatchdog 2) s) (fun t => t.docent == 2 && t.cur.restart == some 1) &&
    shows (exec (.docentWatchdog 2) { s with tly := { Tly.reset with time := silentTicks - 1 } }) (fun t => t.docent == 1)) = true := by decide +kernel

theorem test_docentRunning : (let s := Tests.put Reg.MBX_FW 0 2 2 dev
    s.contCheck (cont 1) 1 1024 == none && shows (exec (.docentRunning true (some (cont 1, 1024)) none 0) s) (fun t => t.docent == 1 && t.fld Reg.MBX_FW 2 1 == 1) &&
    shows (exec (.docentRunning true (some (cont 1, 1024)) none 0) dev) (fun t => t.fld Reg.MBX_FW 2 1 == 0) &&
    shows (exec (.docentRunning true (some (cont 1, 1024)) none 4) (Tests.put Reg.SPR_CORES 0 16 0x9550 s)) (fun t => t.reg Reg.SPR_CORES == 0x5570)) = true := by decide +kernel

/-- A staging bank of CUR, so that images of commands have a source (R389). -/
def staged (s : State) : State := Tests.put (Reg.VLT_LOAN 0 0) 0 4 13 s

/-- Partition 7 with a state and the small shape of the other tests. -/
def with7 (f : Part → Part) : State := dev.setPart 7 (f { part 0 0 with eph := { eph with bound := [], xchg := [], taps := [] } })

theorem test_load_passes : (staged dev).loadCheck 7 (cont 4) ephRec 1024 1 25 = none :=
  loadCheck_join _ _ _ _ _ _ _ (by decide +kernel) ephRec_badCrc (by decide +kernel) (by decide) (by decide)

/-- What the writes of a load leave, and a load that check 8 refuses. -/
theorem test_load : (cont 4).totalLen.toNat ≤ (staged dev).stagingBytes ∧
    (let t := (staged dev).loadWrite 7 (cont 4) ephRec true
     ((t.part 7).state == .loaded && (t.part 7).eph.depth == 64 && (t.part 7).eph.dieMask == 1) = true) ∧
    asks (staged dev) 0x0101 (7 + 1024 * 2 ^ 128) (fun m => .load m (some (cont 4, ephBad 0x80 2 72 1 1 0 4 0)) .written)
      (fun t => (t.part 7).state == .empty && ans t == [(9, 8)]) := by unfold asks Inline Turn; decide +kernel

theorem test_unload : asks (with7 fun p => { p with state := .halted }) 0x0102 7 .unload (fun t => (t.part 7).state == .empty && ans t == [(0, 0)]) ∧
    asks (with7 id) 0x0102 7 .unload (fun t => (t.part 7).state == .running && ans t == [(9, 0)]) ∧
    asks dev 0x0102 7 .unload (fun t => ans t == [(0, 0)]) := by unfold asks Inline Turn; decide +kernel

theorem test_arm : (with7 id).recovering 7 = false ∧ asks (with7 fun p => { p with state := .loaded }) 0x0103 (7 + 2 ^ 8 + (2 ^ 48 - 1) * 2 ^ 64) .arm
    (fun t => (t.part 7).state == .armed && (t.part 7).frame == 2 ^ 48 - 1 && (t.part 7).goWait && ans t == [(0, 0)]) := by
  unfold asks Inline Turn; decide +kernel

/-- RUN; and RUN after a SAFETY command of stamp 9 was executed (R453). -/
theorem test_run : asks (with7 fun p => { p with state := .armed }) 0x0104 (7 + 3 * 2 ^ 32) .run
      (fun t => (t.part 7).state == .running && (t.part 7).remaining == 3 && ans t == [(0, 0)]) ∧
    (let s := with7 fun p => { p with state := .halted }
     let u := { s with cur := { s.cur with safety := vset s.cur.safety 7 (some ⟨2, 9, 4⟩) } }
     (sent u 22 0x0104 7).safetySince 7 (cmd 0x0104 7) = some 9 ∧ asks u 0x0104 7 .run (fun t => (t.part 7).state == .halted && (ans t).length == 1)) ∧
    asks (with7 fun p => { p with state := .halted, haltCause := some .frameLimit }) 0x0104 7 .run
      (fun t => (t.part 7).state == .halted && (ans t).length == 1) := by
  unfold asks Inline Turn; decide +kernel

theorem test_halt : asks (with7 id) 0x0105 7 .halt waits ∧
    asks (with7 fun p => { p with state := .armed }) 0x0105 (7 + (2 ^ 48 - 1) * 2 ^ 64) .halt (fun t => (t.part 7).haltAt == some (2 ^ 48 - 1) && ans t == [(0, 0)]) := by
  unfold asks Inline Turn; decide +kernel

theorem test_forcedHalt : (with7 id).live 7 = true ∧ asks (with7 id) 0x0106 7 .forcedHalt waits := by unfold asks Inline Turn; decide +kernel

/-- A deposit of 1 to BP 5, address 0, of partition 7. -/
def dep1 : Nat := 5 + 2 ^ 30

theorem test_deposit : ((with7 id).part 7).badEntry false (BitVec.ofNat 64 dep1) = false ∧ (with7 id).replaying 7 = false ∧
    asks (with7 id) 0x0107 (7 + 2 ^ 8 + dep1 * 2 ^ 64) (fun m => .deposit m none) (fun t => waits t && (t.part 7).deps.length == 1) ∧
    asks (with7 fun p => { p with state := .halted }) 0x0107 (7 + 2 ^ 8 + dep1 * 2 ^ 64) (fun m => .deposit m none)
      (fun t => ans t == [(0, 0)] && (t.part 7).img.wsAt 5 0) := by unfold asks Inline Turn; decide +kernel

theorem test_wsRead : ((with7 id).part 7).badEntry true 5 = false ∧ asks (with7 id) 0x0108 (7 + 2 ^ 8 + 5 * 2 ^ 64) .wsRead waits ∧
    asks (with7 fun p => { p with state := .halted }) 0x0108 (7 + 2 ^ 8 + 0 * 2 ^ 64) .wsRead
      (fun t => (t.mbx 22).rsps.map (fun r => r.toNat / 2 ^ 128 % 2 ^ 72) == [5 + 2 ^ 64]) := by unfold asks Inline Turn; decide +kernel

/-- A Vitrine container for region 7. -/
def vbox : VBox := ⟨cont 5, 0x61000, 0x80 * 2 ^ 80, [(7, vimage)]⟩

theorem test_vtrLoad : (staged dev).vtrCheck vbox = none ∧
    asks ((List.range 7).foldl (fun t b => Tests.put (Reg.VLT_LOAN 0 b) 0 4 13 t) dev) 0x0109 (0x80 + 0x61000 * 2 ^ 128) (fun m => .vtrLoad m (some vbox))
    (fun t => waits t && t.regState 7 == 1) := by unfold asks Inline Turn; decide +kernel

/-- CAPTURE_READ of the whole share of 8 units (R302). -/
theorem test_captureRead : (let s := Tests.put (Reg.CAP_STORE_SIZE 7 0) 0 21 8 dev
    s.shareUnits 7 0 = 8 ∧ asks s 0x0201 (7 + 256 * 2 ^ 128) .captureRead (fun t => ans t == [(0, 0)])) := by unfold asks Inline Turn; decide +kernel

/-- The state of RESTORE's image. -/
def image : CkImg := { img (part 0 0) with digest := 0, stepping := 0, boundary := 11 }

theorem test_restore : (let s := (with7 fun p => { p with state := .halted }).setCk 7 { Ckp.reset with latest := some image }
    s.restoreRefusal 7 image true = none ∧ asks s 0x0204 7 (fun m => .restore m none) (fun t => (t.part 7).state == .armed && (t.part 7).frame == 11 && ans t == [(0, 0)]) ∧
    asks ((with7 id).setCk 7 { Ckp.reset with latest := some image }) 0x0204 7 (fun m => .restore m none) (fun t => ans t == [(9, 0)])) := by
  unfold asks Inline Turn; decide +kernel

/-- REPLAY from a record whose first entry is that of the restored checkpoint (R333). -/
theorem test_replay : (let s := mapped 7 DPort.reset
    let u := (Tests.put Reg.MBX_FW 0 2 1 (s.setPart 7 { part 0 0 with state := .armed })).setCk 7 { Ckp.reset with restored := some image }
    u.depotCheck (.part 7) (2 ^ 31) false = .ok ∧
    asks u 0x0205 (7 + 3 * 2 ^ 32 + 2 ^ 31 * 2 ^ 64) (fun m => .replay m [{ entry 2 with start := true }])
      (fun t => t.replaying 7 && (t.part 7).state == .running && (t.reg (Reg.CKP_REPLAY_LINKS 7)).toNat == 3 && ans t == [(0, 0)])) := by
  unfold asks Inline Turn; decide +kernel

/-- The part with bank b of the pool free. -/
def pool (b : Nat) : State := { dev with cur := { dev.cur with pool := [b] } }

/-- LOAN of the last bank to an owner, and to the one it has (R474). -/
theorem test_loan : (dev.hasBank 1023 = true ∧ dev.loanKept 1023 3 = false ∧ dev.loanState 1023 = 0 ∧ dev.loanOwner 1023 = 13) ∧
    asks dev 0x0301 (1023 + 3 * 2 ^ 16 + 2 ^ 24) .loan (fun t => waits t && t.loanState 1023 == 1 && t.fld (Reg.VLT_LOAN 3 255) 0 4 == 3 && t.vlt.scrub == [1023]) ∧
    asks dev 0x0301 (1023 + 13 * 2 ^ 16) .loan (fun t => ans t == [(0, 0)]) := by unfold asks Inline Turn; decide +kernel

/-- A depot range of two segments. -/
def ranged : State := { dev with cfg := { dev.cfg with ranges := [⟨65534, 2, 7, 0⟩] } }

theorem test_depotGrant : ranged.segBusy 65534 2 = false ∧ ranged.waiting = [] ∧ (ranged.rangeOfSeg 65535).isSome = true ∧ ranged.segKept 65535 = false ∧
    asks ranged 0x0302 (65534 + 2 ^ 16 + 3 * 2 ^ 32 + 2 ^ 40) .depotGrant (fun t => ans t == [(0, 0)] && bitsAt (t.depotEntry 65535) 0 6 == 1 + 6 + 32) ∧
    asks ranged 0x0303 65535 .depotReturn (fun t => ans t == [(0, 0)] && bitsAt (t.depotEntry 65535) 1 4 == 13) := by unfold asks Inline Turn; decide +kernel

/-- Buffers (R458): 8 of a bank that were this mailbox's before, none without a pool, and their return. -/
theorem test_bufAlloc : (let s := pool 9
    let u := { s with cur := { s.cur with bufPrev := (List.range 16).map fun i => (9 * 16 + i, 22) } }
    (u.freeBufs.take 8).length = 8 ∧ asks u 0x0304 8 .bufAlloc (fun t => ans t == [(0, 0)] && t.cur.bufs.length == 8) ∧
    asks dev 0x0304 1 .bufAlloc (fun t => ans t == [(1, 0)])) := by unfold asks Inline Turn; decide +kernel

theorem test_bufFree : (let s := fun (m : Nat) => { pool 9 with cur := { (pool 9).cur with bufs := [(150, m)] } }
    asks (s 22) 0x0305 150 .bufFree (fun t => ans t == [(0, 0)] && t.cur.bufs.isEmpty) ∧
    asks (s 21) 0x0305 150 .bufFree (fun t => ans t == [(4, 0)] && t.fld Reg.MBX_LAST_BAD_FREE 20 6 == 21) ∧
    asks (s 21) 0x0305 151 .bufFree (fun t => ans t == [(4, 0)] && t.fld Reg.MBX_LAST_BAD_FREE 20 6 == 0x3F)) := by unfold asks Inline Turn; decide +kernel

/-- DMA of the last 8 bytes of a buffer (R475). -/
theorem test_dma : (let s := { pool 9 with cur := { (pool 9).cur with bufs := [(150, 22)] } }
    s.wordLogged 9 (7 * 512 - 1) = false ∧ s.isDbe 9 (7 * 512 - 1) = false ∧
    asks s 0x0306 (150 * 2 ^ 16 + 4088 * 2 ^ 32 + 8 * 2 ^ 192) (fun m => .dma m [77] (none, [])) (fun t => ans t == [(0, 0)] && t.vword 9 (7 * 512 - 1) == 77) ∧
    asks s 0x0306 (1 + 150 * 2 ^ 16 + 4088 * 2 ^ 32 + 8 * 2 ^ 192) (fun m => .dma m [] (none, [])) (fun t => ans t == [(0, 0)])) := by
  unfold asks Inline Turn; decide +kernel

/-- ACCESSION of a cluster of a running partition waits (R476). -/
theorem test_accession : (let s := with7 id
    let q : Pend := ⟨1, 3 * 16 + 15⟩
    s.accUnit 1 (3 + 15 * 256) = some q ∧ s.hasSpare q = true ∧ s.unitHolder q = some 7 ∧ s.spr.pend = [] ∧
    asks s 0x0401 (1 + (3 + 15 * 256) * 2 ^ 8) (fun m => .accession m 0 false) (fun t => waits t && t.spr.pend == [q])) := by unfold asks Inline Turn; decide +kernel

/-- DEACCESSION of the last tile's idle cluster meets its statement's premises. -/
theorem test_deaccession : dev.fld (Reg.SPR_CHEALTH 255 16) 8 3 = 1 ∧ dev.hasDie 3 = true ∧
    Inline (sent dev 22 0x0402 (1 + (255 + 16 * 256) * 2 ^ 8)) 22 0x0402 (cmd 0x0402 (1 + (255 + 16 * 256) * 2 ^ 8)) [] (1 + (255 + 16 * 256) * 2 ^ 8) := by
  unfold Inline Turn; decide +kernel

/-- SET_OP of no change, and of die 3 (R505). -/
theorem test_setOp : (let s := Tests.put Reg.PWR_VR 7 1 1 dev
    s.splitsPart 8 = false ∧ asks s 0x0403 (8 + s.dieOp 3 * 2 ^ 8) .setOp (fun t => ans t == [(0, 0)]) ∧
    asks s 0x0403 (8 + (s.dieOp 3 + 1) % 4 * 2 ^ 8) .setOp (fun t => waits t && t.pwr.change.isSome && t.fld (Reg.PWR_DIE_OP 3) 4 1 == 1)) := by
  unfold asks Inline Turn; decide +kernel

theorem test_setPowerRun : (let s := with7 fun p => { p with held := some .hold }
    let u := { s with pwr := { s.pwr with own := vset s.pwr.own 7 true } }
    asks u 0x0404 7 .setPowerRun (fun t => ans t == [(0, 0)] && (t.part 7).held.isNone) ∧
    asks { s with pwr := { s.pwr with nap := vset s.pwr.nap 7 .napping } } 0x0404 7 .setPowerRun (fun t => waits t && vget t.pwr.nap 7 == .leaving)) := by
  unfold asks Inline Turn; decide +kernel

theorem test_setPowerHold : asks (with7 id) 0x0404 (7 + 2 ^ 8) .setPowerHold (fun t => waits t && (t.part 7).holdReq && vget t.pwr.own 7) ∧
    asks (with7 id) 0x0404 (7 + 2 * 2 ^ 8) .setPowerNap (fun t => waits t && (t.part 7).holdReq && vget t.pwr.nap 7 == .entering) := by
  unfold asks Inline Turn; decide +kernel

theorem test_setPowerDormant : asks (with7 id) 0x0404 (0xFF + 3 * 2 ^ 8) .setPowerDormant
    (fun t => waits t && t.pwr.phase == .entering && t.rgs.stopped && vget t.pwr.dorm 7) := by unfold asks Inline Turn; decide +kernel

theorem test_thermalShutdown : asks (with7 id) 0x0405 0 .thermalShutdown (fun t => waits t && (t.part 7).haltReqs == [.safety] && t.pwr.phase == .run) ∧
    asks dev 0x0405 0 .thermalShutdown (fun t => waits t && t.pwr.phase == .entering) := by unfold asks Inline Turn; decide +kernel

/-- TALLY_READ of one of partition 7's records (R520). -/
theorem test_tallyRead : asks { dev with tly := { dev.tly with unread := [(0, 6), (1, 7), (2, 7)] } } 0x0501 (7 + 2 ^ 128) .tallyRead
    (fun t => ans t == [(0, 0)] && t.tly.unread == [(0, 6), (2, 7)]) := by unfold asks Inline Turn; decide +kernel

theorem test_tallyClock : asks dev 0x0502 (2 ^ 64 - 1) .tallyClock (fun t => t.tly.wallRef == 2 ^ 64 - 1 && t.tly.clockSet) := by
  unfold asks Inline Turn; decide +kernel

theorem test_tallyTenant : asks dev 0x0503 (7 + 9 * 2 ^ 32) .tallyTenant (fun t => ans t == [(0, 0)] && t.tenant 7 == 9) ∧
    asks (with7 id) 0x0503 (7 + 9 * 2 ^ 32) .tallyTenant waits := by unfold asks Inline Turn; decide +kernel

theorem test_lgbToken : asks dev 0x0504 1 (fun m => .lgbToken m true) (fun t => ans t == [(0, 0)] && t.fld Reg.LGB_STATUS 0 1 == 1) ∧
    asks dev 0x0504 1 (fun m => .lgbToken m false) (fun t => ans t == [(8, 0)] && t.fld Reg.LGB_STATUS 0 1 == 0) := by unfold asks Inline Turn; decide +kernel

/-- CHECKPOINT of partition 7 with an area of two slots, and CKPT_EXPORT of its latest: the premises. -/
def area : State :=
  let s := mapped 7 DPort.reset
  Tests.put Reg.MBX_FW 0 2 1 (Tests.put (Reg.CKP_SLOT_SIZE 7) 0 32 200 (Tests.put (Reg.CKP_AREA_LO 7) 31 1 1 (s.setPart 7 (part 0 0))))

theorem test_checkpoint_fits : area.ckSize 7 ≤ area.ckSlotBytes 7 := by
  have h : area.ckFixed 7 ≤ 1200000 := by decide +kernel
  have g : area.ckSlotBytes 7 = 13107200 := by decide +kernel
  have c := Config.captureTail.isLt
  rw [g]; unfold State.ckSize; omega

theorem test_checkpoint : area.ckBusy 7 = false ∧ area.ckAreaOk 7 = true ∧ area.nextBoundary 7 ≤ 2 ^ 48 - 1 ∧
    Inline (sent area 22 0x0202 (7 + (2 ^ 48 - 1) * 2 ^ 64)) 22 0x0202 (cmd 0x0202 (7 + (2 ^ 48 - 1) * 2 ^ 64)) [] (7 + (2 ^ 48 - 1) * 2 ^ 64) := by
  unfold Inline Turn; decide +kernel

theorem test_ckptExport : (let s := area.setCk 7 { Ckp.reset with latest := some image }
    s.ckBusy 7 = false ∧ (s.ck 7).latest = some image ∧
    Inline (sent s 22 0x0203 (7 + 2 ^ 32 * 2 ^ 128)) 22 0x0203 (cmd 0x0203 (7 + 2 ^ 32 * 2 ^ 128)) [] (7 + 2 ^ 32 * 2 ^ 128)) := by
  unfold Inline Turn; decide +kernel

/-- A task of the Registrar. -/
def task (id : Nat) (st : TaskSt) (kind prio : Nat) : Task := ⟨id, st, kind, prio, 3, 0, false, 0, 0, 0, 7, 0⟩

/-- The Docent running on cores 2 to 7 with those tasks. -/
def tasked (r : Rgs) : State := Tests.put Reg.SPR_CORES 0 16 0x5555 { dev with rgs := r }

/-- TASK_CREATE (R480, R485): READY in the next cycle, on the delay list, or held behind one that is held. -/
theorem test_taskCreate : (let s := { dev with rgs := { Rgs.reset with tasks := [task 0 .ready 2 1] } }
    s.rgs.freeId == some 1 && shows (exec (.taskCreate 3 9 77 0) s) (fun t => t.rgs.tasks.map (fun x => (x.id, x.kind)) == [(0, 2), (1, 5)]) &&
    shows (exec (.taskCreate 3 9 77 (2 ^ 23 - 1)) s) (fun t => t.rgs.delayed == 1 && (t.reg Reg.RGS_TRACE_DROP).toNat % 2 ^ 24 == 1) &&
    shows (exec (.taskCreate 3 9 77 0) { s with rgs := { s.rgs with held := [⟨5, 9, 1⟩] } }) (fun t => t.rgs.held.length == 2)) = true := by decide +kernel

/-- A cycle makes a task READY and dispatches by priority, then id (R484); without the Docent nothing starts. -/
theorem test_registrarCycle : (let s := tasked { Rgs.reset with tasks := [task 0 .ready 2 1, task 1 .ready 2 1, task 2 .fresh 2 7] }
    decide ((s.rgs.tasks.map Task.id).Nodup) && s.docentCore 2 &&
    shows (exec .registrarCycle s) (fun t => t.rgs.cycle == 1 && t.rgs.tasks.length == 3) &&
    shows (exec .registrarCycle (Tests.put Reg.MBX_FW 0 2 2 s)) (fun t => t.rgs.tasks.map (·.st) == [.ready, .ready, .ready])) = true := by decide +kernel

/-- A done ends the task, a yield delays it, a cancel of a READY task frees it (R482, R485, R486). -/
theorem test_registrarCycle_requests : (let run := tasked { Rgs.reset with tasks := [task 5 (.running 2) 2 1] }
    run.rgs.taskOn 2 == some (task 5 (.running 2) 2 1) &&
    shows (exec .registrarCycle { run with rgs := { run.rgs with dones := [(2, 9)] } }) (fun t => t.rgs.tasks.isEmpty) &&
    shows (exec .registrarCycle { run with rgs := { run.rgs with yields := [(2, 10)] } }) (fun t => t.rgs.tasks.map (·.st) == [.delayed] && t.rgs.tasks.map (·.expiry) == [10]) &&
    shows (exec .registrarCycle (tasked { Rgs.reset with tasks := [task 6 .delayed 2 1], cancels := [6] })) (fun t => t.rgs.tasks.isEmpty)) = true := by decide +kernel

/-- At the 1,000th cycle RGS_NOW advances and a delayed task expires (R485). -/
theorem test_delayExpiry : (let s := tasked { Rgs.reset with cycle := 999, now := 6, tasks := [task 6 .delayed 2 1] }
    expired 7 7 && shows (exec .delayExpiry s) (fun t => t.rgs.now == 7 && t.rgs.tasks.all (·.st != .delayed)) &&
    shows (exec .delayExpiry { s with rgs := { s.rgs with cycle := 998 } }) (fun t => t.rgs.now == 6)) = true := by decide +kernel

theorem test_taskDone : (let run := tasked { Rgs.reset with tasks := [task 5 (.running 2) 2 1] }
    shows (exec (.taskDone 2 9) run) (fun t => t.rgs.dones == [(2, 9)]) && shows (exec (.taskYield 2 9) run) (fun t => t.rgs.yields == [(2, 9)]) &&
    shows (exec (.taskDone 3 9) run) (fun t => t.rgs.dones.isEmpty)) = true := by decide +kernel

/-- A core may cancel a task of its own task's owner (R486). -/
theorem test_taskCancel : (let s := tasked { Rgs.reset with tasks := [task 5 (.running 2) 2 1, { task 6 .ready 2 1 with owner := 4 }] }
    shows (exec (.taskCancel none 6) s) (fun t => t.rgs.cancels == [6]) && shows (exec (.taskCancel (some 2) 5) s) (fun t => t.rgs.cancels == [5]) &&
    shows (exec (.taskCancel (some 2) 6) s) (fun t => t.rgs.cancels.isEmpty)) = true := by decide +kernel

/-- A held source enters the list in the first free descriptor (R481). -/
theorem test_dataSourceRelease : (let s := tasked { Rgs.reset with held := [⟨5, 9, 1⟩] }
    shows (exec (.dataSourceRelease 3) s) (fun t => t.rgs.held.isEmpty && t.rgs.tasks.map (·.id) == [0]) &&
    shows (exec (.dataSourceRelease 2) s) (fun t => t.rgs.held.length == 1)) = true := by decide +kernel

/-- The trace's tail and window (R489, R490). -/
theorem test_rgsTrace : (let s := Tests.put Reg.RGS_TRACE_TAIL 0 12 4090 (Tests.put Reg.RGS_TRACE_HEAD 0 12 3 dev)
    let u := ((Tests.put Reg.RGS_TRACE 0 11 (253 + 2 ^ 10) (Tests.put (Reg.VLT_LOAN 0 253) 0 4 12 s)).setVword 253 8191 (BitVec.ofNat 64 (7 + 9 * 2 ^ 32)))
    shows (exec (.rgsTraceTailWrite .pf0 3) s) (fun t => t.fld Reg.RGS_TRACE_TAIL 0 12 == 3) &&
    shows (exec (.rgsTraceTailWrite .pf0 4) s) (fun t => t.fld Reg.RGS_TRACE_TAIL 0 12 == 4090 && (t.reg Reg.MBX_ACCLOG_COUNT).toNat == 1) &&
    u.loanOwner 253 == 12 && u.loanState 253 == 0 && !u.isDbe 253 8191 &&
    shows (exec (.traceWindowRead .pf0 16383 .none .good) u) (fun t => t.busOut == 9) &&
    shows (exec (.traceWindowRead .pf0 16382 .partialWrite .good) u) (fun t => t.busOut == 0 && t.fld Reg.RGS_TRACE_DROP 24 8 == 1) &&
    shows (exec (.traceWindowRead (.pf1 0) 16383 .none .good) u) (fun t => t.busOut == 0)) = true := by decide +kernel

/-- The state with a power state. -/
def pwr (q : Pwr) (s : State) : State := { s with pwr := q }

/-- NAP's entry and exit (R496). -/
theorem test_nap : (let s := fun x => pwr { Pwr.reset with nap := vset Pwr.reset.nap 7 x } (with7 fun p => { p with held := some .hold })
    shows (exec (.napEntryDone 7) (s .entering)) (fun t => (t.part 7).held == some .nap && vget t.pwr.nap 7 == .napping) &&
    shows (exec (.napEntryDone 7) (s .napping)) (fun t => (t.part 7).held == some .hold) &&
    shows (exec (.napExitDone 7) (s .leaving)) (fun t => (t.part 7).held.isNone && vget t.pwr.nap 7 == .none)) = true := by decide +kernel

/-- DORMANT's entry with and without a latched wake, and its exit (R498 to R500). -/
theorem test_dormant : (let s := fun w => pwr { Pwr.reset with phase := .entering, wakes := w } dev
    (s 0).ackWaits == false && shows (exec .dormantEntryDone (s 0)) (fun t => t.pwr.phase == .dormant && t.fld Reg.PWR_VCORE 0 10 == 600) &&
    shows (exec .dormantEntryDone (s 1)) (fun t => t.pwr.phase == .exiting) && shows (exec .dormantEntryDone dev) (fun t => t.pwr.phase == .run) &&
    shows (exec (.dormantExitDone false) (pwr { Pwr.reset with phase := .exiting, wake := 4 } dev)) (fun t => t.pwr.phase == .run && t.fld Reg.PWR_LAST_WAKE 0 4 == 4) &&
    shows (exec (.dormantExitDone false) (pwr { Pwr.reset with phase := .exiting, ports := [7] } dev)) (fun t => t.pwr.phase == .exiting) &&
    shows (exec (.dormantExitDone true) (pwr { Pwr.reset with phase := .exiting, ports := [7] } dev)) (fun t => t.pwr.phase == .run)) = true := by decide +kernel

/-- Wakes: latched during the entry, and in DORMANT the exit begins (R500). -/
theorem test_wake : (let on := Tests.put Reg.PWR_CTRL 3 5 31 (Tests.put Reg.PWR_WAKE_TIMER 0 32 9 dev)
    on.fld Reg.PWR_CTRL (3 + 1) 1 == 1 && on.fld Reg.PWR_CTRL (3 + 2) 1 == 1 && on.fld Reg.PWR_CTRL (3 + 4) 1 == 1 &&
    shows (exec .wakeN (pwr { Pwr.reset with phase := .entering } on)) (fun t => t.pwr.wakes == 1 && t.pwr.wake == 1 && t.pwr.during) &&
    shows (exec .pcieWake (pwr { Pwr.reset with phase := .dormant } on)) (fun t => t.pwr.phase == .exiting && t.pwr.wake == 2) &&
    shows (exec .wakeTimer (pwr { Pwr.reset with phase := .dormant } on)) (fun t => t.pwr.phase == .exiting && t.pwr.wake == 4) &&
    shows (exec .wakeN on) (fun t => t.pwr.wakes == 0) &&
    shows (exec .wakeN (pwr { Pwr.reset with phase := .dormant } (Tests.put Reg.PWR_CTRL 3 5 0 on))) (fun t => t.pwr.phase == .dormant)) = true := by decide +kernel

/-- A trip stops every clock (R503); a die that the part lacks does not trip. -/
theorem test_thermtrip : (dev.hasDie 3 && shows (exec (.thermtrip 3) dev) (fun t => t.pwr.tripped && t.fld Reg.PWR_THERMTRIP 3 1 == 1 && (t.reg (Reg.CLK_STEP 0)).toNat == 4) &&
    !({ dev with variant := .d } : State).hasDie 3 && (match exec (.thermtrip 3) { dev with variant := .d } with | .next t => !t.pwr.tripped | _ => false)) = true := by
  decide +kernel

/-- A change of die 3 to OP1, and the state of its clock. -/
def relocking (st : Nat) (volt : Bool) : State :=
  Tests.put (Reg.PWR_DIE_OP 3) 2 3 (1 + 4) (Tests.put (Reg.CLK_STEP 3) 0 3 st (pwr { Pwr.reset with change := some ⟨[3], [3], [], 1, volt, 0⟩ } dev))

/-- The relock of the last die, and its failure (R508). -/
theorem test_relock : (shows (exec (.pllLocked 3) (relocking 2 false)) (fun t => t.fld (Reg.CLK_STEP 3) 0 3 == 3) &&
    shows (exec (.lockStable 3) (relocking 3 false)) (fun t => t.dieOp 3 == 1 && t.pwr.change.isNone && t.fld (Reg.PWR_DIE_OP 3) 4 1 == 0) &&
    shows (exec (.lockStable 3) (relocking 2 false)) (fun t => t.pwr.change.isSome) &&
    shows (exec (.relockFail 3) (relocking 2 false)) (fun t => t.dieOp 3 == 3 && t.pwr.change.isNone && t.fld (Reg.CLK_RELOCK_FAIL 3) 0 16 == 3)) = true := by decide +kernel

/-- VCORE settles or does not (R505). -/
theorem test_vcore : (let s := Tests.put Reg.PWR_VCORE 26 1 0 (relocking 0 true)
    s.awake && shows (exec .vcoreSettled s) (fun t => t.fld Reg.PWR_VCORE 26 1 == 1 && (t.pwr.change.map (·.volt)) == some false) &&
    shows (exec .vrTimeout s) (fun t => t.fld Reg.PWR_VCORE 27 1 == 1 && t.pwr.change.isNone && t.fld (Reg.PWR_DIE_OP 3) 5 3 == 3) &&
    shows (exec .vrTimeout dev) (fun t => t.fld Reg.PWR_VCORE 27 1 == 0)) = true := by decide +kernel

/-- PWR_OK falls with VAON and without (R379, R536). -/
theorem test_pwrOkFall : (let s := { dev with tly := { Tly.reset with time := 99 } }
    shows (exec (.pwrOkFall false) s) (fun t => t.tly.time == 99 && !t.pin.pwrOk && t.pin.vaon && t.fld Reg.CFG_KEYS 0 2 == 3 && t.docent == State.reset.docent) &&
    shows (exec (.pwrOkFall true) s) (fun t => t.tly.time == 0 && !t.pin.vaon)) = true := by decide +kernel

/-- VLT_SCRUB stands in the register table. -/
theorem test_reg_known : (regAt Reg.VLT_SCRUB).isSome = true := by decide +kernel

/-- The table's row of VLT_SCRUB. -/
def scrubReg : RegInfo × Nat := (regAt Reg.VLT_SCRUB).get test_reg_known

/-- A register written whole, with a byte enable missing, and by the Docent (R8, R11, R440). -/
theorem test_registerWrite : RegHere State.reset .pf0 (BitVec.ofNat 28 Reg.VLT_SCRUB) Reg.VLT_SCRUB scrubReg.1 .single ∧ (let a := Reg.VLT_SCRUB
    State.reset.docentMay a && decide (unitOf a < 7) && unitOf a != 1 &&
    shows (exec (.registerWrite (some .mgmt) (BitVec.ofNat 28 a) 0xFFFFFFFF 15) State.reset) (fun t => t.reg a == writeFields (State.reset.reg a) 0xFFFFFFFF scrubReg.1.flds && t.fld a 0 1 == 1) &&
    shows (exec (.registerWrite (some .mgmt) (BitVec.ofNat 28 a) 0 7) State.reset) (fun t => t.reg a == State.reset.reg a && (t.reg Reg.MBX_ACCLOG_COUNT).toNat == 1) &&
    shows (exec (.registerWrite none (BitVec.ofNat 28 a) 0xFFFFFFFF 15) State.reset) (fun t => t.fld a 0 1 == 1)) = true := by
  refine ⟨⟨by decide +kernel, by decide +kernel, by decide +kernel, ⟨scrubReg.2, by decide +kernel⟩, by decide +kernel⟩, by decide +kernel⟩

/-- A read that clears LNK_DROP, and answers the register or only its low byte (R8, R9, R11). -/
theorem test_readClear : (let s := Tests.put (Reg.LNK_DROP 23) 0 32 0x1234 State.reset
    shows (exec (.readClear .pf0 (BitVec.ofNat 28 (Reg.LNK_DROP 23)) 15) s) (fun t => t.busOut == 0x1234 && (t.reg (Reg.LNK_DROP 23)).toNat == 0) &&
    shows (exec (.readClear .pf0 (BitVec.ofNat 28 (Reg.LNK_DROP 23)) 1) s) (fun t => t.busOut == 0x34 && (t.reg (Reg.LNK_DROP 23)).toNat == 0)) = true := by decide +kernel

/-- A 64-bit register in the last partition's window: the low half captures, the high half commits (R12, R13). -/
theorem test_regHalves : (let s := Tests.put (Reg.CKP_AREA_LO 7) 0 32 0x10000 (Tests.put (Reg.CKP_AREA_HI 7) 0 32 0x22 State.reset)
    let lo := Reg.CKP_AREA_LO 0 - 0x900000 + 0x20000
    (Path.pf1 7).addr lo == some (Reg.CKP_AREA_LO 7) && (regAt (Reg.CKP_AREA_LO 7)).isSome && !s.isRunning (fin8 (Reg.CKP_AREA_HI 7 / 0x1000)) &&
    ((regAt (Reg.CKP_AREA_HI 7)).map fun x => regWritable x.1) == some true && ((regAt (Reg.CKP_AREA_HI 7)).map fun x => x.1.half) == some .hi &&
    shows (exec (.regLoRead (.pf1 7) (BitVec.ofNat 28 lo)) s) (fun t => t.busOut == 0x10000 && t.capt (.pf1 7) == 0x22) &&
    shows (exec (.registerWrite (some (.pf1 7)) (BitVec.ofNat 28 lo) 0x30000 15) s) (fun t => t.holdReg (.pf1 7) == 0x30000 && t.reg (Reg.CKP_AREA_LO 7) == 0x10000) &&
    shows (exec (.regHiWrite (.pf1 7) (BitVec.ofNat 28 (lo + 4)) 0x11 15) (s.setHold (.pf1 7) 0x30000)) (fun t => t.reg64 (Reg.CKP_AREA_LO 7) == 0x11 * 2 ^ 32 + 0x30000) &&
    shows (exec (.readClear (.pf1 7) (BitVec.ofNat 28 (lo + 4)) 15) (s.setCapt (.pf1 7) 0x55)) (fun t => t.busOut == 0x55)) = true := by decide +kernel

/-- REG_READ and REG_WRITE of management mailbox 34 (R468). -/
theorem test_regRead : (let s := sent dev 34 0x0002 Reg.VLT_SCRUB
    Managed s 34 0x0002 (cmd 0x0002 Reg.VLT_SCRUB) [] Reg.VLT_SCRUB ∧ shows (exec (.regRead 34 .none .good) s) (fun t => (t.mbx 34).rsps.length == 1) = true) := by
  unfold Managed Turn; decide +kernel

theorem test_regWrite : (let p := Reg.VLT_SCRUB + 2 ^ 32
    let s := sent dev 34 0x0003 p
    Managed s 34 0x0003 (cmd 0x0003 p) [] p ∧ shows (exec (.regWrite 34 .none) s) (fun t => t.fld Reg.VLT_SCRUB 0 1 == 1) = true ∧
    shows (exec (.regRead 34 .none .good) (sent dev 34 0x0002 1)) (fun t => (t.mbx 34).rsps.map (fun r => r.toNat / 2 ^ 16 % 2 ^ 16) == [9 + 2 ^ 8]) = true) := by
  unfold Managed Turn; decide +kernel

/-- DBG_CLEAR of a DEBUG partition and of another (R177). -/
theorem test_dbgClear : (let h : HazRec := ⟨1, 2, 3, 4⟩
    shows (exec (.dbgClear 7) (with7 fun p => { p with eph := { p.eph with debug := true }, hazBuf := [h] })) (fun t => (t.part 7).hazBuf.isEmpty) &&
    shows (exec (.dbgClear 7) (with7 fun p => { p with hazBuf := [h] })) (fun t => (t.part 7).hazBuf == [h])) = true := by decide +kernel

/-- A Tally row of partition 7. -/
def row7 : TlyRow := ⟨7, 5, 1, 2, 3, 4, false, false⟩

/-- A period closes with the ring's last free place, and merges with none (R517). -/
theorem test_periodBoundary : (let s := fun (k : Nat) => { State.reset with tly := { Tly.reset with rows := [row7], head := 679, unread := (List.range k).map fun i => (i, 0) } }
    (s 0).tallyRoom == 680 && shows (exec .periodBoundary (s 0)) (fun t => t.tly.rows.isEmpty && t.tly.head == 0 && t.tly.unread == [(679, 7)] && (t.reg Reg.TLY_PERIOD_NO).toNat == 1) &&
    (s 1).tallyRoom == 1 &&
    (let u := { s 0 with tly := { (s 0).tly with head := 0, unread := [(0, 0)] } }
     u.tallyRoom == 0 && shows (exec .periodBoundary u) (fun t => t.tly.rows.map (·.merged) == [true] && (t.reg Reg.TLY_MERGED).toNat == 1))) = true := by decide +kernel

/-- A traced core: a branch's record, one that waits for room, one that is dropped (R522 to R524). -/
theorem test_logbookRecord : (let s := fun (full tail : Nat) => Tests.put Reg.LGB_TAIL 0 16 tail (Tests.put Reg.LGB_HEAD 0 16 65535 (Tests.put Reg.LGB_CTRL 0 16 (1 + full * 4 + 0xFF00)
        (Tests.put Reg.SPR_CORES 0 16 0x5555 { dev with lgb := { Lgb.reset with cores := vset Lgb.reset.cores 7 { LgbCore.reset with on := true } } })))
    (s 1 1).lgbOn 7 && (s 1 1).awake && !(s 1 1).lgbExcluded 7 && (s 1 1).lgbRoom && !(s 1 0).lgbRoom && (s 1 0).docentCore 7 &&
    shows (exec (.logbookRecord 7 3 (.branch 5)) (s 1 1)) (fun t => t.fld Reg.LGB_HEAD 0 16 == 0 && mget dWord64 t.lgb.buf 131071 == BitVec.ofNat 64 (3 + 5 * 2 ^ 32)) &&
    shows (exec (.logbookRecord 7 3 (.branch 5)) (s 1 0)) (fun t => (vget t.lgb.cores 7).waitRec.isSome && t.fld Reg.LGB_STATUS 8 1 == 1) &&
    shows (exec (.logbookRecord 7 3 (.branch 5)) (s 0 0)) (fun t => t.lgb.dropped == 1 && (t.reg Reg.LGB_DROP).toNat == 1)) = true := by decide +kernel

theorem test_logbookSpaceFreed : (let s := { dev with lgb := { Lgb.reset with cores := vset Lgb.reset.cores 7 { LgbCore.reset with on := true, waitRec := some (3, 9 + 2 ^ 64) } } }
    s.lgbRoom && shows (exec .logbookSpaceFreed s) (fun t => (vget t.lgb.cores 7).waitRec.isNone && t.fld Reg.LGB_HEAD 0 16 == 1 && mget dWord64 t.lgb.buf 0 == 9) &&
    shows (exec .logbookSpaceFreed dev) (fun t => t.fld Reg.LGB_HEAD 0 16 == 0)) = true := by decide +kernel

theorem test_lgbTailWrite : (let s := Tests.put Reg.LGB_TAIL 0 16 65530 (Tests.put Reg.LGB_HEAD 0 16 3 dev)
    shows (exec (.lgbTailWrite .pf0 3) s) (fun t => t.fld Reg.LGB_TAIL 0 16 == 3) &&
    shows (exec (.lgbTailWrite .pf0 4) s) (fun t => t.fld Reg.LGB_TAIL 0 16 == 65530 && (t.reg Reg.MBX_ACCLOG_COUNT).toNat == 1)) = true := by decide +kernel

/-- Rails and DEVCLK (R512, R514, R536, R539). -/
theorem test_rails : (let off := fun v p => { State.reset with pin := { State.reset.pin with vaon := v, pwrOk := p } }
    shows (exec .vaonRise (off false false)) (fun t => t.pin.vaon && t.tly.powerOn == 1) &&
    shows (exec (.pwrOkRise true 3) (off true false)) (fun t => t.pin == ⟨true, true, true, 3⟩) &&
    shows (exec (.pwrOkRise true 3) (off false false)) (fun t => !t.pin.pwrOk) &&
    shows (exec .devclkLost State.reset) (fun t => (t.reg Reg.CLK_DEVCLK).toNat == 2)) = true := by decide +kernel

/-- The TAP in reset and out of it (R544). -/
theorem test_tap : (let run := Tests.put Reg.CFG_STATUS 0 4 8 State.reset
    State.reset.inReset && !run.inReset && State.reset.pin.vaon && shows (exec .idcode run) (fun t => t.tap.data == 0x1B1E233B) &&
    shows (exec (.extest 5 (some 6)) State.reset) (fun t => t.tap.ir == 3 && t.tap.data == 5 && t.tap.latch == 6) &&
    shows (exec (.extest 5 (some 6)) run) (fun t => t.tap.ir == 0xFF && t.tap.latch == 0) &&
    shows (exec (.extestTrain 5 none) State.reset) (fun t => t.tap.ir == 5 && t.tap.latch == 0) &&
    shows (exec (.samplePreload 5 (some 6)) run) (fun t => t.tap.ir == 2 && t.tap.latch == 6) &&
    shows (exec .clamp run) (fun t => t.tap.ir == 0xFF) && shows (exec (.bypass 3) State.reset) (fun t => t.tap.ir == 0xFF) &&
    shows (exec (.bypass 0x80) State.reset) (fun t => t.tap.ir == 0x80)) = true := by decide +kernel

/-- The canonical form holds at reset and in a state with written registers and bytes; a step keeps it. -/
theorem test_canonical : (let s := { (Tests.put (Reg.SPR_CHEALTH 0 1) 0 8 5 State.reset).setVword 1023 8191 7 with pending := [.devclkLost, .frameGo] }
    mwf resetWord s.regs && mwf dByte s.vlt.mem && mwf resetWord State.reset.regs && State.reset.pending.isEmpty &&
    shows (step s) (fun t => mwf resetWord t.regs && mwf dByte t.vlt.mem && t.pending == [.frameGo] && t.variant == .f)) = true := by decide +kernel

/-- Without a command the block lets a nanosecond pass. -/
theorem test_idle : shows (step State.reset) (fun t => t.pending.isEmpty) = true := by decide +kernel

/-- Every field of a packet's header is bounded (R208). -/
theorem test_wf_packet :
    ((pkt 1 0 0 []).wf && !{ pkt 1 0 0 [] with dest := 256 }.wf && !{ pkt 1 0 0 [] with ep := 16 }.wf && !{ pkt 1 0 0 [] with src := 256 }.wf &&
    !{ pkt 1 0 0 [] with sep := 16 }.wf && !{ pkt 1 0 0 [] with cls := 4 }.wf && !{ pkt 1 0 0 [] with age := 1024 }.wf && !{ pkt 1 0 0 [] with op := 16 }.wf &&
    !{ pkt 1 0 0 [] with len := 9 }.wf && !{ pkt 1 0 0 [] with tag := 256 }.wf && !{ pkt 1 0 0 [] with status := 256 }.wf &&
    !{ pkt 1 0 0 [] with addr := 2 ^ 56 }.wf && !{ pkt 1 0 0 [] with wmask := 2 ^ 32 }.wf && !{ pkt 1 0 0 [] with bmask := 256 }.wf &&
    !{ pkt 1 0 0 [] with data := List.replicate 33 0 }.wf && !(Instr.read { pkt 1 0 0 [] with ep := 16 } false).wf &&
    !(Instr.creditReply 0 0 0 0 ⟨{ pkt 1 0 0 [] with ep := 16 }, false⟩).wf) = true := by decide +kernel

/-- INIT's fields and vote entries (R235, R236). -/
theorem test_wf_flits : (let m : InitMsg := ⟨7, 0x77, 2, 0, 9, 4⟩
    m.wf && !{ m with chan := 8 }.wf && !{ m with machineId := 2 ^ 32 }.wf && !{ m with nDevices := 2 ^ 16 }.wf && !{ m with devIndex := 2 ^ 16 }.wf &&
    !{ m with start := 2 ^ 48 }.wf && !{ m with depth := 2 ^ 16 }.wf && !(Instr.init 0 0 true { m with chan := 8 }).wf &&
    !(Instr.vote 0 0 true 0 0 0 0 []).wf && !(Instr.vote 0 0 true 0 0 0 0 (List.replicate 12 ⟨0, false, false, 0⟩)).wf &&
    !(Instr.vote 0 0 true 0 0 0 0 [⟨256, false, false, 0⟩]).wf && !(Instr.vote 0 0 true 0 0 0 0 [⟨0, false, false, 64⟩]).wf &&
    !(Instr.xchgFlit 0 0 true 0 [] 0 0 0 0).wf && !(Instr.xchgFlit 0 0 true 0 [0, 0, 0, 0] 0 0 0 0).wf) = true := by decide +kernel

/-- What detectors report names units that exist (R16, R139, R180). -/
theorem test_wf_env : (!(StepEnv.wf { bps := [(2 ^ 18, {})] }) && !(StepEnv.wf { routeCorr := [(256, 0)] }) && !(StepEnv.wf { routeUnc := [(0, 128)] }) && !(StepEnv.wf { latPar := [4] }) &&
    !(StepEnv.wf { vaultSbe := [(1024, 0)] }) && !(StepEnv.wf { vaultDbe := [(0, 8192)] }) && !(StepEnv.wf { copyPar := [4096] }) && !(StepEnv.wf { restoreUnc := [4096] }) &&
    !(Instr.stepCycle 0 { latPar := [4] }).wf && !(Instr.latticeDrain 0 { latPar := [4] }).wf && !(Instr.shadowCopy 0 { latPar := [4] }).wf) = true := by decide +kernel

/-- Stores of an ephemeris and what configuration finds (R160, R348). -/
theorem test_wf_images : (ephRec.wf && !{ ephRec with head := [0] }.wf && !{ ephRec with data := [(1, [(2 ^ 29, 0)])] }.wf &&
    !{ ephRec with table := List.replicate 17 (0, 0, 0, 0) }.wf && !(Instr.load 0 (some (cont 4, { ephRec with data := [(1, [(2 ^ 29, 0)])] })) .written).wf &&
    !(Instr.autoloadEntry (.eph (cont 4) 0 { ephRec with head := [0] } true)).wf && boot.wf && !{ boot with badClusters := [4352] }.wf &&
    !{ boot with badBanks := [1056] }.wf && !{ boot with vddio := List.replicate 11 0 }.wf && !(Instr.configurationStart { boot with badBanks := [1056] }).wf) = true := by
  decide +kernel

/-- Words of SLOTS, FTAB, WSINIT and ROUTE where R162 puts them; a word past the section's LENGTH is none of its. -/
theorem test_sections : (let x := ({ ephZero with data := [(1, [(64 * 64 + 2, 5), (65536, 7)]), (2, [(16, 0x0004000300020001)]), (4, [(128 + 63, 0x1111222233334444), (128 + 64, 0x5555)])] }).toEph .f
    x.slots == [(64 * 2048 + 2, 5)] && x.ft == [(64, 1), (65, 2), (66, 3), (67, 4)] &&
    x.desc == [(256 + 252, 0x4444), (256 + 253, 0x3333), (256 + 254, 0x2222), (256 + 255, 0x1111)] && x.sel == [(256, 0x5555)]) = true := by decide +kernel

/-- Offsets, tags and lengths. -/
theorem test_wf_operands : (!(Instr.peekRead .pf0 0x2000004 .none .good).wf && !(Instr.peekRead .pf0 0x6000000 .none .good).wf && !(Instr.peekRead .pf0 0x1FFFFF8 .none .good).wf &&
    !(Instr.peekWrite .pf0 0x2000000 0 .none).wf && !(Instr.depotEchoReply 0 3 4).wf && !(Instr.depotReadData 0 (2 ^ 16) 0 []).wf &&
    !(Instr.depotReadData 0 0 0 (List.replicate 33 0)).wf && !(Instr.depotWriteAck 0 (2 ^ 16) 0).wf && !(Instr.stageTimeout 0 0).wf &&
    !(Instr.replay 0 [entry (2 ^ 48)]).wf && !(Instr.regLoRead .pf0 2).wf && !(Instr.regHiWrite .pf0 1 0 15).wf && !(Instr.readClear .pf0 3 15).wf &&
    !(Instr.registerWrite none 2 0 15).wf && (Instr.registerWrite none 4 0 15).wf) = true := by decide +kernel

end Sys2Proof.Tests
end

section
/-!
SUPPORT. A vault word written reads back; the peek window (R199, R200): what a read and a write of it do, served and refused.
-/
namespace Sys2Proof

/-- A pair among those stored, under a value that its key fixes, reads back. -/
theorem mget_msetAll_map {α : Type} [DecidableEq α] (d : Nat → α) (a : Nat) (f : Nat → α) {i : Nat} :
    ∀ (l : List Nat) (m : List (Nat × α)), i ∈ l → mget d (msetAll d m (l.map fun j => (a + j, f j))) (a + i) = f i
  | j :: r, m, h => by
    by_cases hr : i ∈ r
    · exact mget_msetAll_map d a f r _ hr
    · obtain rfl : i = j := (List.mem_cons.mp h).resolve_right hr
      have hkeys : ∀ e ∈ r.map (fun j => (a + j, f j)), e.1 ≠ a + i := by
        simp only [List.mem_map, forall_exists_index, and_imp, forall_apply_eq_imp_iff₂]
        intro j hj he
        exact hr (Nat.add_left_cancel he ▸ hj)
      simp only [List.map_cons, msetAll]
      rw [mget_msetAll_ne d _ _ hkeys, mget_mset_self]

/-- The low n bytes of a number, each in its place, add up to it modulo 2^(8 n). -/
theorem foldl_bytes (x : Nat) :
    ∀ n, (List.range n).foldl (fun acc i => acc + (BitVec.ofNat 8 (x / 2 ^ (8 * i))).toNat * 2 ^ (8 * i)) 0 = x % 2 ^ (8 * n)
  | 0 => by simp [Nat.mod_one]
  | n + 1 => by
    rw [List.range_succ, List.foldl_append, foldl_bytes x n, Nat.mul_succ, Nat.pow_add, Nat.mod_mul]
    simp [Nat.mul_comm]

end Sys2Proof

namespace Sys2Proof.Machine

open Sys2Proof

/-- A word stored reads back. -/
theorem memRd64_memWr64_self (m : List Host.Cell) (a : Nat) (v : DWord) : memRd64 (memWr64 m a v) a = v := by
  have hbyte : ∀ acc : Nat, ∀ i ∈ List.range 8, acc + (mget dByte (memWr64 m a v) (a + i)).toNat * 2 ^ (8 * i) =
      acc + (BitVec.ofNat 8 (v.toNat / 2 ^ (8 * i))).toNat * 2 ^ (8 * i) := by
    intro acc i hi
    rw [memWr64, dwordBytes, mget_msetAll_map dByte a (fun i => BitVec.ofNat 8 (v.toNat / 2 ^ (8 * i))) _ m hi]
  rw [memRd64, List.foldl_ext _ _ _ hbyte, foldl_bytes, ← BitVec.toNat_inj, BitVec.toNat_ofNat, Nat.mod_mod, Nat.mod_eq_of_lt v.isLt]

/-- A vault word written reads as written. -/
theorem State.setVword_vword_self (s : State) (bank word : Nat) (v : DWord) : (s.setVword bank word v).vword bank word = v :=
  memRd64_memWr64_self _ _ v

/-- A write of one vault word leaves every other word of the banks. -/
theorem State.setVword_vword_other (s : State) {bank word b w : Nat} (v : DWord) (hword : word < 8192) (hw : w < 8192)
    (h : b ≠ bank ∨ w ≠ word) : (s.setVword bank word v).vword b w = s.vword b w :=
  State.setVword_vword_ne s bank word b w v (by unfold bankAddr; omega)

theorem State.setVword_regs (s : State) (bank word : Nat) (v : DWord) : (s.setVword bank word v).regs = s.regs := rfl
theorem State.setVword_parts (s : State) (bank word : Nat) (v : DWord) : (s.setVword bank word v).parts = s.parts := rfl

theorem exec_peekRead (p : Path) (addr : Nat) (meet : Meet) (ecc : Ecc) (s : State) :
    exec (.peekRead p addr meet ecc) s = execPeekRead p addr meet ecc s := rfl

theorem exec_peekWrite (p : Path) (addr : Nat) (hi : Word) (meet : Meet) (s : State) :
    exec (.peekWrite p addr hi meet) s = execPeekWrite p addr hi meet s := rfl

/-- The bank that an offset of the peek window names (R199). -/
abbrev peekBank (addr : Nat) : Nat := (addr - 0x2000000) / 65536

/-- The word of its bank that an offset of the peek window names (R199). -/
abbrev peekWord (addr : Nat) : Nat := (addr - 0x2000000) % 65536 / 8

theorem peekWord_lt (addr : Nat) : peekWord addr < 8192 := by
  unfold peekWord
  omega

/-- A low-half read of the window on PF0 or the management port. -/
theorem exec_peekRead_low {s : State} {p : Path} {addr : Nat} (hp : p = .pf0 ∨ p = .mgmt) (ha : s.isPeek addr = true)
    (hlow : addr % 8 = 0) (meet : Meet) (ecc : Ecc) :
    exec (.peekRead p addr meet ecc) s = .next (s.peekRead p addr meet ecc) := by
  rcases hp with rfl | rfl <;> exact (exec_peekRead ..).trans (if_pos ⟨ha, hlow⟩)

/-- A high-half write of the window on PF0 or the management port. -/
theorem exec_peekWrite_high {s : State} {p : Path} {addr : Nat} (hp : p = .pf0 ∨ p = .mgmt) (ha : s.isPeek addr = true)
    (hhigh : addr % 8 = 4) (hi : Word) (meet : Meet) :
    exec (.peekWrite p addr hi meet) s = .next (s.peekWrite p addr hi meet) := by
  rcases hp with rfl | rfl <;> exact (exec_peekWrite ..).trans (if_pos ⟨ha, hhigh⟩)

/-- A bank of the Docent or the Curator refuses the peek window (R191). -/
theorem State.peekRefuses_of_reserved {s : State} {bank : Nat} (h : s.loanOwner bank = 12 ∨ s.loanOwner bank = 13) :
    s.peekRefuses bank = some .notOwner := if_pos h

theorem State.peekRead_served {s : State} {addr : Nat} (p : Path) (hr : s.peekRefuses (peekBank addr) = none)
    (hd : s.isDbe (peekBank addr) (peekWord addr) = false) :
    s.peekRead p addr .none .good =
      ((s.peekStatus p (peekBank addr) .ok false).setCapt p
        (BitVec.ofNat 32 ((s.vwordN (peekBank addr) (peekWord addr)).toNat / 2 ^ 32))).bus
        (BitVec.ofNat 32 (s.vwordN (peekBank addr) (peekWord addr)).toNat) := by
  have he : s.readEcc (peekBank addr) (peekWord addr) 2 .good = (s, false) := by simp [State.readEcc, hd]
  simp [State.peekRead, hr, meetLater, he]

theorem State.peekRead_refused {s : State} {addr : Nat} {st : Status} (p : Path) (meet : Meet) (ecc : Ecc)
    (hr : s.peekRefuses (peekBank addr) = some st) :
    s.peekRead p addr meet ecc = ((s.peekStatus p (peekBank addr) st false).setCapt p 0).bus 0 := by
  simp [State.peekRead, hr]

theorem State.peekWrite_served {s : State} {addr : Nat} (p : Path) (hi : Word) (hr : s.peekRefuses (peekBank addr) = none)
    (hl : s.wordLogged (peekBank addr) (peekWord addr) = false) :
    s.peekWrite p addr hi .none =
      (s.setVword (peekBank addr) (peekWord addr) (BitVec.ofNat 64 ((s.holdReg p).toNat + hi.toNat * 2 ^ 32))).peekStatus p
        (peekBank addr) .ok false := by
  simp [State.peekWrite, hr, hl, meetLater]

theorem State.peekWrite_refused {s : State} {addr : Nat} {st : Status} (p : Path) (hi : Word) (meet : Meet)
    (hr : s.peekRefuses (peekBank addr) = some st) :
    s.peekWrite p addr hi meet = s.peekStatus p (peekBank addr) st false := by
  simp [State.peekWrite, hr]

/-- VLT_PEEK_STATUS of a path replaced (R200). -/
def State.setPeekStatus (s : State) (p : Path) (w : Word) : State :=
  if p = .mgmt then { s with vlt := { s.vlt with peekMgmt := w } } else { s with vlt := { s.vlt with peekPf0 := w } }

/-- An access of the window replaces the path's VLT_PEEK_STATUS, by a word that shows the code of the status (R200, R202). -/
theorem State.peekStatus_eq_setPeekStatus (s : State) (p : Path) (bank : Nat) (st : Status) (dbe : Bool) :
    ∃ w, s.peekStatus p bank st dbe = s.setPeekStatus p w ∧ bitsAt w 0 8 = st.code := by
  refine ⟨_, rfl, ?_⟩
  have hcode : st.code < 256 := by cases st <;> decide
  rw [bitsAt, BitVec.toNat_ofNat]
  omega

@[simp] theorem State.setPeekStatus_mem (s : State) (p : Path) (w : Word) : (s.setPeekStatus p w).vlt.mem = s.vlt.mem := by
  unfold State.setPeekStatus
  split <;> rfl

@[simp] theorem State.setPeekStatus_regs (s : State) (p : Path) (w : Word) : (s.setPeekStatus p w).regs = s.regs := by
  unfold State.setPeekStatus
  split <;> rfl

@[simp] theorem State.setPeekStatus_parts (s : State) (p : Path) (w : Word) : (s.setPeekStatus p w).parts = s.parts := by
  unfold State.setPeekStatus
  split <;> rfl

@[simp] theorem State.setPeekStatus_vword (s : State) (p : Path) (w : Word) (bank word : Nat) :
    (s.setPeekStatus p w).vword bank word = s.vword bank word := by rw [State.vword, State.setPeekStatus_mem, State.vword]

/-- The path's VLT_PEEK_STATUS reads as replaced. -/
theorem State.peekStatus_setPeekStatus (s : State) (p : Path) (w : Word) :
    (if p = .mgmt then (s.setPeekStatus p w).vlt.peekMgmt else (s.setPeekStatus p w).vlt.peekPf0) = w := by
  unfold State.setPeekStatus
  split <;> rfl

@[simp] theorem State.capt_setCapt_self (s : State) (p : Path) (w : Word) : (s.setCapt p w).capt p = w :=
  mget_mset_self _ s.capts p.key w

@[simp] theorem State.setCapt_vlt (s : State) (p : Path) (w : Word) : (s.setCapt p w).vlt = s.vlt := rfl
@[simp] theorem State.setCapt_regs (s : State) (p : Path) (w : Word) : (s.setCapt p w).regs = s.regs := rfl
@[simp] theorem State.setCapt_parts (s : State) (p : Path) (w : Word) : (s.setCapt p w).parts = s.parts := rfl
@[simp] theorem State.bus_busOut (s : State) (w : Word) : (s.bus w).busOut = w := rfl
@[simp] theorem State.bus_capt (s : State) (w : Word) (p : Path) : (s.bus w).capt p = s.capt p := rfl
@[simp] theorem State.bus_vlt (s : State) (w : Word) : (s.bus w).vlt = s.vlt := rfl
@[simp] theorem State.bus_regs (s : State) (w : Word) : (s.bus w).regs = s.regs := rfl
@[simp] theorem State.bus_parts (s : State) (w : Word) : (s.bus w).parts = s.parts := rfl

end Sys2Proof.Machine

namespace Sys2Proof.Proofs

open Sys2Proof Sys2Proof.Machine Sys2Proof.Statements

/-- Settles O16: each access is the served or the refused one, and a write of one word leaves the others. -/
theorem peekWindowAccess : Obligations.PeekWindowAccess := by
  unfold Obligations.PeekWindowAccess
  refine ⟨fun s path addr hp ha => ⟨fun hlow hr hd => ?_, fun hhigh hr hl hi => ?_, fun howner => ?_⟩,
    fun s n addr meet ecc hi => ⟨⟨_, exec_peekRead .., rfl⟩, exec_peekWrite ..⟩⟩
  · refine ⟨_, exec_peekRead_low hp ha hlow .none .good, ?_⟩
    rw [State.peekRead_served path hr hd]
    obtain ⟨w, hw, -⟩ := s.peekStatus_eq_setPeekStatus path (peekBank addr) .ok false
    simp [hw]
  · refine ⟨_, exec_peekWrite_high hp ha hhigh hi .none, ?_⟩
    rw [State.peekWrite_served path hi hr hl]
    obtain ⟨w, hw, -⟩ := (s.setVword (peekBank addr) (peekWord addr)
      (BitVec.ofNat 64 ((s.holdReg path).toNat + hi.toNat * 2 ^ 32))).peekStatus_eq_setPeekStatus path (peekBank addr) .ok false
    rw [hw]
    refine ⟨(State.setPeekStatus_vword ..).trans (State.setVword_vword_self ..), fun b' w' hw' hne => ?_,
      (State.setPeekStatus_regs ..).trans (State.setVword_regs ..), (State.setPeekStatus_parts ..).trans (State.setVword_parts ..)⟩
    exact (State.setPeekStatus_vword ..).trans (State.setVword_vword_other s _ (peekWord_lt addr) hw' hne)
  · have hr := State.peekRefuses_of_reserved howner
    obtain ⟨w, hw, hcode⟩ := s.peekStatus_eq_setPeekStatus path (peekBank addr) .notOwner false
    refine ⟨fun hlow meet ecc => ⟨_, exec_peekRead_low hp ha hlow meet ecc, ?_⟩,
      fun hhigh hi meet => ⟨_, exec_peekWrite_high hp ha hhigh hi meet, ?_⟩⟩
    · rw [State.peekRead_refused path meet ecc hr, hw]
      exact ⟨State.bus_busOut .., by simp, by simp, by simp, by simp [State.peekStatus_setPeekStatus, hcode, Status.code]⟩
    · rw [State.peekWrite_refused path hi meet hr, hw]
      exact ⟨by simp, by simp, by simp [State.peekStatus_setPeekStatus, hcode, Status.code]⟩

end Sys2Proof.Proofs
end

section
/-!
SUPPORT. What a mailbox command that is answered at once leaves (R449, R452), and which command rows act (R448, R462 to R464).
-/
namespace Sys2Proof

/-- The lowest of a list that ends with a lower bound of it. -/
theorem minOf_append_least (k : Nat) : ∀ l : List Nat, (∀ a ∈ l, k ≤ a) → minOf (l ++ [k]) = some k
  | [], _ => rfl
  | a :: l, h => by
    have hl := minOf_append_least k l fun b hb => h b (List.mem_cons_of_mem a hb)
    simp [minOf, hl, h a List.mem_cons_self]

end Sys2Proof

namespace Sys2Proof.Machine

open Sys2Proof Sys2Proof.Statements

theorem curOnly_of_eq {s t : State} {x : Cur} (h : t = { s with cur := x }) : CurOnly s t := by
  subst h
  rfl

theorem curOnly_refl (s : State) : CurOnly s s := rfl

theorem curOnly_trans {s t u : State} (hst : CurOnly s t) (htu : CurOnly t u) : CurOnly s u := by
  unfold CurOnly at *
  rw [hst] at htu
  exact curOnly_of_eq htu

theorem curOnly_reg {s t : State} (h : CurOnly s t) (a : Nat) : t.reg a = s.reg a := by
  rw [h]
  rfl

theorem curOnly_parts {s t : State} (h : CurOnly s t) : t.parts = s.parts := by rw [h]

theorem State.setMbx_curOnly (s : State) (m : Fin 36) (x : Mbx) : CurOnly s (s.setMbx m x) := rfl

theorem State.mbxIrq_curOnly (s : State) (m : Fin 36) (notify : Bool) : CurOnly s (s.mbxIrq m notify) := by
  unfold State.mbxIrq
  split
  · split
    · rfl
    · split <;> rfl
  · rfl

@[simp] theorem State.mbxIrq_mbx (s : State) (m k : Fin 36) (notify : Bool) : (s.mbxIrq m notify).mbx k = s.mbx k := by
  unfold State.mbxIrq
  split
  · split
    · rfl
    · split <;> rfl
  · rfl

theorem State.enterRsp_curOnly (s : State) (m : Fin 36) (raw : BitVec 512) (notify : Bool) : CurOnly s (s.enterRsp m raw notify) :=
  curOnly_trans (s.setMbx_curOnly m _) (State.mbxIrq_curOnly _ m notify)

/-- A message that enters stands last among the mailbox's responses. -/
@[simp] theorem State.enterRsp_mbx_self (s : State) (m : Fin 36) (raw : BitVec 512) (notify : Bool) :
    (s.enterRsp m raw notify).mbx m = { s.mbx m with rsps := (s.mbx m).rsps ++ [raw] } := by
  simp [State.enterRsp]

theorem State.releaseHeldNotices_curOnly (m : Fin 36) :
    ∀ (l : List (BitVec 512)) (s : State), CurOnly s (s.releaseHeldNotices m l)
  | [], s => curOnly_refl s
  | raw :: r, s => by
    unfold State.releaseHeldNotices
    split
    · exact curOnly_trans (curOnly_trans (s.setMbx_curOnly m _) (State.enterRsp_curOnly _ m raw false))
        (State.releaseHeldNotices_curOnly m r _)
    · exact curOnly_refl s

theorem State.flushMbx_curOnly (m : Fin 36) : ∀ (fuel : Nat) (s : State), CurOnly s (s.flushMbx m fuel)
  | 0, s => curOnly_refl s
  | fuel + 1, s => by
    unfold State.flushMbx
    split
    · refine curOnly_trans ?_ (State.flushMbx_curOnly m fuel _)
      split
      · split
        · exact curOnly_trans (s.setMbx_curOnly m _) (State.releaseHeldNotices_curOnly m _ _)
        · exact curOnly_trans (s.setMbx_curOnly m _) (State.enterRsp_curOnly _ m _ _)
      · exact s.setMbx_curOnly m _
    · exact curOnly_refl s

/-- An answer changes the Curator's state alone. -/
theorem State.reply_curOnly (s : State) (m : Fin 36) (c : Cmd) (r : Rsp) : CurOnly s (s.reply m c r) :=
  curOnly_trans (s.setMbx_curOnly m _) (curOnly_trans (State.setMbx_curOnly _ m _) (State.flushMbx_curOnly m _ _))

/-- A begun command that comes before every queued one is posted once its result is known (R452). -/
theorem Mbx.ready_of_least {x : Mbx} {b : Begun} (hb : x.begun = [b]) (hr : b.result.isSome = true)
    (hlt : ∀ q ∈ x.queue, b.cmd.stamp < q.stamp) : x.ready = some b := by
  have hmin : minOf (x.queue.map (·.stamp) ++ x.begun.map fun b => b.cmd.stamp) = some b.cmd.stamp := by
    rw [hb]
    refine minOf_append_least b.cmd.stamp (x.queue.map (·.stamp)) fun k hk => ?_
    obtain ⟨q, hq, rfl⟩ := List.mem_map.mp hk
    exact (hlt q hq).le
  rw [Mbx.ready, hmin]
  simp [hb, hr]

/-- With nothing begun there is nothing to post. -/
theorem State.flushMbx_of_none_begun {s : State} {m : Fin 36} (h : (s.mbx m).begun = []) (fuel : Nat) : s.flushMbx m fuel = s := by
  have hready : (s.mbx m).ready = none := by
    unfold Mbx.ready
    rw [h]
    split <;> rfl
  cases fuel with
  | zero => rfl
  | succ fuel => simp [State.flushMbx, hready]

/-- A command whose result is known is posted, and nothing else of its mailbox (R449, R452). -/
theorem State.flushMbx_mbx_of_known {s : State} {m : Fin 36} {b : Begun} {r : Rsp} (hb : (s.mbx m).begun = [b])
    (hres : b.result = some r) (hdis : b.discard = false) (hlt : ∀ q ∈ (s.mbx m).queue, b.cmd.stamp < q.stamp) (fuel : Nat) :
    (s.flushMbx m (fuel + 1)).mbx m = { s.mbx m with begun := [], rsps := (s.mbx m).rsps ++
      [rspBytes b.cmd.op r.status.code r.detail b.cmd.tag r.len b.cmd.stamp r.payload] } := by
  have hready := Mbx.ready_of_least hb (by simp [hres]) hlt
  rw [State.flushMbx, hready]
  simp only [hb, hres, hdis, Bool.false_eq_true, if_false]
  rw [State.flushMbx_of_none_begun (by simp)]
  simp

/-- A command that stands first in its queue, with nothing begun, is answered at once (R449, R452). -/
theorem State.reply_answered {s : State} {m : Fin 36} {c : Cmd} {rest : List Cmd} (hq : (s.mbx m).queue = c :: rest)
    (hlt : ∀ q ∈ rest, c.stamp < q.stamp) (hb : (s.mbx m).begun = []) (r : Rsp) : Answered s (s.reply m c r) m c rest r := by
  have hrest : (s.mbx m).queue.filter (fun q => q.stamp != c.stamp) = rest := by
    rw [hq, List.filter_cons_of_neg (by simp), List.filter_eq_self]
    intro q hq
    simpa using (hlt q hq).ne'
  unfold Answered State.reply State.answer State.begin
  rw [State.flushMbx_mbx_of_known (b := ⟨c, c.part, true, false, .result, some r⟩) (r := r) (by simp [hb]) rfl rfl
    (by simpa [hrest] using hlt)]
  simp [hrest, hb]

/-- Which command of its mailbox a row lets act: the Curator's next with its opcode, when nothing refuses it. -/
theorem State.cmdRow_acts {s : State} {m : Fin 36} {f : Form} {c : Cmd} {sel : Cmd → Bool} {named : Fin 8 → Cmd → Bool}
    {act : State → Cmd → State} (hdue : s.due m f.op = some c) (hsel : sel c = true)
    (hok : s.refusal m f (fun n => named n c) c = none) : s.cmdRow m f sel named act = act s c := by
  simp [State.cmdRow, hdue, hsel, hok]

/-- A payload that fits the bytes its layout defines in full carries no reserved bit (R14). -/
theorem badPayload_of_lt {pay k : Nat} {used : List (Nat × Nat × Nat)}
    (hmask : used.foldl (fun a u => a ||| (u.2.2 % 2 ^ (8 * u.2.1) * 2 ^ (8 * u.1))) 0 = 2 ^ (8 * k) - 1)
    (hpay : pay < 2 ^ (8 * k)) : badPayload pay used = none := by
  have hbyte : ∀ i, (pay / 2 ^ (8 * i) % 256) &&& (255 - (2 ^ (8 * k) - 1) / 2 ^ (8 * i) % 256) = 0 := by
    intro i
    rcases Nat.lt_or_ge i k with hi | hi
    · have hall : (2 ^ (8 * k) - 1) / 2 ^ (8 * i) % 256 = 255 := by
        refine Nat.eq_of_testBit_eq fun j => ?_
        rw [show 256 = 2 ^ 8 from rfl, show 255 = 2 ^ 8 - 1 from rfl]
        simp only [Nat.testBit_mod_two_pow, Nat.testBit_div_two_pow, Nat.testBit_two_pow_sub_one]
        by_cases hj : j < 8 <;> simp [hj]
        omega
      simp [hall]
    · have hzero : pay / 2 ^ (8 * i) = 0 := Nat.div_eq_of_lt (hpay.trans_le (Nat.pow_le_pow_right (by omega) (by omega)))
      simp [hzero]
  simp [badPayload, hmask, hbyte]

/-- A command of a management mailbox that may read and write registers acts when its payload has no reserved bit (R447, R463). -/
theorem cmdRow_of_managed {s : State} {m : Fin 36} {f : Form} {c : Cmd} {rest : List Cmd} {p : Nat}
    (h : Managed s m f.op c rest p) (hmg : f.mg = true) (hpay : badPayload p f.used = none) (named : Fin 8 → Cmd → Bool)
    (act : State → Cmd → State) : s.cmdRow m f (fun _ => true) named act = act s c := by
  obtain ⟨⟨hdue, -, -, -⟩, hlo, hhi, hdoc, hhead, hdesc, rfl⟩ := h
  have htenant : tenantOf m = none := dif_neg (by omega)
  have hperm : s.notAllowed m f false = none := by
    have h1 : ¬ (m.val = 23 ∨ m.val = 35) := by omega
    have h2 : ¬ m.val < 23 := by omega
    have h3 : ¬ m.val < 32 := by omega
    simp [State.notAllowed, permit, h1, h2, h3, hdoc, hmg]
  exact State.cmdRow_acts hdue rfl (by simp [State.refusal, hhead, hdesc, htenant, hperm, hpay])

/-- The command of such a mailbox is answered at once, in any state that has the mailbox as it was. -/
theorem reply_of_managed {s t : State} {m : Fin 36} {op p : Nat} {c : Cmd} {rest : List Cmd} (h : Managed s m op c rest p)
    (ht : t.mbx m = s.mbx m) (r : Rsp) : Answered s (t.reply m c r) m c rest r := by
  obtain ⟨⟨-, hq, hlt, hb⟩, -⟩ := h
  have ha := State.reply_answered (s := t) (ht ▸ hq) hlt (ht ▸ hb) r
  unfold Answered at *
  rw [ha, ht]

end Sys2Proof.Machine
end

section
/-!
SUPPORT. Accesses of a register (R8, R9, R11 to R13): where an offset leads, what a read and a write of a register leave, and what
the access log takes.
-/
namespace Sys2Proof.Machine

open Sys2Proof Sys2Proof.Statements

theorem exec_readClear (p : Path) (off : BitVec 28) (be : BitVec 4) (s : State) :
    exec (.readClear p off be) s = .next (s.readBytes p (off.toNat / 4 * 4) be.toNat) := rfl

theorem exec_regLoRead (p : Path) (off : BitVec 28) (s : State) : exec (.regLoRead p off) s = execRegLoRead p off s := rfl

theorem exec_regHiWrite (p : Path) (off : BitVec 28) (v : Word) (be : BitVec 4) (s : State) :
    exec (.regHiWrite p off v be) s = execRegHiWrite p off v be s := rfl

theorem exec_registerWrite_path (p : Path) (off : BitVec 28) (v : Word) (be : BitVec 4) (s : State) :
    exec (.registerWrite (some p) off v be) s = .next (s.writePath p (off.toNat / 4 * 4) v be.toNat .none) := rfl

theorem exec_registerWrite_docent (off : BitVec 28) (v : Word) (be : BitVec 4) (s : State) :
    exec (.registerWrite none off v be) s = .next (s.docentWrite (off.toNat / 4 * 4) v be.toNat) := rfl

theorem exec_regRead (m : Fin 36) (meet : Meet) (ecc : Ecc) (s : State) : exec (.regRead m meet ecc) s = execRegRead m meet ecc s := rfl

theorem exec_regWrite (m : Fin 36) (meet : Meet) (s : State) : exec (.regWrite m meet) s = execRegWrite m meet s := rfl

theorem exec_dbgClear (n : Fin 8) (s : State) : exec (.dbgClear n) s = .next (s.dbgClear n) := rfl

/-- All the bits of a word. -/
theorem w32_and_all (x : Word) : w32 (x.toNat &&& (2 ^ 32 - 1)) = x := by
  rw [Nat.and_two_pow_sub_one_eq_mod, Nat.mod_eq_of_lt x.isLt, w32, BitVec.ofNat_toNat, BitVec.setWidth_eq]

theorem byteMask_all : byteMask 15 = 2 ^ 32 - 1 := by decide

/-- A count of a whole register saturates at its largest value. -/
theorem State.toNat_reg_addFld_word (s : State) (a k : Nat) :
    ((s.addFld a 0 32 k).reg a).toNat = min (2 ^ 32 - 1) ((s.reg a).toNat + k) := by
  have hlt := (s.reg a).isLt
  rw [State.addFld, State.reg_setFld_self, setBitsAt_toNat _ 0 32 _ le_rfl, State.fld, bitsAt, satAdd]
  omega

/-- The access log with other contents. -/
def State.setAccLog (s : State) (l : List (Nat × Word)) : State := { s with cur := { s.cur with accLog := l } }

theorem State.setAccLog_reg (s : State) (l : List (Nat × Word)) (a : Nat) : (s.setAccLog l).reg a = s.reg a := rfl

theorem State.msi_reg (s : State) (fn vector a : Nat) : (s.msi fn vector).reg a = s.reg a := rfl

/-- An entry of the access log changes its contents, raises its count and sends a message (R446). -/
theorem State.logRaw_eq (s : State) (reason off : Nat) (v : Word) (path be : Nat) :
    ∃ l, s.logRaw reason off v path be = ((s.setAccLog l).addFld Reg.MBX_ACCLOG_COUNT 0 32 1).msi 0 32 := ⟨_, rfl⟩

theorem State.logRaw_logged (s : State) (reason off : Nat) (v : Word) (path be : Nat) :
    Logged s (s.logRaw reason off v path be) := by
  obtain ⟨l, hl⟩ := s.logRaw_eq reason off v path be
  rw [hl]
  refine ⟨?_, fun b hb => ?_⟩
  · rw [State.msi_reg, State.toNat_reg_addFld_word, State.setAccLog_reg]
  · rw [State.msi_reg, State.reg_addFld_ne _ _ _ _ (by simpa using hb), State.setAccLog_reg]

theorem State.setAccLog_curOnly (s : State) (l : List (Nat × Word)) : CurOnly s (s.setAccLog l) := rfl

theorem State.msi_curOnly (s : State) (fn vector : Nat) : CurOnly s (s.msi fn vector) := rfl

theorem State.setAccLog_mbx (s : State) (l : List (Nat × Word)) (m : Fin 36) : (s.setAccLog l).mbx m = s.mbx m := rfl

theorem State.msi_mbx (s : State) (fn vector : Nat) (m : Fin 36) : (s.msi fn vector).mbx m = s.mbx m := rfl

theorem State.addFld_mbx (s : State) (a lo w k : Nat) (m : Fin 36) : (s.addFld a lo w k).mbx m = s.mbx m := rfl

/-- A change of registers between two of the Curator's state leaves the rest of the state. -/
theorem regs_cur_frame {s t u w : State} (hst : CurOnly s t) (htu : u = { t with regs := u.regs }) (huw : CurOnly u w) :
    w = { s with regs := w.regs, cur := w.cur } := by
  unfold CurOnly at *
  rw [hst] at htu
  rw [htu] at huw
  rw [huw]

/-- An entry of the access log changes the registers and the Curator's state alone. -/
theorem State.logRaw_frame (s : State) (reason off : Nat) (v : Word) (path be : Nat) :
    s.logRaw reason off v path be =
      { s with regs := (s.logRaw reason off v path be).regs, cur := (s.logRaw reason off v path be).cur } := by
  obtain ⟨l, hl⟩ := s.logRaw_eq reason off v path be
  rw [hl]
  exact regs_cur_frame (s.setAccLog_curOnly l) (State.addFld_frame ..) (State.msi_curOnly ..)

/-- An entry of the access log changes no mailbox. -/
theorem State.logRaw_mbx (s : State) (reason off : Nat) (v : Word) (path be : Nat) (m : Fin 36) :
    (s.logRaw reason off v path be).mbx m = s.mbx m := by
  obtain ⟨l, hl⟩ := s.logRaw_eq reason off v path be
  rw [hl, State.msi_mbx, State.addFld_mbx, State.setAccLog_mbx]

/-- A write with byte enables missing only enters the access log (R11). -/
theorem State.writePath_of_partial (s : State) (p : Path) (off : Nat) (v : Word) {be : BitVec 4} (hbe : be ≠ 15) (meet : Meet) :
    s.writePath p off v be.toNat meet = s.logRaw 1 (p.logOff off) v p.code be.toNat := by
  refine if_pos fun h => hbe ?_
  exact BitVec.eq_of_toNat_eq h

/-- With all byte enables a read answers what it read. -/
theorem State.readBytes_all (s : State) (p : Path) (off : Nat) : s.readBytes p off 15 = s.readPath p off .none .good := by
  rw [State.readBytes, byteMask_all, w32_and_all]
  rfl

/-- A read clears nothing but RC fields of the register read (R8). -/
theorem State.clearRc_frame (s : State) (a : Nat) (l : List Fld) : s.clearRc a l = { s with regs := (s.clearRc a l).regs } := by
  unfold State.clearRc
  split <;> rfl

@[simp] theorem State.clearRc_parts (s : State) (a : Nat) (l : List Fld) : (s.clearRc a l).parts = s.parts := by
  rw [State.clearRc_frame]

@[simp] theorem State.clearRc_mbx (s : State) (a : Nat) (l : List Fld) (m : Fin 36) : (s.clearRc a l).mbx m = s.mbx m := by
  rw [State.clearRc_frame]
  rfl

@[simp] theorem State.clearRc_capt (s : State) (a : Nat) (l : List Fld) (p : Path) : (s.clearRc a l).capt p = s.capt p := by
  rw [State.clearRc_frame]
  rfl

theorem State.reg_clearRc_self (s : State) (a : Nat) (l : List Fld) :
    (s.clearRc a l).reg a = w32 ((s.reg a).toNat &&& (2 ^ 32 - 1 - rcMask l)) := by
  unfold State.clearRc
  split
  · rename_i hmask
    rw [hmask, Nat.sub_zero, w32_and_all]
  · rw [State.reg_setReg_self]

theorem State.reg_clearRc_ne (s : State) {a b : Nat} (l : List Fld) (h : b ≠ a) : (s.clearRc a l).reg b = s.reg b := by
  unfold State.clearRc
  split
  · rfl
  · exact State.reg_setReg_ne s _ h

@[simp] theorem State.bus_mbx (s : State) (w : Word) (m : Fin 36) : (s.bus w).mbx m = s.mbx m := rfl

/-- The effect of a read on the registers: RC fields of the one read are cleared (R8, R9). -/
def RcCleared (s t : State) (a : Nat) (l : List Fld) : Prop :=
  t.reg a = w32 ((s.reg a).toNat &&& (2 ^ 32 - 1 - rcMask l)) ∧ RegsBut s t [a] ∧ t.parts = s.parts

theorem State.clearRc_bus_cleared (s : State) (a : Nat) (l : List Fld) (w : Word) : RcCleared s ((s.clearRc a l).bus w) a l :=
  ⟨s.reg_clearRc_self a l, fun b hb => s.reg_clearRc_ne l (by simpa using hb), s.clearRc_parts a l⟩

theorem regsBut_setReg (s : State) (a : Nat) (w : Word) : RegsBut s (s.setReg a w) [a] :=
  fun b hb => s.reg_setReg_ne w (by simpa using hb)

/-- A write of a register of a unit without rules of its own for writes is by its fields' types, but that it may release
VAULT_BUSY_N (R8, R198). -/
theorem State.writeUnit_plain (s : State) (src : Option Path) {a : Nat} (l : List Fld) (v : Word) (hlt : unitOf a < 7)
    (hne : unitOf a ≠ 1) :
    s.writeUnit src a l v = s.writeGen a l v ∨
      a = Reg.VLT_BUSY_PIN ∧ s.writeUnit src a l v = (s.writeGen a l v).releaseBusy := by
  have hunit : unitOf a = 3 ∨ unitOf a = 0 ∨ unitOf a = 2 ∨ unitOf a = 4 ∨ unitOf a = 5 ∨ unitOf a = 6 := by omega
  unfold State.writeUnit
  rcases hunit with h | h | h | h | h | h <;> rw [h]
  · by_cases hpin : a = Reg.VLT_BUSY_PIN ∧ bitsAt v 0 1 = 0
    · exact .inr ⟨hpin.1, if_pos hpin⟩
    · exact .inl (if_neg hpin)
  all_goals exact .inl rfl

/-- What a write by the fields' types leaves of the rest (R8, R198). -/
def Kept (s t : State) (a : Nat) : Prop :=
  RegsBut s t [a] ∧ t = { s with regs := t.regs, vlt := t.vlt } ∧ t.vlt.mem = s.vlt.mem ∧ (a ≠ Reg.VLT_BUSY_PIN → t.vlt = s.vlt)

theorem State.writeGen_kept (s : State) (a : Nat) (l : List Fld) (v : Word) : Kept s (s.writeGen a l v) a :=
  ⟨regsBut_setReg s a _, rfl, rfl, fun _ => rfl⟩

theorem State.writeUnit_plain_kept (s : State) (src : Option Path) {a : Nat} (l : List Fld) (v : Word)
    (hplain : unitOf a < 7 ∧ unitOf a ≠ 1) :
    (s.writeUnit src a l v).reg a = writeFields (s.reg a) v l ∧ Kept s (s.writeUnit src a l v) a := by
  rcases s.writeUnit_plain src l v hplain.1 hplain.2 with h | ⟨hpin, h⟩ <;> rw [h]
  · exact ⟨s.reg_setReg_self a _, s.writeGen_kept a l v⟩
  · exact ⟨s.reg_setReg_self a _, regsBut_setReg s a _, rfl, rfl, fun hne => absurd hpin hne⟩

theorem kept_mbx {s t : State} {a : Nat} (h : Kept s t a) (m : Fin 36) : t.mbx m = s.mbx m := by
  rw [h.2.1]
  rfl

theorem kept_parts {s t : State} {a : Nat} (h : Kept s t a) : t.parts = s.parts := by rw [h.2.1]

/-- A register row that is found stands in the table, and covers the address. -/
theorem findReg_eq_some {a i : Nat} {r : RegInfo} :
    ∀ {l : List RegInfo}, findReg l a = some (r, i) → r ∈ l ∧ r.base ≤ a ∧ dimsMatch r.dims (a - r.base) = some i
  | r' :: l, h => by
    have hrest : findReg l a = some (r, i) → r ∈ r' :: l ∧ r.base ≤ a ∧ dimsMatch r.dims (a - r.base) = some i := fun h' =>
      (findReg_eq_some h').imp_left (List.mem_cons_of_mem r')
    unfold findReg at h
    split at h
    · rename_i hbase
      split at h
      · rename_i hdims
        obtain ⟨rfl, rfl⟩ : r' = r ∧ _ = i := by simpa using h
        exact ⟨List.mem_cons_self, hbase, hdims⟩
      · exact hrest h
    · exact hrest h

/-- The upper halves among the capture registers: CAP_MARK_HI, CAP_DRAIN_BASE_HI and CAP_DEAD_NS_HI (R308). -/
theorem regTableCAP_hi : ∀ r ∈ regTableCAP, r.half = .hi →
    (r.base, r.dims) ∈ [(0x80002C, [(0x1000, 8)]), (0x800034, [(0x1000, 8)]), (0x800118, [(0x1000, 8), (0x20, 4)])] := by decide

/-- Only CAP_MARK_HI is the upper half at its place in a capture unit's page. -/
theorem eq_CAP_MARK_HI {a i : Nat} {r : RegInfo} (hreg : regAt a = some (r, i)) (hhi : r.half = .hi) (hunit : unitOf a = 8)
    (hoff : a % 0x1000 = 0x2C) : ∃ n : Fin 8, a = Reg.CAP_MARK_HI n := by
  have htable : regTableOf a = regTableCAP := by
    unfold unitOf at hunit
    rw [regTableOf, hunit]
    rfl
  rw [regAt, htable] at hreg
  obtain ⟨hmem, hbase, hdims⟩ := findReg_eq_some hreg
  have hrow := regTableCAP_hi r hmem hhi
  simp only [List.mem_cons, Prod.mk.injEq, List.not_mem_nil, or_false] at hrow
  rcases hrow with ⟨hb, hd⟩ | ⟨hb, hd⟩ | ⟨hb, hd⟩ <;> rw [hb] at hbase hdims <;> rw [hd] at hdims <;>
    simp only [dimsMatch, Option.ite_none_right_eq_some] at hdims
  · obtain ⟨⟨hmod, hlt⟩, -⟩ := hdims
    exact ⟨⟨(a - 0x80002C) / 0x1000, hlt⟩, by simp only [Reg.CAP_MARK_HI]; omega⟩
  · omega
  · omega

/-- A write of an upper half that the partition's state does not forbid and that is no mark commits both halves (R12). -/
theorem State.writeHi_commits (s : State) (p : Path) {a i j : Nat} {r r0 : RegInfo} (v : Word) (hreg : regAt a = some (r, j))
    (hhi : r.half = .hi) (hlo : regAt (a - 4) = some (r0, i)) (hmark : ∀ n : Fin 8, a ≠ Reg.CAP_MARK_HI n)
    (hrun : unitOf a = 9 → s.isRunning (fin8 (a / 0x1000)) = false) :
    s.writeHi p a r.flds v = (s.writeGen (a - 4) r0.flds (s.holdReg p)).writeGen a r.flds v := by
  have hnotmark : ¬ (unitOf a = 8 ∧ a % 0x1000 = 0x2C) := fun ⟨hunit, hoff⟩ =>
    let ⟨n, hn⟩ := eq_CAP_MARK_HI hreg hhi hunit hoff
    hmark n hn
  have hpart : fin8 (a % 0x100000 / 0x1000) = fin8 (a / 0x1000) := by
    unfold fin8
    simp only [Fin.mk.injEq]
    omega
  have hnotrun : ¬ (unitOf a = 9 ∧ s.isRunning (fin8 (a % 0x100000 / 0x1000)) = true) := by
    rintro ⟨hunit, hr⟩
    rw [hpart, hrun hunit] at hr
    exact Bool.false_ne_true hr
  simp only [State.writeHi, hnotmark, hnotrun, hlo, if_false]

end Sys2Proof.Machine

namespace Sys2Proof.Statements

open Sys2Proof.Machine

variable {s : State} {p : Path} {off : BitVec 28} {a : Nat} {r : RegInfo} {k : Half}

theorem RegHere.aligned (h : RegHere s p off a r k) : off.toNat / 4 * 4 = off.toNat := by
  have := h.1
  omega

theorem RegHere.halfAt (h : RegHere s p off a r k) : s.halfAt p off.toNat = k := by
  obtain ⟨-, haddr, -, ⟨i, hreg⟩, hhalf⟩ := h
  simp [State.halfAt, haddr, hreg, hhalf]

/-- A full read of a register of its own 32 bits (R8). -/
theorem RegHere.readPath_single (h : RegHere s p off a r .single) (meet : Meet) (ecc : Ecc) :
    s.readPath p off.toNat meet ecc = (s.clearRc a r.flds).bus (s.readReg p a) := by
  obtain ⟨-, haddr, habs, ⟨i, hreg⟩, hhalf⟩ := h
  simp [State.readPath, haddr, State.readAt, habs, hreg, hhalf]

/-- A full read of a lower half captures the upper one (R13). -/
theorem RegHere.readPath_lo (h : RegHere s p off a r .lo) (meet : Meet) (ecc : Ecc) :
    s.readPath p off.toNat meet ecc = ((s.setCapt p (s.readReg p (a + 4))).clearRc a r.flds).bus (s.readReg p a) := by
  obtain ⟨-, haddr, habs, ⟨i, hreg⟩, hhalf⟩ := h
  simp [State.readPath, haddr, State.readAt, habs, hreg, hhalf]

/-- A full read of an upper half answers the capture (R13). -/
theorem RegHere.readPath_hi (h : RegHere s p off a r .hi) (meet : Meet) (ecc : Ecc) :
    s.readPath p off.toNat meet ecc = s.bus (s.capt p) := by
  obtain ⟨-, haddr, habs, ⟨i, hreg⟩, hhalf⟩ := h
  simp [State.readPath, haddr, State.readAt, habs, hreg, hhalf]

theorem RegHere.writePath_single (h : RegHere s p off a r .single) (v : Word) (meet : Meet) :
    s.writePath p off.toNat v 15 meet = s.writeUnit (some p) a r.flds v := by
  obtain ⟨-, haddr, habs, ⟨i, hreg⟩, hhalf⟩ := h
  simp [State.writePath, haddr, State.writeAt, habs, hreg, hhalf]

/-- A write of a lower half is held (R12). -/
theorem RegHere.writePath_lo (h : RegHere s p off a r .lo) (hw : regWritable r = true) (v : Word) (meet : Meet) :
    s.writePath p off.toNat v 15 meet = s.setHold p v := by
  obtain ⟨-, haddr, habs, ⟨i, hreg⟩, hhalf⟩ := h
  simp [State.writePath, haddr, State.writeAt, habs, hreg, hhalf, hw]

theorem RegHere.writePath_hi (h : RegHere s p off a r .hi) (hw : regWritable r = true) (v : Word) (meet : Meet) :
    s.writePath p off.toNat v 15 meet = s.writeHi p a r.flds v := by
  obtain ⟨-, haddr, habs, ⟨i, hreg⟩, hhalf⟩ := h
  simp [State.writePath, haddr, State.writeAt, habs, hreg, hhalf, hw]

/-- A Docent core's write of a register that it may write and that is none of its own Registrar ones (R440). -/
theorem RegHere.docentWrite_single (h : RegHere s .pf0 off a r .single) (hmay : s.docentMay a = true) (hunit : unitOf a ≠ 16)
    (v : Word) : s.docentWrite off.toNat v 15 = s.writeUnit none a r.flds v := by
  obtain ⟨-, haddr, habs, ⟨i, hreg⟩, hhalf⟩ := h
  obtain rfl : off.toNat = a := by simpa [Path.addr] using haddr
  simp [State.docentWrite, habs, hreg, hhalf, hmay, hunit]

end Sys2Proof.Statements

namespace Sys2Proof.Proofs

open Sys2Proof Sys2Proof.Machine Sys2Proof.Statements

/-- A write with byte enables missing enters the access log, and a read with them missing answers the bytes of a full read (R11). -/
theorem partial_byte_enables (s : State) (p : Path) (off : BitVec 28) (v : Word) (be : BitVec 4) :
    (be ≠ 15 → off.toNat % 4 = 0 → ∃ t, exec (.registerWrite (some p) off v be) s = .next t ∧ Logged s t ∧
      t = { s with regs := t.regs, cur := t.cur } ∧ ∀ m, t.mbx m = s.mbx m) ∧
    (∃ t, exec (.readClear p off 15) s = .next t ∧
      exec (.readClear p off be) s = .next { t with busOut := w32 (t.busOut.toNat &&& byteMask be.toNat) }) := by
  refine ⟨fun hbe _ => ?_, ⟨_, exec_readClear .., ?_⟩⟩
  · refine ⟨_, exec_registerWrite_path .., ?_⟩
    rw [State.writePath_of_partial s p _ v hbe]
    exact ⟨s.logRaw_logged .., s.logRaw_frame .., fun _ => s.logRaw_mbx ..⟩
  · rw [show ((15 : BitVec 4).toNat) = 15 from rfl, State.readBytes_all]
    rfl

/-- Reads and writes of a register of its own 32 bits, on a path and by the Docent (R8, R10, R440). -/
theorem single_register_accesses {s : State} {p : Path} {off : BitVec 28} {a : Nat} {r : RegInfo}
    (h : RegHere s p off a r .single) (v : Word) (be : BitVec 4) :
    (∃ t, exec (.readClear p off be) s = .next t ∧ t.busOut = w32 ((s.readReg p a).toNat &&& byteMask be.toNat) ∧
      RcCleared s t a r.flds) ∧
    exec (.regLoRead p off) s = .next s ∧ exec (.regHiWrite p off v be) s = .next s ∧
    (unitOf a < 7 ∧ unitOf a ≠ 1 → ∃ t, exec (.registerWrite (some p) off v 15) s = .next t ∧
      t.reg a = writeFields (s.reg a) v r.flds ∧ Kept s t a) ∧
    (unitOf a < 7 ∧ unitOf a ≠ 1 → p = .pf0 → s.docentMay a = true →
      ∃ t, exec (.registerWrite none off v 15) s = .next t ∧ t.reg a = writeFields (s.reg a) v r.flds ∧ Kept s t a) := by
  have hoff := h.aligned
  refine ⟨⟨_, exec_readClear .., ?_⟩, ?_, ?_, fun hplain => ⟨_, exec_registerWrite_path .., ?_⟩,
    fun hplain hp hmay => ⟨_, exec_registerWrite_docent .., ?_⟩⟩
  · rw [hoff, State.readBytes, h.readPath_single]
    exact ⟨rfl, s.clearRc_bus_cleared a r.flds _⟩
  · rw [exec_regLoRead, execRegLoRead, hoff, h.halfAt]
    rfl
  · rw [exec_regHiWrite, execRegHiWrite, hoff, h.halfAt]
    rfl
  · rw [hoff]
    exact (h.writePath_single v .none).symm ▸ s.writeUnit_plain_kept (some p) r.flds v hplain
  · subst hp
    rw [hoff]
    exact (h.docentWrite_single hmay (by omega) v).symm ▸ s.writeUnit_plain_kept none r.flds v hplain

/-- A lower half: its read captures the upper half, its write is held (R12, R13). -/
theorem lower_half_accesses {s : State} {p : Path} {off : BitVec 28} {a : Nat} {r : RegInfo} (h : RegHere s p off a r .lo)
    (v : Word) :
    (∃ t, exec (.regLoRead p off) s = .next t ∧ t.busOut = s.readReg p a ∧ t.capt p = s.readReg p (a + 4) ∧
      RcCleared s t a r.flds) ∧
    (regWritable r = true → exec (.registerWrite (some p) off v 15) s = .next (s.setHold p v)) := by
  have hoff := h.aligned
  refine ⟨⟨_, ?_, State.bus_busOut .., ?_, State.clearRc_bus_cleared (s.setCapt p (s.readReg p (a + 4))) a r.flds (s.readReg p a)⟩,
    fun hw => ?_⟩
  · rw [exec_regLoRead, execRegLoRead, hoff, h.halfAt, if_pos rfl, h.readPath_lo]
  · rw [State.bus_capt, State.clearRc_capt, State.capt_setCapt_self]
  · rw [exec_registerWrite_path, hoff]
    exact congrArg _ (h.writePath_lo hw v .none)

/-- An upper half is read from the capture (R13). -/
theorem upper_half_read {s : State} {p : Path} {off : BitVec 28} {a : Nat} {r : RegInfo} (h : RegHere s p off a r .hi) :
    exec (.readClear p off 15) s = .next { s with busOut := s.capt p } := by
  rw [exec_readClear, h.aligned, show ((15 : BitVec 4).toNat) = 15 from rfl, State.readBytes_all, h.readPath_hi]
  rfl

/-- An upper half's write commits both halves (R12). -/
theorem upper_half_write {s : State} {p : Path} {off : BitVec 28} {a i : Nat} {r r0 : RegInfo} (h : RegHere s p off a r .hi)
    (v : Word) (h4 : 4 ≤ a) (hlo : regAt (a - 4) = some (r0, i)) (hw : regWritable r = true)
    (hmark : ∀ n : Fin 8, a ≠ Reg.CAP_MARK_HI n) (hrun : unitOf a = 9 → s.isRunning (fin8 (a / 0x1000)) = false) :
    ∃ t, exec (.regHiWrite p off v 15) s = .next t ∧ t.reg (a - 4) = writeFields (s.reg (a - 4)) (s.holdReg p) r0.flds ∧
      t.reg a = writeFields (s.reg a) v r.flds ∧ RegsBut s t [a - 4, a] ∧ t = { s with regs := t.regs } := by
  have hne : a - 4 ≠ a := by omega
  obtain ⟨-, -, -, ⟨j, hreg⟩, hhi⟩ := id h
  refine ⟨(s.writeGen (a - 4) r0.flds (s.holdReg p)).writeGen a r.flds v, ?_, ?_, ?_, fun b hb => ?_, rfl⟩
  · rw [exec_regHiWrite, execRegHiWrite, h.aligned, h.halfAt, if_pos rfl, ← s.writeHi_commits p v hreg hhi hlo hmark hrun]
    exact congrArg _ (h.writePath_hi hw v .none)
  · rw [State.writeGen, State.reg_setReg_ne _ _ hne, State.writeGen, State.reg_setReg_self]
  · rw [State.writeGen, State.reg_setReg_self, State.writeGen, State.reg_setReg_ne _ _ hne.symm]
  · simp only [List.mem_cons, List.not_mem_nil, or_false, not_or] at hb
    rw [State.writeGen, State.reg_setReg_ne _ _ hb.2, State.writeGen, State.reg_setReg_ne _ _ hb.1]

/-- The payload of a register command: an offset of 28 bits, and a value above its first word (R468). -/
theorem pay_offset_value {c : Cmd} {off : BitVec 28} {v : Word} (h : c.payload = off.toNat + v.toNat * 2 ^ 32) :
    c.pay 0 4 = off.toNat ∧ c.pay 4 4 = v.toNat := by
  have := off.isLt
  have := v.isLt
  unfold Cmd.pay
  rw [h]
  constructor <;> omega

theorem pay_offset {c : Cmd} {off : BitVec 28} (h : c.payload = off.toNat) : c.pay 0 4 = off.toNat :=
  (pay_offset_value (v := 0) (by simpa using h)).1

/-- REG_READ's own rules, on a payload that carries an offset (R468). -/
theorem exec_regRead_of_managed {s : State} {m : Fin 36} {c : Cmd} {rest : List Cmd} {off : BitVec 28}
    (h : Managed s m 0x0002 c rest off.toNat) :
    exec (.regRead m .none .good) s = .next (if off.toNat % 4 ≠ 0 then s.reply m c (rspEmpty .range 1) else
      (s.readPath .mgmt off.toNat .none .good).reply m c ⟨.ok, 0, 4, (s.readPath .mgmt off.toNat .none .good).busOut.toNat⟩) := by
  have hlt := off.isLt
  have hpay := badPayload_of_lt (k := 4) (used := [(0, 4, 2 ^ 32 - 1)]) (by decide) (show off.toNat < 2 ^ (8 * 4) by omega)
  obtain ⟨-, -, -, -, -, -, hp⟩ := id h
  rw [exec_regRead, execRegRead,
    cmdRow_of_managed (f := { op := 0x0002, mg := true, used := [(0, 4, 2 ^ 32 - 1)] }) h rfl hpay]
  simp only [pay_offset hp, show ¬ 0x10000000 ≤ off.toNat by omega, or_false]

/-- REG_WRITE's own rules, on a payload that carries an offset and a value (R468). -/
theorem exec_regWrite_of_managed {s : State} {m : Fin 36} {c : Cmd} {rest : List Cmd} {off : BitVec 28} {v : Word}
    (h : Managed s m 0x0003 c rest (off.toNat + v.toNat * 2 ^ 32)) :
    exec (.regWrite m .none) s = .next (if off.toNat % 4 ≠ 0 then s.reply m c (rspEmpty .range 1) else
      (s.writePath .mgmt off.toNat v 15 .none).reply m c (rspEmpty .ok 0)) := by
  have hoff := off.isLt
  have hv := v.isLt
  have hpay := badPayload_of_lt (k := 8) (used := [(0, 4, 2 ^ 32 - 1), (4, 4, 2 ^ 32 - 1)]) (by decide)
    (show off.toNat + v.toNat * 2 ^ 32 < 2 ^ (8 * 8) by omega)
  obtain ⟨-, -, -, -, -, -, hp⟩ := id h
  obtain ⟨hlow, hhigh⟩ := pay_offset_value hp
  rw [exec_regWrite, execRegWrite,
    cmdRow_of_managed (f := { op := 0x0003, mg := true, used := [(0, 4, 2 ^ 32 - 1), (4, 4, 2 ^ 32 - 1)] }) h rfl hpay]
  simp only [hlow, hhigh, show ¬ 0x10000000 ≤ off.toNat by omega, or_false, w32, BitVec.ofNat_toNat, BitVec.setWidth_eq]

/-- A register command with an offset that is no register's is out of range (R468). -/
theorem management_unaligned {s : State} {m : Fin 36} {c : Cmd} {rest : List Cmd} {off : BitVec 28} {v : Word}
    (hodd : off.toNat % 4 ≠ 0) :
    (Managed s m 0x0002 c rest off.toNat → ∃ t, exec (.regRead m .none .good) s = .next t ∧ CurOnly s t ∧
      Answered s t m c rest (rspEmpty .range 1)) ∧
    (Managed s m 0x0003 c rest (off.toNat + v.toNat * 2 ^ 32) → ∃ t, exec (.regWrite m .none) s = .next t ∧ CurOnly s t ∧
      Answered s t m c rest (rspEmpty .range 1)) := by
  refine ⟨fun h => ⟨_, ?_, s.reply_curOnly m c _, reply_of_managed h rfl _⟩,
    fun h => ⟨_, ?_, s.reply_curOnly m c _, reply_of_managed h rfl _⟩⟩
  · rw [exec_regRead_of_managed h, if_pos hodd]
  · rw [exec_regWrite_of_managed h, if_pos hodd]

/-- The management port reads and writes a register as a path does, and answers (R468). -/
theorem management_register_accesses {s : State} {m : Fin 36} {c : Cmd} {rest : List Cmd} {off : BitVec 28} {r : RegInfo} {v : Word}
    (hreg : RegHere s .mgmt off off.toNat r .single) :
    (Managed s m 0x0002 c rest off.toNat → ∃ t, exec (.regRead m .none .good) s = .next t ∧ RegsBut s t [off.toNat] ∧
      t.parts = s.parts ∧ Answered s t m c rest ⟨.ok, 0, 4, (s.readReg .mgmt off.toNat).toNat⟩) ∧
    (Managed s m 0x0003 c rest (off.toNat + v.toNat * 2 ^ 32) → unitOf off.toNat < 7 → unitOf off.toNat ≠ 1 →
      ∃ t, exec (.regWrite m .none) s = .next t ∧ t.reg off.toNat = writeFields (s.reg off.toNat) v r.flds ∧
        RegsBut s t [off.toNat] ∧ t.parts = s.parts ∧ Answered s t m c rest (rspEmpty .ok 0)) := by
  have heven : ¬ off.toNat % 4 ≠ 0 := not_not.mpr hreg.1
  refine ⟨fun h => ?_, fun h hlt hne => ?_⟩
  · obtain ⟨-, hregs, hparts⟩ := s.clearRc_bus_cleared off.toNat r.flds (s.readReg .mgmt off.toNat)
    have hcur := State.reply_curOnly ((s.clearRc off.toNat r.flds).bus (s.readReg .mgmt off.toNat)) m c
      ⟨.ok, 0, 4, (s.readReg .mgmt off.toNat).toNat⟩
    rw [exec_regRead_of_managed h, if_neg heven, hreg.readPath_single, State.bus_busOut]
    exact ⟨_, rfl, fun b hb => (curOnly_reg hcur b).trans (hregs b hb), (curOnly_parts hcur).trans hparts,
      reply_of_managed h ((State.bus_mbx ..).trans (State.clearRc_mbx ..)) _⟩
  · obtain ⟨hval, hkept⟩ := s.writeUnit_plain_kept (some .mgmt) r.flds v ⟨hlt, hne⟩
    have hcur := State.reply_curOnly (s.writeUnit (some .mgmt) off.toNat r.flds v) m c (rspEmpty .ok 0)
    rw [exec_regWrite_of_managed h, if_neg heven, hreg.writePath_single]
    exact ⟨_, rfl, (curOnly_reg hcur _).trans hval, fun b hb => (curOnly_reg hcur b).trans (hkept.1 b hb),
      (curOnly_parts hcur).trans (kept_parts hkept), reply_of_managed h (kept_mbx hkept m) _⟩

/-- CLEAR empties the hazard buffer of a powered monitor, and does nothing without one (R177). -/
theorem hazard_buffer_cleared (s : State) (n : Fin 8) :
    ((s.part n).eph.debug = false → exec (.dbgClear n) s = .next s) ∧
    ((s.part n).eph.debug = true → ∃ t, exec (.dbgClear n) s = .next t ∧ t.part n = { s.part n with
        hazBuf := [], hazHalt := unstored (s.part n).hazHalt, haltHaz := unstored (s.part n).haltHaz,
        fxs := (s.part n).fxs.map fun f => { f with hazard := unstored f.hazard } } ∧ PartsBut s t n ∧
      t.reg (Reg.DBG_TOTAL n) = 0 ∧ t.reg (Reg.DBG_LOST n) = 0 ∧ RegsBut s t [Reg.DBG_TOTAL n, Reg.DBG_LOST n]) := by
  have hne : Reg.DBG_TOTAL n ≠ Reg.DBG_LOST n := by
    simp only [Reg.DBG_TOTAL, Reg.DBG_LOST]
    omega
  refine ⟨fun hoff => ?_, fun hon => ⟨_, exec_dbgClear .., ?_⟩⟩
  · rw [exec_dbgClear, State.dbgClear, hoff]
    rfl
  · rw [State.dbgClear, if_pos hon, State.modPart_eq]
    refine ⟨by simp, fun k hk => by simp [State.part_setPart_ne _ _ hk], ?_, State.reg_setReg_self .., fun b hb => ?_⟩
    · rw [State.reg_setReg_ne _ _ hne, State.reg_setReg_self]
    · simp only [List.mem_cons, List.not_mem_nil, or_false, not_or] at hb
      rw [State.reg_setReg_ne _ _ hb.2, State.reg_setReg_ne _ _ hb.1, State.reg_setPart]

/-- Settles O57: missing byte enables, then the accesses of single registers, of halves and of the management port, then CLEAR. -/
theorem registerAccesses : Obligations.RegisterAccesses := by
  unfold Obligations.RegisterAccesses
  refine ⟨partial_byte_enables, fun s p off a r v be => ⟨fun h => single_register_accesses h v be, fun h => lower_half_accesses h v,
    fun h => upper_half_read h, fun r0 i h h4 hlo hw hmark hrun => upper_half_write h v h4 hlo hw hmark hrun⟩,
    fun s m c rest off r v => ⟨management_unaligned, management_register_accesses⟩, hazard_buffer_cleared⟩

end Sys2Proof.Proofs
end

section
/-!
SUPPORT. What every operation of the model keeps of the state it is given: the canonical form of the register file and of vault memory
(R25, R452; log entry 19), the queue and the variant.  One lemma per operation, in the order of the model's files, then one per command.
-/
namespace Sys2Proof

/-- Dropping listed entries keeps a sparse store in canonical form. -/
theorem mwfFrom_filter {α : Type} [DecidableEq α] (d : Nat → α) (p : Nat × α → Bool) :
    ∀ (m : List (Nat × α)) (lo : Option Nat), mwfFrom d lo m = true → mwfFrom d lo (m.filter p) = true
  | [], _, _ => rfl
  | (k, v) :: r, lo, h => by
    rw [mwfFrom_cons, Bool.and_eq_true, Bool.and_eq_true] at h
    obtain ⟨⟨hlo, hv⟩, hr⟩ := h
    have ih := mwfFrom_filter d p r (some k) hr
    by_cases hp : p (k, v) = true
    · rw [List.filter_cons_of_pos hp, mwfFrom_cons, Bool.and_eq_true, Bool.and_eq_true]
      exact ⟨⟨hlo, hv⟩, ih⟩
    · rw [List.filter_cons_of_neg hp]
      refine mwfFrom_mono d (some k) lo _ (fun j hj => ?_) ih
      cases lo with
      | none => rfl
      | some l => simp only [mlow, decide_eq_true_eq] at hlo hj ⊢; omega

theorem mwf_filter {α : Type} [DecidableEq α] (d : Nat → α) (p : Nat × α → Bool) {m : List (Nat × α)} (h : mwf d m = true) :
    mwf d (m.filter p) = true :=
  mwfFrom_filter d p m none h

end Sys2Proof

namespace Sys2Proof.Machine

open Sys2Proof Statements

/-- What O59 asks of one state after another: the canonical form of registers and vault memory is not lost, and the queue and the
variant are the same.  Every operation of the model relates the state it is given to the state it answers: the proofs below follow
the operations' definitions, and only setReg, the filters of the register file and the writes of vault memory touch a store. -/
def Keeps (s t : State) : Prop := (Canonical s → Canonical t) ∧ t.pending = s.pending ∧ t.variant = s.variant

namespace Keeps

theorem refl (s : State) : Keeps s s := ⟨id, rfl, rfl⟩

section
variable {s t u : State} (h : Keeps s t)
include h

/-- A store of registers that is canonical where the one before it was. -/
theorem regs (hr : mwf resetWord t.regs = true → mwf resetWord u.regs = true) (hm : u.vlt.mem = t.vlt.mem := by rfl)
    (hp : u.pending = t.pending := by rfl) (hv : u.variant = t.variant := by rfl) : Keeps s u := by
  obtain ⟨hc, hq, hw⟩ := h
  refine ⟨fun hs => ⟨hr (hc hs).1, ?_⟩, hp.trans hq, hv.trans hw⟩
  rw [hm]
  exact (hc hs).2

/-- Vault memory that is canonical where the one before it was. -/
theorem mem (hm : mwf dByte t.vlt.mem = true → mwf dByte u.vlt.mem = true) (hr : u.regs = t.regs := by rfl)
    (hp : u.pending = t.pending := by rfl) (hv : u.variant = t.variant := by rfl) : Keeps s u := by
  obtain ⟨hc, hq, hw⟩ := h
  refine ⟨fun hs => ⟨?_, hm (hc hs).2⟩, hp.trans hq, hv.trans hw⟩
  rw [hr]
  exact (hc hs).1

theorem holds {x : List (Nat × Word)} : Keeps s { t with holds := x } := h

theorem capts {x : List (Nat × Word)} : Keeps s { t with capts := x } := h

theorem busOut {x : Word} : Keeps s { t with busOut := x } := h

theorem freeCtr {x : Nat} : Keeps s { t with freeCtr := x } := h

theorem parts {x : Vector Part 8} : Keeps s { t with parts := x } := h

theorem noc {x : Noc} : Keeps s { t with noc := x } := h

theorem dep {x : Dep} : Keeps s { t with dep := x } := h

theorem lnk {x : Lnk} : Keeps s { t with lnk := x } := h

theorem lan {x : Lan} : Keeps s { t with lan := x } := h

theorem cfg {x : Cfg} : Keeps s { t with cfg := x } := h

theorem vtr {x : Vtr} : Keeps s { t with vtr := x } := h

theorem cur {x : Cur} : Keeps s { t with cur := x } := h

theorem rgs {x : Rgs} : Keeps s { t with rgs := x } := h

theorem pwr {x : Pwr} : Keeps s { t with pwr := x } := h

theorem adc {x : Adc} : Keeps s { t with adc := x } := h

theorem tap {x : Tap} : Keeps s { t with tap := x } := h

theorem plt {x : Plt} : Keeps s { t with plt := x } := h

theorem ckp {x : Vector Ckp 8} : Keeps s { t with ckp := x } := h

theorem spr {x : Spr} : Keeps s { t with spr := x } := h

theorem phm {x : Vector Phm 4} : Keeps s { t with phm := x } := h

theorem tly {x : Tly} : Keeps s { t with tly := x } := h

theorem lgb {x : Lgb} : Keeps s { t with lgb := x } := h

theorem freeCtr_rgs {x : Nat} {y : Rgs} : Keeps s { t with freeCtr := x, rgs := y } := h

theorem freeCtr_noc {x : Nat} {y : Noc} : Keeps s { t with freeCtr := x, noc := y } := h

theorem lnk_rgs {x : Lnk} {y : Rgs} : Keeps s { t with lnk := x, rgs := y } := h

theorem pin_tap {x : Pin} {y : Tap} : Keeps s { t with pin := x, tap := y } := h

theorem pin_tly {x : Pin} {y : Tly} : Keeps s { t with pin := x, tly := y } := h

theorem pwr_pin {x : Pwr} {y : Pin} : Keeps s { t with pwr := x, pin := y } := h

theorem vlt {x : Vlt} (hx : x.mem = t.vlt.mem := by rfl) : Keeps s { t with vlt := x } :=
  .mem h fun hm => hx ▸ hm

/-- A state on the way that several branches go on from. -/
theorem via (hu : Keeps s t → Keeps s u) : Keeps s u := hu h

theorem foldl {α : Type} {f : State → α → State} {l : List α} (hf : ∀ {v x}, Keeps s v → Keeps s (f v x)) :
    Keeps s (l.foldl f t) := by
  induction l generalizing t with
  | nil => exact h
  | cons x r ih => exact ih (hf h)

end

variable {s t u : State}

theorem ite {c : Prop} {_ : Decidable c} (ht : Keeps s t) (hu : Keeps s u) : Keeps s (if c then t else u) := by
  split
  · exact ht
  · exact hu

theorem dite {c : Prop} {_ : Decidable c} {f : c → State} {g : ¬c → State} (hf : ∀ {hc}, Keeps s (f hc))
    (hg : ∀ {hc}, Keeps s (g hc)) : Keeps s (if hc : c then f hc else g hc) := by
  split
  · exact hf
  · exact hg

theorem iteFst {α : Type} {c : Prop} {_ : Decidable c} {a b : State × α} (ha : Keeps s a.1) (hb : Keeps s b.1) :
    Keeps s (if c then a else b).1 := by
  split
  · exact ha
  · exact hb

end Keeps

/-- The state that a command answers with, if any, keeps what Keeps says. -/
def KeepsOut (s : State) (o : Host.Outcome State Fault Refusal) : Prop := ∀ t, o = .next t → Keeps s t

namespace KeepsOut

variable {s t u : State}

theorem next (h : Keeps s t) : KeepsOut s (.next t) := by
  intro v hv
  cases hv
  exact h

theorem via {o : Host.Outcome State Fault Refusal} (h : Keeps s t) (hu : Keeps s t → KeepsOut s o) : KeepsOut s o := hu h

theorem guardUnit {ok : Bool} (ht : Keeps s t) (hu : Keeps s u) : KeepsOut s (guardUnit t ok u) := next (.ite hu ht)

theorem ite {c : Prop} {_ : Decidable c} {o p : Host.Outcome State Fault Refusal} (ho : KeepsOut s o) (hp : KeepsOut s p) :
    KeepsOut s (if c then o else p) := by
  split
  · exact ho
  · exact hp

theorem dite {c : Prop} {_ : Decidable c} {f : c → Host.Outcome State Fault Refusal} {g : ¬c → Host.Outcome State Fault Refusal}
    (hf : ∀ {hc}, KeepsOut s (f hc)) (hg : ∀ {hc}, KeepsOut s (g hc)) : KeepsOut s (if hc : c then f hc else g hc) := by
  split
  · exact hf
  · exact hg

end KeepsOut

section
variable {s t : State} {n : Fin 8} {m : Fin 36} {c : Cmd} (h : Keeps s t)
include h

/-! Sys2Proof/Machine/Ops.lean -/

theorem Keeps.setReg {a : Nat} {w : Word} : Keeps s (t.setReg a w) := .regs h (mwf_mset resetWord _ a w)

theorem Keeps.setFld {a lo w x : Nat} : Keeps s (t.setFld a lo w x) := .setReg h

theorem Keeps.addFld {a lo w k : Nat} : Keeps s (t.addFld a lo w k) := .setFld h

theorem Keeps.maxFld {a lo w x : Nat} : Keeps s (t.maxFld a lo w x) := .setFld h

theorem Keeps.setReg64 {a x : Nat} : Keeps s (t.setReg64 a x) := .setReg (.setReg h)

theorem Keeps.setPart {p : Part} : Keeps s (t.setPart n p) := .parts h

theorem Keeps.modPart {f : Part → Part} : Keeps s (t.modPart n f) := .setPart h

theorem Keeps.setCk {c : Ckp} : Keeps s (t.setCk n c) := .ckp h

theorem Keeps.modCk {f : Ckp → Ckp} : Keeps s (t.modCk n f) := .setCk h

/-! Sys2Proof/Machine/Mailbox.lean -/

theorem Keeps.setMbx {x : Mbx} : Keeps s (t.setMbx m x) := .cur h

theorem Keeps.msi {fn vector : Nat} : Keeps s (t.msi fn vector) := by
  unfold State.msi
  exact .cur h

theorem Keeps.mbxIrq {notify : Bool} : Keeps s (t.mbxIrq m notify) := .ite (.ite (.msi h) (.ite (.msi h) h)) h

theorem Keeps.irqEdge {before : Bool} : Keeps s (t.irqEdge n before) := .ite (.msi (.msi h)) h

theorem Keeps.raiseFrm {bit : Nat} : Keeps s (t.raiseFrm n bit) := .irqEdge (.setFld h)

theorem Keeps.logRaw {reason off : Nat} {value : Word} {path be : Nat} : Keeps s (t.logRaw reason off value path be) := by
  unfold State.logRaw
  exact .msi (.addFld (.cur h))

theorem Keeps.logAccess {reason a : Nat} {value : Word} {path be : Nat} : Keeps s (t.logAccess reason a value path be) := .logRaw h

theorem Keeps.enterRsp {raw : BitVec 512} {notify : Bool} : Keeps s (t.enterRsp m raw notify) := .mbxIrq (.setMbx h)

theorem Keeps.releaseHeldNotices {l : List (BitVec 512)} : Keeps s (t.releaseHeldNotices m l) := by
  induction l generalizing t with
  | nil => exact h
  | cons raw r ih => exact .ite (ih (.enterRsp (.setMbx h))) h

theorem Keeps.notice1 {op len payload : Nat} : Keeps s (t.notice1 m op len payload) := by
  unfold State.notice1
  exact .ite (.enterRsp h) (.setMbx h)

theorem Keeps.notice {op len payload : Nat} {tenant : Option (Fin 8)} : Keeps s (t.notice op len payload tenant) := by
  dsimp only [State.notice]
  refine .notice1 (.notice1 ?_)
  split
  exacts [.notice1 h, h]

theorem Keeps.flushMbx {l : Nat} : Keeps s (t.flushMbx m l) := by
  induction l generalizing t with
  | zero => exact h
  | succ l ih =>
    unfold State.flushMbx
    split
    · refine ih ?_
      split
      · exact .ite (.releaseHeldNotices (.setMbx h)) (.enterRsp (.setMbx h))
      · exact .setMbx h
    · exact h

theorem Keeps.answer {stamp : Nat} {r : Rsp} : Keeps s (t.answer m stamp r) := by
  unfold State.answer
  exact .flushMbx (.setMbx h)

theorem Keeps.answerAll {f : State → Begun → Option Rsp} {l : List (Fin 36 × Begun)} : Keeps s (t.answerAll f l) := by
  induction l generalizing t with
  | nil => exact h
  | cons x r ih =>
    unfold State.answerAll
    refine ih ?_
    split
    exacts [.answer h, h]

theorem Keeps.setWait {stamp : Nat} {w : Wait} : Keeps s (t.setWait m stamp w) := by
  unfold State.setWait
  exact .setMbx h

theorem Keeps.mapWaits {f : Wait → Wait} : Keeps s (t.mapWaits f) := .cur h

theorem Keeps.noteMade {stamp made : Nat} {safety : Bool} : Keeps s (t.noteMade n stamp made safety) := by
  unfold State.noteMade
  exact .cur h

theorem Keeps.setDocent {v : Nat} : Keeps s (t.setDocent v) := by
  unfold State.setDocent
  exact .ite (.setFld h) (.msi (.setFld h))

theorem Keeps.mailTask {stamp : Nat} : Keeps s (t.mailTask m stamp) := by
  unfold State.mailTask
  exact .freeCtr_rgs h

theorem Keeps.ring : Keeps s (t.ring m) := by
  unfold State.ring
  exact .via (.setReg64 (.setReg64 h)) fun h => .ite (.ite (.setMbx (.cur (.setReg h))) (.mailTask (.setMbx (.cur (.setReg h)))))
    (.ite (.addFld (.cur (.setReg h))) (.cur (.setReg h)))

theorem Keeps.popRsp : Keeps s (t.popRsp m) := by
  unfold State.popRsp
  split
  exacts [h, .setMbx h]

theorem Keeps.begin {part : Option Nat} {frees : Bool} {w : Wait} : Keeps s (t.begin m c part frees w) := by
  unfold State.begin
  exact .setMbx h

theorem Keeps.reply {r : Rsp} : Keeps s (t.reply m c r) := .answer (.begin h)

/-! Sys2Proof/Machine/Boot.lean -/

theorem Keeps.cfgFail {stage code entry status : Nat} : Keeps s (t.cfgFail stage code entry status) := .ite h (.setReg h)

theorem Keeps.cfgBad {failed : Bool} : Keeps s (t.cfgBad failed) := .cfg h

theorem Keeps.stageEnd {k : Nat} : Keeps s (t.stageEnd k) := .ite (.setReg h) h

theorem Keeps.cfgAdvance : Keeps s t.cfgAdvance :=
  .ite (.via (.ite (.stageEnd (.cfg h)) h) fun h => .setFld (.ite (.stageEnd h) h)) h

/-! Sys2Proof/Machine/Health.lean -/

theorem Keeps.fresh : Keeps s t.fresh.1 := .freeCtr h

theorem Keeps.noSpare {q : Pend} : Keeps s (t.noSpare q) := by
  unfold State.noSpare
  exact .notice (.fresh h)

theorem Keeps.setPend {l : List Pend} : Keeps s (t.setPend l) := .setFld (.spr h)

theorem Keeps.stageReq {tile c : Nat} : Keeps s (t.stageReq tile c) := by
  unfold State.stageReq
  exact .ite h (.setFld (.setFld (.spr h)))

theorem Keeps.demand {q : Pend} : Keeps s (t.demand q) := by
  dsimp only [State.demand]
  refine .ite h (.ite ?_ (.noSpare h))
  split
  exacts [.ite (.noSpare (.setPend h)) (.noSpare h), .setPend h]

theorem Keeps.lastAcc {entry from_ new path result : Nat} : Keeps s (t.lastAcc entry from_ new path result) := .setReg (.setReg h)

theorem Keeps.genUp {addr : Nat} : Keeps s (t.genUp addr) := .setFld h

theorem Keeps.deaccCluster {tile p : Nat} : Keeps s (t.deaccCluster tile p) := by
  unfold State.deaccCluster
  exact .lastAcc (.fresh (.spr (.setFld (.setFld (.setFld (.genUp h))))))

theorem Keeps.deaccBank {k : Nat} : Keeps s (t.deaccBank k) := by
  unfold State.deaccBank
  exact .lastAcc (.fresh (.setFld (.genUp h)))

theorem Keeps.actCluster {k : Nat} : Keeps s (t.actCluster k) := by
  dsimp only [State.actCluster]
  refine .ite (.ite (.deaccCluster h) ?_) h
  split
  exacts [.via (.ite (.stageReq h) h) fun h => .ite (.demand h) h, h]

theorem Keeps.scoreCluster {k points : Nat} : Keeps s (t.scoreCluster k points) := .actCluster (.addFld h)

theorem Keeps.actBank {k : Nat} : Keeps s (t.actBank k) := by
  dsimp only [State.actBank]
  refine .ite (.ite (.deaccBank h) (.ite ?_ h)) h
  split
  exacts [.demand h, h]

theorem Keeps.scoreBank {k points : Nat} : Keeps s (t.scoreBank k points) := .actBank (.addFld h)

theorem Keeps.actScores {old : State} : Keeps s (t.actScores old) := by
  dsimp only [State.actScores]
  refine .foldl h fun h => .ite ?_ h
  split
  exacts [.actCluster h, .actBank h, h]

theorem Keeps.chargeCluster {cl points : Nat} : Keeps s (t.chargeCluster cl points) := .scoreCluster h

theorem Keeps.chargeAll {points : Nat} {l : List Nat} : Keeps s (t.chargeAll points l) := by
  induction l generalizing t with
  | nil => exact h
  | cons x r ih => exact ih (.chargeCluster h)

theorem Keeps.slotCorrected {cl : Nat} : Keeps s (t.slotCorrected cl) := by
  unfold State.slotCorrected
  exact .ite (.scoreCluster (.spr h)) (.spr h)

theorem Keeps.slotsCorrected {l : List Nat} : Keeps s (t.slotsCorrected l) := by
  induction l generalizing t with
  | nil => exact h
  | cons x r ih => exact ih (.slotCorrected h)

theorem Keeps.bankCorrected {b : Nat} : Keeps s (t.bankCorrected b) := by
  unfold State.bankCorrected
  exact .ite (.scoreBank (.spr h)) (.spr h)

theorem Keeps.stackFetch {fetched : Nat → Bool} {bad : List Nat} : Keeps s (t.stackFetch fetched bad) := by
  unfold State.stackFetch
  exact .spr h

theorem Keeps.remapRows {l : List Nat} : Keeps s (t.remapRows l) := by
  induction l generalizing t with
  | nil => exact h
  | cons x r ih => exact ih (.ite (.chargeCluster h) (.addFld (.setFld h)))

theorem Keeps.remapDue {e : Eph} : Keeps s (t.remapDue e) := by
  unfold State.remapDue
  exact .remapRows (.spr h)

/-! Sys2Proof/Machine/Vault.lean -/

theorem Keeps.setVword {bank word : Nat} {v : DWord} : Keeps s (t.setVword bank word v) := .mem h (wf_memWr64 _ _ v)

theorem Keeps.vltReject {bank requester : Nat} {portE : Bool} : Keeps s (t.vltReject bank requester portE) := by
  unfold State.vltReject
  exact .setReg (.addFld h)

theorem Keeps.vltCorr {bank : Nat} : Keeps s (t.vltCorr bank) := .bankCorrected (.addFld h)

theorem Keeps.vltDbe {bank word path : Nat} : Keeps s (t.vltDbe bank word path) := by
  unfold State.vltDbe
  exact .scoreBank (.vlt (.setReg (.addFld h)))

theorem Keeps.releaseBusy : Keeps s t.releaseBusy := .vlt h

theorem Keeps.vltBusy {bank : Nat} : Keeps s (t.vltBusy bank) := by
  unfold State.vltBusy
  exact .ite (.vlt (.addFld h)) (.addFld h)

theorem Keeps.refuse {bank owner : Nat} {st : Status} : Keeps s (t.refuse bank owner st) := .ite (.vltReject h) h

theorem Keeps.unitWrite {bank owner word : Nat} {vs : List DWord} : Keeps s (t.unitWrite bank owner word vs).1 := by
  unfold State.unitWrite
  split
  exacts [.refuse h, .foldl h fun h => .setVword h]

theorem Keeps.readEcc {bank word path : Nat} {ecc : Ecc} : Keeps s (t.readEcc bank word path ecc).1 := by
  unfold State.readEcc
  split
  · exact .vltDbe h
  · split
    exacts [.vltCorr h, h]

theorem Keeps.scrubBank {bank : Nat} : Keeps s (t.scrubBank bank) := .mem h (State.scrubBank_wf t bank)

/-! Sys2Proof/Machine/Photometer.lean -/

theorem Keeps.setPhm {d : Fin 4} {p : Phm} : Keeps s (t.setPhm d p) := .phm h

theorem Keeps.tryHandover {d : Fin 4} : Keeps s (t.tryHandover d n) := by
  unfold State.tryHandover
  exact .ite (.ite (.addFld (.setPhm h)) (.setPhm h)) h

theorem Keeps.gatherFrame {frame : Nat} {acts : List (Nat × Nat)} : Keeps s (t.gatherFrame n frame acts) :=
  .foldl h fun h => .ite (.tryHandover (.setPhm h)) h

theorem Keeps.flushGather : Keeps s (t.flushGather n) := .foldl h fun h => .ite (.tryHandover (.setPhm h)) h

theorem Keeps.setDecim {d : Fin 4} {op : Nat} : Keeps s (t.setDecim d op) := by
  unfold State.setDecim
  exact .foldl h fun h => .ite (.setReg h) (.ite (.setReg h) h)

theorem Keeps.decimAll : Keeps s t.decimAll := .foldl h fun h => .ite (.setDecim h) h

theorem KeepsOut.phmRun {d : Fin 4} {op : Nat} {f : Phm → Word → Phm × Nat} : KeepsOut s (t.phmRun d op f) :=
  .ite (.ite (.next (.addFld (.setPhm h))) (.next h)) (.next h)

theorem KeepsOut.emit {d : Fin 4} : KeepsOut s (execEmit d t) :=
  .ite (.ite (.ite (.next (.addFld (.tryHandover (.setPhm h)))) (.next (.addFld (.setPhm h)))) (.next h)) (.next h)

theorem Keeps.phmCtrl {d : Fin 4} {v : Word} {path : Nat} : Keeps s (t.phmCtrl d v path) := by
  unfold State.phmCtrl
  exact .ite (.ite (.setPhm h) (.logAccess h)) (.setPhm h)

theorem KeepsOut.phmTimer {d : Fin 4} : KeepsOut s (execPhmTimer d t) := by
  unfold execPhmTimer
  exact .guardUnit h (.ite h (.setPhm h))

theorem Keeps.phmTail {d : Fin 4} {v : Word} {path : Nat} : Keeps s (t.phmTail d v path) := by
  unfold State.phmTail
  exact .ite (.setFld h) (.logAccess h)

theorem Keeps.phmRingWrite {d : Fin 4} {r : PhmRec} : Keeps s (t.phmRingWrite d r) := by
  unfold State.phmRingWrite
  exact .ite (.ite (.setFld (.unitWrite h)) (.addFld (.unitWrite h))) (.addFld h)

theorem Keeps.phmTap {d k : Fin 4} {word : Nat} : Keeps s (t.phmTap d k word) := .ite (.setPhm h) h

theorem Keeps.phmConfigure {d : Fin 4} : Keeps s (t.phmConfigure d) := by
  unfold State.phmConfigure
  exact .setReg (.setReg (.setPhm h))

/-! Sys2Proof/Machine/Noc.lean -/

theorem Keeps.nocCycle : Keeps s t.nocCycle := .ite h (.noc h)

theorem Keeps.sendPkt {p : Pkt} : Keeps s (t.sendPkt p) := .noc h

theorem Keeps.takePkt {p : Pkt} : Keeps s (t.takePkt p) := .noc h

theorem Keeps.setAsks {l : List Ask} : Keeps s (t.setAsks l) := .noc h

theorem Keeps.askCredit {k : CreditKey} {want : Nat} : Keeps s (t.askCredit k want).1 := by
  dsimp only [State.askCredit]
  split
  · exact h
  · split <;> exact .setAsks h

theorem Keeps.askRead {p : Pkt} : Keeps s (t.askRead p) := by
  unfold State.askRead
  exact .sendPkt (.setAsks h)

theorem Keeps.setCredit {c : Credit} : Keeps s (t.setCredit c) := by
  unfold State.setCredit
  exact .noc h

theorem Keeps.spendCredit {k : CreditKey} : Keeps s (t.spendCredit k) := by
  unfold State.spendCredit
  exact .ite h (.setCredit h)

theorem Keeps.leave {req : Pkt} : Keeps s (t.leave req) := by
  unfold State.leave
  exact .noc (.sendPkt (.setCredit h))

/-! Sys2Proof/Machine/Depot.lean -/

theorem Keeps.setDepotEntry {seg : Nat} {v : DWord} : Keeps s (t.setDepotEntry seg v) := .dep h

theorem Keeps.setPort {i : Fin 8} {p : DPort} : Keeps s (t.setPort i p) := .dep h

theorem Keeps.setPortState {i : Fin 8} {v : Nat} : Keeps s (t.setPortState i v) := .setFld h

theorem Keeps.depotRefuse {owner : Owner} {addr : Nat} {write : Bool} : Keeps s (t.depotRefuse owner addr write) := by
  unfold State.depotRefuse
  exact .ite (.setReg h) h

theorem Keeps.holdWrite {frame addr : Nat} {data : DWord} : Keeps s (t.holdWrite n frame addr data).1 := by
  dsimp only [State.holdWrite]
  split
  · exact .setPort h
  · split
    exacts [.maxFld (.setPort h), .addFld h]

theorem Keeps.mapPorts {f : DPort → DPort} : Keeps s (t.mapPorts f) := .dep h

theorem Keeps.releaseHeld {frame : Nat} : Keeps s (t.releaseHeld n frame) := by
  unfold State.releaseHeld
  exact .setCk (.foldl h fun h => .setPort h)

theorem Keeps.sendWaiting {g : Nat} : Keeps s (t.sendWaiting n g) := .mapPorts h

theorem Keeps.discardHeld {fromFrame : Nat} : Keeps s (t.discardHeld n fromFrame) := .mapPorts h

theorem Keeps.grantSeg {owner : Nat} {ro : Bool} {g : Nat} : Keeps s (t.grantSeg owner ro g) := by
  unfold State.grantSeg
  split
  exacts [.setDepotEntry h, h]

theorem Keeps.depotMapDue : Keeps s t.depotMapDue := by
  unfold State.depotMapDue
  refine .foldl h fun h => ?_
  split
  exacts [.ite h (.ite (.answer h) (.answer (.foldl h fun h => .grantSeg h))), h]

/-! Sys2Proof/Machine/Lanes.lean -/

theorem Keeps.setLink {k : Fin 24} {l : Link} : Keeps s (t.setLink k l) := .lnk h

theorem Keeps.setMach {m : Mach} : Keeps s (t.setMach n m) := .lnk h

theorem Keeps.setStream {k : Fin 24} {i : Fin 4} {x : Stream} : Keeps s (t.setStream k i x) := .setLink h

theorem Keeps.setRxState {l v : Nat} : Keeps s (t.setRxState l v) := .setFld h

theorem Keeps.setSender {l : Nat} {x : LaneTx} : Keeps s (t.setSender l x) := .lan h

theorem Keeps.setRecv {l : Nat} {x : LaneRx} : Keeps s (t.setRecv l x) := .lan h

theorem Keeps.txQuiet {l : Nat} : Keeps s (t.txQuiet l) := .setFld (.setSender h)

theorem Keeps.enterQuiet {l : Nat} : Keeps s (t.enterQuiet l) := .txQuiet (.lan h)

theorem Keeps.loseLink {k : Fin 24} : Keeps s (t.loseLink k) := .lnk h

theorem Keeps.linkLeavesUp {k : Fin 24} {on : Bool} : Keeps s (t.linkLeavesUp k on) := .ite h (.loseLink (.setFld (.setLink h)))

theorem Keeps.serviceOut {q i : Nat} : Keeps s (t.serviceOut q i) := by
  unfold State.serviceOut
  exact .via (.setFld (.setFld h)) fun h => .dite (.ite (.linkLeavesUp (.setFld h)) (.setFld h)) h

theorem Keeps.laneOut {l : Nat} : Keeps s (t.laneOut l) := by
  unfold State.laneOut
  split
  exacts [.serviceOut h, .setFld h]

theorem Keeps.seeking {l : Nat} : Keeps s (t.seeking l) := .setFld (.setFld (.setRxState h))

theorem Keeps.toSeek {l : Nat} : Keeps s (t.toSeek l) := by
  unfold State.toSeek
  exact .laneOut (.seeking (.lan h))

theorem Keeps.retrain {l : Nat} : Keeps s (t.retrain l) := by
  unfold State.retrain
  exact .ite (.enterQuiet h) (.toSeek (.enterQuiet h))

theorem Keeps.laneOn {ref : Bool} {l : Nat} : Keeps s (t.laneOn ref l) := by
  unfold State.laneOn
  exact .via (.enterQuiet (.laneOut h)) fun h => .ite (.seeking (.lan h)) (.setRxState (.lan h))

theorem Keeps.laneOff {l : Nat} : Keeps s (t.laneOff l) := .txQuiet (.setRxState (.laneOut h))

theorem Keeps.setQuad {q : Nat} {on ref : Bool} : Keeps s (t.setQuad q on ref) := by
  unfold State.setQuad
  exact .via (.setFld (.setFld h)) fun h => .ite (.foldl h fun h => .laneOn h) (.foldl h fun h => .laneOff h)

/-! Sys2Proof/Machine/Links.lean -/

theorem Keeps.sendFlit {k : Fin 24} {f : FlitBody} : Keeps s (t.sendFlit k f) := by
  unfold State.sendFlit
  split
  exacts [.setStream h, .setLink h]

theorem Keeps.sendOn {f : FlitBody} {l : List (Fin 24)} : Keeps s (t.sendOn f l) := by
  induction l generalizing t with
  | nil => exact h
  | cons x r ih => exact ih (.sendFlit h)

theorem Keeps.sendCtl {k : Fin 24} {i : Fin 4} {c : LinkCtl} : Keeps s (t.sendCtl k i c) := .setStream h

theorem Keeps.sendLinkCtl {k : Fin 24} {c : LinkCtl} : Keeps s (t.sendLinkCtl k c) := by
  unfold State.sendLinkCtl
  split
  exacts [.sendCtl h, h]

theorem Keeps.receiveSeq {k : Fin 24} {i : Fin 4} {crcOk : Bool} {seq : Nat} : Keeps s (t.receiveSeq k i crcOk seq).1 := by
  dsimp only [State.receiveSeq]
  split
  exacts [.setStream h, .addFld (.setStream h)]

theorem Keeps.takeDown {k : Fin 24} {i : Fin 4} : Keeps s (t.takeDown k i) := by
  unfold State.takeDown
  exact .retrain (.setStream h)

theorem Keeps.fromOldest {k : Fin 24} {i : Fin 4} : Keeps s (t.fromOldest k i) := .setStream (.addFld h)

theorem Keeps.resend {k : Fin 24} {i : Fin 4} : Keeps s (t.resend k i) := by
  unfold State.resend
  exact .via (.setStream (.fromOldest h)) fun h => .ite (.takeDown h) h

theorem Keeps.holdWord {k : Fin 24} {frame epoch mslot : Nat} {w : DWord} : Keeps s (t.holdWord n k frame epoch mslot w) := by
  dsimp only [State.holdWord]
  split
  exacts [.addFld h, .setPart h]

theorem Keeps.holdWords {k : Fin 24} {frame epoch mslot : Nat} {l : List DWord} :
    Keeps s (t.holdWords n k frame epoch mslot l) := by
  induction l generalizing t mslot with
  | nil => exact h
  | cons x r ih => exact ih (.holdWord h)

theorem Keeps.forwardVotes {ks : List (Fin 24)} {chan frame epoch : Nat} {es : List VoteE} :
    Keeps s (t.forwardVotes ks chan frame epoch es) :=
  .ite h (.sendOn h)

theorem Keeps.takeVotes {k : Fin 24} {frame epoch : Nat} {es : List VoteE} : Keeps s (t.takeVotes n k frame epoch es) := by
  unfold State.takeVotes
  exact .forwardVotes (.setMach h)

theorem Keeps.takeFlit {k : Fin 24} {l : FlitBody} : Keeps s (t.takeFlit n k l) := by
  dsimp only [State.takeFlit]
  split
  exacts [.holdWords h, .setMach h, .takeVotes h, h]

theorem Keeps.chanFlit {k : Fin 24} {f : FlitBody} : Keeps s (t.chanFlit k f) := by
  dsimp only [State.chanFlit]
  split
  exacts [.addFld h, .ite (.takeFlit h) (.ite (.setMach h) (.addFld h))]

theorem Keeps.takeAside {l : List (Nat × FlitBody)} : Keeps s (t.takeAside n l) := by
  induction l generalizing t with
  | nil => exact h
  | cons x r ih => exact ih (.dite (.takeFlit h) h)

theorem Keeps.raiseEpoch {from_ : Nat} : Keeps s (t.raiseEpoch n from_) := by
  unfold State.raiseEpoch
  exact .takeAside (.modPart (.setMach h))

theorem Keeps.sendToken : Keeps s (t.sendToken n) := by
  unfold State.sendToken
  exact .ite (.sendOn h) h

theorem Keeps.sendVote : Keeps s (t.sendVote n) := by
  unfold State.sendVote
  exact .ite (.sendOn (.setMach h)) h

theorem Keeps.sendXtrig {mask : Nat} : Keeps s (t.sendXtrig mask) := by
  unfold State.sendXtrig
  exact .sendOn (.lnk h)

theorem Keeps.sendWords {k : Fin 24} {chan frame epoch : Nat} {l : List (Nat × List DWord)} :
    Keeps s (t.sendWords k chan frame epoch l) := by
  induction l generalizing t with
  | nil => exact h
  | cons x r ih => exact ih (.sendFlit h)

theorem Keeps.sealLink {xs : List (XSlot × DWord)} {k : Fin 24} : Keeps s (t.sealLink n xs k) := by
  unfold State.sealLink
  exact .sendWords h

theorem Keeps.sealStep : Keeps s (t.sealStep n) := by
  unfold State.sealStep
  exact .ite h (.foldl h fun h => .sealLink h)

/-! Sys2Proof/Machine/Plates.lean -/

theorem Keeps.setCap {c : Cap} : Keeps s (t.setCap n c) := .plt h

theorem Keeps.modCap {f : Cap → Cap} : Keeps s (t.modCap n f) := .setCap h

theorem Keeps.setCapState {v : Nat} : Keeps s (t.setCapState n v) := .setFld h

theorem Keeps.tailsMove : Keeps s (t.tailsMove n) := .foldl h fun h => .ite h (.setFld h)

theorem Keeps.putUnits {d pos : Nat} {l : List (BitVec 256)} : Keeps s (t.putUnits n d pos l) := by
  induction l generalizing t pos with
  | nil => exact h
  | cons x r ih => exact ih (.plt h)

theorem Keeps.writeBlock {bd : BlockDue} {key : Bool} {d : Nat} : Keeps s (t.writeBlock n bd key d) := by
  unfold State.writeBlock
  exact .ite (.via (.setFld (.putUnits (.setCap h))) fun h => .ite (.plt (.setFld h)) (.setFld h)) (.addFld (.setCap h))

theorem Keeps.capFix : Keeps s (t.capFix n) := by
  unfold State.capFix
  exact .setCap h

theorem Keeps.writeBlocks {bd : BlockDue} {key : Bool} {l : List Nat} : Keeps s (t.writeBlocks n bd key l) := by
  induction l generalizing t with
  | nil => exact h
  | cons x r ih => exact ih (.writeBlock h)

theorem Keeps.autoTrigger : Keeps s (t.autoTrigger n) := by
  dsimp only [State.autoTrigger]
  refine .ite ?_ h
  split
  exacts [.setCapState (.setCap h), .setCap h]

theorem Keeps.blockWrite : Keeps s (t.blockWrite n) := by
  dsimp only [State.blockWrite]
  split
  · exact .autoTrigger h
  · exact .ite (.via (.writeBlocks (.modCap (.setCap (.autoTrigger h)))) fun h => .ite (.tailsMove (.modCap h)) h) (.setCap
      (.autoTrigger h))

theorem Keeps.closePart {pl : PlateOpen} {last d : Nat} : Keeps s (t.closePart n pl last d) := by
  unfold State.closePart
  exact .ite h (.setCap (.ite (.setFld (.putUnits h)) (.putUnits h)))

theorem Keeps.closePlate {last : Nat} : Keeps s (t.closePlate n last) := by
  dsimp only [State.closePlate]
  split
  exacts [h, .ite (.setCapState (.addFld (.modCap (.foldl h fun h => .closePart h)))) h]

theorem Keeps.closeDue : Keeps s (t.closeDue n) := by
  dsimp only [State.closeDue]
  split
  exacts [.ite (.closePlate h) h, h]

theorem Keeps.capSettle : Keeps s (t.capSettle n) := .closeDue (.blockWrite h)

theorem Keeps.showTrig : Keeps s t.showTrig := .setFld h

theorem Keeps.capRelease {f tb : Nat} : Keeps s (t.capRelease n f tb) := by
  dsimp only [State.capRelease]
  split
  · exact .setCap (.capSettle h)
  · exact .via (.ite (.showTrig (.plt (.capSettle h))) (.capSettle h)) fun h => .via (.ite (.sendXtrig h) h) fun h => .via (.ite
      (.addFld h) h) fun h => .foldl (.setFld (.ite (.setCapState (.setCap h)) (.setCap h))) fun h => .ite h (.setFld h)

theorem Keeps.capDiscard {fromF : Nat} : Keeps s (t.capDiscard n fromF) := by
  dsimp only [State.capDiscard]
  split
  exacts [.setCap h, h]

theorem Keeps.pushEvt {e : Evt} : Keeps s (t.pushEvt n e) := .ite (.ite (.maxFld (.plt h)) (.addFld (.plt h))) h

theorem Keeps.capArm : Keeps s (t.capArm n) := by
  unfold State.capArm
  exact .ite (.setCapState (.modCap (.setCap h))) (.setCap h)

theorem Keeps.capActions {a : Nat} : Keeps s (t.capActions n a) := by
  unfold State.capActions
  extract_lets s1 s2 s3 s4
  have h2 : Keeps s s2 := .ite (.modCap (.ite (.capArm h) h)) (.ite (.capArm h) h)
  have h3 : Keeps s s3 := by
    refine .ite ?_ h2
    split
    exacts [.closePlate h2, h2]
  have h4 : Keeps s s4 := by
    dsimp only [s4]
    split
    exacts [.closePlate h3, h3]
  exact .ite (.tailsMove (.setCapState (.modCap h4))) h3

theorem Keeps.deadPeriods : Keeps s (t.deadPeriods n) := by
  unfold State.deadPeriods
  exact .setCap (.foldl h fun h => .setReg64 h)

theorem Keeps.capTick {first : Bool} : Keeps s (t.capTick n first) := by
  dsimp only [State.capTick]
  split
  · exact .via (.deadPeriods (.setCap (.capSettle h))) fun h => .ite (.capActions (.modCap (.ite (.plt h) h))) h
  · exact .foldl (.capActions (.deadPeriods (.setCap (.capSettle h)))) fun h => .pushEvt h

theorem Keeps.capFresh : Keeps s (t.capFresh n) := .modCap h

theorem Keeps.drainPart : Keeps s (t.drainPart n) := by
  dsimp only [State.drainPart]
  split
  exacts [.ite (.setCap h) h, h]

theorem Keeps.freePart {x : PlatePart} : Keeps s (t.freePart n x) := .tailsMove (.modCap h)

theorem Keeps.drainAck {nodeOk : Bool} : Keeps s (t.drainAck n nodeOk) := by
  dsimp only [State.drainAck]
  split
  · exact h
  · split
    exacts [.setFld (.depotRefuse (.setCap h)), .ite (.freePart (.setReg (.setCap h))) (.setFld (.setCap h))]

theorem Keeps.drainTail {v : Word} {off path : Nat} : Keeps s (t.drainTail n v off path) := by
  unfold State.drainTail
  exact .ite (.setReg h) (.logAccess h)

theorem Keeps.storeTail {d : Nat} {v : Word} {off path : Nat} : Keeps s (t.storeTail n d v off path) := by
  unfold State.storeTail
  exact .ite (.setFld (.setCap h)) (.logAccess h)

theorem Keeps.capCtrl {v off path : Nat} : Keeps s (t.capCtrl n v off path) := by
  unfold State.capCtrl
  exact .ite (.logAccess (.modCap h)) (.modCap h)

theorem Keeps.capMark {payload : Nat} : Keeps s (t.capMark n payload) := .ite (.modCap h) h

theorem Keeps.xtrigIn {mask source xseq : Nat} : Keeps s (t.xtrigIn mask source xseq) :=
  .foldl h fun h => .ite (.pushEvt (.modCap h)) (.modCap h)

theorem KeepsOut.trigIn {ball : Fin 8} {low : Word} : KeepsOut s (execTrigIn ball low t) := by
  unfold execTrigIn
  exact .via (.showTrig (.plt h)) fun h => .ite (.next h) (.next (.foldl h fun h => .ite (.pushEvt (.modCap h)) (.modCap h)))

theorem Keeps.trigRelease : Keeps s t.trigRelease := .showTrig (.plt h)

theorem Keeps.trigNs : Keeps s t.trigNs := .ite h (.showTrig (.plt h))

/-! Sys2Proof/Machine/Ports.lean -/

theorem Keeps.portRead {env : StepEnv} {granted : List (Nat × Nat)} {i : Issue} : Keeps s (t.portRead n env granted i) := by
  dsimp only [State.portRead]
  split
  · split
    · refine .ite (.setPart h) ?_
      split <;> exact .setPart h
    · exact .setPart h
  · exact .ite (.modPart (.vltReject h)) (.ite (.modPart (.addFld h)) (.ite (.modPart (.vltDbe (.modPart h))) (.ite (.vltCorr
      (.modPart h)) (.modPart h))))
  · refine .ite (.setPart h) ?_
    split
    exacts [.setPart h, .askRead (.setPart h)]

theorem Keeps.portWrite {granted : List (Nat × Nat)} {i : Issue} : Keeps s (t.portWrite n granted i) := by
  dsimp only [State.portWrite]
  split
  · exact .setPart h
  · exact .ite (.modPart (.vltReject h)) (.ite (.addFld h) (.maxFld (.setPart (.setVword h))))
  · exact .ite (.modPart (.depotRefuse h)) (.ite (.holdWrite h) (.modPart (.holdWrite h)))

theorem Keeps.portReads {env : StepEnv} {granted : List (Nat × Nat)} {l : List Issue} : Keeps s (t.portReads n env granted l) := by
  induction l generalizing t with
  | nil => exact h
  | cons x r ih => exact ih (.ite h (.portRead h))

theorem Keeps.portWrites {granted : List (Nat × Nat)} {l : List Issue} : Keeps s (t.portWrites n granted l) := by
  induction l with
  | nil => exact h
  | cons x r ih => exact .ite (.portWrite ih) ih

theorem Keeps.portStep {env : StepEnv} : Keeps s (t.portStep n env) := by
  unfold State.portStep
  exact .modPart (.portWrites (.portReads (.setPart h)))

/-! Sys2Proof/Machine/Fabric.lean -/

theorem Keeps.setRegion {r : Fin 8} {x : VRegion} : Keeps s (t.setRegion r x) := .vtr h

theorem Keeps.withFabric {pre : List (Fin 8 × FabricRegs)} : Keeps s (t.withFabric pre) := .foldl h fun h => .setRegion h

theorem Keeps.homeEdge {r : Fin 8} {cells : BitVec 480} : Keeps s (t.homeEdge r cells) := by
  unfold State.homeEdge
  exact .setRegion h

/-! Sys2Proof/Machine/Vitrine.lean -/

theorem Keeps.notePace : Keeps s (t.notePace n) := by
  unfold State.notePace
  exact .setReg h

theorem Keeps.releaseRegions {l : List (Fin 8)} : Keeps s (t.releaseRegions n l) := by
  induction l generalizing t with
  | nil => exact h
  | cons x r ih => exact ih (.ite (.setFld (.setRegion (.ite (.addFld h) h))) h)

theorem Keeps.writeBout {outv : List (Nat × Bool)} : Keeps s (t.writeBout n outv) := by
  unfold State.writeBout
  exact .vtr h

theorem Keeps.vtrRelease {outv : List (Nat × Bool)} : Keeps s (t.vtrRelease n outv) := by
  unfold State.vtrRelease
  exact .releaseRegions (.vtr (.writeBout h))

theorem Keeps.vtrArm : Keeps s (t.vtrArm n) := by
  unfold State.vtrArm
  exact .foldl (.releaseRegions (.vtr (.writeBout h))) fun h => .ite (.setFld h) h

theorem Keeps.holdRegions {mask owner : Nat} : Keeps s (t.holdRegions mask owner) :=
  .foldl h fun h => .ite (.setFld (.setRegion h)) h

theorem KeepsOut.regionCopyUpdate {r : Fin 8} {e : HomeEdge} : KeepsOut s (execRegionCopyUpdate r e t) :=
  .ite (.ite (.next (.setFld (.setRegion (.ite (.homeEdge (.withFabric h)) h)))) (.next h)) (.next h)

theorem Keeps.movePublish {r : Fin 8} : Keeps s (t.movePublish r) := by
  dsimp only [State.movePublish]
  split
  exacts [.addFld (.setRegion h), h]

theorem KeepsOut.readySighting {r : Fin 8} {tag : BitVec 8} : KeepsOut s (execReadySighting r tag t) :=
  .ite (.ite (.dite (.ite (.next (.setFld (.setRegion (.movePublish h)))) (.next (.setRegion (.movePublish h))))
    (.next (.setRegion (.movePublish h)))) (.next h)) (.next h)

theorem Keeps.homeLost {net : Fin 8} {lost : Bool} : Keeps s (t.homeLost net lost) := .foldl h fun h => .ite (.setFld h) h

theorem Keeps.regionLoad {r : Fin 8} {img : VImage} : Keeps s (t.regionLoad r img) := .setFld (.setRegion h)

theorem Keeps.imageDelays {r : Fin 8} {l : List (Fin 80 × BitVec 16)} : Keeps s (t.imageDelays r l) := by
  induction l generalizing t with
  | nil => exact h
  | cons x r ih => exact ih (.vtr (.setReg h))

theorem Keeps.regionArrived {r : Fin 8} {crcOk : Bool} : Keeps s (t.regionArrived r crcOk) := by
  dsimp only [State.regionArrived]
  split
  exacts [.ite (.ite (.imageDelays (.setReg (.setReg (.setRegion h)))) (.setReg (.setFld (.setRegion h)))) h, h]

theorem Keeps.calStart : Keeps s t.calStart := by
  unfold State.calStart
  exact .ite h (.vtr (.setFld h))

theorem Keeps.calApply : Keeps s t.calApply := by
  unfold State.calApply
  exact .ite h (.setFld (.foldl h fun h => .ite (.setFld (.setFld h)) h))

theorem Keeps.delayWrite {cell codes : Nat} : Keeps s (t.delayWrite cell codes) := by
  unfold State.delayWrite
  exact .vtr (.setReg h)

theorem Keeps.cellEdges {l : List Nat} : Keeps s (t.cellEdges l) := by
  induction l generalizing t with
  | nil => exact h
  | cons x r ih => exact ih (.ite (.vtr (.setFld h)) h)

/-! Sys2Proof/Machine/Consistency.lean -/

theorem Keeps.ckBegin {c : Nat} : Keeps s (t.ckBegin n c).1 := by
  dsimp only [State.ckBegin]
  split
  exacts [h, .setFld (.setCk h)]

theorem Keeps.answerCkp {r : Rsp} : Keeps s (t.answerCkp n r) := .answerAll h

theorem Keeps.ckBoundary {b : Option Nat} : Keeps s (t.ckBoundary n b) := by
  dsimp only [State.ckBoundary]
  split
  · exact h
  · exact .ite h (.via (.ite (.answerCkp (.setCk h)) h) fun h => .ite (.answerCkp (.setCk h)) (.ite (.ite (.ckBegin (.setCk h))
      (.answerCkp (.setCk h))) (.ite (.ite (.ckBegin h) (.setFld h)) h)))

theorem Keeps.ckReadDone : Keeps s (t.ckReadDone n) := by
  dsimp only [State.ckReadDone]
  split
  exacts [.ite (.setReg (.modPart (.setCk h))) h, h]

theorem Keeps.recPush {e : RecE} : Keeps s (t.recPush n e) := .ite (.modCk h) h

theorem Keeps.recStart : Keeps s (t.recStart n) := .ite (.recPush (.setFld (.modCk h))) (.setFld h)

theorem Keeps.fileAsync : Keeps s (t.fileAsync n) := by
  dsimp only [State.fileAsync]
  refine .ite h ?_
  split
  exacts [.setCk (.setCap h), .setCap h]

theorem Keeps.recWrite {l : List RecE} : Keeps s (t.recWrite n l) := by
  induction l generalizing t with
  | nil => exact h
  | cons x r ih => exact .ite (ih (.setReg (.modCk h))) (.ite (.setFld (.setFld (.modCk h))) h)

theorem Keeps.recSettle : Keeps s (t.recSettle n) := by
  unfold State.recSettle
  exact .recWrite (.fileAsync (.capSettle h))

theorem Keeps.recRelease {f : Nat} {outv : List (Nat × Bool)} : Keeps s (t.recRelease n f outv) := by
  unfold State.recRelease
  exact .modCk (.recPush h)

theorem Keeps.recHold : Keeps s (t.recHold n) := by
  unfold State.recHold
  exact .ite (.recSettle h) (.modPart (.addFld (.recSettle h)))

theorem Keeps.recTail {pos : Nat} : Keeps s (t.recTail n pos) := by
  unfold State.recTail
  exact .setReg (.modCk h)

theorem Keeps.ckComplete {ok : Bool} : Keeps s (t.ckComplete n ok) := by
  dsimp only [State.ckComplete]
  split
  · exact .ite h (.ite (.via (.setReg64 (.setFld (.setFld (.setCk (.setFld h))))) fun h => .via (.ite (.recTail (.setReg h))
      (.setReg h)) fun h => .answerCkp (.ite (.recStart h) h)) (.answerCkp (.setFld (.setCk (.setFld h)))))
  · exact h

theorem Keeps.ckInvalid : Keeps s (t.ckInvalid n) := by
  unfold State.ckInvalid
  exact .setFld (.setFld (.modCk h))

theorem Keeps.undoDone {g : Nat} : Keeps s (t.undoDone n g) := by
  unfold State.undoDone
  refine .ite ?_ h
  extract_lets room add tooMany b l badB badL s1 s2 s3 s4
  clear_value l
  have h2 : Keeps s s2 := by
    dsimp only [s2]
    split
    exacts [.setReg (.setCk h), .setCk h]
  have h3 : Keeps s s3 := .ite (.answerCkp (.setFld (.setFld (.modPart h2)))) h2
  exact .sendWaiting (.ite (.modCk (.setFld (.ckInvalid h3))) h3)

theorem Keeps.recoveryNotice {payload : Nat} : Keeps s (t.recoveryNotice n payload) := .notice h

theorem Keeps.unmap : Keeps s (t.unmap n) := .foldl h fun h => .foldl h fun h => .ite (.setFld h) h

theorem Keeps.failWaits : Keeps s (t.failWaits n) := by
  unfold State.failWaits
  exact .answerAll (.mapWaits (.answerAll h))

theorem Keeps.recoveryFail {cause : FaultCause} {frame aborts since reason : Nat} {units : List Nat} :
    Keeps s (t.recoveryFail n cause frame aborts since reason units) := by
  unfold State.recoveryFail
  exact .recoveryNotice (.unmap (.failWaits (.modCk (.setFld (.setFld (.setFld (.modPart h)))))))

theorem Keeps.recoveryStart {cause : FaultCause} {frame : Nat} : Keeps s (t.recoveryStart n cause frame) := by
  dsimp only [State.recoveryStart]
  split
  exacts [.recoveryFail (.recSettle h), .setFld (.setFld (.modCk (.recSettle h)))]

theorem Keeps.restoreRegion {x : RegionSnap} : Keeps s (t.restoreRegion x) := by
  unfold State.restoreRegion
  split
  exacts [h, .ite (.setFld (.setFld (.setRegion h))) h]

theorem Keeps.restoreCore {i : CkImg} {keep : Nat → Bool} : Keeps s (t.restoreCore n i keep) := .mem h (restoreBanks_wf _ _ _)

/-! Sys2Proof/Machine/Hazard.lean -/

theorem Keeps.recordHaz {x : Haz} : Keeps s (t.recordHaz n x) := by
  unfold State.recordHaz
  exact .setPart (.ite (.addFld (.addFld h)) (.addFld h))

theorem Keeps.recordAll {l : List Haz} : Keeps s (t.recordAll n l) := by
  induction l generalizing t with
  | nil => exact h
  | cons x r ih => exact ih (.recordHaz h)

theorem Keeps.flushHaz : Keeps s (t.flushHaz n) := by
  unfold State.flushHaz
  exact .recordAll (.modPart h)

theorem Keeps.dbgClear : Keeps s (t.dbgClear n) := .ite (.setReg (.setReg (.modPart h))) h

theorem Keeps.dbgHaltRec {l : Option (Nat × Option Nat)} : Keeps s (t.dbgHaltRec n l) := by
  unfold State.dbgHaltRec
  split
  exacts [h, .setReg h, .setReg h]

/-! Sys2Proof/Machine/PowerOps.lean -/

theorem Keeps.setPwr {p : Pwr} : Keeps s (t.setPwr p) := .pwr h

theorem Keeps.relockAdvance : Keeps s t.relockAdvance := by
  dsimp only [State.relockAdvance]
  split
  exacts [.ite h (.foldl h fun h => .ite h (.setReg h)), h]

theorem Keeps.answerHold : Keeps s (t.answerHold n) := by
  unfold State.answerHold
  exact .relockAdvance (.answerAll (.mapWaits h))

theorem Keeps.holdNow : Keeps s (t.holdNow n) := .answerHold (.modPart h)

theorem Keeps.requestHold : Keeps s (t.requestHold n) := by
  unfold State.requestHold
  exact .ite h (.ite (.ite (.modPart h) (.modPart h)) h)

theorem Keeps.releaseHold : Keeps s (t.releaseHold n) := .ite (.modPart h) (.modPart h)

theorem Keeps.dropHolds : Keeps s (t.dropHolds n) := by
  unfold State.dropHolds
  exact .setPwr h

theorem Keeps.changeOver {r : Rsp} : Keeps s (t.changeOver r) := by
  dsimp only [State.changeOver]
  split
  exacts [.answerAll (.foldl (.setPwr (.foldl h fun h => .setFld h)) fun h => .releaseHold h), h]

theorem Keeps.dormantBegin : Keeps s t.dormantBegin := by
  dsimp only [State.dormantBegin]
  refine .foldl (.rgs (.setPwr ?_)) fun h => .requestHold h
  split
  exacts [.changeOver h, h]

theorem Keeps.shutHalted : Keeps s (t.shutHalted n) := by
  dsimp only [State.shutHalted]
  split
  exacts [.ite (.ite (.dormantBegin h) (.setPwr h)) h, h]

/-! Sys2Proof/Machine/Tally.lean -/

theorem Keeps.writePeriodRec {r : TlyRow} {early : Bool} {endTicks wallEnd : Nat} :
    Keeps s (t.writePeriodRec r early endTicks wallEnd) := by
  unfold State.writePeriodRec
  exact .tly (.foldl h fun h => .setVword h)

theorem Keeps.writePeriodRecs {early : Bool} {endTicks wallEnd : Nat} {l : List TlyRow} :
    Keeps s (t.writePeriodRecs early endTicks wallEnd l) := by
  induction l generalizing t with
  | nil => exact h
  | cons x r ih =>
    unfold State.writePeriodRecs
    exact ih (.writePeriodRec h)

theorem Keeps.closePeriod {early : Bool} : Keeps s (t.closePeriod early) := by
  unfold State.closePeriod
  exact .ite (.tly (.writePeriodRecs h)) (.addFld (.tly h))

theorem Keeps.periodBoundary : Keeps s t.periodBoundary := by
  unfold State.periodBoundary
  exact .tly (.setReg (.closePeriod (.tly h)))

theorem Keeps.tallyAdvance {k l : Nat} : Keeps s (t.tallyAdvance k l) := by
  induction l generalizing t k with
  | zero => exact h
  | succ l ih => exact .ite (ih (.periodBoundary h)) (.tly h)

theorem Keeps.tallyNs {ns : Nat} : Keeps s (t.tallyNs ns) := by
  unfold State.tallyNs
  exact .tallyAdvance (.tly h)

theorem Keeps.tallyAdd {run stall frames energy : Nat} : Keeps s (t.tallyAdd n run stall frames energy) := by
  unfold State.tallyAdd
  exact .ite h (.tly (.ite (.closePeriod h) h))

theorem Keeps.tallyUnload : Keeps s (t.tallyUnload n) := .tly h

theorem KeepsOut.resultRecordOut {d : Fin 4} : KeepsOut s (execResultRecordOut d t) := by
  dsimp only [execResultRecordOut]
  refine .ite ?_ (.next h)
  split
  exacts [.next h, .next (.phmRingWrite (.ite (.tallyAdd (.setPhm h)) (.setPhm h)))]

theorem Keeps.tallyClock {v : Nat} : Keeps s (t.tallyClock v) := .tly h

/-! Sys2Proof/Machine/Sequencer.lean -/

theorem Keeps.stallStep {c : Stall} : Keeps s (t.stallStep n c) := by
  unfold State.stallStep
  exact .via (.maxFld (.addFld (.setPart h))) fun h => .ite (.raiseFrm (.modPart h)) h

theorem Keeps.discard {fromF : Nat} : Keeps s (t.discard n fromF) := by
  unfold State.discard
  exact .modCk (.capDiscard (.discardHeld (.modPart (.foldl h fun h => .setVword h))))

theorem Keeps.endHoldReq : Keeps s (t.endHoldReq n) := .ite (.answerHold (.dropHolds (.modPart h))) h

theorem Keeps.enterFault {cause : FaultCause} {stall bp frame : Nat} : Keeps s (t.enterFault n cause stall bp frame) := by
  unfold State.enterFault
  exact .via (.flushGather (.raiseFrm (.modPart (.discard h)))) fun h => .shutHalted (.ite (.recoveryStart h) (.endHoldReq
    (.recoveryStart h)))

theorem Keeps.catchUpFault : Keeps s (t.catchUpFault n) := by
  dsimp only [State.catchUpFault]
  split
  · exact .via (.modPart (.discard h)) fun h => .ite (.endHoldReq (.recoveryFail h)) (.setFld (.setFld (.modCk h)))
  · exact h

theorem Keeps.faultNow {cause : FaultCause} {stall bp frame : Nat} : Keeps s (t.faultNow n cause stall bp frame) := by
  unfold State.faultNow
  exact .ite (.catchUpFault (.flushHaz h)) (.enterFault (.flushHaz h))

theorem Keeps.latErrors {env : StepEnv} : Keeps s (t.latErrors n env) := by
  unfold State.latErrors
  exact .modPart (.foldl (.foldl (.foldl h fun h => .addFld h) fun h => .setReg (.addFld h)) fun h => .addFld h)

theorem Keeps.countIso {ds : List Deliv} : Keeps s (t.countIso ds) := .foldl h fun h => .ite h (.addFld h)

theorem Keeps.lattice {env : StepEnv} {eval : Bool} : Keeps s (t.lattice n env eval) := by
  unfold State.lattice
  exact .freeCtr (.setPart (.countIso (.latErrors h)))

theorem Keeps.noteStack {env : StepEnv} : Keeps s (t.noteStack n env) := by
  unfold State.noteStack
  exact .slotsCorrected (.stackFetch h)

theorem Keeps.noteXgets : Keeps s (t.noteXgets n) := by
  unfold State.noteXgets
  exact .ite (.modCk h) h

theorem Keeps.evalStep {env : StepEnv} : Keeps s (t.evalStep n env) := by
  unfold State.evalStep
  extract_lets _ _ s2 _ s4
  have h : Keeps s s2 := .lattice (.portStep (.modPart (.noteXgets (.noteStack h))))
  have h : Keeps s s4 := .flushHaz (.ite (.modPart h) (.sealStep (.modPart h)))
  split
  exacts [.faultNow h, .setPart h]

theorem Keeps.actAtC4 {fresh : Bool} {ws : List (Nat × Bool)} {deps : List Deposit} {l : List (Fin 36 × Begun)} :
    Keeps s (t.actAtC4 n fresh ws deps l) := by
  induction l generalizing t with
  | nil => exact h
  | cons x r ih =>
    unfold State.actAtC4
    refine ih ?_
    split
    exacts [.ite (.setWait h) h, .ite (.setWait h) h, h]

theorem Keeps.depositStep : Keeps s (t.depositStep n) := by
  unfold State.depositStep
  exact .ite (.modPart h) (.actAtC4 (.modCk (.modPart h)))

theorem Keeps.exchangeStep : Keeps s (t.exchangeStep n) := by
  unfold State.exchangeStep
  exact .ite (.notePace h) (.modPart (.notePace h))

theorem Keeps.gatherStep : Keeps s (t.gatherStep n) := .modPart h

theorem Keeps.chargeAbort {c : Nat} : Keeps s (t.chargeAbort n c) := by
  unfold State.chargeAbort
  split
  exacts [.chargeAll h, h]

theorem Keeps.decideStep : Keeps s (t.decideStep n) := by
  dsimp only [State.decideStep]
  refine .ite (.modPart (.ite h (.chargeAbort h))) (.ite (.ite (.modPart (.chargeAbort h)) (.setPart h)) (.ite (.setPart h)
    (.ite (.modPart (.raiseEpoch (.ite (.chargeAbort h) h))) (.modPart (.via ?_ fun h => .ite h (.raiseEpoch h))))))
  split
  exacts [.ite h (.setReg h), h]

theorem Keeps.shadowStep {low : Bool} {env : StepEnv} : Keeps s (t.shadowStep n low env) := by
  dsimp only [State.shadowStep]
  split
  exacts [.ite (.faultNow (.chargeAll h)) (.setPart h), .chargeAll (.setPart h)]

theorem Keeps.answerReleased {c : Nat} : Keeps s (t.answerReleased n c) := by
  unfold State.answerReleased
  exact .answerAll h

theorem Keeps.replayCheck {e : RecE} {crc : Word} : Keeps s (t.replayCheck n e crc) := .ite h (.setReg64 (.setFld h))

theorem Keeps.catchUpRelease {c : Nat} {fx : FrameFx} : Keeps s (t.catchUpRelease n c fx) := by
  unfold State.catchUpRelease
  extract_lets _ s1
  have h : Keeps s s1 := .releaseHeld (.modPart (.modCap h))
  split
  exacts [.ite h (.recoveryFail h), h]

theorem Keeps.releaseStep {c : Nat} : Keeps s (t.releaseStep n c) := by
  unfold State.releaseStep
  split
  · exact h
  · refine .ite (.catchUpRelease h) ?_
    extract_lets e s1 s2 tb s3 s4
    clear_value e
    have h3 : Keeps s s3 := .recRelease (.gatherFrame (.capRelease (.releaseHeld (.modPart (.ite h (.vtrRelease h))))))
    refine .answerReleased ?_
    dsimp only [s4]
    split
    exacts [.ite (.replayCheck h3) h3, h3]

theorem Keeps.discardStep {c : Nat} : Keeps s (t.discardStep n c) := by
  unfold State.discardStep
  exact .modPart (.discard h)

theorem Keeps.c12 : Keeps s (t.c12 n) := by
  dsimp only [State.c12]
  split
  exacts [.ite (.discardStep (.releaseStep h)) (.releaseStep h), .discardStep h, .ite h (.discardStep h)]

theorem Keeps.tallyStep : Keeps s (t.tallyStep n) := by
  unfold State.tallyStep
  exact .modPart (.tallyAdd h)

theorem Keeps.prune {c : Nat} : Keeps s (t.prune n c) := by
  unfold State.prune
  exact .setMach (.modPart h)

theorem Keeps.countAbort {c : Nat} : Keeps s (t.countAbort n c) := by
  unfold State.countAbort
  exact .ite (.recoveryNotice (.raiseFrm (.setPart h))) (.raiseFrm (.setPart h))

theorem Keeps.counterStep : Keeps s (t.counterStep n) := by
  dsimp only [State.counterStep]
  refine .modPart ?_
  split
  exacts [.ite (.setPart h) (.prune (.setPart h)), .ite h (.countAbort h), .setPart h]

theorem Keeps.recordWords : Keeps s (t.recordWords n) := by
  dsimp only [State.recordWords]
  split
  exacts [h, .setPart h]

theorem Keeps.beginFrame : Keeps s (t.beginFrame n) := by
  unfold State.beginFrame
  exact .via (.capTick (.recordWords (.modPart h))) fun h => .ite h (.sendToken h)

theorem Keeps.passTick : Keeps s (t.passTick n) := by
  unfold State.passTick
  exact .via (.beginFrame (.modPart h)) fun h => .ite (.holdNow h) h

theorem Keeps.openFrame : Keeps s (t.openFrame n) := by
  unfold State.openFrame
  exact .ite (.passTick (.modPart h)) (.modPart h)

theorem Keeps.depositHalted {deps : List Deposit} : Keeps s (t.depositHalted n deps) := by
  unfold State.depositHalted
  exact .modCk (.modPart h)

theorem Keeps.answerHalted : Keeps s (t.answerHalted n) := by
  dsimp only [State.answerHalted]
  refine .answerAll (.foldl h fun h => ?_)
  split
  exacts [.ite (.setReg h) h, h]

theorem Keeps.answerHalts {c : Nat} {safety : Bool} : Keeps s (t.answerHalts n c safety) := by
  dsimp only [State.answerHalts]
  refine .answerAll (.mapWaits ?_)
  split
  · exact .noteMade h
  · split
    exacts [.noteMade h, h]

theorem Keeps.runStart {count : Nat} : Keeps s (t.runStart n count) := by
  unfold State.runStart
  exact .via (.modPart (.setFld (.setReg h))) fun h => .via (.ite h (.setPwr h)) fun h => .ite (.modPart (.openFrame h)) (.openFrame
    h)

theorem Keeps.haltNow {causes : List Halt} {c : Nat} {hazard : Option (Nat × Option Nat)} :
    Keeps s (t.haltNow n causes c hazard) := by
  unfold State.haltNow
  exact .via (.answerHalts (.answerHalted (.depositHalted (.flushGather (.raiseFrm (.dbgHaltRec (.setPart h))))))) fun h =>
    .shutHalted (.ite (.answerHold (.dropHolds h)) h)

theorem Keeps.replayEnd : Keeps s (t.replayEnd n) := .modCk (.setFld (.setFld h))

theorem Keeps.tenantTick {f : Nat} : Keeps s (t.tenantTick n f) := by
  dsimp only [State.tenantTick]
  refine .mapWaits (.foldl h fun h => ?_)
  split
  exacts [.ite (.setReg h) h, h]

theorem Keeps.catchUpTick : Keeps s (t.catchUpTick n) := by
  dsimp only [State.catchUpTick]
  split
  · exact .ite (.catchUpFault h) (.openFrame (.setReg64 (.modPart h)))
  · exact .via (.prune (.modPart h)) fun h => .ite (.openFrame (.setReg64 h)) (.modPart h)

theorem Keeps.tick : Keeps s (t.tick n) := by
  dsimp only [State.tick]
  refine .ite (.catchUpTick (.modPart h)) ?_
  split
  · exact .faultNow (.modPart h)
  · exact .ite (.ckBoundary (.haltNow (.modPart h))) (.ite (.ckBoundary (.haltNow (.replayEnd (.modPart h)))) (.via (.recHold
      (.ckBoundary (.recSettle (.remapDue (.tenantTick (.modPart h)))))) fun h => .openFrame (.ite (.modPart h) h)))

theorem Keeps.commitStep {k : Nat} {env : StepEnv} : Keeps s (t.commitStep n k env) := by
  dsimp only [State.commitStep]
  split
  · exact .modPart (.flushHaz (.modPart (.lattice (.noteStack h))))
  · exact .modPart (.flushHaz (.modPart (.lattice (.noteStack h))))
  · exact .modPart (.flushHaz (.modPart (.lattice (.noteStack h))))
  · exact .modPart (.flushHaz (.exchangeStep (.modPart h)))
  · exact .modPart (.flushHaz (.depositStep (.modPart h)))
  · exact .modPart (.capFix h)
  · exact .modPart (.gatherStep h)
  · exact .modPart (.ite h (.sendVote h))
  · exact .modPart (.decideStep h)
  · exact .shadowStep h
  · exact .shadowStep h
  · exact .modPart (.c12 h)
  · exact .modPart (.tallyStep h)
  · exact .modPart (.counterStep h)
  · exact .tick h
  · exact .modPart h

theorem Keeps.seqCycle {env : StepEnv} : Keeps s (t.seqCycle n env) := by
  dsimp only [State.seqCycle]
  refine .ite (.ite (.passTick h) (.ite (.faultNow h) (.ite (.holdNow h) ?_))) h
  split
  exacts [.stallStep h, .ite (.evalStep (.setPart h)) (.commitStep (.setPart h))]

/-! Sys2Proof/Machine/Arm.lean -/

theorem Keeps.armNow {start : Nat} {goWait : Bool} : Keeps s (t.armNow n start goWait) := by
  unfold State.armNow
  exact .decimAll (.recStart (.capFresh (.modCk (.modPart (.vtrArm (.setMach (.modPart h)))))))

theorem Keeps.armEnd {a : Arming} {st : Status} : Keeps s (t.armEnd n a st) := by
  dsimp only [State.armEnd]
  split
  · exact .answer (.ite (.noteMade h) h)
  · split
    exacts [.ite (.cfg h) (.cfgBad (.cfgFail (.cfg h))), h]

theorem Keeps.armDrop {st : Status} : Keeps s (t.armDrop n st) := by
  dsimp only [State.armDrop]
  split
  exacts [.armEnd (.setMach h), h]

theorem Keeps.bindLink {k : Fin 24} : Keeps s (t.bindLink n k) := by
  dsimp only [State.bindLink]
  split
  exacts [.setFld (.setLink h), h]

theorem Keeps.bindLinks {l : List (Fin 24)} : Keeps s (t.bindLinks n l) := by
  induction l generalizing t with
  | nil => exact h
  | cons x r ih => exact ih (.bindLink h)

theorem Keeps.armCheck : Keeps s (t.armCheck n) := by
  dsimp only [State.armCheck]
  split
  exacts [h, .ite (.armDrop h) (.ite (.armEnd (.armNow (.bindLinks h))) h)]

theorem Keeps.sendInits : Keeps s (t.sendInits n) := by
  unfold State.sendInits
  split
  exacts [h, .foldl h fun h => .sendLinkCtl h]

theorem Keeps.armsLook : Keeps s t.armsLook := .foldl h fun h => .armCheck h

theorem Keeps.armBegin {a : Arming} : Keeps s (t.armBegin n a) :=
  .ite (.ite (.armEnd h) (.armCheck (.foldl (.setMach h) fun h => .sendLinkCtl h))) (.armEnd (.armNow h))

/-! Sys2Proof/Machine/LaneRows.lean -/

theorem Keeps.sendBacklog {k : Fin 24} {l : List FlitBody} : Keeps s (t.sendBacklog k l) := by
  induction l generalizing t with
  | nil => exact h
  | cons x r ih => exact ih (.sendFlit h)

theorem Keeps.serviceIn {q i l : Nat} : Keeps s (t.serviceIn q i l) := by
  unfold State.serviceIn
  exact .via (.setFld (.setFld h)) fun h => .dite (.via (.ite (.setFld h) (.setFld (.setFld h))) fun h => .sendBacklog (.setLink
    (.dite (.ite h (.fromOldest h)) h))) h

theorem Keeps.serviceOf {l : Nat} : Keeps s (t.serviceOf l) := by
  unfold State.serviceOf
  split
  exacts [.ite (.serviceIn h) (.serviceOut h), h]

theorem Keeps.peerSeen {l lane : Nat} {train spare : Bool} {quad dev : Nat} : Keeps s (t.peerSeen l lane train spare quad dev) :=
  .setFld h

theorem Keeps.spareCopies {n q i : Nat} : Keeps s (t.spareCopies n q i) := .setReg (.setReg h)

theorem Keeps.activate {n i : Nat} : Keeps s (t.activate n i) := by
  dsimp only [State.activate]
  split
  exacts [.retrain (.setFld (.spareCopies (.txQuiet (.serviceOut h)))), h]

theorem Keeps.giveBack {n : Nat} : Keeps s (t.giveBack n) := by
  unfold State.giveBack
  split
  exacts [.retrain (.setFld (.serviceOut h)), h]

theorem Keeps.sparePeer {l lane : Nat} : Keeps s (t.sparePeer l lane) := by
  dsimp only [State.sparePeer]
  split
  · exact h
  · exact .ite (.ite (.setFld (.spareCopies (.txQuiet (.serviceOut h)))) h) (.ite (.activate (.giveBack h)) h)

theorem Keeps.filler {l : Nat} {f : FillerF} {fill : Nat} : Keeps s (t.filler l f fill) := by
  dsimp only [State.filler]
  refine .ite h ?_
  split
  exacts [.toSeek (.addFld h), .via (.peerSeen (.setRecv h)) fun h => .serviceOf (.ite (.sparePeer h) h)]

theorem Keeps.quietEnd {l : Nat} : Keeps s (t.quietEnd l) := .ite (.ite (.setSender h) (.setFld (.setSender h))) h

theorem KeepsOut.adaptDone {l : BitVec 7} {found : Fin 19 × Fin 144} : KeepsOut s (execAdaptDone l found t) :=
  .guardUnit h (.ite (.ite (.setFld h) (.setFld (.setRxState (.setRecv (.setFld h))))) h)

theorem Keeps.acceptEnds {l : Nat} {found : Bool} : Keeps s (t.acceptEnds l found) :=
  .ite (.ite (.lan (.setRxState (.setFld h))) (.setFld h)) h

theorem Keeps.spareFor {q i : Nat} {delayed gone : Bool} : Keeps s (t.spareFor q i delayed gone) := by
  dsimp only [State.spareFor]
  refine .ite ?_ h
  split
  exacts [.activate h, .dite (.loseLink (.setFld (.setLink h))) h]

theorem Keeps.laneWrite {src : Option Path} {l addr : Nat} {v : Word} {act : State → State}
    (ha : ∀ {u}, Keeps s u → Keeps s (act u)) : Keeps s (t.laneWrite src l addr v act) := by
  unfold State.laneWrite
  split
  exacts [ha h, h, .ite (ha h) (.logAccess h)]

theorem Keeps.capture {l : Nat} : Keeps s (t.capture l) := by
  unfold State.capture
  exact .lan (.setReg h)

theorem Keeps.quadRef {q : Nat} : Keeps s (t.quadRef q) := .ite (.foldl (.setFld h) fun h => .toSeek h) h

theorem Keeps.slip {l count : Nat} : Keeps s (t.slip l count) := .ite (.setFld h) h

theorem Keeps.slipWrite {l count : Nat} {accept : Bool} : Keeps s (t.slipWrite l count accept) :=
  .ite (.ite (.setFld (.setRecv (.slip h))) (.slip h)) h

theorem Keeps.cfgWrite {l : Nat} {v : Word} : Keeps s (t.cfgWrite l v) := by
  unfold State.cfgWrite
  exact .ite (.retrain (.setReg h)) (.setReg h)

/-! Sys2Proof/Machine/Load.lean -/

theorem Keeps.moveShare {m : Fin 8} {d to_ : Nat} : Keeps s (t.moveShare m d to_) := by
  unfold State.moveShare
  exact .setReg (.plt h)

theorem Keeps.sharePlace {d units free : Nat} : Keeps s (t.sharePlace n d units free).2 := by
  dsimp only [State.sharePlace]
  split
  · exact h
  · exact List.foldlRecOn (motive := fun r : Nat × State => Keeps s r.2) _ _ h fun r hr x _ => .moveShare hr

theorem Keeps.setShare {kib d : Nat} : Keeps s (t.setShare n kib d) := by
  dsimp only [State.setShare]
  refine .setReg (.setReg (.setReg (.setReg ?_)))
  split
  exacts [.fresh h, .sharePlace (.fresh h)]

theorem Keeps.dbgOff : Keeps s (t.dbgOff n) := .regs h (mwf_filter resetWord _)

theorem Keeps.unstage {e : Eph} : Keeps s (t.unstage e) := by
  unfold State.unstage
  exact .foldl (.spr h) fun h => .ite (.setFld h) (.setFld (.setFld h))

theorem Keeps.clearPart : Keeps s (t.clearPart n) := by
  unfold State.clearPart
  exact .setReg (.setReg (.setReg (.setReg (.foldl (.setFld (.setFld (.modCk (.plt (.setCap (.setMach (.unmap (.holdRegions
    (.unstage h))))))))) fun h => .setReg64 (.setReg h)))))

theorem Keeps.loadWrite {c : Cont} {e : EphRec} {ok : Bool} : Keeps s (t.loadWrite n c e ok) := by
  unfold State.loadWrite
  exact .via (.foldl (.modCk (.setPart (.ite (.clearPart h) (.dbgOff (.clearPart h))))) fun h => .setShare h) fun h => .decimAll
    (.setReg (.ite (.holdRegions h) (.raiseFrm (.holdRegions h))))

theorem Keeps.noteLoad {st : Status} {detail : Nat} {auto : Bool} : Keeps s (t.noteLoad n st detail auto) := .setReg h

theorem Keeps.unloadWaits : Keeps s (t.unloadWaits n) := .answerAll h

theorem Keeps.freeBuffers {owner : Nat} : Keeps s (t.freeBuffers owner) := by
  unfold State.freeBuffers
  exact .addFld (.cur h)

theorem Keeps.cancelData : Keeps s (t.cancelData n) := by
  unfold State.cancelData
  exact .rgs h

theorem Keeps.unloadNow : Keeps s (t.unloadNow n) := by
  unfold State.unloadNow
  exact .cancelData (.decimAll (.freeBuffers (.setPart (.foldl (.dbgOff (.clearPart (.tallyUnload (.flushGather (.unloadWaits h)))))
    fun h => .setShare h))))

/-! Sys2Proof/Machine/Bank.lean -/

theorem Keeps.respond {p : Pkt} {st : Status} {derr : Bool} {data : List DWord} : Keeps s (t.respond p st derr data) := .sendPkt h

theorem Keeps.loanWrite {bank owner : Nat} {scrub : Bool} : Keeps s (t.loanWrite bank owner scrub) := by
  unfold State.loanWrite
  exact .ite (.setFld h) (.ite (.setFld h) (.vlt (.setFld (.setFld (.setFld (.setFld (.setFld h)))))))

theorem Keeps.loanDone {bank : Nat} : Keeps s (t.loanDone bank) := by
  unfold State.loanDone
  exact .answerAll (.setFld (.setFld h))

theorem Keeps.loanDrained {bank : Nat} : Keeps s (t.loanDrained bank) := .ite (.ite (.setFld h) (.loanDone h)) h

theorem Keeps.loanScrubbed {bank : Nat} : Keeps s (t.loanScrubbed bank) := .ite (.loanDone (.vlt (.scrubBank h))) h

theorem Keeps.bankArrive {bank : Nat} {p : Pkt} {credited : Bool} : Keeps s (t.bankArrive bank p credited) := by
  dsimp only [State.bankArrive]
  split
  exacts [.respond (.refuse h), .vlt h]

theorem Keeps.undefineRead {bank word : Nat} : Keeps s (t.undefineRead bank word) := by
  unfold State.undefineRead
  exact .dite (.modPart (.freeCtr_noc h)) (.freeCtr_noc h)

theorem Keeps.undefineReads {bank word wmask count : Nat} : Keeps s (t.undefineReads bank word wmask count) :=
  .foldl h fun h => .ite (.undefineRead h) h

theorem Keeps.writeWords {bank word bmask wmask i : Nat} {l : List DWord} : Keeps s (t.writeWords bank word bmask wmask l i) := by
  induction l generalizing t i with
  | nil => exact h
  | cons x r ih => exact ih (.ite (.setVword h) h)

theorem Keeps.readEccs {bank word : Nat} {ecc : Ecc} {count : Nat} : Keeps s (t.readEccs bank word ecc count).1 := by
  unfold State.readEccs
  refine List.foldlRecOn (motive := fun r : State × Bool => Keeps s r.1) _ _ h ?_
  intro r hr i _
  exact .readEcc hr

theorem Keeps.serveN {q : NReq} {meet : Meet} {ecc : Ecc} : Keeps s (t.serveN q meet ecc) := by
  dsimp only [State.serveN]
  refine .ite (.respond h) (.ite (.respond (.vltReject h)) (.ite ?_ (.ite (.respond h) (.ite (.respond (.vltBusy h)) ?_))))
  · split
    exacts [.respond (.vltBusy h), .respond (.readEccs h)]
  · split
    exacts [.respond (.writeWords h), .respond (.vltBusy (.ite (.undefineReads h) h)), .respond (.vltBusy h)]

theorem KeepsOut.portNAccess {bank : BitVec 10} {meet : Meet} {ecc : Ecc} : KeepsOut s (execPortNAccess bank meet ecc t) := by
  unfold execPortNAccess
  refine .guardUnit h ?_
  split
  exacts [.serveN (.vlt h), h]

theorem KeepsOut.patrolScrub {bank : BitVec 10} {word : BitVec 13} {ecc : Ecc} {meet : Bool} :
    KeepsOut s (execPatrolScrub bank word ecc meet t) := by
  unfold execPatrolScrub
  refine .guardUnit h (.ite h (.ite (.vltDbe h) ?_))
  split
  exacts [h, .vltCorr h, .vltDbe h]

theorem Keeps.setCapt {p : Path} {w : Word} : Keeps s (t.setCapt p w) := .capts h

theorem Keeps.setHold {p : Path} {w : Word} : Keeps s (t.setHold p w) := .holds h

theorem Keeps.bus {w : Word} : Keeps s (t.bus w) := .busOut h

theorem Keeps.peekStatus {p : Path} {bank : Nat} {st : Status} {dbe : Bool} : Keeps s (t.peekStatus p bank st dbe) := by
  unfold State.peekStatus
  exact .ite (.vlt h) (.vlt h)

theorem Keeps.peekRead {p : Path} {addr : Nat} {meet : Meet} {ecc : Ecc} : Keeps s (t.peekRead p addr meet ecc) := by
  dsimp only [State.peekRead]
  split
  · exact .bus (.setCapt (.peekStatus h))
  · split
    exacts [.bus (.setCapt (.peekStatus (.vltBusy h))), .bus (.setCapt (.peekStatus (.readEcc h)))]

theorem Keeps.peekWrite {p : Path} {addr : Nat} {hi : Word} {meet : Meet} : Keeps s (t.peekWrite p addr hi meet) := by
  dsimp only [State.peekWrite]
  split
  · exact .peekStatus h
  · refine .ite (.peekStatus (.vltBusy h)) ?_
    split
    exacts [.peekStatus (.setVword h), .peekStatus (.vltBusy (.ite (.undefineRead h) h))]

theorem KeepsOut.peekRead {path : Path} {addr : Nat} {meet : Meet} {ecc : Ecc} :
    KeepsOut s (execPeekRead path addr meet ecc t) := by
  unfold execPeekRead
  split
  exacts [.next (.bus h), .ite (.next (.peekRead h)) (.ite (.next (.bus h)) (.next (.bus h)))]

theorem KeepsOut.peekWrite {path : Path} {addr : Nat} {hi : Word} {meet : Meet} :
    KeepsOut s (execPeekWrite path addr hi meet t) := by
  unfold execPeekWrite
  split
  exacts [.next h, .ite (.next (.peekWrite h)) (.next h)]

/-! Sys2Proof/Machine/Frame.lean -/

theorem Keeps.bpStep {cls : Nat → Bool} {bp : Nat} {e : BpErr} : Keeps s (t.bpStep cls bp e) := by
  dsimp only [State.bpStep]
  split
  exacts [.modPart (.ite (.slotsCorrected (.stackFetch h)) (.stackFetch h)), h]

theorem KeepsOut.bpRow {cls : Nat → Bool} {bp : BpAddr} {e : BpErr} : KeepsOut s (bpRow cls bp e t) := .guardUnit h (.bpStep h)

theorem Keeps.cycleAt {k : Nat} {env : StepEnv} : Keeps s (t.cycleAt n k env) := .ite (.seqCycle h) h

theorem Keeps.haltTick {x : Halt} : Keeps s (t.haltTick n x) := .ite (.cycleAt h) h

theorem KeepsOut.stallLimit : KeepsOut s (execStallLimit n t) := by
  unfold execStallLimit
  exact .ite (.next (.seqCycle h)) (.next h)

theorem Keeps.endHold {f : BHold → Bool} : Keeps s (t.endHold n f) := .modPart h

/-! Sys2Proof/Machine/Packet.lean -/

theorem Keeps.requestAt {p : Pkt} {credited : Bool} : Keeps s (t.requestAt p credited) := by
  unfold State.requestAt
  refine .ite (.bankArrive h) (.ite ?_ (.ite (.ite (.respond (.freeCtr h)) (.ite (.respond h) (.respond (.noc h)))) (.respond h)))
  split
  exacts [.setPort h, .respond h]

theorem Keeps.loseReq {p : Pkt} : Keeps s (t.loseReq p) := .noc h

theorem Keeps.arriveReq {p : Pkt} {hdrBad : Bool} : Keeps s (t.arriveReq p hdrBad) := by
  unfold State.arriveReq
  exact .ite (.loseReq (.takePkt h)) (.requestAt (.spendCredit (.takePkt h)))

theorem KeepsOut.arriveOp {op : Nat} {p : Pkt} {hdrBad : Bool} : KeepsOut s (t.arriveOp op p hdrBad) :=
  .guardUnit h (.ite (.arriveReq h) h)

theorem Keeps.refuseAt {p : Pkt} {hdrBad : Bool} : Keeps s (t.refuseAt p hdrBad) := by
  unfold State.refuseAt
  exact .ite (.loseReq (.takePkt h)) (.respond (.spendCredit (.takePkt h)))

theorem Keeps.grantReply {a : Ask} : Keeps s (t.grantReply a) := by
  unfold State.grantReply
  exact .sendPkt h

theorem Keeps.creditReq {k : CreditKey} {want : Nat} {hdrBad : Bool} : Keeps s (t.creditReq k want hdrBad) := by
  have hask := askCredit h (k := k) (want := want)
  unfold State.creditReq
  split
  · refine .ite (.takePkt h) ?_
    split
    exacts [.grantReply (.takePkt h), .takePkt h]
  · split
    · next he => rw [he] at hask; exact .ite hask (.grantReply hask)
    · next he => rw [he] at hask; exact hask

theorem Keeps.addCredit {k : CreditKey} {n : Nat} : Keeps s (t.addCredit k n) := by
  unfold State.addCredit
  exact .ite h (.setCredit h)

theorem Keeps.askRetry {a : Ask} : Keeps s (t.askRetry a) := by
  dsimp only [State.askRetry]
  split
  exacts [.sendPkt h, .noc (.setAsks h)]

theorem Keeps.tryLeave {k : CreditKey} {req : Pkt} {age : Nat} : Keeps s (t.tryLeave k req age) := by
  unfold State.tryLeave
  exact .ite (.leave h) h

theorem Keeps.creditReply {k : CreditKey} {req : Pkt} {hdrBad : Bool} : Keeps s (t.creditReply k req hdrBad) := by
  dsimp only [State.creditReply]
  split
  · exact .tryLeave h
  · refine .ite (.takePkt h) ?_
    split
    · exact .addCredit (.takePkt h)
    · exact .ite (.askRetry (.takePkt h)) (.tryLeave (.addCredit (.setAsks (.takePkt h))))

theorem Keeps.landRead {r : VRead} {st : Nat} {derr : Bool} {data : List DWord} : Keeps s (t.landRead n r st derr data) :=
  .modPart h

theorem Keeps.freeEntry {src sep tag : Nat} : Keeps s (t.freeEntry src sep tag) := .noc h

theorem Keeps.land {src sep tag st : Nat} {derr : Bool} {data : List DWord} : Keeps s (t.land src sep tag st derr data) :=
  .ite (.noc (.freeEntry h)) h

theorem Keeps.arriveRsp {p : Pkt} {hdrBad : Bool} : Keeps s (t.arriveRsp p hdrBad) := by
  dsimp only [State.arriveRsp]
  refine .ite (.takePkt h) (.ite ?_ (.land (.takePkt h)))
  split
  exacts [.landRead (.freeEntry (.takePkt h)), .freeEntry (.takePkt h)]

theorem Keeps.nodeErr {i : Fin 8} {status : Nat} : Keeps s (t.nodeErr i status) := .setFld (.addFld h)

theorem Keeps.timeoutCount {dest ep : Nat} : Keeps s (t.timeoutCount dest ep) := by
  unfold State.timeoutCount
  refine .ite ?_ h
  split
  exacts [.nodeErr h, h]

theorem Keeps.nocTimeout {src sep tag : Nat} : Keeps s (t.nocTimeout src sep tag) := by
  unfold State.nocTimeout
  extract_lets l s1
  clear_value l
  have h : Keeps s s1 := by
    dsimp only [s1]
    split
    exacts [.ite (.spendCredit h) h, h]
  clear_value s1
  dsimp only
  split
  · exact .nodeErr (.landRead (.freeEntry (.setAsks h)))
  · split
    · exact .timeoutCount (.land h)
    · split
      exacts [.noc (.setAsks h), h]

theorem Keeps.nocGen {key : Nat} : Keeps s (t.nocGen key) := .spr h

theorem Keeps.linkOut {tile dir : Nat} : Keeps s (t.linkOut tile dir) := by
  unfold State.linkOut
  exact .nocGen (.nocGen (.setFld (.setFld h)))

theorem Keeps.withdraw {tile : Nat} : Keeps s (t.withdraw tile) := by
  dsimp only [State.withdraw]
  split
  · refine .ite (.setFld h) ?_
    split
    exacts [.recoveryFail (.enterFault (.setFld h)), .enterFault (.setFld h)]
  · exact .setFld h

theorem Keeps.fenceRouter {tile : Nat} : Keeps s (t.fenceRouter tile) := .withdraw (.nocGen (.setFld h))

theorem Keeps.linkFails {tile dir : Nat} : Keeps s (t.linkFails tile dir) := .ite h (.ite (.linkOut h) (.setFld (.linkOut h)))

theorem KeepsOut.depotInfo {port : Fin 8} {tNode : BitVec 16} {gib : BitVec 24} : KeepsOut s (execDepotInfo port tNode gib t) :=
  .guardUnit h (.ite (.cfgAdvance (.setPortState (.setFld (.setFld (.setPort h))))) h)

theorem Keeps.giveUp {r : DReq} : Keeps s (t.giveUp r) := by
  unfold State.giveUp
  split
  exacts [.respond h, h]

theorem Keeps.portFault {i : Fin 8} : Keeps s (t.portFault i) := by
  unfold State.portFault
  exact .depotMapDue (.foldl (.setPort (.setPortState h)) fun h => .giveUp h)

theorem KeepsOut.depotInfoTimeout {port : Fin 8} : KeepsOut s (execDepotInfoTimeout port t) :=
  .guardUnit h (.ite (.cfgAdvance (.ite (.cfgFail (.portFault h)) (.portFault h))) h)

theorem Keeps.depotRead {i : Fin 8} {p : Pkt} : Keeps s (t.depotRead i p) := by
  unfold State.depotRead
  exact .ite (.respond h) (.setPort h)

theorem Keeps.depotWrite {i : Fin 8} {p : Pkt} : Keeps s (t.depotWrite i p) := by
  unfold State.depotWrite
  exact .ite (.respond h) (.ite (.respond h) (.setPort h))

theorem Keeps.depotRequest {i : Fin 8} : Keeps s (t.depotRequest i) := by
  dsimp only [State.depotRequest]
  split
  · exact h
  · exact .ite (.respond (.setPort h)) (.ite (.respond (.depotRefuse (.setPort h))) (.ite (.depotWrite (.setPort h)) (.depotRead
      (.setPort h))))

theorem Keeps.nodeData {i : Fin 8} {tag status : Nat} {data : List DWord} : Keeps s (t.nodeData i tag status data) := by
  unfold State.nodeData
  extract_lets q
  split
  · extract_lets s1 s2
    have h : Keeps s s2 := .ite (.setPort h) (.nodeErr (.setPort h))
    split
    exacts [.ite (.respond h) (.ite (.respond h) (.setPort h)), h]
  · exact h

theorem Keeps.nodeAck {i : Fin 8} {tag status : Nat} : Keeps s (t.nodeAck i tag status) := by
  unfold State.nodeAck
  extract_lets q
  split
  · extract_lets s1 s2
    have h : Keeps s s2 := .ite (.setPort h) (.nodeErr (.setPort h))
    split
    · exact .respond h
    · split
      exacts [.setPort h, h]
  · exact h

theorem KeepsOut.depotQueueSend {port : Fin 8} : KeepsOut s (execDepotQueueSend port t) := by
  dsimp only [execDepotQueueSend]
  refine .guardUnit h ?_
  split
  exacts [.ite (.setPort h) h, h]

/-! Sys2Proof/Machine/Reserve.lean -/

theorem Keeps.accAnswer {q : Pend} : Keeps s (t.accAnswer q) := by
  unfold State.accAnswer
  exact .ite (.mapWaits h) (.answerAll (.mapWaits h))

theorem Keeps.accHoldEnd {n : Option (Fin 8)} : Keeps s (t.accHoldEnd n) := by
  unfold State.accHoldEnd
  split
  exacts [.ite h (.endHold h), h]

theorem Keeps.accCluster {tile c : Nat} {parity : Bool} : Keeps s (t.accCluster tile c parity) := by
  unfold State.accCluster
  extract_lets q old new rec_ path s1 s2 s3 mine _ s4 s5 s6
  have h3 : Keeps s s3 := .setFld (.setFld (.setFld (.setFld (.setFld (.genUp h)))))
  have h4 : Keeps s s4 := .spr h3
  have h5 : Keeps s s5 := .lastAcc (.setPend h4)
  have h6 : Keeps s s6 := .accAnswer h5
  clear_value s6
  split
  exacts [.ite (.faultNow h6) (.accHoldEnd h6), h6]

theorem Keeps.accNone {q : Pend} : Keeps s (t.accNone q) := by
  unfold State.accNone
  exact .accHoldEnd (.answerAll (.noSpare (.lastAcc (.fresh (.setPend h)))))

theorem Keeps.clusterAccession {tile c : Nat} {parity : Bool} : Keeps s (t.clusterAccession tile c parity) := by
  unfold State.clusterAccession
  exact .ite (.ite (.accNone h) (.accCluster h)) h

theorem Keeps.accBank {bank p : Nat} : Keeps s (t.accBank bank p) := by
  unfold State.accBank
  exact .accHoldEnd (.accAnswer (.lastAcc (.fresh (.setPend (.setFld (.setFld (.setFld (.genUp h))))))))

theorem Keeps.bankAccession {bank p : Nat} : Keeps s (t.bankAccession bank p) := by
  unfold State.bankAccession
  exact .ite (.ite (.accBank h) (.ite (.accNone h) h)) h

theorem Keeps.stagingDone {tile : Nat} : Keeps s (t.stagingDone tile) := by
  dsimp only [State.stagingDone]
  split
  exacts [.setFld (.setFld (.spr h)), h]

theorem Keeps.decay {a : Nat} : Keeps s (t.decay a) := by
  unfold State.decay
  exact .setFld h

theorem Keeps.ghost {kind phys : Nat} {gen : Bool} : Keeps s (t.ghost kind phys gen) := by
  dsimp only [State.ghost]
  split
  exacts [.ite (.notice (.setFld (.addFld (.setReg (.addFld h))))) (.addFld (.setReg (.addFld h))), .setReg (.addFld h)]

theorem Keeps.writeRecord : Keeps s t.writeRecord := by
  unfold State.writeRecord
  exact .spr h

theorem KeepsOut.curatorMismatch : KeepsOut s (execCuratorMismatch t) := by
  unfold execCuratorMismatch
  exact .next (.notice (.cur (.foldl h fun h => .modPart h)))

theorem Keeps.setWorn {tile degr conf : Nat} : Keeps s (t.setWorn tile degr conf) := by
  unfold State.setWorn
  exact .via (.foldl (.setFld h) fun h => .actCluster (.maxFld h)) fun h => .ite h (.notice h)

theorem Keeps.showWear {tile : Nat} : Keeps s (t.showWear tile) := by
  unfold State.showWear
  exact .via (.setFld (.setFld (.fresh h))) fun h => .ite (.setWorn h) (.setFld h)

theorem Keeps.wearWindow {tile count : Nat} {valid : Bool} : Keeps s (t.wearWindow tile count valid) :=
  .ite h (.showWear (.addFld (.spr h)))

theorem KeepsOut.wearCrossCheck {site : BitVec 8} {moved : Bool} : KeepsOut s (execWearCrossCheck site moved t) := by
  unfold execWearCrossCheck
  exact .guardUnit h (.ite h (.ite (.showWear (.setFld (.spr h))) (.spr h)))

/-! Sys2Proof/Machine/ConfigRows.lean -/

theorem Keeps.afterReset : Keeps s t.afterReset :=
  .regs (.mem h (u := { t with vlt := Vlt.reset }) fun _ => rfl) (mwf_filter resetWord _)

theorem Keeps.driveDone {low : Bool} : Keeps s (t.driveDone low) := by
  unfold State.driveDone
  exact .ite (.setFld (.setFld h)) (.setFld h)

theorem Keeps.cfgStop {stage code result : Nat} : Keeps s (t.cfgStop stage code result) := by
  unfold State.cfgStop
  exact .cur (.driveDone (.setFld (.setFld (.cfgFail h))))

theorem Keeps.recoveryMode {stage code : Nat} : Keeps s (t.recoveryMode stage code) := .setDocent (.cfgStop h)

theorem Keeps.testCluster {bad : List Nat} {tile : Nat} : Keeps s (t.testCluster bad tile) :=
  .foldl h fun h => .ite h (.ite (.scoreCluster h) (.spr (.setFld (.setFld (.setFld (.setFld (.ite (.setFld h) h)))))))

theorem Keeps.testBank {bad : List Nat} {k : Nat} : Keeps s (t.testBank bad k) := by
  unfold State.testBank
  exact .ite h (.ite (.scoreBank h) (.spr (.setFld (.ite (.setFld h) h))))

theorem Keeps.restoreReserve {ok : Bool} {badC badB : List Nat} : Keeps s (t.restoreReserve ok badC badB) := by
  unfold State.restoreReserve
  exact .via (.foldl (.foldl (.ite (.spr (.foldl h fun h => .setReg h)) h) fun h => .testCluster h) fun h => .testBank h) fun h =>
    .ite h (.foldl (.foldl h fun h => .scoreCluster h) fun h => .scoreBank h)

theorem Keeps.lendNow {bank owner : Nat} : Keeps s (t.lendNow bank owner) := .loanDrained (.loanWrite h)

theorem Keeps.scrubAll : Keeps s t.scrubAll := by
  unfold State.scrubAll
  exact .cur (.setReg (.foldl (.mem h fun _ => rfl) fun h => .lendNow h))

theorem Keeps.dropUse {q : Nat} : Keeps s (t.dropUse q) := by
  unfold State.dropUse
  exact .dite (.loseLink (.setLink (.setReg h))) (.dite (.setPort (.setReg h)) h)

theorem Keeps.spareQuads : Keeps s t.spareQuads := .foldl h fun h => .ite h (.setQuad h)

theorem Keeps.releaseSpares {q : Nat} : Keeps s (t.releaseSpares q) := by
  unfold State.releaseSpares
  refine .foldl h fun h => ?_
  split
  exacts [.ite (.retrain (.setFld (.serviceOut h))) h, h]

theorem Keeps.useQuad {q use bind : Nat} {half manual : Bool} : Keeps s (t.useQuad q use bind half manual) := by
  unfold State.useQuad
  exact .via (.setFld (.setFld (.setFld (.setFld (.spareQuads (.dropUse (.setQuad (.releaseSpares h)))))))) fun h => .ite h (.ite
    (.setReg h) (.ite (.setReg h) h))

theorem Keeps.quadLanes {q : Nat} {r : QuadRec} : Keeps s (t.quadLanes q r) := .foldl h fun h => .enterQuiet (.setReg (.setFld h))

theorem Keeps.applyBoard {b : BoardBox} : Keeps s (t.applyBoard b) := by
  unfold State.applyBoard
  extract_lets qs s1 sp s2 rs s4 autos _ s5 s6
  have h1 : Keeps s s1 := .foldl h fun h => .useQuad (.quadLanes h)
  have h2 : Keeps s s2 := .foldl h1 fun h => .setFld (.setFld h)
  have h4 : Keeps s s4 := .foldl h2 fun h => .foldl h fun h => .ite (.setDepotEntry h) h
  have h5 : Keeps s s5 := .cfg h4
  refine .setReg ?_
  dsimp only [s6]
  split
  exacts [.setFld h5, h5]

theorem Keeps.clocksUp {ops : Vector (Fin 4) 4} : Keeps s (t.clocksUp ops) := by
  unfold State.clocksUp
  exact .setFld (.setFld (.setReg (.foldl h fun h => .ite (.setReg (.setFld (.setFld h))) h)))

theorem Keeps.applyPatch {img : Option Cont} : Keeps s (t.applyPatch img) := by
  unfold State.applyPatch
  split
  · split
    exacts [.setFld h, .cfgBad (.cfgFail h)]
  · exact h

theorem Keeps.boardStage {b : Option BoardBox} : Keeps s (t.boardStage b) := by
  dsimp only [State.boardStage]
  split
  · split
    exacts [.applyBoard h, .setFld (.cfgBad (.cfgFail h))]
  · exact .setFld (.cfgBad (.cfgFail h))

theorem Keeps.measureVddio {l : List (BitVec 12)} : Keeps s (t.measureVddio l) := .foldl h fun h => .setFld h

theorem Keeps.configStart {b : Boot} : Keeps s (t.configStart b) := by
  unfold State.configStart
  extract_lets _ s0 s1 roles
  have h : Keeps s s1 := .driveDone (.setFld (.cfg h))
  clear_value s1 roles
  split
  · exact .cfg (.cfgStop h)
  · dsimp only
    split
    · exact .recoveryMode (.stageEnd h)
    · exact .via (.restoreReserve (.applyPatch (.setFld (.cfg (.stageEnd h))))) fun h => .via (.measureVddio (.boardStage (.clocksUp
        (.scrubAll (.setReg (.ite h (.cfgBad (.cfgFail h)))))))) fun h => .cfgAdvance (.stageEnd (.ite (.calStart h) h))

theorem Keeps.tapRelease : Keeps s t.tapRelease := .ite (.tap h) h

theorem KeepsOut.stageTimeout {stage port : Fin 8} : KeepsOut s (execStageTimeout stage port t) :=
  .ite (.ite (.next (.recoveryMode h)) (.ite (.next (.cfgAdvance (.portFault h))) (.next h))) (.next h)

theorem KeepsOut.docentStarted {slotB : Bool} {active other : Option (Cont × Nat)} :
    KeepsOut s (execDocentStarted slotB active other t) := by
  dsimp only [execDocentStarted]
  refine .ite ?_ (.next h)
  split
  · exact .next (.cfgAdvance (.stageEnd (.setDocent (.cfg (.setFld (.setFld (.setFld (.setFld h))))))))
  · exact .next (.recoveryMode h)

theorem Keeps.autoFail {code i : Nat} {e : AutoEntry} {st : Status} : Keeps s (t.autoFail code i e st) := .cfgBad (.cfgFail h)

theorem Keeps.autoEph {i : Nat} {a : AutoEntry} {c : Cont} {len : Nat} {e : EphRec} {ok : Bool} :
    Keeps s (t.autoEph i a c len e ok) := by
  unfold State.autoEph
  refine .ite (.autoFail (.noteLoad h)) ?_
  split
  · exact .autoFail (.noteLoad h)
  · extract_lets _ s2
    have h : Keeps s s2 := .foldl (.foldl h fun h => .ite h (.grantSeg h)) fun h => .ite (.lendNow h) h
    split
    · exact .autoFail (.noteLoad h)
    · exact .ite (.autoFail (.noteLoad (.loadWrite h))) (.ite (.armBegin (.cfg (.noteLoad (.loadWrite h)))) (.noteLoad (.loadWrite
        h)))

theorem Keeps.checkVddio {i : Nat} {codes : List Nat} : Keeps s (t.checkVddio i codes) :=
  .foldl h fun h => .ite (.cfgBad (.cfgFail (.setFld (.setFld h)))) (.setFld (.setFld h))

theorem Keeps.autoVtr {i : Nat} {a : AutoEntry} {v : VBox} : Keeps s (t.autoVtr i a v) := by
  dsimp only [State.autoVtr]
  split
  exacts [.autoFail h, .ite (.autoFail h) (.cfg (.foldl (.checkVddio h) fun h => .regionLoad h))]

theorem Keeps.autoStage : Keeps s t.autoStage := .ite (.setFld (.stageEnd h)) h

theorem Keeps.autoNext : Keeps s t.autoNext := .autoStage (.cfg h)

theorem Keeps.autoRegion {r : Fin 8} {crcOk : Bool} : Keeps s (t.autoRegion r crcOk) := by
  dsimp only [State.autoRegion]
  split
  · refine .autoStage ?_
    split
    exacts [.autoFail (.cfg h), .cfg h]
  · exact h

theorem KeepsOut.autoloadEntry {img : AutoImg} : KeepsOut s (execAutoloadEntry img t) := by
  unfold execAutoloadEntry
  refine .ite ?_ (.next h)
  split
  · exact .next h
  · extract_lets _ miss
    have h1 : Keeps s miss := .ite (.autoFail (.noteLoad h)) (.autoFail h)
    refine .next (.autoNext (.ite h ?_))
    split
    · exact h1
    · split
      exacts [.ite (.autoEph h) h1, h1]
    · split
      exacts [.ite (.autoVtr h) h1, h1]

theorem Keeps.configDone : Keeps s t.configDone := by
  unfold State.configDone
  exact .setReg (.setReg (.foldl (.driveDone (.setFld (.setFld (.stageEnd (.stageEnd h))))) fun h => .ite (.phmConfigure h) h))

theorem Keeps.goAct : Keeps s t.goAct := by
  unfold State.goAct
  exact .via (.addFld (.setFld h)) fun h => .foldl (.setReg64 (.ite (.addFld h) h)) fun h => .runStart h

theorem Keeps.releaseDone : Keeps s t.releaseDone := by
  unfold State.releaseDone
  exact .cfg (.driveDone h)

theorem Keeps.regionLoaded {r : Fin 8} {crcOk : Bool} : Keeps s (t.regionLoaded r crcOk) :=
  .ite (.answerAll (.autoRegion (.mapWaits (.regionArrived h)))) h

/-! Sys2Proof/Machine/Registrar.lean -/

theorem Keeps.setRgs {r : Rgs} : Keeps s (t.setRgs r) := .rgs h

theorem Keeps.coreFails {k : Fin 8} : Keeps s (t.coreFails k) := by
  dsimp only [State.coreFails]
  refine .ite h ?_
  split
  exacts [.setFld (.setFld h), .setFld h]

theorem Keeps.rgsTrace {w0 : Nat} : Keeps s (t.rgsTrace w0) := by
  unfold State.rgsTrace
  exact .ite (.ite (.setFld (.unitWrite h)) (.addFld (.unitWrite h))) (.addFld h)

theorem Keeps.traceTask {x : Task} {event core prio detail : Nat} : Keeps s (t.traceTask x event core prio detail) :=
  .ite h (.rgsTrace h)

theorem Keeps.traceHeld {x : Held} {event : Nat} : Keeps s (t.traceHeld x event) := .rgsTrace h

theorem Keeps.taskCreate {kind owner : Nat} {param : Word} {delay : Nat} : Keeps s (t.taskCreate kind owner param delay) := by
  dsimp only [State.taskCreate]
  refine .ite (.traceHeld (.setRgs h)) (.ite (.setRgs h) (.ite h ?_))
  split
  · split
    exacts [.traceTask (.setRgs h), h]
  · exact h

theorem Keeps.stepDone {k : Fin 8} {status : Nat} : Keeps s (t.stepDone k status) := by
  unfold State.stepDone
  split
  exacts [.traceTask (.setRgs h), h]

theorem Keeps.stepYield {k : Fin 8} {delay : Nat} : Keeps s (t.stepYield k delay) := by
  dsimp only [State.stepYield]
  split
  exacts [.ite (.setRgs h) (.ite (.traceTask (.setRgs h)) (.traceTask (.setRgs h))), h]

theorem Keeps.cancelCmd {x : Task} : Keeps s (t.cancelCmd x) := by
  refine .dite (fun {_} => ?_) h
  dsimp only
  split
  exacts [.answer (.begin h), h]

theorem Keeps.stepCancel {id : Nat} : Keeps s (t.stepCancel id) := by
  unfold State.stepCancel
  split
  · exact .addFld h
  · split
    exacts [.setRgs h, .cancelCmd (.traceTask (.addFld (.setRgs h)))]

theorem Keeps.stepReady {tick : Bool} {x : Task} : Keeps s (t.stepReady tick x) := by
  unfold State.stepReady
  exact .ite (.traceTask (.setRgs h)) h

theorem Keeps.dispatch {k : Fin 8} : Keeps s (t.dispatch k) := by
  dsimp only [State.dispatch]
  split
  · exact h
  · exact .via (.ite (.addFld (.addFld (.setRgs h))) (.addFld (.setRgs h))) fun h => .traceTask (.ite (.addFld h) h)

theorem Keeps.rgsCycle : Keeps s t.rgsCycle := by
  unfold State.rgsCycle
  exact .via (.foldl (.foldl (.foldl (.foldl (.setRgs h) fun h => .stepDone h) fun h => .stepYield h) fun h => .stepCancel h)
    fun h => .stepReady h) fun h => .foldl (.ite (.foldl h fun h => .dispatch h) h) fun h => .ite (.addFld (.setRgs h)) h

theorem Keeps.coreDone {k : Fin 8} {status : Nat} : Keeps s (t.coreDone k status) := .ite (.setRgs h) h

theorem Keeps.coreYield {k : Fin 8} {delay : Nat} : Keeps s (t.coreYield k delay) := .ite (.setRgs h) h

theorem Keeps.cancelTask {core : Option (Fin 8)} {id : Nat} : Keeps s (t.cancelTask core id) := by
  unfold State.cancelTask
  exact .ite (.setRgs h) h

theorem Keeps.releaseSource {kind : Nat} : Keeps s (t.releaseSource kind) := by
  dsimp only [State.releaseSource]
  split
  exacts [.ite h (.traceHeld (.setRgs h)), h]

theorem Keeps.abandon {f : Nat → Bool} : Keeps s (t.abandon f) := by
  unfold State.abandon
  refine .foldl (.rgs h) fun h => ?_
  split
  exacts [.ite (.traceTask (.setRgs h)) h, h]

theorem Keeps.rgsTail {v : Word} {path : Nat} : Keeps s (t.rgsTail v path) := by
  unfold State.rgsTail
  exact .ite (.setFld h) (.logAccess h)

theorem KeepsOut.rgsTraceTailWrite {path : Path} {v : Word} : KeepsOut s (execRgsTraceTailWrite path v t) := by
  unfold execRgsTraceTailWrite
  split
  exacts [.next h, .next (.rgsTail h)]

theorem Keeps.traceRead {off : Nat} {meet : Meet} {ecc : Ecc} : Keeps s (t.traceRead off meet ecc) := by
  dsimp only [State.traceRead]
  refine .ite (.freeCtr (.bus h)) ?_
  split
  · exact .freeCtr (.bus (.refuse h))
  · split
    exacts [.bus (.addFld (.vltBusy h)), .bus (.readEcc h)]

theorem KeepsOut.traceWindowRead {path : Path} {off : BitVec 14} {meet : Meet} {ecc : Ecc} :
    KeepsOut s (execTraceWindowRead path off meet ecc t) := by
  unfold execTraceWindowRead
  split
  exacts [.next (.bus h), .next (.traceRead h)]

/-! Sys2Proof/Machine/CmdOps.lean -/

theorem Keeps.cmdRow {f : Form} {sel : Cmd → Bool} {named : Fin 8 → Cmd → Bool} {act : State → Cmd → State}
    (ha : ∀ {u c}, Keeps s u → Keeps s (act u c)) : Keeps s (t.cmdRow m f sel named act) := by
  unfold State.cmdRow
  split
  · refine .ite ?_ h
    split
    exacts [.reply h, ha h]
  · exact h

theorem Keeps.partRow {f : Form} {act : State → Cmd → Fin 8 → State} (ha : ∀ {u c n}, Keeps s u → Keeps s (act u c n)) :
    Keeps s (t.partRow m f act) :=
  .cmdRow h fun h => .dite (ha h) (.reply h)

theorem Keeps.replyBlock {st : Status} {detail : Nat} : Keeps s (t.replyBlock m c n st detail) := .reply h

theorem Keeps.wait {frees : Bool} {w : Wait} : Keeps s (t.wait m c frees w) := .begin h

theorem Keeps.docentRestart {cause : Nat} : Keeps s (t.docentRestart cause) := by
  unfold State.docentRestart
  exact .cur (.setDocent (.abandon h))

/-! Sys2Proof/Machine/Transmit.lean -/

/-- A lane that takes a flit from a link's stream or a port's queue. -/
theorem Keeps.laneFlit {l : Nat} {r : BitVec 288 × State} (hr : t.laneFlit l = some r) : Keeps s r.2 := by
  dsimp only [State.laneFlit] at hr
  split at hr
  · split at hr
    · split at hr
      · obtain ⟨x, -, rfl⟩ := Option.map_eq_some_iff.mp hr
        exact .setStream h
      · split at hr
        · obtain ⟨x, -, rfl⟩ := Option.map_eq_some_iff.mp hr
          exact .setPort h
        · cases hr
    · cases hr
  · cases hr

theorem Keeps.slotFlit {l : Nat} : Keeps s (t.slotFlit l).2.2 := by
  dsimp only [State.slotFlit]
  split
  · next he =>
    split at he
    · cases he
    · exact .laneFlit h he
  · exact h

theorem Keeps.checkPrbs {l : Nat} {b : List Bool} : Keeps s (t.checkPrbs l b) := .ite (.addFld (.setFld (.setRecv h))) h

theorem Keeps.hearFlit {l : Nat} {f : BitVec 288} : Keeps s (t.hearFlit l f) := by
  dsimp only [State.hearFlit]
  refine .ite (.ite (.acceptEnds h) (.ite (.acceptEnds h) (.setRecv h))) ?_
  split
  exacts [.filler h, h]

theorem Keeps.hearSelf {l : Nat} : Keeps s (t.hearSelf l) := by
  unfold State.hearSelf
  exact .hearFlit (.checkPrbs (.setRecv h))

theorem Keeps.laneSlot {l : Nat} : Keeps s (t.laneSlot l) :=
  .ite h (.via (.setSender (.slotFlit h)) fun h => .ite (.hearSelf h) h)

theorem Keeps.laneNs {l : Nat} : Keeps s (t.laneNs l) := by
  unfold State.laneNs
  exact .ite (.ite (.laneSlot (.setSender h)) (.setSender h)) h

theorem Keeps.lanesNs : Keeps s t.lanesNs := .foldl h fun h => .laneNs h

/-! Sys2Proof/Machine/Clock.lean -/

theorem Keeps.timebaseNs : Keeps s t.timebaseNs := by
  unfold State.timebaseNs
  exact .ite (.lnk h) (.ite (.lnk h) (.lnk h))

theorem Keeps.busyNs : Keeps s t.busyNs := .ite (.vlt h) h

theorem Keeps.refuseUnknown : Keeps s t.refuseUnknown := by
  unfold State.refuseUnknown
  split
  exacts [.ite h (.reply h), h]

theorem Keeps.nanosecond : Keeps s t.nanosecond :=
  .ite (.cellEdges (.refuseUnknown (.tallyNs (.armsLook (.lanesNs (.nocCycle (.nocCycle (.trigNs (.busyNs (.timebaseNs h)))))))))) h

/-! Sys2Proof/Machine/Recover.lean -/

theorem KeepsOut.autoCheckpoint : KeepsOut s (execAutoCheckpoint n t) := by
  unfold execAutoCheckpoint
  refine .next ?_
  split
  exacts [.ite (.cycleAt h) h, h]

theorem Keeps.recSpace : Keeps s (t.recSpace n) := by
  unfold State.recSpace
  exact .ite (.endHold (.recWrite h)) (.recWrite h)

theorem Keeps.recTailWrite {v : Word} {path : Nat} : Keeps s (t.recTailWrite n v path) := by
  unfold State.recTailWrite
  exact .ite (.recTail h) (.logAccess h)

theorem Keeps.locateOne {l : Located} : Keeps s (t.locateOne n l).1 := by
  dsimp only [State.locateOne]
  split
  · split
    exacts [h, .accCluster (.setPend h)]
  · split
    exacts [h, .accBank h]
  · split
    · split
      exacts [.activate h, h]
    · exact h
  · split
    exacts [h, .remapRows h]
  · exact .linkFails h
  · exact .fenceRouter h
  · exact .coreFails h

theorem Keeps.locate {l : List Located} : Keeps s (t.locate n l) := by
  induction l generalizing t with
  | nil => exact .setFld h
  | cons x r ih =>
    unfold State.locate
    split
    exacts [h, .ite (ih (.modCk (.locateOne h))) (.recoveryFail (.locateOne h))]

theorem Keeps.restoreCapRegs {regs : List (Nat × Word)} {keep : Nat → Bool} : Keeps s (t.restoreCapRegs n regs keep) :=
  .foldl (.regs h (mwf_filter resetWord _)) fun h => .setReg h

theorem Keeps.recoveryRestore : Keeps s (t.recoveryRestore n) := by
  dsimp only [State.recoveryRestore]
  split
  · exact .ite (.via (.setFld (.modCk (.modPart (.modCap (.restoreCapRegs (.restoreCore h)))))) fun h => .ite (.openFrame (.setReg64
      h)) (.modPart (.setReg64 h))) h
  · exact h

theorem Keeps.catchUpCycles {l : Nat} : Keeps s (t.catchUpCycles n l) := by
  induction l generalizing t with
  | zero => exact h
  | succ l ih => exact .via (.seqCycle h) fun h => .ite h (ih h)

theorem KeepsOut.catchUpFrame : KeepsOut s (execCatchUpFrame n t) := by
  unfold execCatchUpFrame
  exact .via (.ite (.seqCycle h) h) fun h1 => .next (.ite h (.ite (.catchUpCycles h1) h1))

theorem Keeps.resumePlate {f : Nat} : Keeps s (t.resumePlate n f) := by
  dsimp only [State.resumePlate]
  refine .modCap ?_
  split
  exacts [.ite (.modCap (.foldl h fun h => .closePart h)) h, h]

theorem Keeps.recoveryDone : Keeps s (t.recoveryDone n) := by
  dsimp only [State.recoveryDone]
  split
  exacts [.ite (.recoveryNotice (.openFrame (.resumePlate (.modPart (.addFld (.setReg (.modCk h))))))) h, h]

theorem Keeps.restoreSeq {i : CkImg} : Keeps s (t.restoreSeq n i) := by
  unfold State.restoreSeq
  exact .setMach (.modPart (.setReg (.setReg (.setReg (.setReg (.setReg (.setReg h)))))))

theorem Keeps.restoreCap {x : CapSnap} {boundary : Nat} : Keeps s (t.restoreCap n x boundary) := by
  unfold State.restoreCap
  exact .modCap (.tailsMove (.capFresh (.modCap (.setCapState (.restoreCapRegs h)))))

theorem Keeps.restoreAll {i : CkImg} : Keeps s (t.restoreAll n i) := by
  unfold State.restoreAll
  exact .recStart (.modCk (.foldl (.writeBout (.restoreCap (.restoreSeq (.restoreCore h)))) fun h => .restoreRegion h))

/-! Sys2Proof/Machine/PartCmds.lean -/

theorem Keeps.loadCmd {img : Option (Cont × EphRec)} {fin : LoadEnd} : Keeps s (t.loadCmd m c n img fin) := by
  dsimp only [State.loadCmd]
  refine .ite (.replyBlock h) (.ite (.reply h) (.ite (.reply h) ?_))
  split
  · exact .replyBlock (.noteLoad h)
  · refine .ite (.replyBlock (.noteLoad h)) ?_
    split
    · exact .replyBlock (.noteLoad h)
    · split
      · exact .replyBlock (.noteMade (.noteLoad (.loadWrite h)))
      · exact .replyBlock (.noteLoad (.loadWrite h))
      · split
        exacts [.reply h, h]
      · split
        exacts [.reply (.loadWrite h), h]

theorem KeepsOut.unload : KeepsOut s (execUnload m t) :=
  .next (.partRow h fun h => .ite (.replyBlock h) (.ite (.replyBlock h) (.replyBlock (.noteMade (.unloadNow h)))))

theorem Keeps.armCmd : Keeps s (t.armCmd m c n) := by
  unfold State.armCmd
  exact .ite (.replyBlock h) (.ite (.reply h) (.ite (.replyBlock h) (.armBegin (.wait h))))

theorem Keeps.runCmd : Keeps s (t.runCmd m c n) := by
  dsimp only [State.runCmd]
  split
  exacts [.reply h, .ite (.replyBlock (.noteMade (.runStart h))) (.replyBlock h)]

theorem Keeps.haltCmd : Keeps s (t.haltCmd m c n) := by
  dsimp only [State.haltCmd]
  refine .ite (.replyBlock h) (.ite (.replyBlock h) (.ite (.replyBlock h) (.ite (.ite ?_ (.replyBlock h)) (.ite (.replyBlock h)
    (.ite (.replyBlock (.modPart h)) (.wait h))))))
  split
  exacts [.reply h, .replyBlock h]

theorem Keeps.noteSafety {stamp : Nat} : Keeps s (t.noteSafety n stamp) := by
  unfold State.noteSafety
  exact .cur h

theorem Keeps.forcedHalt : Keeps s (t.forcedHalt m c) :=
  .dite (.ite (.replyBlock h) (.ite (.replyBlock (.noteSafety h)) (.ite (.begin (.noteSafety h)) (.replyBlock (.noteSafety h)))))
    (.ite (.via (.foldl h fun h => .noteSafety h) fun h => .ite (.answer (.begin h)) (.begin h)) (.reply h))

theorem Keeps.deposit {l : List DWord} {inl : Bool} : Keeps s (t.deposit m c n l inl) := by
  dsimp only [State.deposit]
  refine .ite (.replyBlock h) (.ite (.replyBlock h) ?_)
  split
  exacts [.replyBlock h, .ite (.replyBlock h) (.ite (.begin (.modPart h)) (.replyBlock (.depositHalted h)))]

theorem Keeps.depositCmd {block : Option (Byte × Bool × List DWord)} : Keeps s (t.depositCmd m c block) := by
  dsimp only [State.depositCmd]
  refine .ite (.ite (.reply h) ?_) (.dite (.ite (.replyBlock h) (.deposit h)) (.reply h))
  split
  exacts [.reply h, .dite (.ite (.reply h) (.deposit h)) (.reply h)]

theorem Keeps.wsRead : Keeps s (t.wsRead m c n) := by
  dsimp only [State.wsRead]
  refine .ite (.reply h) (.ite (.reply h) ?_)
  split
  exacts [.reply h, .ite (.wait h) (.reply h)]

theorem Keeps.vtrLoad {img : Option VBox} : Keeps s (t.vtrLoad m c img) := by
  dsimp only [State.vtrLoad]
  refine .ite (.reply h) (.ite (.reply h) (.ite (.reply h) (.ite (.reply h) (.ite (.reply h) ?_))))
  split
  · exact .reply h
  · refine .ite (.reply h) ?_
    split
    exacts [.reply h, .via (.foldl (.wait h) fun h => .regionLoad h) fun h => .ite (.answer h) h]

theorem Keeps.captureRead : Keeps s (t.captureRead m c n) := by
  unfold State.captureRead
  exact .ite (.reply h) (.ite (.reply h) (.ite (.reply h) (.ite (.reply h) (.reply h))))

theorem Keeps.checkpointCmd : Keeps s (t.checkpointCmd m c n) := by
  unfold State.checkpointCmd
  exact .ite (.reply h) (.ite (.reply h) (.ite (.replyBlock h) (.ite (.reply h) (.ite (.reply h) (.ite (.reply h) (.ite (.modCk
    (.wait h)) (.ckBegin (.recSettle (.wait h)))))))))

theorem Keeps.exportCmd {ok : Bool} : Keeps s (t.exportCmd m c n ok) := by
  dsimp only [State.exportCmd]
  refine .ite (.reply h) (.ite (.reply h) (.ite (.reply h) ?_))
  split
  exacts [.reply h, .ite (.reply h) (.ite (.reply h) (.ite (.reply h) (.reply h)))]

theorem Keeps.restoreCmd {img : Option (CkImg × Bool)} : Keeps s (t.restoreCmd m c n img) := by
  dsimp only [State.restoreCmd]
  refine .ite (.replyBlock h) (.ite (.replyBlock h) (.ite (.replyBlock h) ?_))
  split
  · exact .replyBlock h
  · split
    exacts [.replyBlock h, .reply (.decimAll (.noteMade (.restoreAll h)))]

theorem Keeps.replayCmd {entries : List RecE} : Keeps s (t.replayCmd m c n entries) := by
  dsimp only [State.replayCmd]
  split
  · exact .ite (.replyBlock h) (.ite (.replyBlock h) (.ite (.replyBlock h) (.ite (.replyBlock h) (.replyBlock (.noteMade (.runStart
      (.modCk (.setFld (.setReg (.setReg h))))))))))
  · exact .replyBlock h

/-! Sys2Proof/Machine/PowerCmds.lean -/

theorem Keeps.relockBegin {c : OpChange} : Keeps s (t.relockBegin c) := by
  unfold State.relockBegin
  exact .relockAdvance (.foldl (.setPwr h) fun h => .requestHold h)

theorem Keeps.setOp : Keeps s (t.setOp m c) := by
  unfold State.setOp
  exact .ite (.reply h) (.ite (.reply h) (.ite (.reply h) (.ite (.reply h) (.ite (.reply h) (.ite (.reply (.foldl h fun h => .setFld
    h)) (.via (.foldl (.wait h) fun h => .setFld (.setFld (.setFld h))) fun h => .ite (.setPwr (.setFld (.setFld h))) (.relockBegin
    h)))))))

theorem Keeps.napLeave : Keeps s (t.napLeave m c n) := by
  unfold State.napLeave
  exact .ite (.setPwr (.wait h)) (.wait h)

theorem Keeps.powerRun : Keeps s (t.powerRun m c) :=
  .ite (.reply h) (.ite (.reply h) (.dite (.ite (.napLeave (.setPwr h)) (.replyBlock (.releaseHold (.setPwr h)))) (.reply (.foldl
    (.setFld (.setPwr h)) fun h => .releaseHold h))))

theorem Keeps.awaitHold {ns : List (Fin 8)} {part code : Nat} : Keeps s (t.awaitHold m c ns part code) := by
  unfold State.awaitHold
  exact .ite (.answer (.wait h)) (.wait h)

theorem Keeps.powerHold : Keeps s (t.powerHold m c) :=
  .ite (.reply h) (.dite (.ite (.replyBlock h) (.ite (.napLeave (.setPwr h)) (.ite (.replyBlock h) (.awaitHold (.requestHold
    (.setPwr h)))))) (.awaitHold (.foldl (.setFld (.setPwr h)) fun h => .requestHold h)))

theorem Keeps.powerNap : Keeps s (t.powerNap m c) :=
  .ite (.reply h) (.dite (.ite (.replyBlock h) (.ite (.replyBlock h) (.awaitHold (.requestHold (.setPwr h))))) (.reply h))

theorem Keeps.powerDormant : Keeps s (t.powerDormant m c) :=
  .ite (.reply h) (.ite (.reply h) (.ite (.reply h) (.dormantBegin (.wait h))))

theorem Keeps.thermalShut {stamp : Nat} : Keeps s (t.thermalShut stamp) :=
  .ite h (.via (.foldl (.foldl h fun h => .noteSafety h) fun h => .modPart h) fun h => .ite (.dormantBegin (.setPwr h)) (.setPwr h))

/-! Sys2Proof/Machine/Adc.lean -/

theorem Keeps.setAdc {a : Adc} : Keeps s (t.setAdc a) := .adc h

theorem Keeps.adcTrigger : Keeps s t.adcTrigger := .ite (.ite (.addFld h) (.setFld h)) (.setAdc h)

theorem Keeps.adcFire {bit : Nat} {chan : Option Nat} {late : Bool} : Keeps s (t.adcFire bit chan late) := by
  dsimp only [State.adcFire]
  cases chan with
  | none => exact .ite (.setAdc (.setFld h)) (.adcTrigger (.setFld h))
  | some c => exact .ite (.setAdc (.setAdc (.setFld (.setFld h)))) (.adcTrigger (.setAdc (.setFld (.setFld h))))

theorem Keeps.adcPut {r : Nat} : Keeps s (t.adcPut r) := by
  unfold State.adcPut
  exact .ite (.ite (.setFld (.unitWrite h)) (.addFld (.unitWrite h))) (.addFld h)

theorem Keeps.adcDrain {l : List Nat} : Keeps s (t.adcDrain l) := by
  induction l generalizing t with
  | nil => exact .setAdc h
  | cons x r ih => exact .ite (.setAdc h) (ih (.adcPut h))

theorem Keeps.adcTaps {r : Nat} : Keeps s (t.adcTaps r) := .foldl h fun h => .ite (.foldl h fun h => .ite (.phmTap h) h) h

theorem Keeps.autoTherm : Keeps s t.autoTherm := .ite (.thermalShut (.setReg64 h)) h

theorem Keeps.adcThermal {r : Nat} : Keeps s (t.adcThermal r) := by
  unfold State.adcThermal
  exact .ite (.ite (.setAdc h) (.ite (.autoTherm (.notice (.adcFire (.setAdc h)))) h)) h

theorem Keeps.adcRecord {r : Nat} : Keeps s (t.adcRecord r) := .adcThermal (.adcTaps (.setReg h))

theorem Keeps.measure {rs : List Nat} : Keeps s (t.measure rs) := .ite (.ite (.freeCtr (.setFld h)) (.setFld h)) h

theorem Keeps.adcNext : Keeps s t.adcNext.1 := .iteFst (.setAdc h) (.iteFst (.setAdc (.setFld h)) (.setAdc (.setFld h)))

theorem Keeps.adcSlot {x : Fin 4 → Smp} : Keeps s (t.adcSlot x) :=
  .measure (.foldl (.adcDrain (.foldl (.setAdc (.setFld (.adcNext (.ite h (.setFld (.setAdc h)))))) fun h => .adcTrigger h))
    fun h => .adcRecord h)

theorem Keeps.adcRestart : Keeps s t.adcRestart := .setAdc (.setFld (.setFld h))

theorem Keeps.adcTail {v : Word} {path : Nat} : Keeps s (t.adcTail v path) := by
  unfold State.adcTail
  exact .ite (.setFld h) (.logAccess h)

theorem KeepsOut.adcRingTailWrite {path : Path} {v : Word} : KeepsOut s (execAdcRingTailWrite path v t) := by
  unfold execAdcRingTailWrite
  split
  exacts [.next h, .next (.adcTail h)]

/-! Sys2Proof/Machine/PowerRows.lean -/

theorem Keeps.napEntered : Keeps s (t.napEntered n) := .ite (.flushGather (.releaseHold (.setPwr h))) h

theorem Keeps.napLeft : Keeps s (t.napLeft n) := .ite (.answerAll (.releaseHold (.setPwr h))) h

theorem Keeps.lanesQuiet : Keeps s t.lanesQuiet := .foldl h fun h => .laneOff h

theorem Keeps.lanesTrain : Keeps s t.lanesTrain := .foldl h fun h => .laneOn h

theorem Keeps.portsWait : Keeps s t.portsWait := .foldl h fun h => .ite h (.setPortState h)

theorem Keeps.stepClocks {on : Bool} : Keeps s (t.stepClocks on) := .foldl h fun h => .setReg h

theorem Keeps.exitBegin : Keeps s t.exitBegin := by
  unfold State.exitBegin
  exact .adcRestart (.lanesTrain (.setFld (.lnk_rgs (.stepClocks (.setReg (.setFld (.setPwr h)))))))

theorem Keeps.dormantReached : Keeps s t.dormantReached :=
  .ite (.via (.trigRelease (.releaseBusy (.foldl (.setPwr (.setFld (.setFld (.setFld (.setReg (.stepClocks (.portsWait (.lanesQuiet
    (.abandon h))))))))) fun h => .releaseHold h))) fun h => .ite h (.exitBegin h)) h

theorem Keeps.wakeUp {c : Nat} : Keeps s (t.wakeUp c) := by
  unfold State.wakeUp
  exact .ite (.ite (.exitBegin (.setPwr h)) (.setPwr h)) h

theorem Keeps.submitHeld {x : Nat × BitVec 512} : Keeps s (t.submitHeld x) := .dite (.ring (.foldl h fun h => .setReg h)) h

theorem Keeps.dormantLeft {waited : Bool} : Keeps s (t.dormantLeft waited) := by
  unfold State.dormantLeft
  refine .ite ?_ h
  extract_lets _ _ _ _ _ _ _ s6
  have h : Keeps s s6 := .foldl (.answerAll (.foldl (.setFld (.setReg (.setReg (.setFld (.setPwr h))))) fun h => .releaseHold h))
    fun h => .submitHeld h
  split
  exacts [.dormantBegin h, h]

theorem Keeps.trip {d : Nat} : Keeps s (t.trip d) := by
  unfold State.trip
  exact .trigRelease (.releaseBusy (.setPwr (.foldl (.setReg (.stepClocks (.setFld (.setFld h)))) fun h => .setFld h)))

theorem Keeps.vcoreSettled : Keeps s t.vcoreSettled := by
  dsimp only [State.vcoreSettled]
  split
  exacts [.ite (.relockBegin (.setFld h)) (.setFld h), .setFld h]

theorem KeepsOut.vrTimeout : KeepsOut s (execVrTimeout t) := by
  dsimp only [execVrTimeout]
  refine .next ?_
  split
  exacts [.ite (.changeOver (.setFld (.foldl (.setFld h) fun h => .setFld h))) h, h]

theorem Keeps.relockOver {d : Nat} {ok : Bool} : Keeps s (t.relockOver d ok) := by
  dsimp only [State.relockOver]
  split
  · exact .ite (.via (.foldl (.setPwr h) fun h => .setFld h) fun h => .changeOver (.decimAll (.ite (.setFld (.setFld h)) h)))
      (.setPwr h)
  · exact h

theorem KeepsOut.lockStable {d : Fin 4} : KeepsOut s (execLockStable d t) :=
  .guardUnit h (.ite (.relockOver (.addFld (.setFld (.setFld (.setReg h))))) h)

/-! Sys2Proof/Machine/CurRows.lean -/

theorem Keeps.setCur {c : Cur} : Keeps s (t.setCur c) := .cur h

theorem Keeps.beat {k : Fin 8} : Keeps s (t.beat k) := .setCur h

theorem KeepsOut.docentRunning {slotB : Bool} {active other : Option (Cont × Nat)} {failed : BitVec 8} :
    KeepsOut s (execDocentRunning slotB active other failed t) := by
  dsimp only [execDocentRunning]
  refine .next (.ite ?_ h)
  split
  exacts [.answerAll (.foldl (.setCur (.notice (.setDocent (.setFld (.setFld h))))) fun h => .coreFails h), h]

theorem Keeps.mbxWrite {path : Path} {off : Nat} {v : Word} {act : State → State} (ha : ∀ {u}, Keeps s u → Keeps s (act u)) :
    Keeps s (t.mbxWrite path m off v act) := by
  unfold State.mbxWrite
  split
  exacts [.ite (ha h) h, .ite (ha h) (.logAccess h)]

theorem Keeps.flrMbx : Keeps s (t.flrMbx m) := by
  unfold State.flrMbx
  exact .freeBuffers (.releaseHeldNotices (.setMbx (.foldl (.rgs h) fun h => .mbxIrq h)))

theorem KeepsOut.mgmtBlockWrite {j : Fin 4} {bytes : BitVec 512} {pecOk : Bool} : KeepsOut s (execMgmtBlockWrite j bytes pecOk t) :=
  .next (.ite h (.ite (.ite h (.wakeUp (.setPwr h))) (.submitHeld (.wakeUp h))))

/-! Sys2Proof/Machine/Logbook.lean -/

theorem Keeps.setLgb {l : Lgb} : Keeps s (t.setLgb l) := .lgb h

theorem Keeps.setLgbCore {k : Fin 8} {c : LgbCore} : Keeps s (t.setLgbCore k c) := .setLgb h

theorem Keeps.lgbWrite {k : Fin 8} {r : Nat} : Keeps s (t.lgbWrite k r) := by
  unfold State.lgbWrite
  exact .setFld (.setLgbCore (.setLgb h))

theorem Keeps.lgbDropRec {k : Fin 8} : Keeps s (t.lgbDropRec k) := .ite (.setLgbCore (.lgbWrite (.setLgb h))) h

theorem Keeps.lgbSync {k : Fin 8} {pc : Word} : Keeps s (t.lgbSync k pc) := .ite (.setLgbCore (.lgbWrite h)) h

theorem Keeps.lgbPut {k : Fin 8} {pc : Word} {r : Nat} : Keeps s (t.lgbPut k pc r) := by
  unfold State.lgbPut
  exact .via (.lgbSync (.lgbDropRec h)) fun h => .ite (.lgbWrite h) (.ite (.setFld (.setLgbCore h)) (.addFld (.setLgb h)))

theorem Keeps.lgbEvent {k : Fin 8} {pc : Word} {e : LgbEv} : Keeps s (t.lgbEvent k pc e) := by
  dsimp only [State.lgbEvent]
  split
  · exact .ite h (.lgbSync (.setLgbCore h))
  · exact .ite (.lgbPut h) h
  · exact .ite (.lgbPut h) h
  · exact .ite (.lgbPut (.setLgbCore h)) h
  · split
    exacts [.lgbSync (.setLgbCore (.lgbPut (.setLgbCore h))), h]

theorem KeepsOut.logbookSpaceFreed : KeepsOut s (execLogbookSpaceFreed t) := by
  unfold execLogbookSpaceFreed
  refine .next (.foldl h fun h => ?_)
  split
  exacts [.ite (.lgbPut (.setFld (.setLgbCore h))) h, h]

theorem Keeps.lgbTail {v : Word} {path : Nat} : Keeps s (t.lgbTail v path) := by
  unfold State.lgbTail
  exact .ite (.setFld h) (.logAccess h)

theorem KeepsOut.lgbTailWrite {path : Path} {v : Word} : KeepsOut s (execLgbTailWrite path v t) := by
  unfold execLgbTailWrite
  split
  exacts [.next h, .next (.lgbTail h)]

theorem Keeps.lgbCtrl {v : Word} : Keeps s (t.lgbCtrl v) := by
  unfold State.lgbCtrl
  exact .via (.ite (.setFld (.setFld h)) h) fun h => .ite (.setLgb (.setFld (.setFld h))) (.setFld h)

/-! Sys2Proof/Machine/DeviceCmds.lean -/

theorem Keeps.resetCmd : Keeps s (t.resetCmd m c) := .ite (.cur (.reply h)) (.reply h)

theorem Keeps.laneSet : Keeps s (t.laneSet m c) := by
  unfold State.laneSet
  exact .ite (.reply h) (.ite (.reply h) (.ite (.reply h) (.reply (.useQuad h))))

theorem Keeps.flashWrite {img : Option Cont} {toB : Bool} : Keeps s (t.flashWrite m c img toB) := by
  dsimp only [State.flashWrite]
  refine .ite (.reply h) (.ite (.reply h) ?_)
  split
  · exact .reply h
  · refine .ite (.reply h) ?_
    split
    exacts [.reply h, .reply (.cfg h)]

theorem Keeps.fuseOk : Keeps s (t.fuseOk m c) := .reply h

theorem Keeps.fuseProgram {block : Option (Byte × BitVec 384)} : Keeps s (t.fuseProgram m c block) := by
  dsimp only [State.fuseProgram]
  refine .ite (.reply h) (.ite (.reply h) ?_)
  split
  exacts [.reply h, .ite (.reply h) (.fuseOk (.cfg (.setFld h)))]

theorem Keeps.statusRead : Keeps s (t.statusRead m c) := by
  dsimp only [State.statusRead]
  split <;> exact .reply h

/-! Sys2Proof/Machine/PinRows.lean -/

theorem Keeps.powerFall {vaonLost : Bool} : Keeps s (t.powerFall vaonLost) :=
  .ite (.regs (.pwr_pin (.afterReset h)) (mwf_filter resetWord _)) (.pwr_pin (.afterReset h))

theorem Keeps.tapLoad {ir : Byte} {data : BitVec 2362} {shift : Option (BitVec 2362)} : Keeps s (t.tapLoad ir data shift) := .tap h

theorem Keeps.tapScan {ir : Byte} {balls : BitVec 2362} {shift : Option (BitVec 2362)} : Keeps s (t.tapScan ir balls shift) :=
  .tapLoad h

theorem Keeps.tapTest {ir : Byte} {balls : BitVec 2362} {shift : Option (BitVec 2362)} : Keeps s (t.tapTest ir balls shift) :=
  .ite (.tapScan h) (.tapLoad h)

theorem Keeps.tapRow {u : State} (hu : Keeps s u) : Keeps s (t.tapRow u) := .ite hu h

/-! Sys2Proof/Machine/Access.lean -/

theorem Keeps.clearRc {a : Nat} {l : List Fld} : Keeps s (t.clearRc a l) := .ite h (.setReg h)

theorem Keeps.readPair {p : Path} {a : Nat} {v : DWord} : Keeps s (t.readPair p a v) := .ite (.bus (.setCapt h)) (.bus h)

theorem Keeps.readWindow {p : Path} {a : Nat} {meet : Meet} {ecc : Ecc} : Keeps s (t.readWindow p a meet ecc) :=
  .ite (.ite (.peekRead h) (.bus h)) (.ite (.traceRead h) (.ite (.readPair h) (.ite (.bus h) (.ite (.bus h) (.ite (.bus h) (.ite
    (.bus h) (.bus h)))))))

theorem Keeps.readAt {p : Path} {a : Nat} {meet : Meet} {ecc : Ecc} : Keeps s (t.readAt p a meet ecc) := by
  unfold State.readAt
  refine .ite (.bus h) ?_
  split
  · split
    exacts [.bus h, .bus (.clearRc (.setCapt h)), .bus (.clearRc h)]
  · exact .readWindow h

theorem Keeps.readPath {p : Path} {off : Nat} {meet : Meet} {ecc : Ecc} : Keeps s (t.readPath p off meet ecc) := by
  unfold State.readPath
  split
  exacts [.readAt h, .bus h]

theorem Keeps.readBytes {p : Path} {off be : Nat} : Keeps s (t.readBytes p off be) := by
  unfold State.readBytes
  exact .bus (.readPath h)

theorem Keeps.writeGen {a : Nat} {l : List Fld} {v : Word} : Keeps s (t.writeGen a l v) := .setReg h

theorem Keeps.writeFrm {a : Nat} {l : List Fld} {v : Word} : Keeps s (t.writeFrm a l v) := by
  unfold State.writeFrm
  exact .ite (.irqEdge (.writeGen h)) (.writeGen h)

theorem Keeps.writeLaneReg {l a : Nat} {fl : List Fld} {v : Word} : Keeps s (t.writeLaneReg l a fl v) := by
  dsimp only [State.writeLaneReg]
  split
  exacts [.cfgWrite h, .slipWrite h, .ite (.setFld (.writeGen h)) (.writeGen h), .writeGen h]

theorem Keeps.writeLane {a : Nat} {l : List Fld} {v : Word} {code : Nat} : Keeps s (t.writeLane a l v code) := by
  unfold State.writeLane
  exact .ite (.ite (.ite (.capture h) (.setFld h)) (.logAccess h)) (.ite (.ite (.writeLaneReg h) (.logAccess h)) (.logAccess h))

theorem Keeps.writeCap {a : Nat} {l : List Fld} {v : Word} {code : Nat} : Keeps s (t.writeCap a l v code) := by
  unfold State.writeCap
  exact .ite (.ite (.showTrig (.writeGen h)) (.writeGen h)) (.ite (.capCtrl h) (.ite (.drainTail h) (.ite (.storeTail h) (.ite
    (.logAccess h) (.writeGen h)))))

theorem Keeps.writeCkpCfg {v : Word} {code : Nat} : Keeps s (t.writeCkpCfg n v code) := by
  unfold State.writeCkpCfg
  extract_lets _ _ _ _ _ s2
  have h : Keeps s s2 := .ite (.logAccess (.setReg h)) (.setReg h)
  refine .ite h (.ite (.setFld h) ?_)
  split
  exacts [.recStart h, .setFld h, h]

theorem Keeps.writeCkp {a : Nat} {l : List Fld} {v : Word} {code : Nat} : Keeps s (t.writeCkp a l v code) := by
  unfold State.writeCkp
  exact .ite (.recTailWrite h) (.ite (.logAccess h) (.ite (.writeCkpCfg h) (.writeGen h)))

theorem Keeps.writeVtr {a : Nat} {l : List Fld} {v : Word} {code : Nat} : Keeps s (t.writeVtr a l v code) :=
  .ite (.writeGen h) (.ite (.via (.ite (.calStart (.writeGen h)) (.writeGen h)) fun h => .ite (.calApply h) h) (.ite (.delayWrite h)
    (.logAccess h)))

theorem Keeps.setPhmAt {d : Nat} {f : Phm → Phm} : Keeps s (t.setPhmAt d f) := .dite (.phm h) h

theorem Keeps.writePhm {a : Nat} {l : List Fld} {v : Word} {code : Nat} : Keeps s (t.writePhm a l v code) := by
  unfold State.writePhm
  exact .dite (.ite (.phmCtrl h) (.ite (.phmTail h) (.ite (.setPhmAt (.writeGen h)) (.writeGen h)))) h

theorem Keeps.writePhmWin {a : Nat} {v : Word} {code : Nat} : Keeps s (t.writePhmWin a v code) := by
  unfold State.writePhmWin
  exact .ite h (.ite (.logAccess h) (.setPhmAt h))

theorem Keeps.writeAdc {a : Nat} {l : List Fld} {v : Word} {code : Nat} : Keeps s (t.writeAdc a l v code) :=
  .ite (.logAccess h) (.ite (.ite (.adcFire h) h) (.ite (.adcTail h) (.ite (.writeGen h) (.writeGen h))))

theorem Keeps.writeMbx {src : Option Path} {a : Nat} {l : List Fld} {v : Word} : Keeps s (t.writeMbx src a l v) := by
  unfold State.writeMbx
  exact .dite (.mbxWrite h fun h => .ite (.ite (.ring h) h) (.ite (.ite (.popRsp h) h) (.writeGen h))) h

theorem Keeps.writeRgs {a : Nat} {l : List Fld} {v : Word} {code : Nat} : Keeps s (t.writeRgs a l v code) :=
  .ite (.rgsTail h) (.ite (.writeGen h) (.logAccess h))

/-- A core's write to a register of its own. -/
theorem Keeps.writeCore {a : Nat} {v : Word} {u : State} (hu : t.writeCore a v = some u) : Keeps s u := by
  dsimp only [State.writeCore] at hu
  split at hu
  · split at hu
    · cases hu; exact .coreDone h
    · cases hu; exact .coreYield h
    · cases hu; exact .ite (.cancelTask h) h
    · cases hu
  · cases hu

theorem Keeps.writePwr {a : Nat} {l : List Fld} {v : Word} {code : Nat} : Keeps s (t.writePwr a l v code) :=
  .ite (.writeGen h) (.logAccess h)

theorem Keeps.writeDbg {a : Nat} {l : List Fld} {v : Word} : Keeps s (t.writeDbg a l v) := by
  unfold State.writeDbg
  exact .ite (.writeGen (.ite (.dbgClear h) h)) h

theorem Keeps.writeUnit {src : Option Path} {a : Nat} {l : List Fld} {v : Word} : Keeps s (t.writeUnit src a l v) := by
  dsimp only [State.writeUnit]
  split
  · exact .writeFrm h
  · exact .ite (.releaseBusy (.writeGen h)) (.writeGen h)
  · exact .writeLane h
  · exact .writeCap h
  · exact .writeCkp h
  · exact .ite (.actScores (.writeGen h)) (.logAccess h)
  · exact .writeVtr h
  · exact .ite (.ite (.releaseDone h) h) (.writeGen h)
  · exact .writePhm h
  · exact .writeAdc h
  · exact .writeMbx h
  · exact .writeRgs h
  · exact .writePwr h
  · exact .ite (.writeGen h) (.logAccess h)
  · exact .ite (.lgbCtrl h) (.ite (.lgbTail h) h)
  · exact .writeDbg h
  · exact .writeGen h

theorem Keeps.writeHi {p : Path} {a : Nat} {l : List Fld} {v : Word} : Keeps s (t.writeHi p a l v) := by
  dsimp only [State.writeHi]
  refine .ite (.capMark h) (.ite (.logAccess h) ?_)
  split
  exacts [.writeGen (.writeGen h), h]

theorem Keeps.writeWindow {p : Path} {a : Nat} {v : Word} {meet : Meet} : Keeps s (t.writeWindow p a v meet) :=
  .ite (.ite (.setHold h) (.peekWrite h)) (.ite (.writePhmWin h) (.ite (.logAccess h) h))

theorem Keeps.writeAt {p : Path} {a : Nat} {v : Word} {meet : Meet} : Keeps s (t.writeAt p a v meet) := by
  unfold State.writeAt
  refine .ite h ?_
  split
  · split
    exacts [.ite (.setHold h) (.ite (.logAccess h) h), .ite (.writeHi h) (.ite (.logAccess h) h), .writeUnit h]
  · exact .writeWindow h

theorem Keeps.writePath {p : Path} {off : Nat} {v : Word} {be : Nat} {meet : Meet} : Keeps s (t.writePath p off v be meet) := by
  unfold State.writePath
  refine .ite (.logRaw h) ?_
  split
  exacts [.writeAt h, h]

theorem Keeps.docentWrite {a : Nat} {v : Word} {be : Nat} : Keeps s (t.docentWrite a v be) := by
  unfold State.docentWrite
  refine .ite (.logRaw h) (.ite h ?_)
  split
  · exact h
  · refine .ite (.ite ?_ h) (.ite (.docentRestart (.logRaw h)) (.logRaw h))
    split
    · next he =>
      split at he
      · exact .writeCore h he
      · cases he
    · exact .writeUnit h

theorem KeepsOut.registerWrite {src : Option Path} {off : BitVec 28} {v : Word} {be : BitVec 4} :
    KeepsOut s (execRegisterWrite src off v be t) := by
  unfold execRegisterWrite
  split
  exacts [.next (.writePath h), .next (.docentWrite h)]

/-! Sys2Proof/Machine/LinkRows.lean -/

theorem Keeps.takeInit {k : Fin 24} {i : InitMsg} : Keeps s (t.takeInit k i) := by
  unfold State.takeInit
  exact .foldl (.setLink h) fun h => .armCheck h

theorem Keeps.arrive {k : Fin 24} {i : Fin 4} {crcOk : Bool} {seq : Nat} {act : State → State}
    (ha : ∀ {u}, Keeps s u → Keeps s (act u)) : Keeps s (t.arrive k i crcOk seq act) :=
  .ite (.ite (ha (.receiveSeq h)) (.receiveSeq h)) h

theorem Keeps.takeXtrig {k : Fin 24} {source mask x time : Nat} : Keeps s (t.takeXtrig k source mask x time) := by
  unfold State.takeXtrig
  exact .ite (.xtrigIn (.sendOn (.lnk h))) h

theorem KeepsOut.syncSend : KeepsOut s (execSyncSend t) := by
  unfold execSyncSend
  refine .next ?_
  split
  exacts [.sendLinkCtl h, h]

theorem Keeps.takeOffset {off : Int} : Keeps s (t.takeOffset off) := by
  unfold State.takeOffset
  exact .ite (.setFld (.setFld (.lnk (.setFld h)))) (.ite (.setFld (.lnk (.setFld h))) (.lnk (.setFld h)))

/-! Sys2Proof/Machine/ResCmds.lean -/

theorem Keeps.poolLeave {bank owner : Nat} : Keeps s (t.poolLeave bank owner) := .ite (.setFld (.setFld (.cur h))) h

theorem Keeps.loanCmd : Keeps s (t.loanCmd m c) := by
  unfold State.loanCmd
  exact .ite (.reply h) (.ite (.reply h) (.ite (.reply h) (.ite (.reply (.loanWrite h)) (.loanWrite (.poolLeave (.wait h))))))

theorem Keeps.mapCmd {owner : Nat} {ro : Bool} : Keeps s (t.mapCmd m c owner ro) := by
  unfold State.mapCmd
  exact .ite (.reply h) (.ite (.reply h) (.ite (.reply h) (.depotMapDue (.wait h))))

theorem Keeps.takeBuf {owner id : Nat} : Keeps s (t.takeBuf owner id) := by
  unfold State.takeBuf
  exact .cur (.ite h (.foldl h fun h => .setVword h))

theorem Keeps.bufAlloc : Keeps s (t.bufAlloc m c) := by
  unfold State.bufAlloc
  exact .ite (.reply h) (.ite (.reply h) (.reply (.setFld (.foldl h fun h => .takeBuf h))))

theorem Keeps.badFree {id owner : Nat} : Keeps s (t.badFree m c id owner) := .reply (.setReg (.addFld h))

theorem Keeps.bufFree : Keeps s (t.bufFree m c) := by
  dsimp only [State.bufFree]
  split
  exacts [.ite (.reply (.addFld (.cur h))) (.badFree h), .badFree h]

theorem Keeps.dmaBank {bank word i left : Nat} {write : Bool} {data : List DWord} {stop : DmaStop} {sbe : List Nat} :
    Keeps s (t.dmaBank bank word write data stop sbe i left).1 := by
  induction left generalizing t i with
  | zero => exact h
  | succ left ih =>
    unfold State.dmaBank
    dsimp only
    split
    · exact .readEcc h
    · exact .ite (.vltBusy h) h
    · exact .iteFst (.iteFst (.vltBusy h) (ih (.setVword h))) (.iteFst (.readEcc h) (ih (.readEcc h)))

theorem Keeps.dmaDepot {owner : Owner} {addr i left : Nat} {write : Bool} {stop : DmaStop} :
    Keeps s (t.dmaDepot owner addr write stop i left).1 := by
  induction left generalizing i with
  | zero => exact h
  | succ left ih =>
    unfold State.dmaDepot
    dsimp only
    split
    · exact h
    · split
      · exact .depotRefuse h
      · split
        exacts [h, ih]

omit h in
theorem Keeps.dmaReply {r : State × Nat × Status} (hr : Keeps s r.1) : Keeps s (State.dmaReply m c r) := .reply hr

theorem Keeps.dmaTo {bank byte : Nat} {data : List DWord} {stop : DmaStop} {sbe : List Nat} :
    Keeps s (t.dmaTo m c bank byte data stop sbe) := by
  unfold State.dmaTo
  refine .ite (.reply h) ?_
  split
  exacts [.reply (.refuse h), .dmaReply (.dmaBank h)]

theorem Keeps.dma {data : List DWord} {stop : DmaStop} {sbe : List Nat} : Keeps s (t.dma m c data stop sbe) := by
  dsimp only [State.dma]
  refine .ite (.reply h) (.ite (.reply h) (.ite (.reply h) (.ite (.reply h) (.ite (.reply h) (.ite (.reply h) (.ite (.reply h)
    ?_))))))
  split
  exacts [.ite (.reply h) (.ite (.reply h) (.dmaReply (.dmaBank h))), .ite (.reply h) (.dmaTo h), .dmaReply (.dmaDepot h)]

theorem Keeps.accessNow {q : Pend} {spare : Nat} {parity : Bool} : Keeps s (t.accessNow q spare parity) :=
  .ite (.clusterAccession h) (.bankAccession h)

theorem Keeps.accession {spare : Nat} {parity : Bool} : Keeps s (t.accession m c spare parity) := by
  unfold State.accession
  refine .ite (.reply h) ?_
  split
  · exact .reply h
  · refine .ite (.reply h) ?_
    extract_lets s1
    have h : Keeps s s1 := .ite h (.setPend h)
    split
    exacts [.ite (.begin h) (.accessNow (.begin h)), .accessNow (.begin h)]

theorem Keeps.deaccession : Keeps s (t.deaccession m c) := by
  unfold State.deaccession
  exact .ite (.ite (.reply h) (.ite (.reply (.deaccCluster h)) (.reply h))) (.ite (.ite (.reply h) (.ite (.reply (.deaccBank h))
    (.reply h))) (.reply h))

theorem Keeps.tallyRead : Keeps s (t.tallyRead m c) := by
  unfold State.tallyRead
  exact .ite (.reply h) (.ite (.reply h) (.reply (.ite h (.tly h))))

theorem keepsOut_exec {i : Instr} : KeepsOut s (exec i t) := by
  unfold exec
  cases i with
  | eval => exact .bpRow h
  | hold => exact .bpRow h
  | latch => exact .bpRow h
  | vput => exact .bpRow h
  | vget => exact .bpRow h
  | xput => exact .bpRow h
  | xget => exact .bpRow h
  | iput => exact .bpRow h
  | iget => exact .bpRow h
  | stop => exact .bpRow h
  | mark => exact .bpRow h
  | nop => exact .bpRow h
  | reservedClass => exact .bpRow h
  | stepCycle => exact .next (.seqCycle h)
  | latticeDrain => exact .next (.cycleAt (.cycleAt (.cycleAt h)))
  | vitrineExchange => exact .next (.cycleAt h)
  | depositsApplied => exact .next (.cycleAt h)
  | tapRecordsClosed => exact .next (.cycleAt h)
  | errorGather => exact .next (.cycleAt (.cycleAt h))
  | voteSend => exact .next (.cycleAt h)
  | commitDecision => exact .next (.cycleAt h)
  | shadowCopy => exact .next (.cycleAt (.cycleAt h))
  | release => exact .next (.cycleAt h)
  | tallyUpdate => exact .next (.cycleAt h)
  | counterUpdate => exact .next (.cycleAt h)
  | frameTick => exact .next (.cycleAt h)
  | frameLimit => exact .next (.haltTick h)
  | runFramesExpiry => exact .next (.haltTick h)
  | stallLimit => exact .stallLimit h
  | stallLong => exact .ite (.next (.seqCycle h)) (.next h)
  | abortLimit => exact .ite (.next (.cycleAt h)) (.next h)
  | staleReadsReturned => exact .ite (.next h) (.next (.endHold h))
  | writebackHoldEnd => exact .next (.endHold h)
  | heldShareFreed => exact .ite (.next (.endHold h)) (.next h)
  | vltLoanWrite => exact .guardUnit h (.ite h (.loanWrite h))
  | loanDrained => exact .guardUnit h (.loanDrained h)
  | loanScrubDone => exact .guardUnit h (.loanScrubbed h)
  | portNAccess => exact .portNAccess h
  | patrolScrub => exact .patrolScrub h
  | vaultBusyNRelease => exact .next (.releaseBusy h)
  | bankSpareRemap => exact .guardUnit h (.bankAccession h)
  | peekRead => exact .peekRead h
  | peekWrite => exact .peekWrite h
  | ageTick => exact .next (.noc h)
  | read => exact .arriveOp h
  | write => exact .arriveOp h
  | cfgWrite => exact .ite (.arriveOp h) (.guardUnit h (.ite (.refuseAt h) h))
  | msg => exact .ite (.arriveOp h) (.guardUnit h (.ite (.refuseAt h) h))
  | creditReq => exact .guardUnit h (.creditReq h)
  | creditReply => exact .guardUnit h (.creditReply h)
  | creditReturn => exact .guardUnit h (.setCredit h)
  | readData => exact .guardUnit h (.ite (.arriveRsp h) h)
  | writeDone => exact .guardUnit h (.ite (.arriveRsp h) h)
  | nocTimeout => exact .guardUnit h (.depotMapDue (.nocTimeout h))
  | linkOutOfService => exact .guardUnit h (.linkFails h)
  | routerFence => exact .guardUnit h (.ite h (.fenceRouter (.linkOut h)))
  | depotAttach => exact .guardUnit h (.ite (.setPortState (.setPort h)) h)
  | depotEchoReply => exact .guardUnit h (.ite (.ite (.setFld (.setPort h)) (.setPort h)) h)
  | depotInfo => exact .depotInfo h
  | depotInfoTimeout => exact .depotInfoTimeout h
  | depotRequest => exact .guardUnit h (.depotMapDue (.depotRequest h))
  | depotReadData => exact .guardUnit h (.depotMapDue (.nodeData h))
  | depotWriteAck => exact .guardUnit h (.depotMapDue (.nodeAck h))
  | depotQueueSend => exact .depotQueueSend h
  | undoCopyDone => exact .next (.undoDone h)
  | init => exact .guardUnit h (.ite (.takeInit h) h)
  | initRepeat => exact .next (.sendInits h)
  | armTimeout => exact .next (.armDrop h)
  | token => exact .guardUnit h (.arrive h fun h => .chanFlit h)
  | vote => exact .guardUnit h (.arrive h fun h => .chanFlit h)
  | xchgFlit => exact .guardUnit h (.arrive h fun h => .chanFlit h)
  | xtrig => exact .guardUnit h (.arrive h fun h => .takeXtrig h)
  | ack => exact .guardUnit h (.ite (.setFld (.setStream h)) h)
  | nak => exact .guardUnit h (.ite (.resend (.setStream h)) h)
  | replayTimeout => exact .guardUnit h (.ite (.resend h) h)
  | syncSend => exact .syncSend h
  | sync => exact .guardUnit h (.ite (.sendCtl h) h)
  | syncReply => exact .guardUnit h (.ite (.takeOffset (.setFld h)) h)
  | filler => exact .guardUnit h (.cfgAdvance (.ite h (.filler h)))
  | quietEnd => exact .guardUnit h (.quietEnd h)
  | signalDetect => exact .guardUnit h (.ite (.setRxState (.setFld h)) (.setFld h))
  | lockAcquired => exact .guardUnit h (.ite (.setRxState h) h)
  | lockTimeout => exact .guardUnit h (.ite (.toSeek (.addFld h)) h)
  | adaptDone => exact .adaptDone h
  | adaptTimeout => exact .guardUnit h (.ite (.toSeek h) h)
  | alignTimeout => exact .guardUnit h (.ite (.toSeek (.addFld h)) h)
  | los => exact .guardUnit h (.ite (.toSeek (.addFld (.setFld h))) (.setFld h))
  | absent => exact .guardUnit h (.ite (.setFld h) h)
  | acceptResult => exact .guardUnit h (.ite h (.acceptEnds h))
  | spareActivate => exact .guardUnit h (.spareFor h)
  | laneCapture => exact .guardUnit h (.laneWrite h fun h => .capture h)
  | laneSlip => exact .guardUnit h (.laneWrite h fun h => .slipWrite h)
  | laneAccept => exact .guardUnit h (.laneWrite h fun h => .slipWrite h)
  | laneRetrain => exact .guardUnit h (.laneWrite h fun h => .cfgWrite h)
  | frameBlockWrite => exact .next (.blockWrite h)
  | trigIn => exact .trigIn h
  | trigPulseEnd => exact .next (.showTrig (.plt h))
  | autoTimeout => exact .next (.autoTrigger h)
  | plateClose => exact .next (.capSettle h)
  | drainPart => exact .next (.drainPart h)
  | drainAck => exact .next (.drainAck h)
  | captureArm => exact .next (.capCtrl h)
  | captureForce => exact .next (.capCtrl h)
  | captureClose => exact .next (.capCtrl h)
  | captureDisarm => exact .next (.capCtrl h)
  | hostMark => exact .next (.capMark h)
  | drainRestart => exact .next (.setFld h)
  | capDrainTailWrite => exact .next (.drainTail h)
  | capStoreTailWrite => exact .guardUnit h (.storeTail h)
  | autoCheckpoint => exact .autoCheckpoint h
  | checkpointReadDone => exact .next (.ckReadDone h)
  | checkpointComplete => exact .next (.ckComplete h)
  | inputRecordEntry => exact .next (.recSettle h)
  | recRingSpace => exact .next (.recSpace h)
  | ckpRecTailWrite => exact .next (.recTailWrite h)
  | unitLocated => exact .guardUnit h (.ite (.locate h) h)
  | recoveryRestoreDone => exact .next (.recoveryRestore h)
  | catchUpFrame => exact .catchUpFrame h
  | recoveryDone => exact .next (.recoveryDone h)
  | replayEnd => exact .next (.ite (.cycleAt h) h)
  | healthDecay => exact .next (.foldl h fun h => .decay h)
  | stagingDone => exact .guardUnit h (.stagingDone h)
  | clusterAccession => exact .guardUnit h (.clusterAccession h)
  | deaccession => exact .next (.cmdRow h fun h => .deaccession h)
  | ghostTraffic => exact .guardUnit h (.ghost h)
  | reserveRecordWrite => exact .next (.writeRecord h)
  | curatorMismatch => exact .curatorMismatch h
  | wearWindow => exact .guardUnit h (.wearWindow h)
  | wearCrossCheck => exact .wearCrossCheck h
  | regionCopyUpdate => exact .regionCopyUpdate h
  | publish => exact .ite (.ite (.next (.homeEdge (.withFabric h))) (.next h)) (.next h)
  | publishMove => exact .guardUnit h (.movePublish h)
  | readySighting => exact .readySighting h
  | homeClockLost => exact .guardUnit h (.homeLost (.setFld (.setFld h)))
  | homeClockReturn => exact .guardUnit h (.homeLost (.setFld h))
  | regionLoadDone => exact .guardUnit h (.regionLoaded h)
  | regionSettled => exact .ite (.ite (.next (.setFld (.setRegion h))) (.next h)) (.next h)
  | vtrCalStart => exact .guardUnit h (.calStart (.setFld h))
  | calibrationDone => exact .ite (.ite (.next (.setFld (.setFld (.vtr h)))) (.next h)) (.next h)
  | vtrCalApply => exact .guardUnit h (.calApply h)
  | vtrDelayWrite => exact .guardUnit h (.delayWrite h)
  | configurationStart => exact .next (.ite (.configStart (.tapRelease h)) h)
  | resetAbandon => exact .next (.afterReset h)
  | stageTimeout => exact .stageTimeout h
  | docentStarted => exact .docentStarted h
  | cfgLaneWaitExpiry => exact .ite (.next (.cfgAdvance (.cfg (.ite h (.cfgFail h))))) (.next h)
  | autoloadEntry => exact .autoloadEntry h
  | configurationDone => exact .ite (.next (.configDone h)) (.next h)
  | frameGo => exact .next (.setFld h)
  | goAct => exact .ite (.next h) (.next (.ite (.goAct (.setFld h)) (.setFld h)))
  | cfgDoneRelease => exact .next (.releaseDone h)
  | handover => exact .guardUnit h (.tryHandover h)
  | phmTimer => exact .phmTimer h
  | resultRecordOut => exact .resultRecordOut h
  | phmNop => exact .phmRun h
  | clra => exact .phmRun h
  | mac => exact .phmRun h
  | mac2 => exact .phmRun h
  | adda => exact .phmRun h
  | st => exact .phmRun h
  | ld => exact .phmRun h
  | ldi => exact .phmRun h
  | std => exact .phmRun h
  | setx => exact .phmRun h
  | modx => exact .phmRun h
  | movx => exact .phmRun h
  | rep => exact .phmRun h
  | br => exact .phmRun h
  | djnz => exact .phmRun h
  | wait => exact .phmRun h
  | emit => exact .emit h
  | put => exact .ite (.next h) (.phmRun h)
  | phmHalt => exact .phmRun h
  | phmStart => exact .guardUnit h (.phmCtrl h)
  | phmCtrlHalt => exact .guardUnit h (.phmCtrl h)
  | clrFlags => exact .guardUnit h (.phmCtrl h)
  | phmRingTailWrite => exact .guardUnit h (.phmTail h)
  | adcSlot => exact .next (.ite h (.adcSlot h))
  | droop => exact .guardUnit h (.ite (.adcFire (.setAdc h)) h)
  | injGo => exact .next (.ite h (.adcFire h))
  | refSettled => exact .next (.ite h (.setFld h))
  | adcRingTailWrite => exact .adcRingTailWrite h
  | taskCreate => exact .next (.taskCreate h)
  | registrarCycle => exact .next (.rgsCycle h)
  | delayExpiry => exact .next (.ite (.rgsCycle h) h)
  | taskDone => exact .next (.coreDone h)
  | taskYield => exact .next (.coreYield h)
  | taskCancel => exact .next (.cancelTask h)
  | dataSourceRelease => exact .next (.releaseSource h)
  | rgsTraceTailWrite => exact .rgsTraceTailWrite h
  | traceWindowRead => exact .traceWindowRead h
  | docentHeartbeat => exact .next (.ite (.beat h) h)
  | docentWatchdog => exact .next (.ite (.docentRestart h) h)
  | docentRunning => exact .docentRunning h
  | doorbell => exact .next (.ite (.mbxWrite h fun h => .ite (.ring h) h) h)
  | rspPop => exact .next (.ite (.mbxWrite h fun h => .ite (.popRsp h) h) h)
  | noticeSlotFreed => exact .next (.releaseHeldNotices h)
  | functionLevelReset => exact .next (.foldl h fun h => .flrMbx h)
  | mgmtBlockWrite => exact .mgmtBlockWrite h
  | mgmtBlockRead => exact .next (.ite (.bus h) (.popRsp (.setCur h)))
  | statusRead => exact .next (.cmdRow h fun h => .statusRead h)
  | regRead => exact .next (.cmdRow h fun h => .ite (.reply h) (.reply (.readPath h)))
  | regWrite => exact .next (.cmdRow h fun h => .ite (.reply h) (.reply (.writePath h)))
  | resetDevice => exact .next (.cmdRow h fun h => .resetCmd h)
  | resetDocent => exact .next (.cmdRow h fun h => .docentRestart (.wait h))
  | go => exact .next (.cmdRow h fun h => .reply (.setFld h))
  | timeSet => exact .next (.cmdRow h fun h => .ite (.reply (.lnk h)) (.reply h))
  | laneSet => exact .next (.cmdRow h fun h => .laneSet h)
  | flashWrite => exact .next (.cmdRow h fun h => .flashWrite h)
  | fuseProgramSlot => exact .next (.cmdRow h fun h => .fuseProgram h)
  | fuseRevokeSlot => exact .next (.cmdRow h fun h => .ite (.reply h) (.fuseOk (.setFld h)))
  | fuseRaiseMinSvn => exact .next (.cmdRow h fun h => .ite (.reply h) (.fuseOk (.setFld h)))
  | load => exact .next (.partRow h fun h => .loadCmd h)
  | unload => exact .unload h
  | arm => exact .next (.partRow h fun h => .armCmd h)
  | run => exact .next (.partRow h fun h => .runCmd h)
  | halt => exact .next (.partRow h fun h => .haltCmd h)
  | forcedHalt => exact .next (.cmdRow h fun h => .forcedHalt h)
  | deposit => exact .next (.cmdRow h fun h => .depositCmd h)
  | wsRead => exact .next (.partRow h fun h => .wsRead h)
  | vtrLoad => exact .next (.cmdRow h fun h => .vtrLoad h)
  | captureRead => exact .next (.partRow h fun h => .captureRead h)
  | checkpoint => exact .next (.partRow h fun h => .checkpointCmd h)
  | ckptExport => exact .next (.partRow h fun h => .exportCmd h)
  | restore => exact .next (.partRow h fun h => .restoreCmd h)
  | replay => exact .next (.partRow h fun h => .replayCmd h)
  | loan => exact .next (.cmdRow h fun h => .loanCmd h)
  | depotGrant => exact .next (.cmdRow h fun h => .mapCmd h)
  | depotReturn => exact .next (.cmdRow h fun h => .mapCmd h)
  | bufAlloc => exact .next (.cmdRow h fun h => .bufAlloc h)
  | bufFree => exact .next (.cmdRow h fun h => .bufFree h)
  | dma => exact .next (.cmdRow h fun h => .dma h)
  | accession => exact .next (.cmdRow h fun h => .accession h)
  | setOp => exact .next (.cmdRow h fun h => .setOp h)
  | setPowerRun => exact .next (.cmdRow h fun h => .powerRun h)
  | setPowerHold => exact .next (.cmdRow h fun h => .powerHold h)
  | setPowerNap => exact .next (.cmdRow h fun h => .powerNap h)
  | setPowerDormant => exact .next (.cmdRow h fun h => .powerDormant h)
  | thermalShutdown => exact .next (.cmdRow h fun h => .thermalShut (.begin h))
  | tallyRead => exact .next (.cmdRow h fun h => .tallyRead h)
  | tallyClock => exact .next (.cmdRow h fun h => .reply (.tallyClock h))
  | tallyTenant => exact .next (.partRow h fun h => .ite (.wait h) (.replyBlock (.setReg h)))
  | lgbToken => exact .next (.cmdRow h fun h => .ite (.reply (.setFld h)) (.reply h))
  | napEntryDone => exact .next (.napEntered h)
  | napExitDone => exact .next (.napLeft h)
  | dormantEntryDone => exact .next (.dormantReached h)
  | dormantExitDone => exact .next (.dormantLeft h)
  | wakeN => exact .next (.wakeUp h)
  | pcieWake => exact .next (.wakeUp h)
  | wakeTimer => exact .next (.ite (.wakeUp h) h)
  | thermtrip => exact .guardUnit h (.trip h)
  | vcoreSettled => exact .next (.ite (.vcoreSettled h) h)
  | vrTimeout => exact .vrTimeout h
  | pllLocked => exact .guardUnit h (.ite (.setFld h) h)
  | lockStable => exact .lockStable h
  | relockFail => exact .guardUnit h (.ite (.relockOver (.addFld (.setFld (.setReg h)))) h)
  | pwrOkFall => exact .next (.powerFall h)
  | periodBoundary => exact .next (.periodBoundary h)
  | logbookRecord => exact .next (.ite (.lgbEvent h) h)
  | logbookSpaceFreed => exact .logbookSpaceFreed h
  | lgbTailWrite => exact .lgbTailWrite h
  | dbgClear => exact .next (.dbgClear h)
  | regLoRead => exact .next (.ite (.readPath h) h)
  | regHiWrite => exact .next (.ite (.writePath h) h)
  | readClear => exact .next (.readBytes h)
  | registerWrite => exact .registerWrite h
  | idcode => exact .next (.tapRow h (.tapLoad h))
  | samplePreload => exact .next (.tapRow h (.tapScan h))
  | extest => exact .next (.tapRow h (.tapTest h))
  | extestPulse => exact .next (.tapRow h (.tapTest h))
  | extestTrain => exact .next (.tapRow h (.tapTest h))
  | highz => exact .next (.tapRow h (.tapLoad h))
  | clamp => exact .next (.tapRow h (.tapLoad h))
  | bypass => exact .next (.tapRow h (.tapLoad h))
  | vaonRise => exact .next (.ite h (.pin_tly h))
  | pwrOkRise => exact .next (.ite (.pin_tap h) h)
  | devclkLost => exact .next (.setReg h)
  | quadRefOk => exact .guardUnit h (.quadRef h)
  | ackTimer => exact .guardUnit h (.ite h (.setStream h))
  | prbsRxLock => exact .guardUnit h (.ite (.addFld (.setFld h)) h)
  | laneCaptureDone => exact .next (.ite (.lan (.foldl (.setFld h) fun h => .setReg h)) h)
  | phmReservedOp => exact .ite (.ite (.next (.setPhm h)) (.next h)) (.next h)
end

/-- The front command is taken off the queue and run; with no command queued a nanosecond passes. -/
theorem keepsOut_step (s : State) : KeepsOut { s with pending := s.pending.tail } (step s) := by
  unfold step
  split
  · next hp =>
    rw [hp, List.tail_nil, ← hp]
    exact .next (.nanosecond (.refl s))
  · next c r hp =>
    rw [hp, List.tail_cons]
    exact keepsOut_exec (.refl { s with pending := r })

end Sys2Proof.Machine

namespace Sys2Proof.Proofs

open Sys2Proof Machine Statements

/-- Settles O59: every operation of the model keeps the canonical form, the queue and the variant, so each command does. -/
theorem everyStepKeepsTheCanonicalForm : Obligations.EveryStepKeepsTheCanonicalForm := by
  unfold Obligations.EveryStepKeepsTheCanonicalForm
  intro s t hs ht
  obtain ⟨hc, hq, hv⟩ := keepsOut_step s t ht
  exact ⟨hc hs, hq, hv⟩

end Sys2Proof.Proofs
end

section
/-!
SUPPORT. The rows of the frame sequencer (R32, R42) as cycles of the partition, the boundary holds that an event ends (R50), and a tick whose
boundary is held by a Curator action on a bank that the part does not have (R29, R342).
-/
namespace Sys2Proof.Machine

open Sys2Proof Sys2Proof.Statements

theorem State.part_modPart_self (s : State) (n : Fin 8) (f : Part → Part) : (s.modPart n f).part n = f (s.part n) :=
  State.part_setPart_self ..

theorem partsBut_setPart (s : State) (n : Fin 8) (p : Part) : PartsBut s (s.setPart n p) n :=
  fun _ hm => State.part_setPart_ne s p hm

/-- A cycle at the step of the row. -/
theorem State.cycleAt_of_step {s : State} {n : Fin 8} {k : Nat} {env : StepEnv} (h : (s.part n).step = (s.part n).eph.depth + k) :
    s.cycleAt n k env = s.seqCycle n env := if_pos h

/-- A row whose step is not the partition's does nothing. -/
theorem State.cycleAt_of_step_ne {s : State} {n : Fin 8} {k : Nat} {env : StepEnv} (h : (s.part n).step ≠ (s.part n).eph.depth + k) :
    s.cycleAt n k env = s := if_neg h

theorem exec_stepCycle (n : Fin 8) (env : StepEnv) (s : State) : exec (.stepCycle n env) s = .next (s.seqCycle n env) := rfl

theorem exec_latticeDrain (n : Fin 8) (env : StepEnv) (s : State) :
    exec (.latticeDrain n env) s = .next (((s.cycleAt n 0 env).cycleAt n 1 env).cycleAt n 2 env) := rfl

theorem exec_vitrineExchange (n : Fin 8) (s : State) : exec (.vitrineExchange n) s = .next (s.cycleAt n 3 {}) := rfl
theorem exec_depositsApplied (n : Fin 8) (s : State) : exec (.depositsApplied n) s = .next (s.cycleAt n 4 {}) := rfl
theorem exec_tapRecordsClosed (n : Fin 8) (s : State) : exec (.tapRecordsClosed n) s = .next (s.cycleAt n 5 {}) := rfl

theorem exec_errorGather (n : Fin 8) (s : State) : exec (.errorGather n) s = .next ((s.cycleAt n 6 {}).cycleAt n 7 {}) := rfl

theorem exec_voteSend (n : Fin 8) (s : State) : exec (.voteSend n) s = .next (s.cycleAt n 8 {}) := rfl
theorem exec_commitDecision (n : Fin 8) (s : State) : exec (.commitDecision n) s = .next (s.cycleAt n 9 {}) := rfl

theorem exec_shadowCopy (n : Fin 8) (env : StepEnv) (s : State) :
    exec (.shadowCopy n env) s = .next ((s.cycleAt n 10 env).cycleAt n 11 env) := rfl

theorem exec_release (n : Fin 8) (s : State) : exec (.release n) s = .next (s.cycleAt n 12 {}) := rfl
theorem exec_tallyUpdate (n : Fin 8) (s : State) : exec (.tallyUpdate n) s = .next (s.cycleAt n 13 {}) := rfl
theorem exec_counterUpdate (n : Fin 8) (s : State) : exec (.counterUpdate n) s = .next (s.cycleAt n 14 {}) := rfl
theorem exec_frameTick (n : Fin 8) (s : State) : exec (.frameTick n) s = .next (s.cycleAt n 15 {}) := rfl

/-- The row of one commit step is a cycle there, and elsewhere nothing (R32). -/
theorem commitRow_is_cycle {s : State} {n : Fin 8} {k : Nat} {c : Instr} (hc : exec c s = .next (s.cycleAt n k {})) :
    ((s.part n).step = (s.part n).eph.depth + k → exec c s = exec (.stepCycle n {}) s) ∧
    ((s.part n).step ≠ (s.part n).eph.depth + k → exec c s = .next s) := by
  refine ⟨fun h => ?_, fun h => ?_⟩
  · rw [hc, exec_stepCycle, State.cycleAt_of_step h]
  · rw [hc, State.cycleAt_of_step_ne h]

/-- The end of a boundary hold takes the holds of its kind away, and nothing else (R50). -/
theorem State.endHold_takes_only (s : State) (n : Fin 8) (f : BHold → Bool) :
    s.endHold n f = { s with parts := (s.endHold n f).parts } ∧ PartsBut s (s.endHold n f) n ∧
      ((s.endHold n f).part n).bholds = (s.part n).bholds.filter (fun h => !f h) ∧
      (s.endHold n f).part n = { s.part n with bholds := ((s.endHold n f).part n).bholds } := by
  have hpart : (s.endHold n f).part n = { s.part n with bholds := (s.part n).bholds.filter fun h => !f h } :=
    State.part_modPart_self ..
  refine ⟨rfl, partsBut_setPart s n _, ?_, ?_⟩ <;> rw [hpart]

theorem exec_staleReadsReturned {s : State} {n : Fin 8} (h : (s.part n).reads.any (·.stale) = false) :
    exec (.staleReadsReturned n) s = .next (s.endHold n fun h => h == .stale) := by
  show execStaleReadsReturned n s = _
  rw [execStaleReadsReturned, h]
  rfl

theorem exec_writebackHoldEnd (n : Fin 8) (s : State) :
    exec (.writebackHoldEnd n) s = .next (s.endHold n fun h => match h with | .writeback _ => true | _ => false) := rfl

theorem exec_heldShareFreed {s : State} {n : Fin 8} (h : s.sharesFree n = true) :
    exec (.heldShareFreed n) s = .next (s.endHold n fun h => h == .share) := by
  show execHeldShareFreed n s = _
  rw [execHeldShareFreed, h]
  rfl

/-- Partition 1 stands at C15 with nothing pending, a TENANT command of mailbox 0 waits for its frame boundary, and a Curator action is due
on "bank" 0x3FC011.  The part has no such bank: the word where its VLT_LOAN would stand is TLY_TENANT of partition 1. -/
def tenantAtTick : State :=
  { State.reset with
    parts := vset State.reset.parts 1 { Part.reset with state := .running, step := 15 }
    spr := { State.reset.spr with pend := [⟨2, 0x3FC011⟩] }
    cur := { State.reset.cur with mbxs := vset State.reset.cur.mbxs 0 { Mbx.reset with
      begun := [⟨⟨0, 0, 0⟩, none, false, false, .tenant 1 1 none, none⟩] } } }

/-- The step at which a partition stands after a command that completes. -/
def stepAfter (o : Host.Outcome State Fault Refusal) (n : Fin 8) : Option Nat :=
  match o with
  | .next t => some (t.part n).step
  | _ => none

theorem tenantAtTick_atCommit : AtCommit tenantAtTick 1 15 := by
  unfold AtCommit
  decide +kernel

/-- The tenant change of this tick makes partition 1 the holder of the "bank", so that the action is due and the partition stays at C15. -/
theorem tenantAtTick_stays : stepAfter (exec (.frameTick 1) tenantAtTick) 1 = some 15 := by decide +kernel

end Sys2Proof.Machine

namespace Sys2Proof.Proofs

open Sys2Proof Sys2Proof.Machine Sys2Proof.Statements

/-- Settles O12: each event ends the holds of its kind when what they wait for is there. -/
theorem boundaryHoldsEnd : Obligations.BoundaryHoldsEnd := by
  unfold Obligations.BoundaryHoldsEnd
  intro s n
  exact ⟨fun h => ⟨_, exec_staleReadsReturned h, s.endHold_takes_only n _⟩,
    ⟨_, exec_writebackHoldEnd n s, s.endHold_takes_only n _⟩, fun h => ⟨_, exec_heldShareFreed h, s.endHold_takes_only n _⟩⟩

/-- Settles O6: each row is a cycle at its own step. -/
theorem commitRowsAreTheStepsDuties : Obligations.CommitRowsAreTheStepsDuties := by
  unfold Obligations.CommitRowsAreTheStepsDuties
  intro s n
  exact ⟨commitRow_is_cycle (exec_vitrineExchange n s), commitRow_is_cycle (exec_depositsApplied n s),
    commitRow_is_cycle (exec_tapRecordsClosed n s), commitRow_is_cycle (exec_voteSend n s), commitRow_is_cycle (exec_commitDecision n s),
    commitRow_is_cycle (exec_release n s), commitRow_is_cycle (exec_tallyUpdate n s), commitRow_is_cycle (exec_counterUpdate n s),
    commitRow_is_cycle (exec_frameTick n s)⟩

/-- Refutes O11, in its second clause: that no Curator action is due before the tick does not say that none is due after the tick's own tenant
change, since the bank of an action is a free number in the model and may name any register.  At `tenantAtTick` every hypothesis holds
and the partition stays at C15. -/
theorem not_tickHaltAndFault : ¬ Obligations.TickHaltAndFault := by
  unfold Obligations.TickHaltAndFault
  intro h
  obtain ⟨-, hbegins, -⟩ := h tenantAtTick 1 (by decide +kernel)
  have hnone : tenantAtTick.boundaryAt 1 = none := by decide +kernel
  obtain ⟨t, ht, hstep, -⟩ := hbegins tenantAtTick_atCommit (by decide +kernel) (by decide +kernel) (by decide +kernel)
    (by decide +kernel) (by decide +kernel) (by decide +kernel) (by decide +kernel) (by decide +kernel) (by decide +kernel)
    (by simp [hnone])
  have hstays := tenantAtTick_stays
  rw [ht, stepAfter, hstep] at hstays
  exact absurd hstays (by decide)

end Sys2Proof.Proofs
end

section
/-!
SUPPORT. Operations that leave the frame sequencers alone.  `HealthOnly`: what a notice of the Curator or the health table (R336 to R346) can
change.  `Quiet`: the partitions, the power state and the recoveries stand as they were, so that every step clock acts as before (R42, R503).
-/
namespace Sys2Proof.Machine

open Sys2Proof Sys2Proof.Statements

theorem curOnly_setWait (s : State) (m : Fin 36) (stamp : Nat) (w : Wait) : CurOnly s (s.setWait m stamp w) := rfl

theorem curOnly_mapWaits (s : State) (f : Wait → Wait) : CurOnly s (s.mapWaits f) := rfl

theorem State.notice1_curOnly (s : State) (m : Fin 36) (op len payload : Nat) : CurOnly s (s.notice1 m op len payload) := by
  dsimp only [State.notice1]
  split
  exacts [s.enterRsp_curOnly m _ false, s.setMbx_curOnly m _]

theorem State.notice_curOnly (s : State) (op len payload : Nat) (tenant : Option (Fin 8)) : CurOnly s (s.notice op len payload tenant) := by
  dsimp only [State.notice]
  refine curOnly_trans (curOnly_trans ?_ (State.notice1_curOnly ..)) (State.notice1_curOnly ..)
  split
  exacts [s.notice1_curOnly .., curOnly_refl s]

theorem State.answer_curOnly (s : State) (m : Fin 36) (stamp : Nat) (r : Rsp) : CurOnly s (s.answer m stamp r) :=
  curOnly_trans (s.setMbx_curOnly m _) (State.flushMbx_curOnly m _ _)

theorem State.answerAll_curOnly (f : State → Begun → Option Rsp) :
    ∀ (l : List (Fin 36 × Begun)) (s : State), CurOnly s (s.answerAll f l)
  | [], s => curOnly_refl s
  | (m, b) :: r, s => by
    unfold State.answerAll
    refine curOnly_trans ?_ (State.answerAll_curOnly f r _)
    split
    exacts [s.answer_curOnly .., curOnly_refl s]

theorem State.irqEdge_curOnly (s : State) (n : Fin 8) (before : Bool) : CurOnly s (s.irqEdge n before) := by
  unfold State.irqEdge
  split
  exacts [curOnly_trans (s.msi_curOnly ..) (State.msi_curOnly ..), curOnly_refl s]

/-- Of the state only registers, the Curator, the health table and the counter of free values have changed. -/
def HealthOnly (s t : State) : Prop := ∃ r c x k, t = { s with regs := r, cur := c, spr := x, freeCtr := k }

namespace HealthOnly

theorem refl (s : State) : HealthOnly s s := ⟨_, _, _, _, rfl⟩

variable {s t u : State}

theorem trans (h : HealthOnly s t) (hu : HealthOnly t u) : HealthOnly s u := by
  obtain ⟨_, _, _, _, rfl⟩ := h
  obtain ⟨_, _, _, _, rfl⟩ := hu
  exact ⟨_, _, _, _, rfl⟩

theorem ite {c : Prop} {_ : Decidable c} (ht : HealthOnly s t) (hu : HealthOnly s u) : HealthOnly s (if c then t else u) := by
  split
  exacts [ht, hu]

section
variable (h : HealthOnly s t)
include h

theorem curOnly (hu : CurOnly t u) : HealthOnly s u := by
  rw [hu]
  exact h.trans ⟨_, _, _, _, rfl⟩

theorem setReg {a : Nat} {w : Word} : HealthOnly s (t.setReg a w) := h.trans ⟨_, _, _, _, rfl⟩

theorem setFld {a lo w x : Nat} : HealthOnly s (t.setFld a lo w x) := .setReg h

theorem addFld {a lo w k : Nat} : HealthOnly s (t.addFld a lo w k) := .setReg h

theorem spr {x : Spr} : HealthOnly s { t with spr := x } := h.trans ⟨_, _, _, _, rfl⟩

theorem fresh : HealthOnly s t.fresh.1 := h.trans ⟨_, _, _, _, rfl⟩

theorem noSpare {q : Pend} : HealthOnly s (t.noSpare q) := by
  unfold State.noSpare
  exact .curOnly (.fresh h) (State.notice_curOnly ..)

theorem setPend {l : List Pend} : HealthOnly s (t.setPend l) := .setFld (.spr h)

theorem stageReq {tile c : Nat} : HealthOnly s (t.stageReq tile c) := by
  unfold State.stageReq
  exact .ite h (.setFld (.setFld (.spr h)))

theorem demand {q : Pend} : HealthOnly s (t.demand q) := by
  dsimp only [State.demand]
  refine .ite h (.ite ?_ (.noSpare h))
  split
  exacts [.ite (.noSpare (.setPend h)) (.noSpare h), .setPend h]

theorem deaccCluster {tile p : Nat} : HealthOnly s (t.deaccCluster tile p) := by
  unfold State.deaccCluster
  exact .setReg (.setReg (.fresh (.spr (.setFld (.setFld (.setFld (.setFld h)))))))

theorem deaccBank {k : Nat} : HealthOnly s (t.deaccBank k) := by
  unfold State.deaccBank
  exact .setReg (.setReg (.fresh (.setFld (.setFld h))))

theorem scoreCluster {k points : Nat} : HealthOnly s (t.scoreCluster k points) := by
  dsimp only [State.scoreCluster, State.actCluster]
  refine .ite (.ite (.deaccCluster (.addFld h)) ?_) (.addFld h)
  split
  · have hstage : ∀ {c : Prop} [Decidable c] {tile k' : Nat}, HealthOnly s
        (if c then (t.addFld (chealth k) 0 8 points).stageReq tile k' else t.addFld (chealth k) 0 8 points) :=
      .ite (.stageReq (.addFld h)) (.addFld h)
    exact .ite (.demand hstage) hstage
  · exact .addFld h

theorem scoreBank {k points : Nat} : HealthOnly s (t.scoreBank k points) := by
  dsimp only [State.scoreBank, State.actBank]
  refine .ite (.ite (.deaccBank (.addFld h)) (.ite ?_ (.addFld h))) (.addFld h)
  split
  exacts [.demand (.addFld h), .addFld h]

theorem chargeAll {points : Nat} {l : List Nat} : HealthOnly s (t.chargeAll points l) := by
  induction l generalizing t with
  | nil => exact h
  | cons x r ih => exact ih (.scoreCluster h)

theorem slotCorrected {cl : Nat} : HealthOnly s (t.slotCorrected cl) := by
  unfold State.slotCorrected
  exact .ite (.scoreCluster (.spr h)) (.spr h)

theorem slotsCorrected {l : List Nat} : HealthOnly s (t.slotsCorrected l) := by
  induction l generalizing t with
  | nil => exact h
  | cons x r ih => exact ih (.slotCorrected h)

theorem bankCorrected {b : Nat} : HealthOnly s (t.bankCorrected b) := by
  unfold State.bankCorrected
  exact .ite (.scoreBank (.spr h)) (.spr h)

end

theorem parts (h : HealthOnly s t) : t.parts = s.parts := by
  obtain ⟨_, _, _, _, rfl⟩ := h
  rfl

theorem vlt (h : HealthOnly s t) : t.vlt = s.vlt := by
  obtain ⟨_, _, _, _, rfl⟩ := h
  rfl

theorem pending (h : HealthOnly s t) : t.pending = s.pending := by
  obtain ⟨_, _, _, _, rfl⟩ := h
  rfl

end HealthOnly
end Sys2Proof.Machine
end

section
/-!
SUPPORT. One slot of one BP (R56, R102): the checks of debug mode change the hazards of the step only (R174), what a slot starts its class's
effect from, and what the row of a class leaves.
-/
namespace Sys2Proof.Machine

open Sys2Proof Sys2Proof.Statements

/-- Of the partition only the hazards of the step in progress have changed (R175). -/
def HazOnly (p q : Part) : Prop := ∃ l, q = { p with hazNow := l }

namespace HazOnly

theorem refl (p : Part) : HazOnly p p := ⟨p.hazNow, rfl⟩

variable {p q r : Part}

theorem trans (h : HazOnly p q) (hr : HazOnly q r) : HazOnly p r := by
  obtain ⟨_, rfl⟩ := h
  obtain ⟨_, rfl⟩ := hr
  exact ⟨_, rfl⟩

theorem ite {c : Prop} {_ : Decidable c} (hq : HazOnly p q) (hr : HazOnly p r) : HazOnly p (if c then q else r) := by
  split
  exacts [hq, hr]

section
variable (h : HazOnly p q)
include h

theorem hazard {code bp opnd detail : Nat} : HazOnly p (q.hazard code bp opnd detail) := .ite (h.trans ⟨_, rfl⟩) h

theorem checkOperand {bp s pos sel : Nat} {echk : Bool} : HazOnly p (q.checkOperand bp s echk pos sel) := by
  have hlegal : HazOnly p (if selBadEncoding sel then q.hazard 1 bp pos 0 else q) := .ite (.hazard h) h
  unfold Part.checkOperand
  extract_lets p1 i p2
  have hp2 : HazOnly p p2 := .ite (.hazard hlegal) hlegal
  refine .ite ?_ hp2
  unfold Part.echk
  refine .ite (.ite hp2 (.hazard hp2)) ?_
  split
  exacts [.ite hp2 (.hazard hp2), .ite hp2 (.hazard hp2), .ite hp2 (.hazard hp2), hp2]

theorem checkReads {bp s : Nat} {echk : Bool} {l : List (Nat × Nat)} : HazOnly p (q.checkReads bp s echk l) := by
  induction l generalizing q with
  | nil => exact h
  | cons x r ih => exact ih (.checkOperand h)

theorem latchLoop {bp s : Nat} {l : List (Nat × Nat)} : HazOnly p (q.latchLoop bp s l) := by
  induction l generalizing q with
  | nil => exact h
  | cons x r ih => exact ih (.ite (.hazard h) h)

theorem debugChecks {w : DWord} {bp s : Nat} : HazOnly p (q.debugChecks w bp s) := by
  unfold Part.debugChecks
  refine .ite h (.ite (.ite (.hazard h) h) ?_)
  extract_lets p1 p2 p3 echk p4 p5
  have h1 : HazOnly p p1 := .ite (.hazard h) h
  have h2 : HazOnly p p2 := .ite (.hazard h1) h1
  have h4 : HazOnly p p4 := .checkReads (.ite (.hazard h2) h2)
  have h5 : HazOnly p p5 := .ite (.latchLoop h4) h4
  exact .ite (.hazard h5) h5

end

end HazOnly

theorem Part.noteAt_hist (p : Part) (bp place step : Nat) : ∃ h, p.noteAt bp place step = { p with img := { p.img with hist := h } } := by
  unfold Part.noteAt
  split
  exacts [⟨_, rfl⟩, ⟨_, rfl⟩]

/-- The BP has executed its slot of the step, with the frame's errors and the step's hazards as they then stand (R76, R102). -/
def Part.noted (p : Part) (bp : Nat) (er : Err) (cl : List Nat) (l : List Haz) : Part :=
  { p with done := p.done ++ [bp], err := er, errCl := cl, hazNow := l }

/-- A slot whose word could be read has its class's effect after the detectors' errors and the checks (R76, R102). -/
theorem Part.execSlot_of_read (p : Part) (bp : Nat) {e : BpErr} (hu : e.slotUnc = false) :
    ∃ er cl l, p.execSlot bp e = (p.noted bp er cl l).doClass (p.slot bp p.step) bp p.step := by
  let w := p.slot bp p.step
  let er := slotErr w p.eph.debug e
  let p1 := p.noted bp (p.err.or er) (if er.any then insNat (bpCluster bp) p.errCl else p.errCl) p.hazNow
  have hstart : p.execSlot bp e = (if 11 ≤ wCls w ∧ wCls w ≤ 14 then p1 else p1.debugChecks w bp p.step).doClass w bp p.step := by
    unfold Part.execSlot
    rw [hu]
    rfl
  have hchecks : HazOnly p1 (if 11 ≤ wCls w ∧ wCls w ≤ 14 then p1 else p1.debugChecks w bp p.step) :=
    .ite (.refl p1) (.debugChecks (.refl p1))
  obtain ⟨l, hl⟩ := hchecks
  exact ⟨_, _, l, by rw [hstart, hl]; rfl⟩

/-- An XGET puts the held word of its incoming slot into XD, where there is one (R126). -/
theorem Part.doXget_xd (p : Part) (w : DWord) (bp s : Nat) :
    ∃ l h xd, p.doXget w bp s = { p with hazNow := l, img := { p.img with hist := h, xd := xd } } ∧
      ∀ b, mget dWord64 xd b = match (p.eph.xslot (bpCluster bp) (wSd w % 256) true).bind p.xword with
        | some v => if b = bp then v else mget dWord64 p.img.xd b
        | none => mget dWord64 p.img.xd b := by
  unfold Part.doXget
  dsimp only
  split
  · next hx =>
    obtain ⟨l, hl⟩ := HazOnly.hazard (.refl p) (code := 14) (bp := bp) (opnd := 0) (detail := wSd w % 256)
    exact ⟨l, p.img.hist, p.img.xd, hl, fun b => by rw [hx]; rfl⟩
  · next x hx =>
    have hearly : HazOnly p (if s + 1 + x.f * (p.eph.depth + 16) ≥ x.sendStep + x.budget then p else p.hazard 16 bp 0 (wSd w % 256)) :=
      .ite (.refl p) (.hazard (.refl p))
    obtain ⟨l, hl⟩ := hearly
    rw [hl]
    split
    · next v hv =>
      obtain ⟨h, hh⟩ := Part.noteAt_hist { p with hazNow := l, img := p.img.setXd bp v } bp 4105 p.step
      refine ⟨l, h, mset dWord64 p.img.xd bp v, hh, fun b => ?_⟩
      rw [hx, Option.bind_some, hv]
      exact mget_mset ..
    · next hv => exact ⟨l, p.img.hist, p.img.xd, rfl, fun b => by rw [hx, Option.bind_some, hv]⟩

/-- The row of a class that finds its BP ready executes the slot, and leaves everything else but what the slot word's fetch says of the stack. -/
theorem bpRow_of_ready {cls : Nat → Bool} {bp : BpAddr} {s : State} {n : Fin 8} {e : BpErr} (hd : s.hasDie (bp.toNat / 65536) = true)
    (hr : s.bpReady cls bp.toNat = some n) (hu : e.slotUnc = false) :
    ∃ t, bpRow cls bp e s = .next t ∧ SlotFrame s t n e ∧ t.part n = (s.part n).execSlot bp.toNat e := by
  refine ⟨s.bpStep cls bp.toNat e, by rw [bpRow, hd, guardUnit_true], ?_⟩
  unfold State.bpStep
  rw [hr, hu]
  dsimp only
  generalize hf : s.stackFetch (fun x => x == slotWord bp.toNat (s.part n).step) _ = f
  have hfetch : f = { s with spr := f.spr } := by
    rw [← hf]
    rfl
  have hcorr : HealthOnly s (if e.slotCorr then f.slotsCorrected [bp.toNat] else f) := by
    have h : HealthOnly s f := by
      rw [hfetch]
      exact .spr (.refl s)
    exact .ite (.slotsCorrected h) h
  have hpart : ∀ m, (if e.slotCorr then f.slotsCorrected [bp.toNat] else f).part m = s.part m := fun m => by
    rw [State.part, hcorr.parts, State.part]
  refine ⟨⟨fun m hm => (State.part_setPart_ne _ _ hm).trans (hpart m), hcorr.vlt, hcorr.pending, fun hnone => ?_⟩, ?_⟩
  · rw [hnone, if_neg Bool.false_ne_true, hfetch]
    rfl
  · rw [State.part_modPart_self, hpart]

/-- A BP that is ready for a row has a slot of the row's class. -/
theorem State.cls_of_bpReady {s : State} {cls : Nat → Bool} {bp : Nat} {n : Fin 8} (h : s.bpReady cls bp = some n) :
    cls (wCls ((s.part n).slot bp (s.part n).step)) = true := by
  have hready := List.find?_some h
  simp only [Bool.and_eq_true] at hready
  obtain ⟨⟨-, hcls⟩, -⟩ := hready
  exact hcls

theorem exec_vget (bp : BpAddr) (e : BpErr) (s : State) : exec (.vget bp e) s = bpRow (· == 4) bp e s := rfl
theorem exec_xget (bp : BpAddr) (e : BpErr) (s : State) : exec (.xget bp e) s = bpRow (· == 6) bp e s := rfl
theorem exec_mark (bp : BpAddr) (e : BpErr) (s : State) : exec (.mark bp e) s = bpRow (· == 10) bp e s := rfl
theorem exec_nop (bp : BpAddr) (e : BpErr) (s : State) : exec (.nop bp e) s = bpRow (· == 15) bp e s := rfl

theorem exec_reservedClass (bp : BpAddr) (e : BpErr) (s : State) :
    exec (.reservedClass bp e) s = bpRow (fun c => decide (11 ≤ c) && decide (c ≤ 14)) bp e s := rfl

theorem Part.doClass_vget {p : Part} {w : DWord} {bp s : Nat} (h : wCls w = 4) : p.doClass w bp s = p.doVget w bp s := by
  simp only [Part.doClass, h]

theorem Part.doClass_xget {p : Part} {w : DWord} {bp s : Nat} (h : wCls w = 6) : p.doClass w bp s = p.doXget w bp s := by
  simp only [Part.doClass, h]

/-- MARK records at most a hazard (R99, R100). -/
theorem Part.doClass_mark {p : Part} {w : DWord} {bp s : Nat} (h : wCls w = 10) : HazOnly p (p.doClass w bp s) := by
  rw [Part.doClass, h]
  exact .ite (.ite (.refl p) (.hazard (.refl p))) (.refl p)

theorem Part.doClass_nop {p : Part} {w : DWord} {bp s : Nat} (h : wCls w = 15) : p.doClass w bp s = p := by
  simp only [Part.doClass, h]

/-- A reserved class is noted for the end of the step (R48). -/
theorem Part.doClass_reserved {p : Part} {w : DWord} {bp s : Nat} (h : 11 ≤ wCls w ∧ wCls w ≤ 14) :
    HazOnly { p with reserved := p.reserved ++ [bp] } (p.doClass w bp s) := by
  have hdo : p.doClass w bp s = p.doReserved bp := by
    have hcases : wCls w = 11 ∨ wCls w = 12 ∨ wCls w = 13 ∨ wCls w = 14 := by omega
    rcases hcases with h | h | h | h <;> simp only [Part.doClass, h]
  rw [hdo]
  exact .hazard (.refl _)

end Sys2Proof.Machine

namespace Sys2Proof.Proofs

open Sys2Proof Sys2Proof.Machine Sys2Proof.Statements

/-- Settles O4: each class's effect on the partition that the checks hand it. -/
theorem slotsWithoutResultPath : Obligations.SlotsWithoutResultPath := by
  unfold Obligations.SlotsWithoutResultPath
  intro bp s n e hd hu p w keeps
  obtain ⟨er, cl, l, hslot⟩ := (s.part n).execSlot_of_read bp.toNat hu
  refine ⟨fun hr => ?_, fun hr => ?_, fun hr => ?_, fun hr => ?_, fun hr => ?_⟩
  all_goals
    obtain ⟨t, ht, hframe, hpart⟩ := bpRow_of_ready hd hr hu
    have hcls := State.cls_of_bpReady hr
    rw [hslot] at hpart
  · rw [Part.doClass_vget (by simpa using hcls)] at hpart
    refine ⟨t, ht, hframe, ?_⟩
    rw [hpart]
    exact ⟨⟨rfl, rfl, rfl, rfl, rfl, rfl, rfl, rfl⟩, rfl, rfl⟩
  · rw [Part.doClass_xget (by simpa using hcls)] at hpart
    obtain ⟨l', h, xd, hx, hxd⟩ := (p.noted bp.toNat er cl l).doXget_xd w bp.toNat p.step
    refine ⟨t, ht, hframe, ?_⟩
    rw [hpart, hx]
    exact ⟨⟨rfl, rfl, rfl, rfl, rfl, rfl, rfl, rfl⟩, rfl, hxd⟩
  · have hmark : wCls w = 10 := by simpa using hcls
    obtain ⟨l', hm⟩ := Part.doClass_mark (p := p.noted bp.toNat er cl l) (bp := bp.toNat) (s := p.step) hmark
    refine ⟨t, ht, hframe, ?_⟩
    rw [hpart, hm]
    exact ⟨⟨rfl, rfl, rfl, rfl, rfl, rfl, rfl, rfl⟩, rfl⟩
  · rw [Part.doClass_nop (by simpa using hcls)] at hpart
    refine ⟨t, ht, hframe, ?_⟩
    rw [hpart]
    exact ⟨⟨rfl, rfl, rfl, rfl, rfl, rfl, rfl, rfl⟩, rfl⟩
  · have hres : 11 ≤ wCls w ∧ wCls w ≤ 14 := by simpa using hcls
    obtain ⟨l', hm⟩ := Part.doClass_reserved (p := p.noted bp.toNat er cl l) (bp := bp.toNat) (s := p.step) hres
    refine ⟨t, ht, hframe, ?_⟩
    rw [hpart, hm]
    exact ⟨⟨rfl, rfl, rfl, rfl, rfl, rfl, rfl, rfl⟩, rfl, rfl⟩

end Sys2Proof.Proofs
end

section
/-!
SUPPORT. `Quiet`: the partitions, the recoveries and the power state stand as they were, so that every step clock acts as before (R42, R503).
One lemma per operation that the frame sequencer calls on another unit, in the order of the model's files.
-/
namespace Sys2Proof.Machine

open Sys2Proof Sys2Proof.Statements

/-- Every partition, recovery and the power state stand in t as in s. -/
def Quiet (s t : State) : Prop := t.parts = s.parts ∧ (∀ n, (t.ck n).recov = (s.ck n).recov) ∧ t.pwr = s.pwr

namespace Quiet

theorem refl (s : State) : Quiet s s := ⟨rfl, fun _ => rfl, rfl⟩

variable {s t u : State} {n : Fin 8}

theorem trans (h : Quiet s t) (hu : Quiet t u) : Quiet s u := by
  obtain ⟨hp, hr, hw⟩ := h
  obtain ⟨hp', hr', hw'⟩ := hu
  exact ⟨hp'.trans hp, fun n => (hr' n).trans (hr n), hw'.trans hw⟩

theorem ite {c : Prop} {_ : Decidable c} (ht : Quiet s t) (hu : Quiet s u) : Quiet s (if c then t else u) := by
  split
  exacts [ht, hu]

theorem dite {c : Prop} {_ : Decidable c} {f : c → State} {g : ¬c → State} (hf : ∀ {hc}, Quiet s (f hc)) (hg : ∀ {hc}, Quiet s (g hc)) :
    Quiet s (if hc : c then f hc else g hc) := by
  split
  exacts [hf, hg]

section
variable (h : Quiet s t)
include h

theorem part (m : Fin 8) : t.part m = s.part m := by rw [State.part, h.1, State.part]

theorem recov (m : Fin 8) : (t.ck m).recov = (s.ck m).recov := by
  obtain ⟨-, hr, -⟩ := h
  exact hr m

theorem catchingUp (m : Fin 8) : t.catchingUp m = s.catchingUp m := by
  unfold State.catchingUp
  rw [h.recov m]

theorem awake : t.awake = s.awake := by
  obtain ⟨-, -, hw⟩ := h
  rw [State.awake, hw, State.awake]

/-- A partition's step clock acts as before. -/
theorem cycling (m : Fin 8) : t.cycling m = s.cycling m := by
  rw [State.cycling, h.part, h.catchingUp, h.awake, State.cycling]

theorem foldl {α : Type} {f : State → α → State} {l : List α} (hf : ∀ {v x}, Quiet s v → Quiet s (f v x)) :
    Quiet s (l.foldl f t) := by
  induction l generalizing t with
  | nil => exact h
  | cons x r ih => exact ih (hf h)

/-- A state on the way that several branches go on from. -/
theorem via (hu : Quiet s t → Quiet s u) : Quiet s u := hu h

theorem healthOnly (hu : HealthOnly t u) : Quiet s u := by
  obtain ⟨_, _, _, _, rfl⟩ := hu
  exact h

theorem curOnly (hu : CurOnly t u) : Quiet s u := .healthOnly h (.curOnly (.refl t) hu)

theorem vlt {x : Vlt} : Quiet s { t with vlt := x } := h

theorem plt {x : Plt} : Quiet s { t with plt := x } := h

theorem lnk {x : Lnk} : Quiet s { t with lnk := x } := h

theorem vtr {x : Vtr} : Quiet s { t with vtr := x } := h

theorem tly {x : Tly} : Quiet s { t with tly := x } := h

/-! Sys2Proof/Machine/Ops.lean -/

theorem setReg {a : Nat} {w : Word} : Quiet s (t.setReg a w) := h

theorem setFld {a lo w x : Nat} : Quiet s (t.setFld a lo w x) := h

theorem addFld {a lo w k : Nat} : Quiet s (t.addFld a lo w k) := h

theorem maxFld {a lo w x : Nat} : Quiet s (t.maxFld a lo w x) := h

theorem setReg64 {a x : Nat} : Quiet s (t.setReg64 a x) := h

theorem setCk {c : Ckp} (hc : c.recov = (t.ck n).recov) : Quiet s (t.setCk n c) := by
  refine .trans h ⟨rfl, fun m => ?_, rfl⟩
  rcases eq_or_ne m n with rfl | hm
  · rw [State.ck_setCk_self, hc]
  · rw [State.ck_setCk_ne t c hm]

theorem modCk {f : Ckp → Ckp} (hf : (f (t.ck n)).recov = (t.ck n).recov) : Quiet s (t.modCk n f) := .setCk h hf

/-! Sys2Proof/Machine/Mailbox.lean -/

theorem raiseFrm {bit : Nat} : Quiet s (t.raiseFrm n bit) := .curOnly (.setFld h) (State.irqEdge_curOnly ..)

/-! Sys2Proof/Machine/Vault.lean -/

theorem setVword {bank word : Nat} {v : DWord} : Quiet s (t.setVword bank word v) := h

theorem vltReject {bank requester : Nat} {portE : Bool} : Quiet s (t.vltReject bank requester portE) := .setReg (.addFld h)

theorem vltCorr {bank : Nat} : Quiet s (t.vltCorr bank) := .healthOnly h (.bankCorrected (.addFld (.refl t)))

theorem vltDbe {bank word path : Nat} : Quiet s (t.vltDbe bank word path) := by
  unfold State.vltDbe
  exact .healthOnly (.vlt (.setReg (.addFld h))) (.scoreBank (.refl _))

/-! Sys2Proof/Machine/Photometer.lean -/

theorem setPhm {d : Fin 4} {p : Phm} : Quiet s (t.setPhm d p) := h

theorem tryHandover {d : Fin 4} : Quiet s (t.tryHandover d n) := by
  unfold State.tryHandover
  exact .ite (.ite (.addFld (.setPhm h)) (.setPhm h)) h

theorem gatherFrame {frame : Nat} {acts : List (Nat × Nat)} : Quiet s (t.gatherFrame n frame acts) :=
  .foldl h fun h => .ite (.tryHandover (.setPhm h)) h

/-! Sys2Proof/Machine/Noc.lean, Sys2Proof/Machine/Depot.lean -/

theorem askRead {p : Pkt} : Quiet s (t.askRead p) := h

theorem setPort {i : Fin 8} {p : DPort} : Quiet s (t.setPort i p) := h

theorem mapPorts {f : DPort → DPort} : Quiet s (t.mapPorts f) := h

theorem depotRefuse {owner : Owner} {addr : Nat} {write : Bool} : Quiet s (t.depotRefuse owner addr write) := .ite (.setReg h) h

theorem holdWrite {frame addr : Nat} {data : DWord} : Quiet s (t.holdWrite n frame addr data).1 := by
  dsimp only [State.holdWrite]
  split
  · exact .setPort h
  · split
    exacts [.maxFld (.setPort h), .addFld h]

theorem releaseHeld {frame : Nat} : Quiet s (t.releaseHeld n frame) := by
  unfold State.releaseHeld
  extract_lets c mine copy
  have hports : Quiet t ((List.finRange 8).foldl (fun (u : State) i => u.setPort i (if u.portState i = 4 then
      { u.port i with held := (u.port i).held.filter fun h => !(h.part == n.val && h.frame == frame && !h.released) }
      else (u.port i).release t.nodeOf (fun g => copy.contains g) n.val frame (u.port i).held)) t) :=
    .foldl (.refl t) fun h => .setPort h
  exact .setCk (.trans h hports) (hports.recov n).symm

/-! Sys2Proof/Machine/Lanes.lean, Sys2Proof/Machine/Links.lean -/

theorem setMach {m : Mach} : Quiet s (t.setMach n m) := h

theorem sendFlit {k : Fin 24} {f : FlitBody} : Quiet s (t.sendFlit k f) := by
  unfold State.sendFlit
  split
  exacts [h, h]

theorem sendOn {f : FlitBody} {l : List (Fin 24)} : Quiet s (t.sendOn f l) := by
  induction l generalizing t with
  | nil => exact h
  | cons x r ih => exact ih (.sendFlit h)

theorem takeVotes {k : Fin 24} {frame epoch : Nat} {es : List VoteE} : Quiet s (t.takeVotes n k frame epoch es) := by
  unfold State.takeVotes State.forwardVotes
  exact .ite (.setMach h) (.sendOn (.setMach h))

theorem sendVote : Quiet s (t.sendVote n) := by
  unfold State.sendVote
  exact .ite (.sendOn (.setMach h)) h

theorem sendXtrig {mask : Nat} : Quiet s (t.sendXtrig mask) := by
  unfold State.sendXtrig
  exact .sendOn (.lnk h)

theorem sendWords {k : Fin 24} {chan frame epoch : Nat} {l : List (Nat × List DWord)} : Quiet s (t.sendWords k chan frame epoch l) := by
  induction l generalizing t with
  | nil => exact h
  | cons x r ih => exact ih (.sendFlit h)

theorem sealStep : Quiet s (t.sealStep n) := by
  unfold State.sealStep
  refine .ite h (.foldl h fun h => ?_)
  unfold State.sealLink
  exact .sendWords h

/-! Sys2Proof/Machine/Plates.lean -/

theorem setCap {c : Cap} : Quiet s (t.setCap n c) := h

theorem modCap {f : Cap → Cap} : Quiet s (t.modCap n f) := h

theorem setCapState {v : Nat} : Quiet s (t.setCapState n v) := h

theorem tailsMove : Quiet s (t.tailsMove n) := .foldl h fun h => .ite h (.setFld h)

theorem putUnits {d pos : Nat} {l : List (BitVec 256)} : Quiet s (t.putUnits n d pos l) := by
  induction l generalizing t pos with
  | nil => exact h
  | cons x r ih => exact ih (.plt h)

theorem writeBlock {bd : BlockDue} {key : Bool} {d : Nat} : Quiet s (t.writeBlock n bd key d) := by
  unfold State.writeBlock
  exact .ite (.via (.setFld (.putUnits (.setCap h))) fun h => .ite (.plt (.setFld h)) (.setFld h)) (.addFld (.setCap h))

theorem writeBlocks {bd : BlockDue} {key : Bool} {l : List Nat} : Quiet s (t.writeBlocks n bd key l) := by
  induction l generalizing t with
  | nil => exact h
  | cons x r ih => exact ih (.writeBlock h)

theorem autoTrigger : Quiet s (t.autoTrigger n) := by
  dsimp only [State.autoTrigger]
  refine .ite ?_ h
  split
  exacts [h, h]

theorem blockWrite : Quiet s (t.blockWrite n) := by
  dsimp only [State.blockWrite]
  split
  · exact .autoTrigger h
  · exact .ite (.via (.writeBlocks (.modCap (.setCap (.autoTrigger h)))) fun h => .ite (.tailsMove (.modCap h)) h)
      (.setCap (.autoTrigger h))

theorem closePart {pl : PlateOpen} {last d : Nat} : Quiet s (t.closePart n pl last d) := by
  unfold State.closePart
  exact .ite h (.setCap (.ite (.setFld (.putUnits h)) (.putUnits h)))

theorem closeDue : Quiet s (t.closeDue n) := by
  dsimp only [State.closeDue, State.closePlate]
  split
  · refine .ite ?_ h
    split
    exacts [h, .ite (.setCapState (.addFld (.modCap (.foldl h fun h => .closePart h)))) h]
  · exact h

theorem capFix : Quiet s (t.capFix n) := by
  unfold State.capFix
  exact .setCap h

theorem capRelease {f tb : Nat} : Quiet s (t.capRelease n f tb) := by
  have hsettled : Quiet s (t.capSettle n) := .closeDue (.blockWrite h)
  dsimp only [State.capRelease]
  split
  · exact .setCap hsettled
  · exact .via (.ite (.setFld (.plt hsettled)) hsettled) fun h => .via (.ite (.sendXtrig h) h) fun h => .via (.ite (.addFld h) h)
      fun h => .foldl (.setFld (.ite (.setCapState (.setCap h)) (.setCap h))) fun h => .ite h (.setFld h)

theorem capDiscard {fromF : Nat} : Quiet s (t.capDiscard n fromF) := by
  dsimp only [State.capDiscard]
  split
  exacts [.setCap h, h]

/-! Sys2Proof/Machine/Vitrine.lean -/

theorem notePace : Quiet s (t.notePace n) := h

theorem vtrRelease {outv : List (Nat × Bool)} : Quiet s (t.vtrRelease n outv) := by
  have hregions : ∀ {l : List (Fin 8)} {u : State}, Quiet s u → Quiet s (u.releaseRegions n l) := by
    intro l
    induction l with
    | nil => exact id
    | cons x r ih => exact fun h => ih (.ite (.setFld (.vtr (.ite (.addFld h) h))) h)
  unfold State.vtrRelease
  exact hregions (.vtr (.vtr h))

/-! Sys2Proof/Machine/Consistency.lean -/

theorem recRelease {f : Nat} {outv : List (Nat × Bool)} : Quiet s (t.recRelease n f outv) := by
  unfold State.recRelease State.recPush
  exact .modCk (.ite (.modCk h rfl) h) rfl

/-! Sys2Proof/Machine/Tally.lean -/

theorem writePeriodRecs {early : Bool} {endTicks wallEnd : Nat} {l : List TlyRow} :
    Quiet s (t.writePeriodRecs early endTicks wallEnd l) := by
  induction l generalizing t with
  | nil => exact h
  | cons x r ih =>
    unfold State.writePeriodRecs State.writePeriodRec
    exact ih (.tly (.foldl h fun h => .setVword h))

theorem tallyAdd {run stall frames energy : Nat} : Quiet s (t.tallyAdd n run stall frames energy) := by
  unfold State.tallyAdd State.closePeriod
  exact .ite h (.tly (.ite (.ite (.tly (.writePeriodRecs h)) (.addFld (.tly h))) h))

/-! Sys2Proof/Machine/Sequencer.lean -/

theorem countIso {ds : List Deliv} : Quiet s (t.countIso ds) := .foldl h fun h => .ite h (.addFld h)

theorem noteStack {env : StepEnv} : Quiet s (t.noteStack n env) := by
  unfold State.noteStack
  exact .healthOnly h (.slotsCorrected (.spr (.refl t)))

theorem noteXgets : Quiet s (t.noteXgets n) := by
  unfold State.noteXgets
  exact .ite (.modCk h rfl) h

theorem actAtC4 {fresh : Bool} {ws : List (Nat × Bool)} {deps : List Deposit} {l : List (Fin 36 × Begun)} :
    Quiet s (t.actAtC4 n fresh ws deps l) := by
  induction l generalizing t with
  | nil => exact h
  | cons x r ih =>
    unfold State.actAtC4
    refine ih ?_
    split
    exacts [.ite h h, .ite h h, h]

theorem chargeAbort {c : Nat} : Quiet s (t.chargeAbort n c) := by
  unfold State.chargeAbort
  split
  exacts [.healthOnly h (.chargeAll (.refl t)), h]

theorem answerReleased {c : Nat} : Quiet s (t.answerReleased n c) := .curOnly h (State.answerAll_curOnly ..)

theorem replayCheck {e : RecE} {crc : Word} : Quiet s (t.replayCheck n e crc) := .ite h (.setReg64 (.setFld h))

end

end Quiet
end Sys2Proof.Machine
end

section
/-!
SUPPORT. A cycle of one partition's sequencer (R32, R42): `Quiet (s.setPart n q) t` says that t is as s with partition n at q, as far as any
step clock looks.  What a commit step starts from, and what its row leaves; what the deliveries, the lattice and the hazard monitor change.
-/
namespace Sys2Proof.Machine

open Sys2Proof Sys2Proof.Statements

@[simp] theorem State.setPart_setPart (s : State) (n : Fin 8) (p q : Part) : (s.setPart n p).setPart n q = s.setPart n q := by
  simp only [State.setPart, vset_vset]

namespace Quiet

variable {s t u : State} {n : Fin 8} {p q : Part}

/-- A state is as itself with the partition that it has. -/
theorem start (s : State) (n : Fin 8) : Quiet (s.setPart n (s.part n)) s := by
  refine ⟨?_, fun _ => rfl, rfl⟩
  simp [State.setPart, State.part, vset, vget]

section
variable (h : Quiet (s.setPart n p) t)
include h

theorem part_eq : t.part n = p := by rw [h.part, State.part_setPart_self]

theorem partsBut : PartsBut s t n := fun m hm => by rw [h.part, State.part_setPart_ne s p hm]

theorem setPart : Quiet (s.setPart n q) (t.setPart n q) := by
  obtain ⟨hp, hr, hw⟩ := h
  refine ⟨?_, hr, hw⟩
  show vset t.parts n q = vset s.parts n q
  rw [hp]
  exact vset_vset ..

theorem modPart {f : Part → Part} : Quiet (s.setPart n (f p)) (t.modPart n f) := by
  have hf : t.modPart n f = t.setPart n (f p) := by rw [State.modPart_eq, h.part_eq]
  rw [hf]
  exact h.setPart

end

end Quiet

/-- The next step of the partition. -/
def Part.stepped (p : Part) : Part := { p with step := p.step + 1 }

/-- A cycle in which nothing is absent ends a stall and counts as a run step (R44, R516). -/
def Part.counted (p : Part) : Part := { p with stalled := false, stallLen := 0, stallCause := 0, runSteps := p.runSteps + 1 }

/-- A cycle at a commit step with nothing absent is the step's duty (R32). -/
theorem State.seqCycle_of_atCommit {s : State} {n : Fin 8} {k : Nat} (h : AtCommit s n k) (env : StepEnv) :
    s.seqCycle n env = (s.setPart n (s.part n).counted).commitStep n k env := by
  obtain ⟨hcyc, hbd, hstep, habs⟩ := h
  have hk : (s.part n).step - (s.part n).eph.depth = k := by omega
  have hpast : ¬ (s.part n).step < (s.part n).eph.depth := by omega
  unfold State.seqCycle Part.counted
  dsimp only
  rw [if_pos hcyc, hbd, if_neg Bool.false_ne_true, habs, if_neg (by simp), if_neg (by simp [hpast])]
  dsimp only
  rw [if_neg hpast, hk]

/-- The partitions that a row of a commit step leaves are those that its duty leaves, with the step counter one on. -/
theorem commitRow_moves_parts {s u : State} {n : Fin 8} {k : Nat} {c : Instr} {q : Part} (hc : exec c s = .next (s.cycleAt n k {}))
    (h : AtCommit s n k) (hduty : (s.setPart n (s.part n).counted).commitStep n k {} = u.modPart n Part.stepped)
    (hq : u.parts = (s.setPart n q).parts) (hstep : q.step = (s.part n).step) (heph : q.eph = (s.part n).eph) :
    ∃ t, exec c s = .next t ∧ OnTo s t n (k + 1) ∧ t.part n = q.stepped := by
  have hun : u.part n = q := by rw [State.part, hq, ← State.part, State.part_setPart_self]
  have ht : (s.seqCycle n {}).parts = (s.setPart n q.stepped).parts := by
    rw [State.seqCycle_of_atCommit h, hduty, State.modPart_eq, hun]
    show vset u.parts n q.stepped = vset s.parts n q.stepped
    rw [hq]
    exact vset_vset ..
  have hpart : (s.seqCycle n {}).part n = q.stepped := by rw [State.part, ht, ← State.part, State.part_setPart_self]
  obtain ⟨-, hpend, hvar⟩ : Keeps s (s.seqCycle n {}) := .seqCycle (.refl s)
  obtain ⟨-, -, hk, -⟩ := h
  refine ⟨_, by rw [hc, State.cycleAt_of_step hk], ⟨?_, by rw [hpart]; exact heph, fun m hm => ?_, hpend, hvar⟩, hpart⟩
  · rw [hpart, Part.stepped, hstep, hk, Nat.add_assoc]
  · rw [State.part, ht, ← State.part, State.part_setPart_ne s q.stepped hm]

/-- What the row of a commit step leaves is what its duty leaves, with the step counter one on. -/
theorem commitRow_moves {s u : State} {n : Fin 8} {k : Nat} {c : Instr} {q : Part} (hc : exec c s = .next (s.cycleAt n k {}))
    (h : AtCommit s n k) (hduty : (s.setPart n (s.part n).counted).commitStep n k {} = u.modPart n Part.stepped)
    (hq : Quiet (s.setPart n q) u) (hstep : q.step = (s.part n).step) (heph : q.eph = (s.part n).eph) :
    ∃ t, exec c s = .next t ∧ OnTo s t n (k + 1) ∧ t.part n = q.stepped :=
  commitRow_moves_parts hc h hduty hq.1 hstep heph

/-- What the step clock looks at in its partition. -/
def Part.clock (p : Part) : PState × Option PHold × List BHold × Bool × Eph := (p.state, p.held, p.bholds, p.bdone, p.eph)

/-- At a commit step that waits for nothing the partition stands as at the one before it, if its clock still acts (R41, R42). -/
theorem atCommit_of_quiet {s t : State} {n : Fin 8} {j k : Nat} {q : Part} (h : AtCommit s n j) (ht : Quiet (s.setPart n q) t)
    (hclock : q.clock = (s.part n).clock) (hstep : q.step = (s.part n).eph.depth + k) (hk : k ≠ 3 ∧ k ≠ 9 ∧ k ≠ 15) :
    AtCommit t n k := by
  obtain ⟨hcyc, hbd, -, -⟩ := h
  obtain ⟨hk3, hk9, hk15⟩ := hk
  simp only [Part.clock, Prod.mk.injEq] at hclock
  obtain ⟨hstate, hheld, hbh, hdone, heph⟩ := hclock
  have hcatch : t.catchingUp n = s.catchingUp n := ht.catchingUp n
  refine ⟨?_, by rw [ht.part_eq, hdone, hbd], by rw [ht.part_eq, heph, hstep], ?_⟩
  · rw [← hcyc, State.cycling, State.cycling, ht.part_eq, hcatch, ht.awake, hstate, hheld, hbh]
    rfl
  · unfold State.absentAt
    dsimp only
    rw [ht.part_eq, heph, hstep]
    simp only [Nat.add_left_cancel_iff, hk3, hk9, hk15, if_false, ite_self,
      show ¬ (s.part n).eph.depth + k < (s.part n).eph.depth by omega]

end Sys2Proof.Machine
end

section
/-!
SUPPORT. C9 (R33, R34): what raising the epoch changes of a partition, and what each kind of decision leaves.
-/
namespace Sys2Proof.Machine

open Sys2Proof Sys2Proof.Statements

namespace Quiet

variable {s t : State} {n : Fin 8} {p : Part} (h : Quiet (s.setPart n p) t)
include h

/-- An exchange word that arrives is held for the partition's own slots (R127). -/
theorem holdWords {k : Fin 24} {frame epoch mslot : Nat} {l : List DWord} :
    ∃ xs, Quiet (s.setPart n { p with xheld := xs }) (t.holdWords n k frame epoch mslot l) := by
  induction l generalizing p t mslot with
  | nil => exact ⟨p.xheld, h⟩
  | cons w r ih =>
    have hword : ∃ xs, Quiet (s.setPart n { p with xheld := xs }) (t.holdWord n k frame epoch mslot w) := by
      dsimp only [State.holdWord]
      rw [h.part_eq]
      split
      exacts [⟨p.xheld, .addFld h⟩, ⟨_, h.setPart⟩]
    obtain ⟨_, hw⟩ := hword
    exact ih hw

theorem takeFlit {k : Fin 24} {f : FlitBody} : ∃ xs, Quiet (s.setPart n { p with xheld := xs }) (t.takeFlit n k f) := by
  dsimp only [State.takeFlit]
  split
  exacts [h.holdWords, ⟨p.xheld, .setMach h⟩, ⟨p.xheld, .takeVotes h⟩, ⟨p.xheld, h⟩]

theorem takeAside {l : List (Nat × FlitBody)} : ∃ xs, Quiet (s.setPart n { p with xheld := xs }) (t.takeAside n l) := by
  induction l generalizing p t with
  | nil => exact ⟨p.xheld, h⟩
  | cons x r ih =>
    have hflit : ∃ xs, Quiet (s.setPart n { p with xheld := xs })
        (if hk : x.1 < 24 then t.takeFlit n ⟨x.1, hk⟩ x.2 else t) := by
      split
      exacts [h.takeFlit, ⟨p.xheld, h⟩]
    obtain ⟨_, hx⟩ := hflit
    obtain ⟨xs, hxs⟩ := ih hx
    exact ⟨xs, hxs⟩

/-- A raised epoch drops held words of the frames from it on, and takes what came before its time (R240, R244). -/
theorem raiseEpoch {from_ : Nat} : ∃ xs, Quiet (s.setPart n { p with xheld := xs }) (t.raiseEpoch n from_) := by
  unfold State.raiseEpoch
  exact takeAside (Quiet.modPart (.setMach h))

theorem raiseEpoch_unless {c : Prop} {_ : Decidable c} {from_ : Nat} :
    ∃ xs, Quiet (s.setPart n { p with xheld := xs }) (if c then t else t.raiseEpoch n from_) := by
  split
  exacts [⟨p.xheld, h⟩, h.raiseEpoch]

end Quiet

/-- What C9 changes of a partition: its decision, and what an abort or a halt takes with it (R33, R34, R46). -/
def DecidedAs (p q : Part) (d : Option (Nat × Bool)) : Prop :=
  ∃ own hp hh dn er xs, q = { p with
    decision := d, ownAbort := own, haltPend := hp, haltHaz := hh, decidesNone := dn, errReg := er, xheld := xs }

theorem decided_modPart {s t : State} {n : Fin 8} {p : Part} {f : Part → Part} {d : Option (Nat × Bool)}
    (h : ∃ xs, Quiet (s.setPart n { p with xheld := xs }) t) (hf : ∀ xs, DecidedAs p (f { p with xheld := xs }) d) :
    ∃ q, DecidedAs p q d ∧ Quiet (s.setPart n q) (t.modPart n f) := by
  obtain ⟨xs, hx⟩ := h
  exact ⟨_, hf xs, hx.modPart⟩

theorem State.decideStep_catchUp {s : State} {n : Fin 8} (hc : s.catchingUp n = true) :
    Quiet (s.setPart n { s.part n with
      decision := some ((s.part n).cur, decide ((s.part n).errReg.toNat % 16 = 0)), haltPend := [] }) (s.decideStep n) := by
  unfold State.decideStep
  dsimp only
  rw [if_pos hc]
  exact Quiet.modPart (.ite (.start s n) (.chargeAbort (.start s n)))

theorem State.decideStep_alone {s : State} {n : Fin 8} (hc : s.catchingUp n = false) (hs : (s.part n).eph.spans = false) :
    ∃ q, DecidedAs (s.part n) q (some ((s.part n).cur, decide ((s.part n).errReg.toNat % 16 = 0))) ∧
      Quiet (s.setPart n q) (s.decideStep n) := by
  unfold State.decideStep
  dsimp only
  rw [hc, if_neg Bool.false_ne_true, hs, if_pos (by decide)]
  by_cases he : (s.part n).errReg.toNat % 16 = 0
  · rw [if_neg (not_not.mpr he), decide_eq_true he]
    exact ⟨_, ⟨_, _, _, _, _, _, rfl⟩, .refl _⟩
  · rw [if_pos he, decide_eq_false he]
    exact ⟨_, ⟨_, _, _, _, _, _, rfl⟩, Quiet.modPart (.chargeAbort (.start s n))⟩

theorem State.decideStep_none {s : State} {n : Fin 8} (hc : s.catchingUp n = false) (hs : (s.part n).eph.spans = true)
    (hd : (s.part n).decidesNone = true) :
    ∃ q, DecidedAs (s.part n) q none ∧ Quiet (s.setPart n q) (s.decideStep n) := by
  unfold State.decideStep
  dsimp only
  rw [hc, if_neg Bool.false_ne_true, hs, if_neg (by decide), if_pos hd]
  exact ⟨_, ⟨_, _, _, _, _, _, rfl⟩, .refl _⟩

theorem State.decideStep_votes {s : State} {n : Fin 8} (hc : s.catchingUp n = false) (hs : (s.part n).eph.spans = true)
    (hd : (s.part n).decidesNone = false) :
    ∃ q, DecidedAs (s.part n) q (some ((s.part n).cur - 1, !(s.votesFor n ((s.part n).cur - 1)).any (·.abort))) ∧
      Quiet (s.setPart n q) (s.decideStep n) := by
  unfold State.decideStep
  dsimp only
  rw [hc, if_neg Bool.false_ne_true, hs, if_neg (by decide), hd, if_neg Bool.false_ne_true]
  cases ha : (s.votesFor n ((s.part n).cur - 1)).any (·.abort) with
  | true =>
    rw [if_pos rfl]
    exact decided_modPart (Quiet.raiseEpoch (.ite (.chargeAbort (.start s n)) (.start s n))) fun _ => ⟨_, _, _, _, _, _, rfl⟩
  | false =>
    rw [if_neg Bool.false_ne_true]
    refine decided_modPart (Quiet.raiseEpoch_unless ?_) fun _ => ⟨_, _, _, _, _, _, rfl⟩
    split
    exacts [.ite (.start s n) (.setReg (.start s n)), .start s n]

end Sys2Proof.Machine

namespace Sys2Proof.Proofs

open Sys2Proof Sys2Proof.Machine Sys2Proof.Statements

/-- Settles O8: the decision of each kind of frame, carried through the row of C9. -/
theorem decisionAtC9 : Obligations.DecisionAtC9 := by
  unfold Obligations.DecisionAtC9
  intro s n h
  let u := s.setPart n (s.part n).counted
  have hu : u.part n = (s.part n).counted := State.part_setPart_self ..
  have hrow : ∀ {q : Part} {d : Option (Nat × Bool)}, DecidedAs (s.part n).counted q d → Quiet (u.setPart n q) (u.decideStep n) →
      ∃ t, exec (.commitDecision n) s = .next t ∧ OnTo s t n 10 ∧ (t.part n).img = (s.part n).img ∧ (t.part n).decision = d ∧
        (t.part n).haltPend = q.haltPend := by
    rintro q d ⟨own, hp, hh, dn, er, xs, rfl⟩ hq
    rw [State.setPart_setPart] at hq
    obtain ⟨t, ht, honto, hpart⟩ := commitRow_moves (exec_commitDecision n s) h rfl hq rfl rfl
    exact ⟨t, ht, honto, by rw [hpart]; rfl, by rw [hpart]; rfl, by rw [hpart]; rfl⟩
  cases hc : s.catchingUp n with
  | true =>
    have hd := State.decideStep_catchUp (s := u) (n := n) hc
    rw [hu] at hd
    obtain ⟨t, ht, honto, himg, hdec, hhalt⟩ := hrow ⟨_, _, _, _, _, _, rfl⟩ hd
    exact ⟨t, ht, honto, himg, fun _ => ⟨hdec, hhalt⟩, fun hf => absurd hf (by decide)⟩
  | false =>
    have hfalse : ∀ {P : Prop}, false = true → P := fun hf => absurd hf (by decide)
    cases hs : (s.part n).eph.spans with
    | false =>
      obtain ⟨q, hd, hq⟩ := State.decideStep_alone (s := u) (n := n) hc (by rw [hu]; exact hs)
      rw [hu] at hd
      obtain ⟨t, ht, honto, himg, hdec, -⟩ := hrow hd hq
      exact ⟨t, ht, honto, himg, hfalse, fun _ => ⟨fun _ => hdec, hfalse, hfalse⟩⟩
    | true =>
      cases hn : (s.part n).decidesNone with
      | true =>
        obtain ⟨q, hd, hq⟩ := State.decideStep_none (s := u) (n := n) hc (by rw [hu]; exact hs) (by rw [hu]; exact hn)
        rw [hu] at hd
        obtain ⟨t, ht, honto, himg, hdec, -⟩ := hrow hd hq
        exact ⟨t, ht, honto, himg, hfalse, fun _ => ⟨fun hf => hfalse hf.symm, fun _ _ => hdec, fun _ hf => hfalse hf.symm⟩⟩
      | false =>
        obtain ⟨q, hd, hq⟩ := State.decideStep_votes (s := u) (n := n) hc (by rw [hu]; exact hs) (by rw [hu]; exact hn)
        rw [hu] at hd
        obtain ⟨t, ht, honto, himg, hdec, -⟩ := hrow hd hq
        exact ⟨t, ht, honto, himg, hfalse, fun _ => ⟨fun hf => hfalse hf.symm, fun _ => hfalse, fun _ _ => hdec⟩⟩

end Sys2Proof.Proofs
end

section
/-!
SUPPORT. C10 and C11 (R32 to R35): the two halves of a working store and what their joining reads, and what a copy into a bank and a restore
from one leave.
-/
namespace Sys2Proof

theorem mget_of_unlisted {α : Type} (d : Nat → α) {k : Nat} : ∀ {l : List (Nat × α)}, (∀ e ∈ l, e.1 ≠ k) → mget d l k = d k
  | [], _ => rfl
  | (a, v) :: r, h => by
    have hk : k ≠ a := fun e => h (a, v) List.mem_cons_self e.symm
    rw [mget, if_neg hk, mget_of_unlisted d fun e he => h e (List.mem_cons_of_mem _ he)]

/-- Keeping the entries of some keys keeps what those keys read. -/
theorem mget_filter_key {α : Type} (d : Nat → α) (P : Nat → Bool) {k : Nat} (hk : P k = true) :
    ∀ l : List (Nat × α), mget d (l.filter fun x => P x.1) k = mget d l k
  | [] => rfl
  | (a, v) :: r => by
    have ih := mget_filter_key d P hk r
    by_cases ha : P a = true
    · rw [List.filter_cons_of_pos (p := fun x : Nat × α => P x.1) ha, mget, mget, ih]
    · have hne : k ≠ a := fun e => ha (e ▸ hk)
      rw [List.filter_cons_of_neg (p := fun x : Nat × α => P x.1) ha, ih, mget, if_neg hne]

theorem lt_of_mem_mwfFrom {α : Type} [DecidableEq α] (d : Nat → α) :
    ∀ {l : List (Nat × α)} {lo : Nat}, mwfFrom d (some lo) l = true → ∀ e ∈ l, lo < e.1
  | [], _, _, e, he => absurd he List.not_mem_nil
  | (a, v) :: r, lo, h, e, he => by
    rw [mwfFrom_cons, Bool.and_eq_true, Bool.and_eq_true] at h
    obtain ⟨⟨hlo, -⟩, hr⟩ := h
    have hla : lo < a := of_decide_eq_true hlo
    rcases List.mem_cons.mp he with rfl | he
    · exact hla
    · exact hla.trans (lt_of_mem_mwfFrom d hr e he)

/-- Stored on top of a store, a canonical list reads as by itself where it lists a key, and elsewhere the store reads through. -/
theorem mget_msetAll_mwfFrom {α : Type} [DecidableEq α] (d : Nat → α) {k : Nat} :
    ∀ (l m : List (Nat × α)) {lo : Option Nat}, mwfFrom d lo l = true → mget d m k = d k → mget d (msetAll d m l) k = mget d l k
  | [], m, _, _, hm => hm
  | (a, v) :: r, m, lo, h, hm => by
    rw [mwfFrom_cons, Bool.and_eq_true] at h
    obtain ⟨-, hr⟩ := h
    rw [msetAll, mget]
    split
    · next hk =>
      rw [mget_msetAll_ne d r _ fun e he => by have := lt_of_mem_mwfFrom d hr e he; omega, hk, mget_mset_self]
    · next hk => exact mget_msetAll_mwfFrom d r _ hr ((mget_mset_ne d m v hk).trans hm)

end Sys2Proof

namespace Sys2Proof.Machine

open Sys2Proof Sys2Proof.Statements

/-- A key of the half that is written over reads as there. -/
theorem mget_joinWs_base {low : Bool} (a b : List (Nat × Bool)) {k : Nat} (hk : decide (k % 2048 < 1024) = low) :
    mget dBit (joinWs (halfWs low a) (halfWs (!low) b)) k = mget dBit a k := by
  have hother : ∀ e ∈ halfWs (!low) b, e.1 ≠ k := by
    rintro e he rfl
    rw [halfWs, List.mem_filter, hk] at he
    cases low <;> exact absurd he.2 (by decide)
  rw [joinWs, mget_msetAll_ne dBit _ _ hother]
  exact mget_filter_key dBit (fun x => decide (x % 2048 < 1024) == low) (by rw [hk, beq_self_eq_true]) a

/-- A key of the other half reads as in the store it comes from. -/
theorem mget_joinWs_other {low : Bool} (a : List (Nat × Bool)) {b : List (Nat × Bool)} (hb : mwf dBit b = true) {k : Nat}
    (hk : decide (k % 2048 < 1024) = !low) : mget dBit (joinWs (halfWs low a) (halfWs (!low) b)) k = mget dBit b k := by
  have hbase : ∀ e ∈ halfWs low a, e.1 ≠ k := by
    rintro e he rfl
    rw [halfWs, List.mem_filter, hk] at he
    cases low <;> exact absurd he.2 (by decide)
  have hhalf : mwf dBit (halfWs (!low) b) = true := mwf_filter dBit _ hb
  rw [joinWs, mget_msetAll_mwfFrom dBit _ _ hhalf (mget_of_unlisted dBit hbase)]
  exact mget_filter_key dBit (fun x => decide (x % 2048 < 1024) == !low) (by rw [hk, beq_self_eq_true]) b

theorem mwf_joinWs {low low' : Bool} {a : List (Nat × Bool)} (b : List (Nat × Bool)) (ha : mwf dBit a = true) :
    mwf dBit (joinWs (halfWs low a) (halfWs low' b)) = true :=
  mwf_msetAll dBit _ _ (mwf_filter dBit _ ha)

/-- A canonical store moved half by half reads as itself, whatever the halves are joined with on the way (R32). -/
theorem sameStore_bothHalves {a : List (Nat × Bool)} (ha : mwf dBit a = true) (b : List (Nat × Bool)) :
    SameStore dBit (joinWs (halfWs false a) (halfWs true (joinWs (halfWs true a) (halfWs false b)))) a := by
  intro k
  cases hk : decide (k % 2048 < 1024) with
  | false => exact mget_joinWs_base (low := false) a _ hk
  | true => exact (mget_joinWs_other (low := false) a (mwf_joinWs b ha) hk).trans (mget_joinWs_base (low := true) a b hk)

theorem Part.shadow_setShadow_self (p : Part) (m : Nat) (i : Img) (bad : List Nat) : (p.setShadow m i bad).shadow m = i := by
  unfold Part.setShadow Part.shadow
  split <;> rfl

theorem Part.shadow_setShadow_ne (p : Part) {m k : Nat} (i : Img) (bad : List Nat) (h : k % 2 ≠ m % 2) :
    (p.setShadow m i bad).shadow k = p.shadow k := by
  unfold Part.setShadow Part.shadow
  by_cases hm : m % 2 = 0
  · rw [if_pos hm, if_neg (by omega), if_neg (by omega)]
  · rw [if_neg hm, if_pos (by omega), if_pos (by omega)]

/-- A bank replaced leaves everything but the two banks. -/
theorem Part.setShadow_banks (p : Part) (m : Nat) (i : Img) (bad : List Nat) :
    ∃ i0 i1 b0 b1, p.setShadow m i bad = { p with shadow0 := i0, shadow1 := i1, shadowBad0 := b0, shadowBad1 := b1 } := by
  unfold Part.setShadow
  split
  exacts [⟨_, _, _, _, rfl⟩, ⟨_, _, _, _, rfl⟩]

/-- Half of a copy into the bank of the next frame: C10 with `low`, C11 without (R32, R33). -/
def Part.copyHalf (p : Part) (low : Bool) (copyPar : List Nat) : Part :=
  let old := p.shadow (p.cur + 1)
  let ws := joinWs (halfWs low p.img.ws) (halfWs (!low) old.ws)
  { p with step := p.step + 1, carry := p.carry || !copyPar.isEmpty }.setShadow (p.cur + 1)
    (if low then { old with ws := ws } else { p.img with ws := ws })
    (if low then copyPar else p.shadowBad (p.cur + 1) ++ copyPar)

/-- Half of a restore from bank f (R35). -/
def Part.restoreHalf (p : Part) (low : Bool) (f : Nat) : Part :=
  let ws := joinWs (halfWs low (p.shadow f).ws) (halfWs (!low) p.img.ws)
  { p with img := if low then { p.img with ws := ws } else { p.shadow f with ws := ws }, step := p.step + 1 }

theorem State.shadowStep_copies {s : State} {n : Fin 8} (h : (s.part n).restoreFrom = none) (low : Bool) (env : StepEnv) :
    Quiet (s.setPart n ((s.part n).copyHalf low env.copyPar)) (s.shadowStep n low env) := by
  unfold State.shadowStep
  dsimp only
  rw [h]
  exact .healthOnly (.refl _) (.chargeAll (.refl _))

theorem State.shadowStep_restores {s : State} {n : Fin 8} {f : Nat} (h : (s.part n).restoreFrom = some f)
    (hgood : (s.part n).shadowBad f = []) {env : StepEnv} (hread : env.restoreUnc = []) (low : Bool) :
    Quiet (s.setPart n ((s.part n).restoreHalf low f)) (s.shadowStep n low env) := by
  unfold State.shadowStep
  dsimp only
  rw [h]
  dsimp only
  rw [hgood, hread, if_neg (by cases low <;> decide)]
  exact .refl _

/-- Two halves of a copy leave the partition's own stores, and the bank of its frame (R33). -/
theorem Part.copyHalf_frame (p : Part) (low : Bool) (copyPar : List Nat) :
    (p.copyHalf low copyPar).step = p.step + 1 ∧ (p.copyHalf low copyPar).img = p.img ∧ (p.copyHalf low copyPar).cur = p.cur ∧
      (p.copyHalf low copyPar).clock = p.clock ∧ (p.copyHalf low copyPar).restoreFrom = p.restoreFrom ∧
      (p.copyHalf low copyPar).shadow p.cur = p.shadow p.cur := by
  obtain ⟨i0, i1, b0, b1, hb⟩ := Part.setShadow_banks { p with step := p.step + 1, carry := p.carry || !copyPar.isEmpty } (p.cur + 1)
    (if low then { p.shadow (p.cur + 1) with ws := joinWs (halfWs low p.img.ws) (halfWs (!low) (p.shadow (p.cur + 1)).ws) }
      else { p.img with ws := joinWs (halfWs low p.img.ws) (halfWs (!low) (p.shadow (p.cur + 1)).ws) })
    (if low then copyPar else p.shadowBad (p.cur + 1) ++ copyPar)
  have hbank : (p.copyHalf low copyPar).shadow p.cur = p.shadow p.cur := Part.shadow_setShadow_ne _ _ _ (by omega)
  refine ⟨?_, ?_, ?_, ?_, ?_, hbank⟩ <;> (unfold Part.copyHalf; dsimp only; rw [hb]) <;> rfl

/-- What a cycle leaves of the partition, and then another one, is left by both. -/
theorem Quiet.thenPart {s t u : State} {n : Fin 8} {p q : Part} (h : Quiet (s.setPart n p) t) (h' : Quiet (t.setPart n q) u) :
    Quiet (s.setPart n q) u :=
  .trans h.setPart h'

/-- A row's cycle at its step is the step's duty (R32), on a state in which the cycle has counted. -/
theorem Quiet.cycleAt {s t : State} {n : Fin 8} {k : Nat} {q : Part} (hq : Quiet (s.setPart n q) t) (hat : AtCommit t n k)
    (env : StepEnv) : ∃ u, Quiet (s.setPart n q.counted) u ∧ t.cycleAt n k env = u.commitStep n k env := by
  obtain ⟨-, -, hstep, -⟩ := id hat
  refine ⟨t.setPart n q.counted, hq.setPart, ?_⟩
  rw [State.cycleAt_of_step hstep, State.seqCycle_of_atCommit hat, hq.part_eq]

theorem Part.step_of_atCommit {s : State} {n : Fin 8} {k : Nat} (h : AtCommit s n k) : (s.part n).step = (s.part n).eph.depth + k := by
  obtain ⟨-, -, hstep, -⟩ := h
  exact hstep

/-- C10 and C11 of a frame that goes on: both halves of the copy (R33). -/
theorem shadowCopy_copies {s : State} {n : Fin 8} (h : AtCommit s n 10) (hr : (s.part n).restoreFrom = none) (env : StepEnv) :
    Quiet (s.setPart n (((s.part n).counted.copyHalf true env.copyPar).counted.copyHalf false env.copyPar))
      ((s.cycleAt n 10 env).cycleAt n 11 env) := by
  have hhalf : ∀ (low : Bool) {p : Part} {u : State}, p.restoreFrom = none → Quiet (s.setPart n p) u →
      Quiet (s.setPart n (p.copyHalf low env.copyPar)) (u.shadowStep n low env) := fun low _ _ hp hu => by
    have hd := State.shadowStep_copies (by rw [hu.part_eq]; exact hp) low env
    rw [hu.part_eq] at hd
    exact hu.thenPart hd
  have h1 : Quiet (s.setPart n ((s.part n).counted.copyHalf true env.copyPar)) (s.cycleAt n 10 env) := by
    obtain ⟨u, hu, he⟩ := Quiet.cycleAt (.start s n) h env
    rw [he]
    exact hhalf true hr hu
  obtain ⟨hstep, -, -, hclock, hfrom, -⟩ := (s.part n).counted.copyHalf_frame true env.copyPar
  have h11 : AtCommit (s.cycleAt n 10 env) n 11 :=
    atCommit_of_quiet h h1 hclock (hstep.trans (congrArg (· + 1) (Part.step_of_atCommit h))) (by decide)
  obtain ⟨u, hu, he⟩ := h1.cycleAt h11 env
  rw [he]
  exact hhalf false (hfrom.trans hr) hu

/-- C10 and C11 after an abort: both halves of the restore from a bank that reads well (R35). -/
theorem shadowCopy_restores {s : State} {n : Fin 8} (h : AtCommit s n 10) {f : Nat} (hr : (s.part n).restoreFrom = some f)
    (hgood : (s.part n).shadowBad f = []) {env : StepEnv} (hread : env.restoreUnc = []) :
    Quiet (s.setPart n (((s.part n).counted.restoreHalf true f).counted.restoreHalf false f))
      ((s.cycleAt n 10 env).cycleAt n 11 env) := by
  have hhalf : ∀ (low : Bool) {p : Part} {u : State}, p.restoreFrom = some f → p.shadowBad f = [] → Quiet (s.setPart n p) u →
      Quiet (s.setPart n (p.restoreHalf low f)) (u.shadowStep n low env) := fun low _ _ hp hbad hu => by
    have hd := State.shadowStep_restores (by rw [hu.part_eq]; exact hp) (by rw [hu.part_eq]; exact hbad) hread low
    rw [hu.part_eq] at hd
    exact hu.thenPart hd
  have h1 : Quiet (s.setPart n ((s.part n).counted.restoreHalf true f)) (s.cycleAt n 10 env) := by
    obtain ⟨u, hu, he⟩ := Quiet.cycleAt (.start s n) h env
    rw [he]
    exact hhalf true hr hgood hu
  have h11 : AtCommit (s.cycleAt n 10 env) n 11 :=
    atCommit_of_quiet h h1 rfl (congrArg (· + 1) (Part.step_of_atCommit h)) (by decide)
  obtain ⟨u, hu, he⟩ := h1.cycleAt h11 env
  rw [he]
  exact hhalf false hr hgood hu

/-- Two halves of a copy of a canonical store leave it in the bank of the next frame (R33). -/
theorem Part.shadow_copyHalf_twice (p : Part) (hws : mwf dBit p.img.ws = true) (a b : List Nat) :
    ∃ ws, ((p.copyHalf true a).counted.copyHalf false b).shadow (p.cur + 1) = { p.img with ws := ws } ∧ SameStore dBit ws p.img.ws := by
  obtain ⟨-, himg, hcur, -, -, -⟩ := p.copyHalf_frame true a
  have hbank : (p.copyHalf true a).shadow (p.cur + 1) =
      { p.shadow (p.cur + 1) with ws := joinWs (halfWs true p.img.ws) (halfWs false (p.shadow (p.cur + 1)).ws) } :=
    Part.shadow_setShadow_self ..
  refine ⟨_, ?_, sameStore_bothHalves hws (p.shadow (p.cur + 1)).ws⟩
  unfold Part.copyHalf
  change Part.shadow (Part.setShadow _ ((p.copyHalf true a).cur + 1) { (p.copyHalf true a).img with
    ws := joinWs (halfWs false (p.copyHalf true a).img.ws) (halfWs true ((p.copyHalf true a).shadow ((p.copyHalf true a).cur + 1)).ws) } _) _ = _
  rw [hcur, himg, hbank, Part.shadow_setShadow_self]

end Sys2Proof.Machine

namespace Sys2Proof.Proofs

open Sys2Proof Sys2Proof.Machine Sys2Proof.Statements

/-- Settles O9: each half of a store comes from the store that it copies, so two half copies, or two half restores, read as that store. -/
theorem shadowCopyAndRestore : Obligations.ShadowCopyAndRestore := by
  unfold Obligations.ShadowCopyAndRestore
  intro s n env h hws
  obtain ⟨-, -, hat, -⟩ := id h
  refine ⟨fun hr => ?_, fun f hr hgood hread hbank => ?_⟩
  · have hq := shadowCopy_copies h hr env
    refine ⟨_, exec_shadowCopy n env s, ?_⟩
    obtain ⟨hstep1, himg1, hcur1, -, -, hsh1⟩ := (s.part n).counted.copyHalf_frame true env.copyPar
    obtain ⟨hstep2, himg2, -, -, -, hsh2⟩ := ((s.part n).counted.copyHalf true env.copyPar).counted.copyHalf_frame false env.copyPar
    refine ⟨?_, ?_, ?_, ?_, hq.partsBut⟩ <;> rw [hq.part_eq]
    · rw [hstep2]
      exact (congrArg (· + 1) (hstep1.trans (congrArg (· + 1) hat)))
    · exact himg2.trans himg1
    · obtain ⟨ws, hbank, hsame⟩ := (s.part n).counted.shadow_copyHalf_twice hws env.copyPar env.copyPar
      rw [show (s.part n).cur = (s.part n).counted.cur from rfl, hbank]
      exact ⟨hsame, rfl, rfl, rfl, rfl⟩
    · rw [show ((s.part n).counted.copyHalf true env.copyPar).counted.cur = (s.part n).cur from hcur1] at hsh2
      exact hsh2.trans hsh1
  · have hq := shadowCopy_restores h hr hgood hread
    refine ⟨_, exec_shadowCopy n env s, ?_, ?_, hq.partsBut⟩ <;> rw [hq.part_eq]
    · exact congrArg (· + 2) hat
    · exact ⟨sameStore_bothHalves hbank _, rfl, rfl, rfl, rfl⟩

end Sys2Proof.Proofs
end

section
/-!
SUPPORT. The ends of a step (R32, R66): what the deliveries into VD, the lattice and the hazard monitor change of a partition, and what each of
C0 to C8 leaves.
-/
namespace Sys2Proof.Machine

open Sys2Proof Sys2Proof.Statements

/-- Of the partition only what vault data and hazards that end in the step change has changed (R72, R121, R174). -/
def Delivered (p q : Part) : Prop :=
  ∃ rd er hn hb hh vd hist, q = { p with
    reads := rd, err := er, hazNow := hn, hazBuf := hb, hazHalt := hh, img := { p.img with vd := vd, hist := hist } }

/-- Of the partition only what a step of the lattice and its deliveries change has changed (R145, R149). -/
def LatMoved (p q : Part) : Prop :=
  ∃ wv offs er hn rx hist, q = { p with waves := wv, offers := offs, err := er, hazNow := hn, img := { p.img with rx := rx, hist := hist } }

namespace Delivered

variable {p q r : Part}

theorem refl (p : Part) : Delivered p p := ⟨_, _, _, _, _, _, _, rfl⟩

theorem trans (h : Delivered p q) (hr : Delivered q r) : Delivered p r := by
  obtain ⟨_, _, _, _, _, _, _, rfl⟩ := h
  obtain ⟨_, _, _, _, _, _, _, rfl⟩ := hr
  exact ⟨_, _, _, _, _, _, _, rfl⟩

theorem deliver (h : Delivered p q) (x : VRead) : Delivered p (q.deliver x) := by
  refine h.trans ?_
  unfold Part.deliver
  obtain ⟨l, hl⟩ := Part.noteAt_hist { q with img := q.img.setVd x.bp x.data } x.bp 4104 x.endsAt
  rw [hl]
  split
  exacts [⟨_, _, _, _, _, _, _, rfl⟩, ⟨_, _, _, _, _, _, _, rfl⟩]

theorem deliverVd (p : Part) : Delivered p p.deliverVd := by
  have hall : ∀ (l : List VRead) {q : Part}, Delivered p q → Delivered p (l.foldl Part.deliver q) := by
    intro l
    induction l with
    | nil => exact id
    | cons x r ih => exact fun h => ih (h.deliver x)
  unfold Part.deliverVd
  refine hall _ ?_
  split
  exacts [⟨_, _, _, _, _, _, _, rfl⟩, ⟨_, _, _, _, _, _, _, rfl⟩]

end Delivered

namespace LatMoved

variable {p q r : Part}

theorem trans (h : LatMoved p q) (hr : LatMoved q r) : LatMoved p r := by
  obtain ⟨_, _, _, _, _, _, rfl⟩ := h
  obtain ⟨_, _, _, _, _, _, rfl⟩ := hr
  exact ⟨_, _, _, _, _, _, rfl⟩

theorem setRx (h : LatMoved p q) {bp n place : Nat} {v : Bool} : LatMoved p (Part.note { q with img := q.img.setRx bp n v } bp place) := by
  refine h.trans ?_
  unfold Part.note
  obtain ⟨l, hl⟩ := Part.noteAt_hist { q with img := q.img.setRx bp n v } bp place q.step
  exact ⟨_, _, _, _, _, _, hl⟩

theorem landAt (h : LatMoved p q) {ctr : Nat} {bad : List (Nat × Nat)} {ds : List Deliv} : LatMoved p (q.landAt ctr bad ds) := by
  unfold Part.landAt
  split
  · exact h.setRx
  · split
    exacts [h.setRx, h.setRx.setRx]
  · exact h

theorem landAll (h : LatMoved p q) {ctr : Nat} {bad : List (Nat × Nat)} {ds : List Deliv} {l : List Nat} :
    LatMoved p (q.landAll ctr bad ds l) := by
  induction l generalizing q with
  | nil => exact h
  | cons x r ih => exact ih h.landAt

theorem latticeStep (h : LatMoved p q) {ctr : Nat} {eval : Bool} {bad : List Nat} {changed : List (Nat × Nat)} :
    LatMoved p (q.latticeStep ctr eval bad changed) := by
  unfold Part.latticeStep
  refine LatMoved.trans (landAll (q := if q.eph.debug then _ else q) ?_) ⟨_, _, _, _, _, _, rfl⟩
  split
  exacts [h.trans ⟨_, _, _, _, _, _, rfl⟩, h]

end LatMoved

namespace Quiet

variable {s t : State} {n : Fin 8} {p : Part} (h : Quiet (s.setPart n p) t)
include h

theorem deliverVd : ∃ q, Delivered p q ∧ Quiet (s.setPart n q) (t.modPart n Part.deliverVd) :=
  ⟨p.deliverVd, .deliverVd p, h.modPart⟩

theorem recordAll {l : List Haz} : ∃ q, Delivered p q ∧ Quiet (s.setPart n q) (t.recordAll n l) := by
  induction l generalizing p t with
  | nil => exact ⟨p, .refl p, h⟩
  | cons x r ih =>
    have hone : ∃ q, Delivered p q ∧ Quiet (s.setPart n q) (t.recordHaz n x) := by
      unfold State.recordHaz
      rw [h.part_eq]
      refine ⟨_, ?_, Quiet.setPart (.ite (.addFld (.addFld h)) (.addFld h))⟩
      split <;> split <;> exact ⟨_, _, _, _, _, _, _, rfl⟩
    obtain ⟨_, hq, ht⟩ := hone
    obtain ⟨q, hq', ht'⟩ := ih ht
    exact ⟨q, hq.trans hq', ht'⟩

theorem flushHaz : ∃ q, Delivered p q ∧ Quiet (s.setPart n q) (t.flushHaz n) := by
  obtain ⟨q, hq, ht⟩ := recordAll (h.modPart (f := fun p => { p with hazNow := [] })) (l := sortBy Haz.rank (t.part n).hazNow)
  exact ⟨q, .trans ⟨_, _, _, _, _, _, _, rfl⟩ hq, ht⟩

theorem lattice {env : StepEnv} {eval : Bool} : ∃ q, LatMoved p q ∧ Quiet (s.setPart n q) (t.lattice n env eval) := by
  have herr : ∃ q, LatMoved p q ∧ Quiet (s.setPart n q) (t.latErrors n env) := by
    unfold State.latErrors
    refine ⟨_, ⟨_, _, _, _, _, _, rfl⟩, Quiet.modPart (f := fun p => { p with err := p.err.or _ }) ?_⟩
    exact .foldl (.foldl (.foldl h fun h => .addFld h) fun h => .setReg (.addFld h)) fun h => .addFld h
  obtain ⟨q, hq, ht⟩ := herr
  unfold State.lattice
  dsimp only
  rw [ht.part_eq]
  exact ⟨_, hq.latticeStep, Quiet.setPart (.countIso ht)⟩

end Quiet

/-- What no duty of the lattice's drain changes (R32, R66). -/
def Part.drainKept (p : Part) := (p.img.ws, p.img.xd, p.img.outv, p.cur, p.clock)

theorem Part.clock_of_drainKept {p q : Part} (h : q.drainKept = p.drainKept) : q.clock = p.clock := by
  simp only [Part.drainKept, Prod.mk.injEq] at h
  obtain ⟨-, -, -, -, hclock⟩ := h
  exact hclock

theorem Part.eph_of_clock {p q : Part} (h : q.clock = p.clock) : q.eph = p.eph := by
  simp only [Part.clock, Prod.mk.injEq] at h
  obtain ⟨-, -, -, -, heph⟩ := h
  exact heph

theorem Delivered.kept {p q : Part} (h : Delivered p q) : q.drainKept = p.drainKept ∧ q.step = p.step ∧ q.img.rx = p.img.rx := by
  obtain ⟨_, _, _, _, _, _, _, rfl⟩ := h
  exact ⟨rfl, rfl, rfl⟩

theorem LatMoved.kept {p q : Part} (h : LatMoved p q) : q.drainKept = p.drainKept ∧ q.step = p.step := by
  obtain ⟨_, _, _, _, _, _, rfl⟩ := h
  exact ⟨rfl, rfl⟩

/-- One step of C0 to C2 (R146). -/
theorem drainCycle {s t : State} {n : Fin 8} {j k : Nat} {p : Part} (hk : k < 3) (h : AtCommit s n j) (ht : Quiet (s.setPart n p) t)
    (hkept : p.drainKept = (s.part n).drainKept) (hstep : p.step = (s.part n).eph.depth + k) (env : StepEnv) :
    ∃ q, q.drainKept = (s.part n).drainKept ∧ q.step = (s.part n).eph.depth + (k + 1) ∧ Quiet (s.setPart n q) (t.cycleAt n k env) := by
  have hclock : p.clock = (s.part n).clock := Part.clock_of_drainKept hkept
  obtain ⟨u, hu, he⟩ := ht.cycleAt (atCommit_of_quiet h ht hclock hstep (by omega)) env
  obtain ⟨q1, hq1, hu1⟩ := (Quiet.noteStack hu (env := env)).lattice (env := env) (eval := false)
  obtain ⟨q2, hq2, hu2⟩ := hu1.deliverVd
  obtain ⟨q3, hq3, hu3⟩ := hu2.flushHaz
  obtain ⟨hk1, hs1⟩ := hq1.kept
  obtain ⟨hk2, hs2, -⟩ := hq2.kept
  obtain ⟨hk3, hs3, -⟩ := hq3.kept
  refine ⟨q3.stepped, ?_, ?_, ?_⟩
  · exact (hk3.trans (hk2.trans hk1)).trans hkept
  · exact congrArg (· + 1) ((hs3.trans (hs2.trans hs1)).trans hstep)
  · rw [he]
    match k, hk with
    | 0, _ => exact hu3.modPart
    | 1, _ => exact hu3.modPart
    | 2, _ => exact hu3.modPart

/-- The rows of several steps end on the step after the last, with nothing asked of the host. -/
theorem onTo_of_quiet {s t : State} {n : Fin 8} {j : Nat} {q : Part} (hq : Quiet (s.setPart n q) t) (hstep : q.step = (s.part n).eph.depth + j)
    (heph : q.eph = (s.part n).eph) (hkeeps : Keeps s t) : OnTo s t n j := by
  obtain ⟨-, hpend, hvar⟩ := hkeeps
  exact ⟨by rw [hq.part_eq, hstep], by rw [hq.part_eq, heph], hq.partsBut, hpend, hvar⟩

namespace Quiet

variable {s t : State} {n : Fin 8} {p : Part} (h : Quiet (s.setPart n p) t)
include h

/-- C3 latches the inputs of the next frame, once (R130, R131). -/
theorem exchangeStep : ∃ l, l.any (fun b => b.1 == p.cur + 1) = true ∧ (p.bins.any (fun b => b.1 == p.cur + 1) = true → l = p.bins) ∧
    Quiet (s.setPart n { p with bins := l }) (t.exchangeStep n) := by
  unfold State.exchangeStep
  dsimp only
  rw [h.part_eq]
  by_cases hb : p.bins.any (fun b => b.1 == p.cur + 1) = true
  · rw [if_pos hb]
    exact ⟨p.bins, hb, fun _ => rfl, .notePace h⟩
  · rw [if_neg hb]
    have hpaced : Quiet (s.setPart n p) (t.notePace n) := .notePace h
    refine ⟨_, ?_, fun hf => absurd hf hb, hpaced.modPart⟩
    rw [List.any_append, Bool.or_eq_true, List.any_cons, beq_self_eq_true]
    exact .inr rfl

/-- C4 of a frame of a replay or of a catch-up applies the record's items (R328, R333). -/
theorem depositStep_recorded (hr : t.replaying n = true ∨ t.catchingUp n = true) :
    ∃ ws, Quiet (s.setPart n { p with img := { p.img with ws := ws } }) (t.depositStep n) ∧
      ∀ e, t.recEntry n (p.cur + 1) = some e → ws = applyDeposits p.img.ws (itemWrites e.items) := by
  unfold State.depositStep
  rw [h.part_eq, if_pos hr]
  refine ⟨_, h.modPart, fun e he => ?_⟩
  rw [he]

/-- C4 of another frame (R49, R470): forces and deposits, those that its first execution applied. -/
theorem depositStep_fresh (hr : t.replaying n = false) (hc : t.catchingUp n = false) :
    let old := p.c4.find? fun c => c.frame == p.cur
    let forces := match old with | some c => c.forces | none => p.forces
    let deps := sortBy (·.stamp) ((match old with | some c => c.deps | none => []) ++ (if p.hiFrame ≤ p.cur + 1 then p.deps else []))
    Quiet (s.setPart n { p with
      img := { p.img with ws := applyDeposits (applyDeposits p.img.ws forces) deps }, forces := updateForces forces deps,
      deps := if p.hiFrame ≤ p.cur + 1 then [] else p.deps,
      c4 := p.c4.filter (fun c => c.frame != p.cur) ++ [⟨p.cur, forces, deps⟩] }) (t.depositStep n) := by
  unfold State.depositStep
  dsimp only
  rw [h.part_eq, if_neg (c := t.replaying n = true ∨ t.catchingUp n = true) (by rw [hr, hc]; decide)]
  simp only [decide_eq_true_eq]
  refine .actAtC4 (.modCk ?_ (by rfl))
  exact h.modPart

/-- C7 latches the gathered errors and STOP in FRM_ERR (R32, R97). -/
theorem gatherStep : ∃ er fxs, Quiet (s.setPart n { p with errReg := er, fxs := fxs }) (t.gatherStep n) ∧
    bitsAt er 0 1 = b2n p.err.wsPar ∧ bitsAt er 1 1 = b2n p.err.latPar ∧ bitsAt er 2 1 = b2n p.err.vdbe ∧
    bitsAt er 3 1 = b2n p.err.unit ∧ bitsAt er 4 1 = b2n p.stopCause.isSome := by
  refine ⟨_, _, h.modPart, ?_⟩
  have hbit : ∀ b : Bool, b2n b = 0 ∨ b2n b = 1 := by decide
  have ha := hbit p.err.wsPar
  have hb := hbit p.err.latPar
  have hc := hbit p.err.vdbe
  have hd := hbit p.err.unit
  have he := hbit p.stopCause.isSome
  unfold bitsAt
  rw [BitVec.toNat_ofNat]
  generalize b2n p.err.wsPar = a at *
  generalize b2n p.err.latPar = b at *
  generalize b2n p.err.vdbe = c at *
  generalize b2n p.err.unit = d at *
  generalize b2n p.stopCause.isSome = e at *
  refine ⟨?_, ?_, ?_, ?_, ?_⟩ <;> omega

end Quiet

section
variable {s : State} {n : Fin 8}

/-- C0 to C2 drain the lattice (R146). -/
theorem latticeDrain_row (h : AtCommit s n 0) (env : StepEnv) :
    ∃ t, exec (.latticeDrain n env) s = .next t ∧ OnTo s t n 3 ∧ (t.part n).drainKept = (s.part n).drainKept := by
  obtain ⟨q1, hk1, hs1, ht1⟩ := drainCycle (by decide) h (.start s n) rfl (Part.step_of_atCommit h) env
  obtain ⟨q2, hk2, hs2, ht2⟩ := drainCycle (by decide) h ht1 hk1 hs1 env
  obtain ⟨q3, hk3, hs3, ht3⟩ := drainCycle (by decide) h ht2 hk2 hs2 env
  have heph : q3.eph = (s.part n).eph := Part.eph_of_clock (Part.clock_of_drainKept hk3)
  exact ⟨_, exec_latticeDrain n env s, onTo_of_quiet ht3 hs3 heph (.cycleAt (.cycleAt (.cycleAt (.refl s)))), by rw [ht3.part_eq, hk3]⟩

/-- C3 latches the inputs of the next frame, and writes VD only (R130). -/
theorem vitrineExchange_row (h : AtCommit s n 3) :
    ∃ t, exec (.vitrineExchange n) s = .next t ∧ OnTo s t n 4 ∧ (t.part n).drainKept = (s.part n).drainKept ∧
      (t.part n).img.rx = (s.part n).img.rx ∧ (t.part n).bins.any (fun b => b.1 == (s.part n).cur + 1) = true ∧
      ((s.part n).bins.any (fun b => b.1 == (s.part n).cur + 1) = true → (t.part n).bins = (s.part n).bins) := by
  have hu : Quiet (s.setPart n (s.part n).counted) (s.setPart n (s.part n).counted) := .refl _
  obtain ⟨_, ⟨_, _, _, _, _, _, _, rfl⟩, hu1⟩ := hu.deliverVd
  obtain ⟨l, hany, hsame, hu2⟩ := hu1.exchangeStep
  obtain ⟨_, ⟨_, _, _, _, _, _, _, rfl⟩, hu3⟩ := hu2.flushHaz
  obtain ⟨t, ht, honto, hpart⟩ := commitRow_moves (exec_vitrineExchange n s) h rfl hu3 rfl rfl
  refine ⟨t, ht, honto, ?_⟩
  rw [hpart]
  exact ⟨rfl, rfl, hany, hsame⟩

/-- C4 of a frame that is executed as it comes (R49, R470). -/
theorem depositsApplied_row (h : AtCommit s n 4) (hr : s.replaying n = false) (hc : s.catchingUp n = false) :
    let p := s.part n
    let old := p.c4.find? fun c => c.frame == p.cur
    let forces := match old with | some c => c.forces | none => p.forces
    let deps := sortBy (·.stamp) ((match old with | some c => c.deps | none => []) ++ (if p.hiFrame ≤ p.cur + 1 then p.deps else []))
    ∃ t, exec (.depositsApplied n) s = .next t ∧ OnTo s t n 5 ∧ (t.part n).img.rx = p.img.rx ∧
      (t.part n).img.ws = applyDeposits (applyDeposits p.img.ws forces) deps ∧ (t.part n).forces = updateForces forces deps ∧
      (t.part n).deps = if p.hiFrame ≤ p.cur + 1 then [] else p.deps := by
  intro p old forces deps
  have hu : Quiet (s.setPart n (s.part n).counted) (s.setPart n (s.part n).counted) := .refl _
  obtain ⟨_, ⟨_, _, _, _, _, _, _, rfl⟩, hu1⟩ := hu.deliverVd
  obtain ⟨_, ⟨_, _, _, _, _, _, _, rfl⟩, hu2⟩ := (hu1.depositStep_fresh hr hc).flushHaz
  obtain ⟨t, ht, honto, hpart⟩ := commitRow_moves (exec_depositsApplied n s) h rfl hu2 rfl rfl
  refine ⟨t, ht, honto, ?_⟩
  rw [hpart]
  exact ⟨rfl, rfl, rfl, rfl⟩

/-- C4 of a frame of a replay or of a catch-up (R328, R333). -/
theorem depositsApplied_row_recorded (h : AtCommit s n 4) (hr : s.replaying n = true ∨ s.catchingUp n = true) :
    ∃ t, exec (.depositsApplied n) s = .next t ∧ OnTo s t n 5 ∧ (t.part n).img.rx = (s.part n).img.rx ∧
      (t.part n).deps = (s.part n).deps ∧
      ∀ e, s.recEntry n ((s.part n).cur + 1) = some e → (t.part n).img.ws = applyDeposits (s.part n).img.ws (itemWrites e.items) := by
  have hu : Quiet (s.setPart n (s.part n).counted) (s.setPart n (s.part n).counted) := .refl _
  obtain ⟨_, ⟨_, _, _, _, _, _, _, rfl⟩, hu1⟩ := hu.deliverVd
  obtain ⟨ws, hu2, hws⟩ := hu1.depositStep_recorded hr
  obtain ⟨_, ⟨_, _, _, _, _, _, _, rfl⟩, hu3⟩ := hu2.flushHaz
  obtain ⟨t, ht, honto, hpart⟩ := commitRow_moves (exec_depositsApplied n s) h rfl hu3 rfl rfl
  refine ⟨t, ht, honto, ?_⟩
  rw [hpart]
  exact ⟨rfl, rfl, hws⟩

/-- C5 is the capture's (R283). -/
theorem tapRecordsClosed_row (h : AtCommit s n 5) :
    ∃ t, exec (.tapRecordsClosed n) s = .next t ∧ OnTo s t n 6 ∧ (t.part n).img = (s.part n).img := by
  obtain ⟨t, ht, honto, hpart⟩ := commitRow_moves (exec_tapRecordsClosed n s) h rfl (.capFix (.refl _)) rfl rfl
  exact ⟨t, ht, honto, by rw [hpart]; rfl⟩

/-- C6 and C7 gather the errors of the frame (R97). -/
theorem errorGather_row (h : AtCommit s n 6) :
    ∃ t, exec (.errorGather n) s = .next t ∧ OnTo s t n 8 ∧ (t.part n).img = (s.part n).img ∧
      bitsAt (t.part n).errReg 0 1 = b2n (s.part n).err.wsPar ∧ bitsAt (t.part n).errReg 1 1 = b2n (s.part n).err.latPar ∧
      bitsAt (t.part n).errReg 2 1 = b2n (s.part n).err.vdbe ∧ bitsAt (t.part n).errReg 3 1 = b2n (s.part n).err.unit ∧
      bitsAt (t.part n).errReg 4 1 = b2n (s.part n).stopCause.isSome := by
  obtain ⟨u, hu, he⟩ := (Quiet.start s n).cycleAt h {}
  have h1 : Quiet (s.setPart n (s.part n).counted.stepped) (s.cycleAt n 6 {}) := by
    rw [he]
    exact hu.modPart
  have h7 : AtCommit (s.cycleAt n 6 {}) n 7 := atCommit_of_quiet h h1 rfl (congrArg (· + 1) (Part.step_of_atCommit h)) (by decide)
  obtain ⟨v, hv, he'⟩ := h1.cycleAt h7 {}
  obtain ⟨er, fxs, hg, hbits⟩ := hv.gatherStep
  have h2 : Quiet (s.setPart n (Part.stepped { (s.part n).counted.stepped.counted with errReg := er, fxs := fxs }))
      ((s.cycleAt n 6 {}).cycleAt n 7 {}) := by
    rw [he']
    exact hg.modPart
  refine ⟨_, exec_errorGather n s, onTo_of_quiet h2 (congrArg (· + 2) (Part.step_of_atCommit h)) rfl (.cycleAt (.cycleAt (.refl s))), ?_⟩
  rw [h2.part_eq]
  exact ⟨rfl, hbits⟩

/-- C8 sends the device's vote, but in catch-up (R243, R328). -/
theorem voteSend_row (h : AtCommit s n 8) :
    ∃ t, exec (.voteSend n) s = .next t ∧ OnTo s t n 9 ∧ (t.part n).img = (s.part n).img := by
  obtain ⟨t, ht, honto, hpart⟩ := commitRow_moves (exec_voteSend n s) h rfl (.ite (.refl _) (.sendVote (.refl _))) rfl rfl
  exact ⟨t, ht, honto, by rw [hpart]; rfl⟩

end

end Sys2Proof.Machine

namespace Sys2Proof.Proofs

open Sys2Proof Sys2Proof.Machine Sys2Proof.Statements

/-- Settles O7: the row of each of C0 to C8. -/
theorem commitStepsBeforeTheDecision : Obligations.CommitStepsBeforeTheDecision := by
  unfold Obligations.CommitStepsBeforeTheDecision
  intro s n env
  refine ⟨fun h => ?_, fun h => ?_, fun h hr hc => ?_, depositsApplied_row_recorded, tapRecordsClosed_row, errorGather_row, voteSend_row⟩
  · obtain ⟨t, ht, honto, hkept⟩ := latticeDrain_row h env
    simp only [Part.drainKept, Prod.mk.injEq] at hkept
    obtain ⟨hws, hxd, hout, hcur, -⟩ := hkept
    exact ⟨t, ht, honto, hws, hxd, hout, hcur⟩
  · obtain ⟨t, ht, honto, hkept, hrx, hany, hsame⟩ := vitrineExchange_row h
    simp only [Part.drainKept, Prod.mk.injEq] at hkept
    obtain ⟨hws, -, hout, -, -⟩ := hkept
    exact ⟨t, ht, honto, hws, hrx, hout, hany, hsame⟩
  · obtain ⟨t, ht, honto, hrx, hws, hforces, hdeps⟩ := depositsApplied_row h hr hc
    refine ⟨t, ht, honto, hrx, fun hnone hle => ?_, fun c hsome hlt => ?_⟩
    · rw [hws, hforces, hdeps, hnone, if_pos hle]
      exact ⟨rfl, rfl, if_pos hle⟩
    · rw [hws, hdeps, hsome, if_neg (by omega), List.append_nil]
      exact ⟨rfl, if_neg (by omega)⟩

end Sys2Proof.Proofs
end

section
/-!
SUPPORT. C12 to C14 (R32, R35, R47): what a release, a discard, the release of a catch-up frame, and the counters' step leave of a partition.
-/
namespace Sys2Proof.Machine

open Sys2Proof Sys2Proof.Statements

theorem State.recoveryNotice_curOnly (s : State) (n : Fin 8) (payload : Nat) : CurOnly s (s.recoveryNotice n payload) := s.notice_curOnly ..

theorem State.failWaits_curOnly (s : State) (n : Fin 8) : CurOnly s (s.failWaits n) := by
  unfold State.failWaits
  exact curOnly_trans (curOnly_trans (s.answerAll_curOnly ..) (curOnly_mapWaits ..)) (State.answerAll_curOnly ..)

theorem parts_of_curOnly {s t : State} (h : CurOnly s t) : t.parts = s.parts := by rw [h]

/-- The part of a reads list that a discard from frame c on leaves (R122, R195). -/
def keptReads (c : Nat) (l : List VRead) : List VRead :=
  (l.filter fun r => !((r.onChip || r.arrived) && decide (c ≤ r.frame))).map fun r => if decide (c ≤ r.frame) then { r with stale := true } else r

/-- What a discard leaves outstanding of the discarded frames is off chip and stale (R122). -/
theorem stale_of_mem_keptReads {c : Nat} {l : List VRead} : ∀ r ∈ keptReads c l, c ≤ r.frame → r.onChip = false ∧ r.stale = true := by
  intro r hr hc
  obtain ⟨x, hx, rfl⟩ := List.mem_map.mp hr
  obtain ⟨-, hkeep⟩ := List.mem_filter.mp hx
  by_cases hf : c ≤ x.frame
  · rw [decide_eq_true hf, Bool.and_true, Bool.not_eq_true', Bool.or_eq_false_iff] at hkeep
    rw [if_pos (decide_eq_true hf)]
    exact ⟨hkeep.1, rfl⟩
  · rw [if_neg (by simpa using hf)] at hc
    exact absurd hc hf

/-- What no duty of C14 changes (R32). -/
def Part.atC14 (p : Part) := (p.img, p.step, p.eph)

/-- A discard from frame c on (R35, R122, R195). -/
def DiscardedFrom (c : Nat) (p q : Part) : Prop :=
  ∃ fxs wb, q = { p with
    vlog := p.vlog.filter (fun e => !decide (c ≤ e.frame)), reads := keptReads c p.reads, fxs := fxs, taps := [], wbLeft := wb }

theorem State.unmap_parts (s : State) (n : Fin 8) : (s.unmap n).parts = s.parts := by
  unfold State.unmap
  exact (Quiet.foldl (.refl s) fun h => .foldl h fun h => .ite (.setFld h) h).1

/-- A recovery that fails moves the partition's frame back, and no other store of a partition (R330). -/
theorem State.recoveryFail_parts (s : State) (n : Fin 8) (cause : FaultCause) (frame aborts since reason : Nat) (units : List Nat) :
    ∃ fr cu, (s.recoveryFail n cause frame aborts since reason units).parts = (s.setPart n { s.part n with frame := fr, cur := cu }).parts := by
  unfold State.recoveryFail
  cases (s.ck n).recov with
  | none =>
    refine ⟨(s.part n).frame, (s.part n).cur, ?_⟩
    rw [parts_of_curOnly (State.recoveryNotice_curOnly ..), State.unmap_parts, parts_of_curOnly (State.failWaits_curOnly ..)]
    rfl
  | some x =>
    refine ⟨x.shown, x.shown, ?_⟩
    rw [parts_of_curOnly (State.recoveryNotice_curOnly ..), State.unmap_parts, parts_of_curOnly (State.failWaits_curOnly ..)]
    rfl

namespace Quiet

variable {s t : State} {n : Fin 8} {p : Part} (h : Quiet (s.setPart n p) t)
include h

theorem discardStep {c : Nat} : ∃ q, DiscardedFrom c p q ∧ Quiet (s.setPart n q) (t.discardStep n c) := by
  have hlog : Quiet (s.setPart n p)
      (((t.part n).vlog.filter fun e => decide (c ≤ e.frame)).foldl (fun (u : State) e => u.setVword e.bank e.word e.old) t) :=
    .foldl h fun h => .setVword h
  unfold State.discardStep State.discard
  refine ⟨_, ?_, Quiet.modPart (.modCk (.capDiscard (.mapPorts hlog.modPart)) (by rfl))⟩
  exact ⟨_, _, rfl⟩

/-- The release of a frame that is not of a catch-up (R194, R224). -/
theorem releaseStep {c : Nat} {fx : FrameFx} (hc : t.catchingUp n = false) (hfx : p.fxs.find? (fun f => f.frame == c) = some fx) :
    Quiet (s.setPart n { p with vlog := p.vlog.filter (fun x => decide (c < x.frame)), rho := fx.rhos,
                                fxs := p.fxs.filter fun f => decide (c < f.frame) }) (t.releaseStep n c) := by
  unfold State.releaseStep
  rw [h.part_eq, hfx]
  dsimp only
  rw [hc, if_neg Bool.false_ne_true]
  have hout : Quiet (s.setPart n p) (if t.replaying n ∧ t.fld (Reg.CKP_CFG n) 6 1 = 0 then t else t.vtrRelease n fx.outv) :=
    .ite h (.vtrRelease h)
  refine .answerReleased ?_
  split
  · exact .ite (.replayCheck (.recRelease (.gatherFrame (.capRelease (.releaseHeld hout.modPart)))))
      (.recRelease (.gatherFrame (.capRelease (.releaseHeld hout.modPart))))
  · exact .recRelease (.gatherFrame (.capRelease (.releaseHeld hout.modPart)))

/-- C14 of a committing frame (R30, R31). -/
theorem counterStep_commits {c : Nat} (hc : t.catchingUp n = false) (hd : p.decision = some (c, true)) :
    ∃ q, Quiet (s.setPart n q) (t.counterStep n) ∧ q.atC14 = p.atC14 ∧ q.committed = c ∧ q.committedValid = true ∧ q.consec = 0 ∧
      q.frame = if p.eph.spans && !p.haltPend.isEmpty then p.frame else min (p.frame + 1) (2 ^ 48 - 1) := by
  unfold State.counterStep
  dsimp only
  rw [h.part_eq, hd]
  dsimp only
  rw [hc, if_neg Bool.false_ne_true]
  unfold State.prune
  have hset : ∀ q, Quiet (s.setPart n q) (t.setPart n q) := fun _ => h.setPart
  exact ⟨_, Quiet.modPart (.setMach (Quiet.modPart (hset _))), rfl, rfl, rfl, rfl, rfl⟩

/-- C14 of an aborted frame (R47). -/
theorem counterStep_aborts {c : Nat} (hc : t.catchingUp n = false) (hd : p.decision = some (c, false)) :
    ∃ q, Quiet (s.setPart n q) (t.counterStep n) ∧ q.atC14 = p.atC14 ∧ q.frame = c ∧ q.committed = p.committed ∧
      q.aborts = min 0xFFFFFF (p.aborts + 1) := by
  unfold State.counterStep State.countAbort
  dsimp only
  rw [h.part_eq, hd]
  dsimp only
  rw [hc, if_neg Bool.false_ne_true]
  have hset : ∀ q, Quiet (s.setPart n q) (t.setPart n q) := fun _ => h.setPart
  refine ⟨_, Quiet.modPart (.ite (.curOnly (.raiseFrm (hset _)) (State.recoveryNotice_curOnly ..)) (.raiseFrm (hset _))), rfl, rfl, rfl, rfl⟩

/-- C14 in catch-up, or with nothing decided (R328, R31). -/
theorem counterStep_uncounted (hc : t.catchingUp n = true ∨ p.decision = none) :
    ∃ q, Quiet (s.setPart n q) (t.counterStep n) ∧ q.atC14 = p.atC14 ∧ q.committed = p.committed ∧
      q.committedValid = p.committedValid ∧ q.aborts = p.aborts ∧ q.frame = match p.decision with
        | some (_, true) => p.cur + 1
        | some (_, false) => p.frame
        | none => min (p.cur + 1) (2 ^ 48 - 1) := by
  unfold State.counterStep
  dsimp only
  rw [h.part_eq]
  cases hd : p.decision with
  | none => exact ⟨_, Quiet.modPart h.setPart, rfl, rfl, rfl, rfl, rfl⟩
  | some d =>
    have hcatch : t.catchingUp n = true := hc.resolve_right (by rw [hd]; exact Option.some_ne_none d)
    obtain ⟨c, commits⟩ := d
    cases commits with
    | true =>
      dsimp only
      rw [if_pos hcatch]
      exact ⟨_, Quiet.modPart h.setPart, rfl, rfl, rfl, rfl, rfl⟩
    | false =>
      dsimp only
      rw [if_pos hcatch]
      exact ⟨_, h.modPart, rfl, rfl, rfl, rfl, rfl⟩

end Quiet

/-- The release of a catch-up frame (R328), which may end the recovery (R330): of the partition, its log goes. -/
theorem State.releaseStep_catchUp {s t : State} {n : Fin 8} {p : Part} (h : Quiet (s.setPart n p) t) {c : Nat} {fx : FrameFx}
    (hc : t.catchingUp n = true) (hfx : p.fxs.find? (fun f => f.frame == c) = some fx) :
    ∃ fr cu, (t.releaseStep n c).parts = (s.setPart n { p with vlog := [], rho := fx.rhos, fxs := [], frame := fr, cur := cu }).parts := by
  unfold State.releaseStep
  rw [h.part_eq, hfx]
  dsimp only
  rw [if_pos hc]
  unfold State.catchUpRelease
  dsimp only
  have hdrop : Quiet (s.setPart n { p with vlog := [], rho := fx.rhos, fxs := [] }) ((((t.modCap n fun x =>
      { x with fixed := x.fixed.filter fun f => decide (c < f.frame) }).modPart n fun p =>
      { p with vlog := [], rho := fx.rhos, fxs := [] }).releaseHeld n c)) :=
    .releaseHeld (Quiet.modPart (.modCap h))
  generalize ((((t.modCap n fun x => { x with fixed := x.fixed.filter fun f => decide (c < f.frame) }).modPart n fun p =>
      { p with vlog := [], rho := fx.rhos, fxs := [] }).releaseHeld n c)) = u at hdrop ⊢
  split
  · split
    · exact ⟨_, _, hdrop.1⟩
    · obtain ⟨fr, cu, hfail⟩ := u.recoveryFail_parts n _ _ _ _ _ _
      rw [hfail, hdrop.part_eq]
      exact ⟨fr, cu, hdrop.setPart.1⟩
  · exact ⟨_, _, hdrop.1⟩

/-- C12 of a frame that commits (R32). -/
theorem State.c12_commits {s : State} {n : Fin 8} {c : Nat} (hd : (s.part n).decision = some (c, true))
    (h : (s.part n).eph.spans = false ∨ (s.part n).haltPend = []) : s.c12 n = s.releaseStep n c := by
  have hcond : ((s.part n).eph.spans && !(s.part n).haltPend.isEmpty) = false := by
    rcases h with h | h <;> rw [h]
    exacts [rfl, Bool.and_false _]
  unfold State.c12
  rw [hd]
  dsimp only
  rw [hcond, if_neg Bool.false_ne_true]

/-- C12 of a frame that commits in a machine that halts: the speculative frame is discarded (R33, R46). -/
theorem State.c12_commits_halting {s : State} {n : Fin 8} {c : Nat} (hd : (s.part n).decision = some (c, true))
    (hs : (s.part n).eph.spans = true) (hh : (s.part n).haltPend ≠ []) : s.c12 n = (s.releaseStep n c).discardStep n (c + 1) := by
  have hcond : ((s.part n).eph.spans && !(s.part n).haltPend.isEmpty) = true := by
    rw [hs, Bool.true_and, Bool.not_eq_true', List.isEmpty_eq_false_iff]
    exact hh
  unfold State.c12
  rw [hd]
  dsimp only
  rw [if_pos hcond]

/-- The row of C14, of a partition that its duty leaves as q. -/
theorem counterUpdate_row {s : State} {n : Fin 8} (h : AtCommit s n 14) {q : Part}
    (hq : Quiet (s.setPart n q) ((s.setPart n (s.part n).counted).counterStep n)) (hkept : q.atC14 = (s.part n).counted.atC14) :
    ∃ t, exec (.counterUpdate n) s = .next t ∧ OnTo s t n 15 ∧ (t.part n).img = (s.part n).img ∧ t.part n = q.stepped := by
  simp only [Part.atC14, Prod.mk.injEq] at hkept
  obtain ⟨himg, hstep, heph⟩ := hkept
  obtain ⟨t, ht, honto, hpart⟩ := commitRow_moves (exec_counterUpdate n s) h rfl hq hstep heph
  exact ⟨t, ht, honto, by rw [hpart]; exact himg, hpart⟩

section
variable {s : State} {n : Fin 8} (h : AtCommit s n 12)
include h

/-- C12 of a commit decision (R194). -/
theorem release_row_commits (hc : s.catchingUp n = false) {c : Nat} {fx : FrameFx} (hd : (s.part n).decision = some (c, true))
    (hfx : (s.part n).fxs.find? (fun f => f.frame == c) = some fx) (hh : (s.part n).eph.spans = false ∨ (s.part n).haltPend = []) :
    ∃ t, exec (.release n) s = .next t ∧ OnTo s t n 13 ∧ (t.part n).img = (s.part n).img ∧
      (t.part n).vlog = (s.part n).vlog.filter (fun x => decide (c < x.frame)) ∧ (t.part n).rho = fx.rhos := by
  let u := s.setPart n (s.part n).counted
  have hu : Quiet (s.setPart n (s.part n).counted) u := .refl _
  have hq := hu.releaseStep (c := c) hc hfx
  rw [← State.c12_commits (by rw [hu.part_eq]; exact hd) (by rw [hu.part_eq]; exact hh)] at hq
  obtain ⟨t, ht, honto, hpart⟩ := commitRow_moves (exec_release n s) h rfl hq rfl rfl
  exact ⟨t, ht, honto, by rw [hpart]; rfl, by rw [hpart]; rfl, by rw [hpart]; rfl⟩

theorem release_row_commits_halting (hc : s.catchingUp n = false) {c : Nat} {fx : FrameFx} (hd : (s.part n).decision = some (c, true))
    (hfx : (s.part n).fxs.find? (fun f => f.frame == c) = some fx) (hs : (s.part n).eph.spans = true) (hh : (s.part n).haltPend ≠ []) :
    ∃ t, exec (.release n) s = .next t ∧ OnTo s t n 13 ∧ (t.part n).img = (s.part n).img ∧ (t.part n).vlog = [] ∧
      (t.part n).rho = fx.rhos := by
  let u := s.setPart n (s.part n).counted
  have hu : Quiet (s.setPart n (s.part n).counted) u := .refl _
  obtain ⟨_, ⟨_, _, rfl⟩, hq⟩ := (hu.releaseStep (c := c) hc hfx).discardStep (c := c + 1)
  rw [← State.c12_commits_halting (by rw [hu.part_eq]; exact hd) (by rw [hu.part_eq]; exact hs) (by rw [hu.part_eq]; exact hh)] at hq
  obtain ⟨t, ht, honto, hpart⟩ := commitRow_moves (exec_release n s) h rfl hq rfl rfl
  refine ⟨t, ht, honto, by rw [hpart]; rfl, ?_, by rw [hpart]; rfl⟩
  rw [hpart]
  refine List.filter_eq_nil_iff.mpr fun x hx => ?_
  have hlt : c < x.frame := of_decide_eq_true (List.mem_filter.mp hx).2
  rw [Bool.not_eq_true', decide_eq_false_iff_not, not_not]
  exact hlt

/-- C12 of a catch-up frame (R328). -/
theorem release_row_catchUp (hc : s.catchingUp n = true) {c : Nat} {fx : FrameFx} (hd : (s.part n).decision = some (c, true))
    (hfx : (s.part n).fxs.find? (fun f => f.frame == c) = some fx) (hh : (s.part n).eph.spans = false ∨ (s.part n).haltPend = []) :
    ∃ t, exec (.release n) s = .next t ∧ OnTo s t n 13 ∧ (t.part n).img = (s.part n).img ∧ (t.part n).vlog = [] := by
  let u := s.setPart n (s.part n).counted
  have hu : Quiet (s.setPart n (s.part n).counted) u := .refl _
  obtain ⟨fr, cu, hq⟩ := State.releaseStep_catchUp hu (c := c) hc hfx
  rw [← State.c12_commits (by rw [hu.part_eq]; exact hd) (by rw [hu.part_eq]; exact hh)] at hq
  obtain ⟨t, ht, honto, hpart⟩ := commitRow_moves_parts (exec_release n s) h rfl hq rfl rfl
  exact ⟨t, ht, honto, by rw [hpart]; rfl, by rw [hpart]; rfl⟩

/-- C12 that discards from frame c on (R35, R122, R195). -/
theorem release_row_discards {c : Nat} (hd : (s.setPart n (s.part n).counted).c12 n = (s.setPart n (s.part n).counted).discardStep n c) :
    ∃ t, exec (.release n) s = .next t ∧ OnTo s t n 13 ∧ (t.part n).img = (s.part n).img ∧
      (t.part n).vlog = (s.part n).vlog.filter (fun x => !decide (c ≤ x.frame)) ∧ (t.part n).taps = [] ∧
      (∀ r ∈ (t.part n).reads, c ≤ r.frame → r.onChip = false ∧ r.stale = true) := by
  obtain ⟨_, ⟨_, _, rfl⟩, hq⟩ := Quiet.discardStep (.refl (s.setPart n (s.part n).counted)) (c := c)
  rw [← hd] at hq
  obtain ⟨t, ht, honto, hpart⟩ := commitRow_moves (exec_release n s) h rfl hq rfl rfl
  refine ⟨t, ht, honto, by rw [hpart]; rfl, by rw [hpart]; rfl, by rw [hpart]; rfl, ?_⟩
  rw [hpart]
  exact stale_of_mem_keptReads

/-- C12 with nothing decided and no halt does nothing but count (R33). -/
theorem release_row_nothing (hd : (s.part n).decision = none) (hh : (s.part n).haltPend = []) :
    exec (.release n) s = .next (s.setPart n (s.part n).counted.stepped) := by
  have hu : (s.setPart n (s.part n).counted).part n = (s.part n).counted := State.part_setPart_self ..
  have hc : (s.setPart n (s.part n).counted).c12 n = s.setPart n (s.part n).counted := by
    unfold State.c12
    rw [hu, show (s.part n).counted.decision = none from hd]
    exact if_pos (List.isEmpty_iff.mpr hh)
  have hstep : (s.setPart n (s.part n).counted).commitStep n 12 {} = ((s.setPart n (s.part n).counted).c12 n).modPart n Part.stepped := rfl
  rw [exec_release, State.cycleAt_of_step (Part.step_of_atCommit h), State.seqCycle_of_atCommit h, hstep, hc, State.modPart_eq, hu,
    State.setPart_setPart]

end

end Sys2Proof.Machine

namespace Sys2Proof.Proofs

open Sys2Proof Sys2Proof.Machine Sys2Proof.Statements

/-- Settles O10: C12 by the decision that it takes, C13, and C14 by the decision. -/
theorem releaseAndCounters : Obligations.ReleaseAndCounters := by
  unfold Obligations.ReleaseAndCounters
  intro s n
  have hu : (s.setPart n (s.part n).counted).part n = (s.part n).counted := State.part_setPart_self ..
  have hrefl : Quiet (s.setPart n (s.part n).counted) (s.setPart n (s.part n).counted) := .refl _
  refine ⟨fun h hc c fx hd hfx => ⟨release_row_commits h hc hd hfx, release_row_commits_halting h hc hd hfx⟩,
    fun h hc c fx hd hfx => release_row_catchUp h hc hd hfx, fun h c hd => release_row_discards h ?_,
    fun h hd => ⟨fun hh => ?_, fun hh => release_row_discards h ?_⟩, fun h => ?_, fun h hc c hd => ?_, fun h hc c hd => ?_, fun h hc => ?_⟩
  · unfold State.c12
    rw [hu, show (s.part n).counted.decision = some (c, false) from hd]
  · have hkeeps : Keeps s (s.cycleAt n 12 {}) := .cycleAt (.refl s)
    rw [show s.cycleAt n 12 {} = s.setPart n (s.part n).counted.stepped from
      Host.Outcome.next.inj ((exec_release n s).symm.trans (release_row_nothing h hd hh))] at hkeeps
    have hq : Quiet (s.setPart n (s.part n).counted.stepped) (s.setPart n (s.part n).counted.stepped) := .refl _
    refine ⟨_, release_row_nothing h hd hh, onTo_of_quiet hq (congrArg (· + 1) (Part.step_of_atCommit h)) rfl hkeeps, ?_⟩
    rw [hq.part_eq]
    exact ⟨rfl, rfl, rfl, rfl, rfl⟩
  · unfold State.c12
    rw [hu, show (s.part n).counted.decision = none from hd]
    exact if_neg (by rw [List.isEmpty_iff]; exact hh)
  · have htally : Quiet (s.setPart n { (s.part n).counted with runSteps := 0, stallSteps := 0 })
        ((s.setPart n (s.part n).counted).tallyStep n) := by
      unfold State.tallyStep
      have hadd : ∀ a b c d, Quiet (s.setPart n (s.part n).counted) (State.tallyAdd _ n a b c d) := fun _ _ _ _ => .tallyAdd hrefl
      exact (hadd ..).modPart
    obtain ⟨t, ht, honto, hpart⟩ := commitRow_moves (exec_tallyUpdate n s) h rfl htally rfl rfl
    exact ⟨t, ht, honto, by rw [hpart]; rfl, by rw [hpart]; rfl, by rw [hpart]; rfl⟩
  · obtain ⟨q, hq, hkept, hcom, hval, hcons, hframe⟩ := hrefl.counterStep_commits hc hd
    obtain ⟨t, ht, honto, himg, hpart⟩ := counterUpdate_row h hq hkept
    refine ⟨t, ht, honto, himg, ?_⟩
    rw [hpart]
    refine ⟨hcom, hval, hcons, hframe.trans (if_congr ?_ rfl rfl)⟩
    rw [Bool.and_eq_true, Bool.not_eq_true', List.isEmpty_eq_false_iff]
    rfl
  · obtain ⟨q, hq, hkept, hframe, hcom, habs⟩ := hrefl.counterStep_aborts hc hd
    obtain ⟨t, ht, honto, himg, hpart⟩ := counterUpdate_row h hq hkept
    refine ⟨t, ht, honto, himg, ?_⟩
    rw [hpart]
    exact ⟨hframe, hcom, habs⟩
  · obtain ⟨q, hq, hkept, hcom, hval, habs, hframe⟩ := hrefl.counterStep_uncounted hc
    obtain ⟨t, ht, honto, himg, hpart⟩ := counterUpdate_row h hq hkept
    refine ⟨t, ht, honto, himg, ?_⟩
    rw [hpart]
    exact ⟨hcom, hval, habs, hframe⟩

end Sys2Proof.Proofs
end

section
/-!
SUPPORT. A cycle of the step clock (R42 to R45, R52): what a stall step changes, and what an evaluation step leaves of what the clock goes by.
-/
namespace Sys2Proof.Machine

open Sys2Proof Sys2Proof.Statements

theorem State.reg_modPart (s : State) (n : Fin 8) (f : Part → Part) (a : Nat) : (s.modPart n f).reg a = s.reg a := rfl

theorem State.vlt_setPart (s : State) (n : Fin 8) (p : Part) : (s.setPart n p).vlt = s.vlt := rfl

theorem State.vlt_modPart (s : State) (n : Fin 8) (f : Part → Part) : (s.modPart n f).vlt = s.vlt := rfl

theorem State.reg_maxFld_ne (s : State) {a b : Nat} (lo w x : Nat) (h : b ≠ a) : (s.maxFld a lo w x).reg b = s.reg b :=
  s.reg_setFld_ne lo w _ h

theorem State.reg_raiseFrm_ne (s : State) (n : Fin 8) (bit : Nat) {a : Nat} (h : a ≠ Reg.FRM_IRQ_STATUS n) :
    (s.raiseFrm n bit).reg a = s.reg a := by
  have hcur : CurOnly (s.setFld (Reg.FRM_IRQ_STATUS n) bit 1 1) (s.raiseFrm n bit) := State.irqEdge_curOnly ..
  rw [hcur]
  exact s.reg_setFld_ne bit 1 1 h

theorem State.vlt_raiseFrm (s : State) (n : Fin 8) (bit : Nat) : (s.raiseFrm n bit).vlt = s.vlt := by
  have hcur : CurOnly (s.setFld (Reg.FRM_IRQ_STATUS n) bit 1 1) (s.raiseFrm n bit) := State.irqEdge_curOnly ..
  rw [hcur]
  rfl

theorem stallReg_ne_max (n : Fin 8) (c : Stall) : stallReg n c ≠ Reg.FRM_STALL_MAX n := by
  cases c <;> simp [stallReg]

theorem stallReg_ne_irq (n : Fin 8) (c : Stall) : stallReg n c ≠ Reg.FRM_IRQ_STATUS n := by
  cases c <;> simp [stallReg]

/-- A stall step of cause c has counted, with the partition at q and the longest stall at least x (R52). -/
def State.stallCounted (s : State) (n : Fin 8) (c : Stall) (q : Part) (x : Nat) : State :=
  ((s.setPart n q).addFld (stallReg n c) 0 32 1).maxFld (Reg.FRM_STALL_MAX n) 0 32 x

section
variable (s : State) (n : Fin 8) (c : Stall)

/-- A stall step freezes the partition but for its stall counts (R42, R44). -/
theorem State.stallStep_freezes : ∃ lim wn, Quiet (s.setPart n { s.part n with
    limit := lim, warned := wn, stallLen := (s.part n).stallLen + 1, stalled := true, stallCause := c.code,
    stallInFrame := (s.part n).stallInFrame || !(s.part n).isReexec, stallSteps := (s.part n).stallSteps + 1,
    stallTotal := satAdd (2 ^ 64 - 1) (s.part n).stallTotal 1 }) (s.stallStep n c) := by
  unfold State.stallStep
  dsimp only
  have hset : ∀ q, Quiet (s.setPart n q) (((s.setPart n q).addFld (stallReg n c) 0 32 1).maxFld (Reg.FRM_STALL_MAX n) 0 32 q.stallLen) :=
    fun _ => .maxFld (.addFld (.refl _))
  split
  · exact ⟨_, _, .raiseFrm (Quiet.modPart (hset _))⟩
  · exact ⟨_, _, hset _⟩

/-- A stall step counts, and may then raise STALL_LONG (R52). -/
theorem State.stallStep_counts : ∃ q x, s.stallStep n c = s.stallCounted n c q x ∨
    ∃ f, s.stallStep n c = ((s.stallCounted n c q x).modPart n f).raiseFrm n 3 := by
  unfold State.stallStep State.stallCounted
  dsimp only
  split
  · exact ⟨_, _, .inr ⟨_, rfl⟩⟩
  · exact ⟨_, _, .inl rfl⟩

/-- A stall step counts for its cause (R44, R52). -/
theorem State.reg_stallStep_self : ((s.stallStep n c).reg (stallReg n c)).toNat = min (2 ^ 32 - 1) ((s.reg (stallReg n c)).toNat + 1) := by
  have hcount : ∀ q x, ((s.stallCounted n c q x).reg (stallReg n c)).toNat = min (2 ^ 32 - 1) ((s.reg (stallReg n c)).toNat + 1) :=
    fun q x => by
      rw [State.stallCounted, State.reg_maxFld_ne _ _ _ _ (stallReg_ne_max n c), State.toNat_reg_addFld_word, State.reg_setPart]
  obtain ⟨q, x, h | ⟨f, h⟩⟩ := s.stallStep_counts n c
  · rw [h, hcount]
  · rw [h, State.reg_raiseFrm_ne _ n 3 (stallReg_ne_irq n c), State.reg_modPart, hcount]

theorem State.regsBut_stallStep : RegsBut s (s.stallStep n c) [stallReg n c, Reg.FRM_STALL_MAX n, Reg.FRM_IRQ_STATUS n] := by
  intro a ha
  simp only [List.mem_cons, List.not_mem_nil, or_false, not_or] at ha
  obtain ⟨hcause, hmax, hirq⟩ := ha
  have hcount : ∀ q x, (s.stallCounted n c q x).reg a = s.reg a := fun q x => by
    rw [State.stallCounted, State.reg_maxFld_ne _ _ _ _ hmax, State.reg_addFld_ne _ _ _ _ hcause, State.reg_setPart]
  obtain ⟨q, x, h | ⟨f, h⟩⟩ := s.stallStep_counts n c
  · rw [h, hcount]
  · rw [h, State.reg_raiseFrm_ne _ n 3 hirq, State.reg_modPart, hcount]

theorem State.vlt_stallStep : (s.stallStep n c).vlt = s.vlt := by
  have hcount : ∀ q x, (s.stallCounted n c q x).vlt = s.vlt := fun q x =>
    (HealthOnly.setFld (.addFld (.refl (s.setPart n q)))).vlt.trans (State.vlt_setPart ..)
  obtain ⟨q, x, h | ⟨f, h⟩⟩ := s.stallStep_counts n c
  · rw [h, hcount]
  · rw [h, State.vlt_raiseFrm, State.vlt_modPart, hcount]

end

/-- What the step clock goes by, and what ends the step with it (R42, R48). -/
def Part.standing (p : Part) := (p.state, p.step, p.frame, p.cur, p.eph, p.stalled, p.stallLen, p.reserved)

section
variable {p q : Part}

theorem Part.step_of_standing (h : q.standing = p.standing) : q.step = p.step ∧ q.eph = p.eph ∧ q.reserved = p.reserved := by
  simp only [Part.standing, Prod.mk.injEq] at h
  obtain ⟨-, hstep, -, -, heph, -, -, hres⟩ := h
  exact ⟨hstep, heph, hres⟩

theorem HazOnly.standing (h : HazOnly p q) : q.standing = p.standing := by
  obtain ⟨_, rfl⟩ := h
  rfl

theorem Delivered.standing (h : Delivered p q) : q.standing = p.standing := by
  obtain ⟨_, _, _, _, _, _, _, rfl⟩ := h
  rfl

theorem LatMoved.standing (h : LatMoved p q) : q.standing = p.standing := by
  obtain ⟨_, _, _, _, _, _, rfl⟩ := h
  rfl

end

section
variable (p : Part) (w : DWord) (bp s : Nat)

@[simp] theorem Part.standing_hazard (code opnd detail : Nat) : (p.hazard code bp opnd detail).standing = p.standing :=
  (HazOnly.hazard (.refl p)).standing

@[simp] theorem Part.standing_note (place : Nat) : (p.note bp place).standing = p.standing := by
  obtain ⟨_, h⟩ := p.noteAt_hist bp place p.step
  rw [Part.note, h]
  rfl

theorem Part.standing_writeResult (keep r : Bool) : (p.writeResult bp s keep r).standing = p.standing := by
  unfold Part.writeResult
  split
  · rfl
  · exact Part.standing_note _ _ _

theorem Part.standing_sendResult (send r : Bool) : (p.sendResult bp send r).standing = p.standing := by
  unfold Part.sendResult
  split <;> rfl

theorem Part.standing_tapResult (tap r : Bool) : (p.tapResult bp s tap r).standing = p.standing := by
  unfold Part.tapResult
  split
  · split
    · exact Part.standing_hazard ..
    · rfl
  · rfl

@[simp] theorem Part.standing_resultPath (r : Bool) : (p.resultPath w bp s r).standing = p.standing := by
  rw [Part.resultPath, Part.standing_tapResult, Part.standing_sendResult, Part.standing_writeResult]

theorem Part.standing_doVput : (p.doVput w bp s).standing = p.standing := by
  dsimp only [Part.doVput]
  split
  · exact Part.standing_resultPath ..
  · rw [Part.standing_hazard, Part.standing_resultPath]

theorem Part.standing_doXput : (p.doXput w bp s).standing = p.standing := by
  dsimp only [Part.doXput]
  split
  · rw [Part.standing_hazard, Part.standing_resultPath]
  · split
    · exact Part.standing_resultPath ..
    · rw [Part.standing_hazard, Part.standing_resultPath]

theorem Part.standing_doXget : (p.doXget w bp s).standing = p.standing := by
  obtain ⟨_, _, _, h, -⟩ := p.doXget_xd w bp s
  rw [h]
  rfl

theorem Part.standing_doIput : (p.doIput w bp s).standing = p.standing := by
  dsimp only [Part.doIput]
  split
  · exact Part.standing_resultPath ..
  · rw [Part.standing_hazard, Part.standing_resultPath]

theorem Part.standing_doStop : (p.doStop w bp s).standing = p.standing := by
  dsimp only [Part.doStop]
  split <;> exact Part.standing_resultPath ..

theorem Part.standing_doMark : (p.doMark w bp s).standing = p.standing := by
  unfold Part.doMark
  split
  · split
    · rfl
    · exact Part.standing_hazard ..
  · rfl

/-- A class that is not reserved leaves what the step clock goes by (R59). -/
theorem Part.standing_doClass (h : ¬ (11 ≤ wCls w ∧ wCls w ≤ 14)) : (p.doClass w bp s).standing = p.standing := by
  have hlt : wCls w < 16 := Nat.mod_lt _ (by decide)
  unfold Part.doClass
  split
  · exact Part.standing_resultPath ..
  · exact Part.standing_resultPath ..
  · exact Part.standing_resultPath ..
  · exact Part.standing_doVput ..
  · rfl
  · exact Part.standing_doXput ..
  · exact Part.standing_doXget ..
  · exact Part.standing_doIput ..
  · exact Part.standing_resultPath ..
  · exact Part.standing_doStop ..
  · exact Part.standing_doMark ..
  · rfl
  · simp only [imp_false] at *
    omega

end

/-- The BPs of the partition execute no reserved class in this step (R48). -/
def Part.noneReserved (p : Part) : Prop := ∀ bp, ¬ (11 ≤ wCls (p.slot bp p.step) ∧ wCls (p.slot bp p.step) ≤ 14)

theorem Part.noneReserved.of_standing {p q : Part} (h : p.noneReserved) (hs : q.standing = p.standing) : q.noneReserved := by
  obtain ⟨hstep, heph, -⟩ := Part.step_of_standing hs
  unfold Part.noneReserved Part.slot
  rw [hstep, heph]
  exact h

section
variable {p : Part} (h : p.noneReserved)
include h

theorem Part.standing_execSlot (bp : Nat) (e : BpErr) : (p.execSlot bp e).standing = p.standing := by
  cases hu : e.slotUnc with
  | true =>
    unfold Part.execSlot
    rw [hu]
    rfl
  | false =>
    obtain ⟨er, cl, l, hslot⟩ := p.execSlot_of_read bp hu
    rw [hslot]
    exact Part.standing_doClass _ _ _ _ (h bp)

theorem Part.standing_execBps (env : List (Nat × BpErr)) (l : List Nat) : (p.execBps env l).standing = p.standing := by
  induction l generalizing p with
  | nil => rfl
  | cons bp r ih =>
    unfold Part.execBps
    split
    · exact ih h
    · have hslot := fun e => Part.standing_execSlot h bp e
      exact (ih (h.of_standing (hslot _))).trans (hslot _)

theorem Part.standing_execAll (env : List (Nat × BpErr)) : (p.execAll env).standing = p.standing := by
  have hlisted := Part.standing_execBps h env p.listedBps
  exact (Part.standing_execBps (h.of_standing hlisted) ..).trans hlisted

end

/-- t is as s but that partition n stands as p does, as far as the step clock looks (R42, R48). -/
def ClockKept (s : State) (n : Fin 8) (p : Part) (t : State) : Prop := ∃ q, q.standing = p.standing ∧ Quiet (s.setPart n q) t

namespace ClockKept

theorem ite {s t u : State} {n : Fin 8} {p : Part} {c : Prop} {_ : Decidable c} (ht : ClockKept s n p t) (hu : ClockKept s n p u) :
    ClockKept s n p (if c then t else u) := by
  split
  exacts [ht, hu]

section
variable {s t u : State} {n : Fin 8} {p : Part} (h : ClockKept s n p t)
include h

/-- An operation on another unit. -/
theorem quiet (hu : Quiet t u) : ClockKept s n p u := by
  obtain ⟨q, hq, ht⟩ := h
  exact ⟨q, hq, .trans ht hu⟩

theorem setPart {q : Part} (hq : q.standing = (t.part n).standing) : ClockKept s n p (t.setPart n q) := by
  obtain ⟨q', hq', ht⟩ := h
  rw [ht.part_eq] at hq
  exact ⟨q, hq.trans hq', ht.setPart⟩

theorem modPart {f : Part → Part} (hf : ∀ q, (f q).standing = q.standing) : ClockKept s n p (t.modPart n f) := by
  rw [State.modPart_eq]
  exact h.setPart (hf _)

theorem portRead {env : StepEnv} {granted : List (Nat × Nat)} {i : Issue} : ClockKept s n p (t.portRead n env granted i) := by
  dsimp only [State.portRead]
  split
  · split
    · refine .ite (h.setPart (by simp)) ?_
      split
      · exact h.setPart (by simp)
      · exact h.setPart (Part.standing_hazard ..)
    · exact h.setPart (Part.standing_hazard ..)
  · refine .ite (.modPart (h.quiet (.vltReject (.refl _))) fun _ => rfl) (.ite (.modPart (h.quiet (.addFld (.refl _))) fun _ => rfl) ?_)
    have hread : ∀ r, ClockKept s n p (t.modPart n fun p => p.addRead r) := fun r => h.modPart fun _ => rfl
    exact .ite (.modPart ((hread _).quiet (.vltDbe (.refl _))) fun _ => rfl) (.ite ((hread _).quiet (.vltCorr (.refl _))) (hread _))
  · refine .ite (h.setPart (Part.standing_hazard ..)) ?_
    split
    · exact h.setPart (Part.standing_hazard ..)
    · refine .quiet ?_ (.askRead (.refl _))
      exact h.setPart rfl

theorem portWrite {granted : List (Nat × Nat)} {i : Issue} : ClockKept s n p (t.portWrite n granted i) := by
  dsimp only [State.portWrite]
  split
  · refine h.setPart ?_
    have hall : ∀ (l : List Nat) (q : Part), (l.foldl (fun q b => q.hazard 9 b 0 ((t.part n).stage i.port).mem.toNat) q).standing = q.standing := by
      intro l
      induction l with
      | nil => exact fun _ => rfl
      | cons b r ih => exact fun q => (ih _).trans (q.standing_hazard ..)
    exact hall _ _
  · refine .ite (.modPart (h.quiet (.vltReject (.refl _))) fun _ => rfl) (.ite (h.quiet (.addFld (.refl _))) ?_)
    refine .quiet ?_ (.maxFld (.refl _))
    exact .setPart (h.quiet (.setVword (.refl _))) rfl
  · have hheld : ∀ frame addr data, ClockKept s n p (t.holdWrite n frame addr data).1 := fun _ _ _ => h.quiet (.holdWrite (.refl _))
    exact .ite (.modPart (h.quiet (.depotRefuse (.refl _))) fun _ => rfl) (.ite (hheld ..) (.modPart (hheld ..) fun _ => rfl))

theorem portReads {env : StepEnv} {granted : List (Nat × Nat)} {l : List Issue} : ClockKept s n p (t.portReads n env granted l) := by
  induction l generalizing t with
  | nil => exact h
  | cons i r ih => exact ih (.ite h h.portRead)

theorem portWrites {granted : List (Nat × Nat)} {l : List Issue} : ClockKept s n p (t.portWrites n granted l) := by
  induction l with
  | nil => exact h
  | cons i r ih => exact .ite ih.portWrite ih

/-- The port transactions of a step leave what the step clock goes by (R116, R192). -/
theorem portStep {env : StepEnv} : ClockKept s n p (t.portStep n env) := by
  have hstage : ∀ (all l : List LaneW) (q : Part), (q.stageLanes all l).standing = q.standing := by
    intro all l
    induction l with
    | nil => exact fun _ => rfl
    | cons x r ih => exact fun q => ih _
  unfold State.portStep
  refine .modPart (.portWrites (.portReads (h.setPart ?_))) fun _ => rfl
  split
  · exact hstage ..
  · exact hstage ..

theorem lattice {env : StepEnv} {eval : Bool} : ClockKept s n p (t.lattice n env eval) := by
  obtain ⟨q, hq, ht⟩ := h
  obtain ⟨q', hq', ht'⟩ := ht.lattice
  exact ⟨q', hq'.standing.trans hq, ht'⟩

theorem flushHaz : ClockKept s n p (t.flushHaz n) := by
  obtain ⟨q, hq, ht⟩ := h
  obtain ⟨q', hq', ht'⟩ := ht.flushHaz
  exact ⟨q', hq'.standing.trans hq, ht'⟩

/-- An evaluation step of slots of no reserved class advances the step counter (R28, R42). -/
theorem evalStep {env : StepEnv} (hslots : p.noneReserved) (hres : p.reserved = []) :
    ∃ q : Part, q.standing = p.standing ∧ Quiet (s.setPart n { q with step := p.step + 1, done := [], nops := [] }) (t.evalStep n env) := by
  have hexec : ClockKept s n p (((t.noteStack n env).noteXgets n).modPart n fun p => p.execAll env.bps) := by
    have hnoted : ClockKept s n p ((t.noteStack n env).noteXgets n) := h.quiet (.noteXgets (.noteStack (.refl _)))
    obtain ⟨q, hq, ht⟩ := hnoted
    exact ⟨_, (Part.standing_execAll (hslots.of_standing hq) _).trans hq, ht.modPart⟩
  have hends : ClockKept s n p (((((((t.noteStack n env).noteXgets n).modPart n fun p => p.execAll env.bps).portStep n env).lattice n env
      true).modPart n fun p => p.deliverVd.applyOuts)) :=
    .modPart (.lattice (.portStep hexec)) fun q => (Delivered.deliverVd q).standing
  unfold State.evalStep
  dsimp only
  generalize (((((((t.noteStack n env).noteXgets n).modPart n fun p => p.execAll env.bps).portStep n env).lattice n env
      true).modPart n fun p => p.deliverVd.applyOuts)) = u at hends ⊢
  have hend : ClockKept s n p ((if t.catchingUp n then u else u.sealStep n).flushHaz n) :=
    .flushHaz (.ite hends (hends.quiet (.sealStep (.refl _))))
  generalize (if t.catchingUp n then u else u.sealStep n).flushHaz n = v at hend ⊢
  obtain ⟨q, hq, hv⟩ := hend
  obtain ⟨hstep, -, hreserved⟩ := Part.step_of_standing hq
  have hnone : minOf q.reserved = none := by
    rw [hreserved, hres]
    rfl
  rw [hv.part_eq, hnone, ← hstep]
  exact ⟨q, hq, hv.setPart⟩

end

end ClockKept

section
variable {s : State} {n : Fin 8} {env : StepEnv} (hcyc : s.cycling n = true) (hreq : (s.part n).holdReq = false)
  (hdone : (s.part n).bdone = false)
include hcyc hreq hdone

/-- A cycle with an item absent, before the stall's limit, is a stall step (R42, R45). -/
theorem State.seqCycle_of_absent {c : Stall} (habs : s.absentAt n = some c)
    (hlim : ¬ ((s.part n).limit ≠ 0 ∧ (s.part n).limit ≤ (s.part n).stallLen ∧ s.catchingUp n = false)) :
    s.seqCycle n env = s.stallStep n c := by
  unfold State.seqCycle
  dsimp only
  rw [if_pos hcyc, hdone, if_neg Bool.false_ne_true, habs, if_neg (fun h => hlim h.2), hreq, Bool.false_and, if_neg Bool.false_ne_true]

/-- A cycle at an evaluation step with nothing absent executes it (R42). -/
theorem State.seqCycle_of_evaluation (habs : s.absentAt n = none) (hstep : (s.part n).step < (s.part n).eph.depth) :
    s.seqCycle n env = (s.setPart n (s.part n).counted).evalStep n env := by
  unfold State.seqCycle Part.counted
  dsimp only
  rw [if_pos hcyc, hdone, if_neg Bool.false_ne_true, habs, if_neg (by simp), hreq, Bool.false_and, if_neg Bool.false_ne_true]
  dsimp only
  rw [if_pos hstep]

end

end Sys2Proof.Machine

namespace Sys2Proof.Proofs

open Sys2Proof Sys2Proof.Machine Sys2Proof.Statements

/-- Settles O5: the stall step and the evaluation step of a cycle. -/
theorem stepCyclesStallOrAdvance : Obligations.StepCyclesStallOrAdvance := by
  unfold Obligations.StepCyclesStallOrAdvance
  intro s n env hcyc hreq hdone
  obtain ⟨-, hpend, -⟩ : Keeps s (s.seqCycle n env) := .seqCycle (.refl s)
  refine ⟨fun c habs hlim => ?_, fun hstep habs hres hslots => ?_⟩
  · rw [State.seqCycle_of_absent hcyc hreq hdone habs hlim] at hpend
    obtain ⟨lim, wn, hq⟩ := s.stallStep_freezes n c
    refine ⟨s.stallStep n c, ?_, ?_, s.reg_stallStep_self n c, hq.partsBut, s.vlt_stallStep n c, hpend, s.regsBut_stallStep n c⟩
    · rw [exec_stepCycle, State.seqCycle_of_absent hcyc hreq hdone habs hlim]
    · rw [hq.part_eq]
      exact ⟨rfl, rfl, rfl, rfl, rfl, rfl, rfl, rfl, rfl, rfl, rfl, rfl, rfl, rfl, rfl, rfl⟩
  · rw [State.seqCycle_of_evaluation hcyc hreq hdone habs hstep] at hpend
    have hstart : ClockKept s n (s.part n).counted (s.setPart n (s.part n).counted) := ⟨_, rfl, .refl _⟩
    obtain ⟨q, hq, ht⟩ := hstart.evalStep (env := env) hslots hres
    simp only [Part.standing, Prod.mk.injEq] at hq
    obtain ⟨hstate, -, hframe, hcur, heph, hstalled, hlen, -⟩ := hq
    refine ⟨_, by rw [exec_stepCycle, State.seqCycle_of_evaluation hcyc hreq hdone habs hstep], ?_⟩
    rw [ht.part_eq]
    exact ⟨rfl, hstate, hframe, hcur, heph, hstalled, hlen, rfl, ht.partsBut, hpend⟩

end Sys2Proof.Proofs
end

section
/-!
SUPPORT. The result path of a slot (R85 to R89): what it leaves in the partition, and that a class which hands its result to it leaves what
R85 says of the slot.
-/
namespace Sys2Proof.Machine

open Sys2Proof Sys2Proof.Statements

section
variable (p : Part) (bp s : Nat) (r : Bool)

/-- KEEP = 0 writes the bit of the step's own address and no other (R85, R89). -/
theorem Part.writeResult_ws (keep : Bool) : ∃ ws h t,
    p.writeResult bp s keep r = { p with img := { p.img with ws := ws, hist := h }, toggles := t } ∧
      ∀ k, mget dBit ws k = if keep = false ∧ k = bp * 2048 + s then r else mget dBit p.img.ws k := by
  cases keep with
  | true => exact ⟨p.img.ws, p.img.hist, p.toggles, rfl, fun k => by rw [if_neg (by simp)]⟩
  | false =>
    unfold Part.writeResult Part.note
    rw [if_neg Bool.false_ne_true]
    extract_lets t
    obtain ⟨h, hnote⟩ := Part.noteAt_hist { p with img := p.img.setWs bp s r, toggles := t } bp s p.step
    refine ⟨mset dBit p.img.ws (bp * 2048 + s) r, h, t, hnote, fun k => ?_⟩
    simp only [mget_mset, true_and]

/-- SEND offers the result to the lattice (R86). -/
theorem Part.sendResult_eq (send : Bool) : p.sendResult bp send r = { p with offers := p.offers ++ if send then [(bp, r)] else [] } := by
  cases send with
  | true => rfl
  | false => simp [Part.sendResult]

/-- TAP hands the result to the slots allocated to the BP and step, and records at most a hazard where there is none (R87). -/
theorem Part.tapResult_taps (tap : Bool) :
    HazOnly { p with taps := p.taps ++ if tap then (p.tapSlots bp s).map (fun x => ⟨x.tile, s, x.lane, x.group, r⟩) else [] }
      (p.tapResult bp s tap r) := by
  cases tap with
  | false =>
    rw [if_neg Bool.false_ne_true, List.append_nil]
    exact .refl p
  | true =>
    unfold Part.tapResult
    rw [if_pos rfl, if_pos rfl]
    split
    · next hnone =>
      rw [hnone, List.map_nil, List.append_nil]
      exact .hazard (.refl p)
    · exact .refl _

/-- All that the result path changes: the working store, the lattice's offers and the taps, with the write history of R107, the toggle count
of R77 and the hazards of the step (R85 to R89). -/
theorem Part.resultPath_eq (w : DWord) : ∃ ws h t l,
    p.resultPath w bp s r =
        { p with
          img := { p.img with ws := ws, hist := h }, toggles := t, hazNow := l,
          offers := p.offers ++ if wSend w then [(bp, r)] else [],
          taps := p.taps ++ if wTap w then (p.tapSlots bp s).map (fun x => ⟨x.tile, s, x.lane, x.group, r⟩) else [] } ∧
      ∀ k, mget dBit ws k = if wKeep w = false ∧ k = bp * 2048 + s then r else mget dBit p.img.ws k := by
  obtain ⟨ws, h, t, hwrite, hws⟩ := p.writeResult_ws bp s r (wKeep w)
  obtain ⟨l, htap⟩ := ((p.writeResult bp s (wKeep w) r).sendResult bp (wSend w) r).tapResult_taps bp s r (wTap w)
  refine ⟨ws, h, t, l, ?_, hws⟩
  rw [Part.resultPath, htap, Part.sendResult_eq, hwrite]
  rfl

end

/-- A class's effect on the partition that the checks hand it is the effect of its slot on the partition (R102). -/
theorem slotResult_of_doClass {c : BpErr → Instr} {cls : Nat} {bp : BpAddr} {r : Part → DWord → Nat → Nat → Bool}
    {more : Part → Part → DWord → Bool → Prop} (hrow : ∀ e s, exec (c e) s = bpRow (· == cls) bp e s)
    (heff : ∀ (p : Part) (w : DWord) er cl l, wCls w = cls →
      ResultPath p ((p.noted bp.toNat er cl l).doClass w bp.toNat p.step) bp.toNat w (r p w bp.toNat p.step) ∧
        more p ((p.noted bp.toNat er cl l).doClass w bp.toNat p.step) w (r p w bp.toNat p.step)) :
    SlotResult c cls bp.toNat r more := by
  intro s n e hd hr hu
  obtain ⟨t, ht, hframe, hpart⟩ := bpRow_of_ready hd hr hu
  obtain ⟨er, cl, l, hslot⟩ := (s.part n).execSlot_of_read bp.toNat hu
  refine ⟨t, (hrow e s).trans ht, hframe, ?_⟩
  rw [hpart, hslot]
  exact heff _ _ er cl l (beq_iff_eq.mp (State.cls_of_bpReady hr))

section
variable (p : Part) (bp : Nat) (w : DWord) (r : Bool) (er : Err) (cl : List Nat) (l : List Haz)

/-- The result path of the slot that a BP executes is all that R85 says of it. -/
theorem Part.resultPath_noted : ResultPath p ((p.noted bp er cl l).resultPath w bp p.step r) bp w r := by
  obtain ⟨ws, _, _, _, h, hws⟩ := (p.noted bp er cl l).resultPath_eq bp p.step r w
  rw [h]
  exact ⟨hws, rfl, rfl, rfl, rfl, rfl, rfl, rfl, rfl⟩

theorem Part.xd_resultPath (s : Nat) : (p.resultPath w bp s r).img.xd = p.img.xd := by
  obtain ⟨_, _, _, _, h, -⟩ := p.resultPath_eq bp s r w
  rw [h]

theorem Part.stops_resultPath (s : Nat) : (p.resultPath w bp s r).stops = p.stops := by
  obtain ⟨_, _, _, _, h, -⟩ := p.resultPath_eq bp s r w
  rw [h]

/-- STOP adds the request of a BP that has none in the frame, and otherwise has the result path only (R96, R97). -/
theorem Part.doStop_eq (s : Nat) : p.doStop w bp s =
    { p.resultPath w bp s (p.evalBit w bp s) with
      stops := if p.evalBit w bp s = true ∧ (∀ x ∈ p.stops, x.1 ≠ bp) then p.stops ++ [(bp, wFni w)] else p.stops } := by
  have hfirst : (p.evalBit w bp s && !(p.stops.any fun x => x.1 == bp)) = true ↔ p.evalBit w bp s = true ∧ ∀ x ∈ p.stops, x.1 ≠ bp := by
    simp
  unfold Part.doStop
  dsimp only
  rw [Part.stops_resultPath]
  split
  · next h => rw [if_pos (hfirst.mp h)]
  · next h =>
    rw [if_neg (mt hfirst.mpr h)]
    conv_rhs => rw [← p.stops_resultPath bp w (p.evalBit w bp s) s]

end

theorem exec_eval (bp : BpAddr) (e : BpErr) (s : State) : exec (.eval bp e) s = bpRow (· == 0) bp e s := rfl
theorem exec_hold (bp : BpAddr) (e : BpErr) (s : State) : exec (.hold bp e) s = bpRow (· == 1) bp e s := rfl
theorem exec_latch (bp : BpAddr) (e : BpErr) (s : State) : exec (.latch bp e) s = bpRow (· == 2) bp e s := rfl
theorem exec_iget (bp : BpAddr) (e : BpErr) (s : State) : exec (.iget bp e) s = bpRow (· == 8) bp e s := rfl
theorem exec_stop (bp : BpAddr) (e : BpErr) (s : State) : exec (.stop bp e) s = bpRow (· == 9) bp e s := rfl

section
variable {p : Part} {w : DWord} {bp s : Nat}

theorem Part.doClass_eval (h : wCls w = 0) : p.doClass w bp s = p.resultPath w bp s (evalResult p w bp s) := by
  simp only [Part.doClass, h]
  rfl

theorem Part.doClass_hold (h : wCls w = 1) : p.doClass w bp s = p.resultPath w bp s (holdResult p w bp s) := by
  simp only [Part.doClass, h]
  rfl

theorem Part.doClass_latch (h : wCls w = 2) : p.doClass w bp s = p.resultPath w bp s (holdResult p w bp s) := by
  simp only [Part.doClass, h]
  rfl

theorem Part.doClass_iget (h : wCls w = 8) : p.doClass w bp s = p.resultPath w bp s (igetResult p w bp s) := by
  simp only [Part.doClass, h]
  rfl

theorem Part.doClass_stop (h : wCls w = 9) : p.doClass w bp s = p.doStop w bp s := by
  simp only [Part.doClass, h]

end

/-- A class that only hands its result to the result path leaves XD and the stop requests as they were. -/
theorem slotResult_of_resultPath {c : BpErr → Instr} {cls : Nat} {bp : BpAddr} {r : Part → DWord → Nat → Nat → Bool}
    (hrow : ∀ e s, exec (c e) s = bpRow (· == cls) bp e s)
    (hclass : ∀ {p : Part} {w : DWord} {s : Nat}, wCls w = cls → p.doClass w bp.toNat s = p.resultPath w bp.toNat s (r p w bp.toNat s))
    (hnoted : ∀ (p : Part) (w : DWord) er cl l s, r (p.noted bp.toNat er cl l) w bp.toNat s = r p w bp.toNat s) :
    SlotResult c cls bp.toNat r (fun p q _ _ => q.img.xd = p.img.xd ∧ q.stops = p.stops) := by
  refine slotResult_of_doClass hrow fun p w er cl l hw => ?_
  rw [hclass hw, hnoted]
  exact ⟨p.resultPath_noted .., Part.xd_resultPath .., Part.stops_resultPath ..⟩

end Sys2Proof.Machine

namespace Sys2Proof.Proofs

open Sys2Proof Sys2Proof.Machine Sys2Proof.Statements

/-- Settles O2: each class hands its result to the result path, and STOP adds its request. -/
theorem evaluationSlotsWriteTheirResult : Obligations.EvaluationSlotsWriteTheirResult := by
  unfold Obligations.EvaluationSlotsWriteTheirResult
  refine ⟨fun p bp k fni a b c d => rfl, fun bp => ⟨?eval, ?hold, ?latch, ?iget, ?stop⟩⟩
  case eval => exact slotResult_of_resultPath (exec_eval bp) Part.doClass_eval fun _ _ _ _ _ _ => rfl
  case hold => exact slotResult_of_resultPath (exec_hold bp) Part.doClass_hold fun _ _ _ _ _ _ => rfl
  case latch => exact slotResult_of_resultPath (exec_latch bp) Part.doClass_latch fun _ _ _ _ _ _ => rfl
  case iget => exact slotResult_of_resultPath (exec_iget bp) Part.doClass_iget fun _ _ _ _ _ _ => rfl
  case stop =>
    refine slotResult_of_doClass (exec_stop bp) fun p w er cl l hw => ?_
    rw [Part.doClass_stop hw, Part.doStop_eq]
    exact ⟨p.resultPath_noted .., Part.xd_resultPath .., rfl⟩

end Sys2Proof.Proofs
end

section
/-!
SUPPORT. The put classes (R111, R114, R115, R124, R125, R129): to whom VPUT, XPUT and IPUT hand on the result that the result path takes.
-/
namespace Sys2Proof.Machine

open Sys2Proof Sys2Proof.Statements

section
variable (p : Part) (bp s : Nat) (w : DWord) (r : Bool)

theorem Part.lanes_resultPath : (p.resultPath w bp s r).lanes = p.lanes := by
  obtain ⟨_, _, _, _, h, -⟩ := p.resultPath_eq bp s r w
  rw [h]

theorem Part.xform_resultPath : (p.resultPath w bp s r).xform = p.xform := by
  obtain ⟨_, _, _, _, h, -⟩ := p.resultPath_eq bp s r w
  rw [h]

theorem Part.outs_resultPath : (p.resultPath w bp s r).outs = p.outs := by
  obtain ⟨_, _, _, _, h, -⟩ := p.resultPath_eq bp s r w
  rw [h]

/-- VPUT stages its lane where there is one, and otherwise records at most a hazard (R114, R115). -/
theorem Part.doVput_eq : HazOnly
    { p.resultPath w bp s (putResult p w bp s) with
      lanes := if laneUsed (wSd w / 256 % 4) (wSd w % 64)
        then p.lanes ++ [⟨portKey bp (wSd w / 64 % 4), wSd w / 256 % 4, wSd w % 64, putResult p w bp s, bp⟩] else p.lanes }
    (p.doVput w bp s) := by
  rw [← p.lanes_resultPath bp s w (putResult p w bp s)]
  unfold Part.doVput
  dsimp only
  split
  exacts [.refl _, .hazard (.refl _)]

/-- XPUT enters its bit into the word of an outgoing slot that is not sealed, and otherwise records at most a hazard (R124, R125). -/
theorem Part.doXput_eq : ∃ xf,
    HazOnly { p.resultPath w bp s (putResult p w bp s) with xform := xf } (p.doXput w bp s) ∧
      ∀ k, mget dWord64 xf k = match p.eph.xslot (bpCluster bp) (wSd w % 256) false with
        | some x => if s ≤ x.sendStep ∧ k = bpCluster bp * 256 + wSd w % 256
          then setBitsAt (mget dWord64 p.xform k) (execB p.eph.deep bp s) 1 (b2n (putResult p w bp s)) else mget dWord64 p.xform k
        | none => mget dWord64 p.xform k := by
  rw [← p.xform_resultPath bp s w (putResult p w bp s)]
  unfold Part.doXput
  dsimp only
  cases p.eph.xslot (bpCluster bp) (wSd w % 256) false with
  | none => exact ⟨(p.resultPath w bp s (putResult p w bp s)).xform, .hazard (.refl _), fun _ => rfl⟩
  | some x =>
    dsimp only
    split
    · next hopen =>
      refine ⟨_, .refl _, fun k => ?_⟩
      rw [mget_mset]
      by_cases hk : k = bpCluster bp * 256 + wSd w % 256
      · rw [if_pos hk, if_pos ⟨hopen, hk⟩, hk]
        rfl
      · rw [if_neg hk, if_neg fun h => hk h.2]
        rfl
    · next hsealed =>
      exact ⟨(p.resultPath w bp s (putResult p w bp s)).xform, .hazard (.refl _), fun k => (if_neg fun h => hsealed h.1).symm⟩

/-- IPUT hands its result to its output bit where one is allocated, and otherwise records at most a hazard (R129). -/
theorem Part.doIput_eq : HazOnly
    { p.resultPath w bp s (putResult p w bp s) with
      outs := if (p.eph.boundBit false (p.outBase bp + wSd w % 256)).isSome
        then p.outs ++ [(p.outBase bp + wSd w % 256, putResult p w bp s, bp)] else p.outs }
    (p.doIput w bp s) := by
  rw [← p.outs_resultPath bp s w (putResult p w bp s)]
  unfold Part.doIput
  dsimp only
  split
  exacts [.refl _, .hazard (.refl _)]

end

section
variable {p : Part} {w : DWord} {bp s : Nat}

theorem Part.doClass_vput (h : wCls w = 3) : p.doClass w bp s = p.doVput w bp s := by
  simp only [Part.doClass, h]

theorem Part.doClass_xput (h : wCls w = 5) : p.doClass w bp s = p.doXput w bp s := by
  simp only [Part.doClass, h]

theorem Part.doClass_iput (h : wCls w = 7) : p.doClass w bp s = p.doIput w bp s := by
  simp only [Part.doClass, h]

end

theorem exec_vput (bp : BpAddr) (e : BpErr) (s : State) : exec (.vput bp e) s = bpRow (· == 3) bp e s := rfl
theorem exec_xput (bp : BpAddr) (e : BpErr) (s : State) : exec (.xput bp e) s = bpRow (· == 5) bp e s := rfl
theorem exec_iput (bp : BpAddr) (e : BpErr) (s : State) : exec (.iput bp e) s = bpRow (· == 7) bp e s := rfl

end Sys2Proof.Machine

namespace Sys2Proof.Proofs

open Sys2Proof Sys2Proof.Machine Sys2Proof.Statements

/-- Settles O3: each put class has the result path, and then hands its result on or records a hazard. -/
theorem putSlotsHandTheirResultOn : Obligations.PutSlotsHandTheirResultOn := by
  unfold Obligations.PutSlotsHandTheirResultOn
  intro bp
  refine ⟨?vput, ?xput, ?iput⟩
  case vput =>
    refine slotResult_of_doClass (exec_vput bp) fun p w er cl l hw => ?_
    obtain ⟨_, hput⟩ := (p.noted bp.toNat er cl l).doVput_eq bp.toNat p.step w
    rw [Part.doClass_vput hw, hput]
    exact ⟨p.resultPath_noted .., Part.xd_resultPath .., Part.outs_resultPath .., Part.xform_resultPath .., rfl⟩
  case xput =>
    refine slotResult_of_doClass (exec_xput bp) fun p w er cl l hw => ?_
    obtain ⟨xf, ⟨_, hput⟩, hxf⟩ := (p.noted bp.toNat er cl l).doXput_eq bp.toNat p.step w
    rw [Part.doClass_xput hw, hput]
    exact ⟨p.resultPath_noted .., Part.xd_resultPath .., Part.outs_resultPath .., Part.lanes_resultPath .., hxf⟩
  case iput =>
    refine slotResult_of_doClass (exec_iput bp) fun p w er cl l hw => ?_
    obtain ⟨_, hput⟩ := (p.noted bp.toNat er cl l).doIput_eq bp.toNat p.step w
    rw [Part.doClass_iput hw, hput]
    exact ⟨p.resultPath_noted .., Part.xd_resultPath .., Part.xform_resultPath .., Part.lanes_resultPath .., rfl⟩

end Sys2Proof.Proofs
end

section
/-!
SUPPORT. Responses (R213 to R217, R122): where one that reaches its interface lands, what a timeout lands, and what the depot map's grants
that waited for a transaction (R220) leave.
-/
namespace Sys2Proof.Machine

open Sys2Proof Sys2Proof.Statements

/-- Of the state only the depot and the Curator have changed. -/
def DepotCurOnly (s t : State) : Prop := ∃ d c, t = { s with dep := d, cur := c }

namespace DepotCurOnly

theorem refl (s : State) : DepotCurOnly s s := ⟨_, _, rfl⟩

variable {s t u : State}

theorem trans (h : DepotCurOnly s t) (hu : DepotCurOnly t u) : DepotCurOnly s u := by
  obtain ⟨_, _, rfl⟩ := h
  obtain ⟨_, _, rfl⟩ := hu
  exact ⟨_, _, rfl⟩

theorem ite {c : Prop} {_ : Decidable c} (ht : DepotCurOnly s t) (hu : DepotCurOnly s u) : DepotCurOnly s (if c then t else u) := by
  split
  exacts [ht, hu]

section
variable (h : DepotCurOnly s t)
include h

theorem foldl {α : Type} {f : State → α → State} {l : List α} (hf : ∀ {v x}, DepotCurOnly s v → DepotCurOnly s (f v x)) :
    DepotCurOnly s (l.foldl f t) := by
  induction l generalizing t with
  | nil => exact h
  | cons x r ih => exact ih (hf h)

theorem answer {m : Fin 36} {stamp : Nat} {r : Rsp} : DepotCurOnly s (t.answer m stamp r) := by
  rw [t.answer_curOnly m stamp r]
  exact h.trans ⟨_, _, rfl⟩

theorem grantSeg {owner g : Nat} {ro : Bool} : DepotCurOnly s (t.grantSeg owner ro g) := by
  unfold State.grantSeg
  split
  exacts [h.trans ⟨_, _, rfl⟩, h]

/-- What waited for the segments of a grant or return changes the depot map and the answers to its commands (R220, R474). -/
theorem depotMapDue : DepotCurOnly s t.depotMapDue := by
  unfold State.depotMapDue
  refine .foldl h fun h => ?_
  split
  · exact .ite h (.ite (.answer h) (.answer (.foldl h fun h => .grantSeg h)))
  · exact h

end

end DepotCurOnly

/-- A landing entry waits for a response of its interface and tag (R213). -/
def State.waitsFor (s : State) (src sep tag : Nat) : Bool := s.noc.landing.any fun l => l.src == src && l.sep == sep && l.tag == tag

/-- The state after a response has landed and freed its entry. -/
def State.landNow (s : State) (x : Landed) : State :=
  { s with noc := { s.noc with
    landing := s.noc.landing.filter fun l => !(l.src == x.src && l.sep == x.sep && l.tag == x.tag), landed := s.noc.landed ++ [x] } }

/-- The state with other credits of the interfaces. -/
def State.setCredits (s : State) (c : List Credit) : State := { s with noc := { s.noc with credits := c } }

section
variable {s : State} {src sep tag st : Nat} {derr : Bool} {data : List DWord}

/-- A response that an entry waits for lands, and frees the entry (R213). -/
theorem State.land_waited (h : s.waitsFor src sep tag = true) : s.land src sep tag st derr data =
    s.landNow ⟨src, sep, tag, st, derr, data⟩ := if_pos h

/-- A response that none waits for is discarded (R217). -/
theorem State.land_unwaited (h : s.waitsFor src sep tag = false) : s.land src sep tag st derr data = s :=
  if_neg (Bool.eq_false_iff.mp h)

theorem State.waitsFor_of_find {l : Landing}
    (hl : s.noc.landing.find? (fun l => l.src == src && l.sep == sep && l.tag == tag) = some l) : s.waitsFor src sep tag = true := by
  have hmatch := List.find?_some hl
  exact List.any_eq_true.mpr ⟨l, List.mem_of_find?_eq_some hl, hmatch⟩

/-- No entry of the response's interface and tag is left. -/
theorem State.not_waiting_of_landNow (s : State) (x : Landed) :
    ∀ l ∈ (s.landNow x).noc.landing, ¬ (l.src = x.src ∧ l.sep = x.sep ∧ l.tag = x.tag) := by
  rintro l hl ⟨hsrc, hsep, htag⟩
  simp [State.landNow, hsrc, hsep, htag] at hl

end

section
variable {s : State} {p : Pkt} (hr : s.reaches p = true)
include hr

/-- A response that is not of a depot-backed read lands at its interface (R213, R217). -/
theorem State.arriveRsp_lands (h : ¬ (p.ep = 4 ∧ p.op = 8)) :
    s.arriveRsp p false = (s.takePkt p).land p.dest p.ep p.tag p.status p.derr p.data := by
  unfold State.arriveRsp
  dsimp only
  rw [hr, if_neg (by decide), if_neg h]

/-- The response of a depot-backed read reaches the read in its tile (R118, R122). -/
theorem State.arriveRsp_read (hep : p.ep = 4) (hop : p.op = 8) {n : Fin 8} {r : VRead} (hread : s.readOf p.dest p.tag = some (n, r)) :
    s.arriveRsp p false = ((s.takePkt p).freeEntry p.dest 4 p.tag).landRead n r p.status p.derr p.data := by
  have htaken : (s.takePkt p).readOf p.dest p.tag = some (n, r) := hread
  unfold State.arriveRsp
  dsimp only
  rw [hr, if_neg (by decide), if_pos ⟨hep, hop⟩, htaken]

end

/-- The response of a stale read is dropped with the read (R122). -/
theorem State.landRead_stale {s : State} {n : Fin 8} {r : VRead} (h : r.stale = true) (st : Nat) (derr : Bool) (data : List DWord) :
    s.landRead n r st derr data = s.modPart n fun p => { p with reads := p.reads.erase r } := by
  simp only [State.landRead, h, if_true]

theorem exec_readData {s : State} {p : Pkt} (hd : s.hasDie (p.dest / 64) = true) (hcls : p.cls = 2) (hop : p.op = 8) (bad : Bool) :
    exec (.readData p bad) s = .next (s.arriveRsp p bad) := by
  have hrow : exec (.readData p bad) s = execReadData p bad s := rfl
  rw [hrow, execReadData, hd, guardUnit_true, if_pos (by simp [Pkt.isOp, hop, hcls, classOk])]

theorem exec_writeDone {s : State} {p : Pkt} (hd : s.hasDie (p.dest / 64) = true) (hcls : p.cls = 2) (hop : p.op = 9) (bad : Bool) :
    exec (.writeDone p bad) s = .next (s.arriveRsp p bad) := by
  have hrow : exec (.writeDone p bad) s = execWriteDone p bad s := rfl
  rw [hrow, execWriteDone, hd, guardUnit_true, if_pos (by simp [Pkt.isOp, hop, hcls, classOk])]

theorem exec_nocTimeout {s : State} {src : BitVec 8} (hd : s.hasDie (src.toNat / 64) = true) (sep : Fin 16) (tag : BitVec 8) :
    exec (.nocTimeout src sep tag) s = .next (s.nocTimeout src.toNat sep tag.toNat).depotMapDue := by
  have hrow : exec (.nocTimeout src sep tag) s = execNocTimeout src sep tag s := rfl
  rw [hrow, execNocTimeout, hd, guardUnit_true]

theorem State.spendCredit_eq (s : State) (k : CreditKey) : ∃ c, s.spendCredit k = s.setCredits c := by
  unfold State.spendCredit
  dsimp only
  split
  exacts [⟨_, rfl⟩, ⟨_, rfl⟩]

theorem State.timeoutCount_eq (s : State) (dest ep : Nat) : ∃ r, s.timeoutCount dest ep = { s with regs := r } := by
  unfold State.timeoutCount
  split
  · split
    exacts [⟨_, rfl⟩, ⟨_, rfl⟩]
  · exact ⟨_, rfl⟩

/-- A timeout of a request with a landing entry, of an interface other than the schedule's (R217): DERR, BUSY and zero data land, the entry
is freed, and at most a credit and the port's count of R229 change besides. -/
theorem State.nocTimeout_landing {s : State} {src sep tag : Nat} {l : Landing} (hsep : sep ≠ 4)
    (hl : s.noc.landing.find? (fun l => l.src == src && l.sep == sep && l.tag == tag) = some l) :
    ∃ r c, s.nocTimeout src sep tag =
      { (s.setCredits c).landNow ⟨src, sep, tag, Status.busy.code, true, [0]⟩ with regs := r } := by
  have hcredit : ∃ c, (if l.lost then s.spendCredit ⟨src, sep, l.dest, l.ep, l.ctrl⟩ else s) = s.setCredits c := by
    split
    exacts [s.spendCredit_eq _, ⟨_, rfl⟩]
  obtain ⟨c, hc⟩ := hcredit
  have hlands : s.nocTimeout src sep tag = ((s.setCredits c).land src sep tag Status.busy.code true [0]).timeoutCount l.dest l.ep := by
    unfold State.nocTimeout
    rw [hl, decide_eq_false hsep]
    dsimp only
    rw [hc]
    rcases s.readOf src tag with _ | ⟨n, r⟩ <;> rfl
  have hwaits : (s.setCredits c).waitsFor src sep tag = true := State.waitsFor_of_find (s := s.setCredits c) hl
  rw [hlands, State.land_waited hwaits]
  obtain ⟨r, hr⟩ := ((s.setCredits c).landNow ⟨src, sep, tag, Status.busy.code, true, [0]⟩).timeoutCount_eq l.dest l.ep
  exact ⟨r, c, hr⟩

end Sys2Proof.Machine

namespace Sys2Proof.Proofs

open Sys2Proof Sys2Proof.Machine Sys2Proof.Statements

/-- Settles O19: a response lands where an entry waits for it, a stale read's response goes with the read, and a timeout lands as a response. -/
theorem responsesLand : Obligations.ResponsesLand := by
  unfold Obligations.ResponsesLand
  refine fun s => ⟨fun pkt hd hcls hr => ⟨fun c hc => ?_, fun hop hep n r hread hstale => ?_⟩, fun src sep tag l hd hsep hl => ?_⟩
  · have hexec : exec c s = .next ((s.takePkt pkt).land pkt.dest pkt.ep pkt.tag pkt.status pkt.derr pkt.data) := by
      rcases hc with ⟨hop, hep, rfl⟩ | ⟨hop, rfl⟩
      · rw [exec_readData hd hcls hop, State.arriveRsp_lands hr fun h => hep h.1]
      · rw [exec_writeDone hd hcls hop, State.arriveRsp_lands hr fun h => by omega]
    refine ⟨_, hexec, ?_⟩
    cases hw : (s.takePkt pkt).waitsFor pkt.dest pkt.ep pkt.tag with
    | true =>
      rw [State.land_waited hw]
      exact ⟨rfl, rfl, fun _ => ⟨rfl, State.not_waiting_of_landNow _ _⟩, fun h => absurd (hw.symm.trans h) (by decide)⟩
    | false =>
      rw [State.land_unwaited hw]
      exact ⟨rfl, rfl, fun h => absurd (hw.symm.trans h) (by decide), fun _ => ⟨rfl, rfl⟩⟩
  · refine ⟨_, exec_readData hd hcls hop false, ?_⟩
    rw [State.arriveRsp_read hr hep hop hread, State.landRead_stale hstale]
    refine ⟨fun m hm => State.part_setPart_ne _ _ hm, ?_, ?_, rfl⟩ <;> rw [State.part_modPart_self] <;> rfl
  · obtain ⟨r, c, ht⟩ := State.nocTimeout_landing (show sep.val ≠ 4 from fun h => hsep (Fin.ext h)) hl
    obtain ⟨d, k, hmap⟩ := DepotCurOnly.depotMapDue (.refl (s.nocTimeout src.toNat sep tag.toNat))
    refine ⟨_, exec_nocTimeout hd sep tag, ?_⟩
    rw [hmap, ht]
    exact ⟨rfl, rfl, rfl, State.not_waiting_of_landNow _ _⟩

end Sys2Proof.Proofs
end

section
/-!
SUPPORT. Sequenced flits that act (R127, R234, R237, R239 to R243, R248): `LinksOnly` says that of the state only what the links hold and send
has changed, as when a flit is received or sent; then what each kind of flit does by channel and epoch.
-/
namespace Sys2Proof.Machine

open Sys2Proof Sys2Proof.Statements

/-- The state with other streams, backlogs and INITs of its links. -/
def State.relinked (s : State) (l : Vector Link 24) : State := { s with lnk := { s.lnk with links := l } }

/-- Of the state only the links' streams, backlogs and INITs have changed. -/
def LinksOnly (s t : State) : Prop := ∃ l, t = s.relinked l

namespace LinksOnly

theorem refl (s : State) : LinksOnly s s := ⟨_, rfl⟩

variable {s t : State}

theorem sendFlit (h : LinksOnly s t) {k : Fin 24} {f : FlitBody} : LinksOnly s (t.sendFlit k f) := by
  obtain ⟨_, rfl⟩ := h
  unfold State.sendFlit
  split
  exacts [⟨_, rfl⟩, ⟨_, rfl⟩]

theorem sendOn (h : LinksOnly s t) {f : FlitBody} {l : List (Fin 24)} : LinksOnly s (t.sendOn f l) := by
  induction l generalizing t with
  | nil => exact h
  | cons k r ih => exact ih h.sendFlit

end LinksOnly

theorem Stream.receive_accepts {x : Stream} {seq : Nat} (h : seq = x.rxSeq) : (x.receive true seq).2 = true := by
  unfold Stream.receive
  rw [if_pos ⟨rfl, h⟩]
  dsimp only
  split <;> rfl

/-- A flit in sequence with a good CRC acts, on the state in which its lane has received it (R237). -/
theorem State.arrive_accepts {s : State} {k : Fin 24} {i : Fin 4} {seq : Nat} (hup : LaneUp s k i) (hseq : seq = (s.stream k i).rxSeq) :
    ∃ l, ∀ act : State → State, s.arrive k i true seq act = act (s.relinked l) := by
  obtain ⟨-, hlane⟩ := hup
  obtain ⟨l, hl⟩ : ∃ l, s.setStream k i ((s.stream k i).receive true seq).1 = s.relinked l := ⟨_, rfl⟩
  have haccept : (s.receiveSeq k i true seq).2 = true := Stream.receive_accepts hseq
  refine ⟨l, fun act => ?_⟩
  unfold State.arrive
  dsimp only
  rw [if_pos hlane, if_pos haccept, ← hl]
  rfl

section
variable {s : State} {k : Fin 24} (hk : k.val < s.nLinks) (i : Fin 4) (ok : Bool) (q : BitVec 12)
include hk

theorem exec_token (ch : Fin 8) (f : BitVec 48) (e : Fin 16) : exec (.token k i ok q ch f e) s =
    .next (s.arrive k i ok q.toNat fun t => t.chanFlit k (.token ch f.toNat e)) := by
  have hrow : exec (.token k i ok q ch f e) s = execToken k i ok q ch f e s := rfl
  rw [hrow, execToken, decide_eq_true hk, guardUnit_true]

theorem exec_vote (ch : Fin 8) (f : BitVec 48) (e : Fin 16) (es : List VoteE) : exec (.vote k i ok q ch f e es) s =
    .next (s.arrive k i ok q.toNat fun t => t.chanFlit k (.vote ch f.toNat e (es.take 11))) := by
  have hrow : exec (.vote k i ok q ch f e es) s = execVote k i ok q ch f e es s := rfl
  rw [hrow, execVote, decide_eq_true hk, guardUnit_true]

theorem exec_xchgFlit (ws : List DWord) (m : BitVec 24) (ch : Fin 8) (lo : Byte) (e : Fin 16) : exec (.xchgFlit k i ok q ws m ch lo e) s =
    .next (s.arrive k i ok q.toNat fun t => t.chanFlit k (.xchg (ws.take 3) m.toNat ch lo.toNat e)) := by
  have hrow : exec (.xchgFlit k i ok q ws m ch lo e) s = execXchgFlit k i ok q ws m ch lo e s := rfl
  rw [hrow, execXchgFlit, decide_eq_true hk, guardUnit_true]

theorem exec_xtrig (src : Byte) (m x : BitVec 16) (tm : DWord) : exec (.xtrig k i ok q src m x tm) s =
    .next (s.arrive k i ok q.toNat fun t => t.takeXtrig k src.toNat m.toNat x.toNat tm.toNat) := by
  have hrow : exec (.xtrig k i ok q src m x tm) s = execXtrig k i ok q src m x tm s := rfl
  rw [hrow, execXtrig, decide_eq_true hk, guardUnit_true]

/-- What c does when its flit is accepted is what the flit b does by its channel and epoch. -/
theorem exec_channelFlit {ch : Fin 8} {f : BitVec 48} {lo : Byte} {e : Fin 16} {es : List VoteE} {ws : List DWord} {m : BitVec 24}
    {c : Instr} {b : FlitBody}
    (hc : (c = .token k i ok q ch f e ∧ b = .token ch f.toNat e) ∨
      (c = .vote k i ok q ch f e es ∧ b = .vote ch f.toNat e (es.take 11)) ∨
      (c = .xchgFlit k i ok q ws m ch lo e ∧ b = .xchg (ws.take 3) m.toNat ch lo.toNat e)) :
    b.chanEpoch = (ch.val, e.val) ∧ exec c s = .next (s.arrive k i ok q.toNat fun t => t.chanFlit k b) := by
  rcases hc with ⟨rfl, rfl⟩ | ⟨rfl, rfl⟩ | ⟨rfl, rfl⟩
  · exact ⟨rfl, exec_token hk ..⟩
  · exact ⟨rfl, exec_vote hk ..⟩
  · exact ⟨rfl, exec_xchgFlit hk ..⟩

end

section
variable {s : State} {k : Fin 24} {b : FlitBody} {ch e : Nat} (hb : b.chanEpoch = (ch, e))
include hb

/-- A flit of no channel of the link, or of an epoch that is neither the partition's nor the next, is counted (R239, R240). -/
theorem State.chanFlit_drops (h : s.chanPart k ch = none ∨
    ∃ n, s.chanPart k ch = some n ∧ e ≠ (s.mach n).epoch ∧ e ≠ ((s.mach n).epoch + 1) % 16) :
    s.chanFlit k b = s.addFld (Reg.LNK_DROP k) 0 32 1 := by
  unfold State.chanFlit
  rw [hb]
  rcases h with h | ⟨n, h, hown, hnext⟩
  · rw [h]
  · rw [h]
    dsimp only
    rw [if_neg hown, if_neg hnext]

variable {n : Fin 8} (h : s.chanPart k ch = some n)
include h

/-- A flit of the next epoch is held aside (R240). -/
theorem State.chanFlit_aside (hown : e ≠ (s.mach n).epoch) (hnext : e = ((s.mach n).epoch + 1) % 16) :
    s.chanFlit k b = s.setMach n { s.mach n with aside := (s.mach n).aside ++ [(k.val, b)] } := by
  unfold State.chanFlit
  rw [hb, h]
  dsimp only
  rw [if_neg hown, if_pos hnext]

/-- A flit of the partition's epoch is taken (R240). -/
theorem State.chanFlit_takes (hown : e = (s.mach n).epoch) : s.chanFlit k b = s.takeFlit n k b := by
  unfold State.chanFlit
  rw [hb, h]
  exact if_pos hown

end

/-- The entries of a vote that are new are held, and what is forwarded changes the links only (R243). -/
theorem State.takeVotes_holds (s : State) (n : Fin 8) (k : Fin 24) (frame epoch : Nat) (es : List VoteE) :
    LinksOnly
      (s.setMach n { s.mach n with votes := (s.mach n).votes ++
        (es.filter fun v => !((s.mach n).votes.any fun y => y.1 == frame && y.2.dev == v.dev)).map fun v => (frame, v) })
      (s.takeVotes n k frame epoch es) := by
  unfold State.takeVotes State.forwardVotes
  dsimp only
  split
  exacts [.refl _, .sendOn (.refl _)]

/-- A word that some slots accept is held for each of them (R127). -/
theorem State.holdWord_accepted {s : State} {n : Fin 8} {k : Fin 24} {mslot : Nat} (h : (s.part n).eph.accepting k mslot ≠ [])
    (frame epoch : Nat) (w : DWord) :
    ∃ kept, s.holdWord n k frame epoch mslot w = s.setPart n { s.part n with
      xheld := kept ++ ((s.part n).eph.accepting k mslot).map fun x => ⟨x.tile * 16 + x.cluster, x.slot, frame, epoch, w⟩ } := by
  unfold State.holdWord
  dsimp only
  split
  · next hnone => exact absurd hnone h
  · exact ⟨_, rfl⟩

section
variable (s : State) (mask source xseq : Nat)

/-- An event pushed changes a FIFO, its count of lost events and the registers that show them (R288). -/
theorem State.pushEvt_eq (n : Fin 8) (e : Evt) :
    ∃ r f o, s.pushEvt n e = { s with regs := r, plt := { s.plt with fifos := f, overrun := o } } := by
  unfold State.pushEvt
  dsimp only
  split
  · split
    exacts [⟨_, _, _, rfl⟩, ⟨_, _, _, rfl⟩]
  · exact ⟨_, _, _, rfl⟩

theorem State.pushEvt_leaves (n : Fin 8) (e : Evt) : (s.pushEvt n e).lnk = s.lnk ∧ (s.pushEvt n e).plt.caps = s.plt.caps := by
  obtain ⟨_, _, _, hpush⟩ := s.pushEvt_eq n e
  rw [hpush]
  exact ⟨rfl, rfl⟩

/-- An accepted cross-trigger reaches the capture of one partition (R248, R286). -/
def State.xtrigAt (n : Fin 8) : State :=
  let t := s.modCap n fun c => { c with xtrig := c.xtrig ||| mask }
  if t.fld (Reg.CAP_EVENT_EN n) 8 1 = 1 then t.pushEvt n (t.evtNow n 2 0 (mask + source * 2 ^ 16 + xseq * 2 ^ 24)) else t

theorem State.xtrigIn_eq_foldl : s.xtrigIn mask source xseq = (List.finRange 8).foldl (fun t n => t.xtrigAt mask source xseq n) s := rfl

theorem State.xtrigAt_leaves (n : Fin 8) : (s.xtrigAt mask source xseq n).lnk = s.lnk ∧
    (s.xtrigAt mask source xseq n).plt.caps = (s.modCap n fun c => { c with xtrig := c.xtrig ||| mask }).plt.caps := by
  unfold State.xtrigAt
  dsimp only
  split
  exacts [State.pushEvt_leaves .., ⟨rfl, rfl⟩]

theorem State.cap_xtrigAt_self (n : Fin 8) : ((s.xtrigAt mask source xseq n).cap n).xtrig = (s.cap n).xtrig ||| mask := by
  rw [State.cap, (s.xtrigAt_leaves mask source xseq n).2, ← State.cap, State.modCap, State.cap_setCap_self]

theorem State.cap_xtrigAt_ne {m n : Fin 8} (h : m ≠ n) : (s.xtrigAt mask source xseq n).cap m = s.cap m := by
  rw [State.cap, (s.xtrigAt_leaves mask source xseq n).2, ← State.cap, State.modCap, State.cap_setCap_ne s _ h]

/-- The partitions of a list, each named once, take the mask; the rest of them, and the link layer, stay. -/
theorem State.foldl_xtrigAt {l : List (Fin 8)} (hl : l.Nodup) :
    let t := l.foldl (fun t n => State.xtrigAt t mask source xseq n) s
    t.lnk = s.lnk ∧ (∀ n ∈ l, (t.cap n).xtrig = (s.cap n).xtrig ||| mask) ∧ ∀ n, n ∉ l → t.cap n = s.cap n := by
  induction l generalizing s with
  | nil => exact ⟨rfl, fun n hn => absurd hn List.not_mem_nil, fun _ _ => rfl⟩
  | cons m r ih =>
    obtain ⟨hm, hr⟩ := List.nodup_cons.mp hl
    obtain ⟨hlnk, hin, hout⟩ := ih (s.xtrigAt mask source xseq m) hr
    refine ⟨hlnk.trans (s.xtrigAt_leaves mask source xseq m).1, fun n hn => ?_, fun n hn => ?_⟩
    · rcases List.mem_cons.mp hn with rfl | hn
      · exact (congrArg Cap.xtrig (hout n hm)).trans (s.cap_xtrigAt_self mask source xseq n)
      · have hne : n ≠ m := fun h => hm (h ▸ hn)
        exact (hin n hn).trans (congrArg (Cap.xtrig · ||| mask) (s.cap_xtrigAt_ne mask source xseq hne))
    · rw [List.mem_cons, not_or] at hn
      exact (hout n hn.2).trans (s.cap_xtrigAt_ne mask source xseq hn.1)

theorem State.xtrigIn_takes :
    (s.xtrigIn mask source xseq).lnk = s.lnk ∧ ∀ n, ((s.xtrigIn mask source xseq).cap n).xtrig = (s.cap n).xtrig ||| mask := by
  rw [State.xtrigIn_eq_foldl]
  obtain ⟨hlnk, hin, -⟩ := s.foldl_xtrigAt mask source xseq (List.nodup_finRange 8)
  exact ⟨hlnk, fun n => hin n (List.mem_finRange n)⟩

end

/-- The last XSEQ taken from a source (R248). -/
def State.xlastOf (s : State) (source : Nat) : Option Nat := (s.lnk.xlast.find? fun y => y.1 == source).map (·.2)

/-- The last XSEQ taken from a source replaced. -/
def State.setXlast (s : State) (source x : Nat) : State :=
  { s with lnk := { s.lnk with xlast := s.lnk.xlast.filter (fun y => y.1 != source) ++ [(source, x)] } }

theorem State.xlastOf_setXlast_self (s : State) (source x : Nat) : (s.setXlast source x).xlastOf source = some x := by
  have hothers : (s.lnk.xlast.filter fun y => y.1 != source).find? (fun y => y.1 == source) = none :=
    List.find?_eq_none.mpr fun y hy => by simpa using (List.mem_filter.mp hy).2
  rw [State.xlastOf, State.setXlast, List.find?_append, hothers]
  simp

section
variable {s : State} {source x : Nat}

/-- A cross-trigger newer than the last of its source is that source's last, and every partition's capture takes its mask (R248). -/
theorem State.takeXtrig_newer (h : xseqNewer (s.xlastOf source) x = true) (k : Fin 24) (mask time : Nat) :
    (s.takeXtrig k source mask x time).xlastOf source = some x ∧
      ∀ n, ((s.takeXtrig k source mask x time).cap n).xtrig = (s.cap n).xtrig ||| mask := by
  obtain ⟨u, ⟨l, rfl⟩, htake⟩ : ∃ u, LinksOnly (s.setXlast source x) u ∧ s.takeXtrig k source mask x time = u.xtrigIn mask source x :=
    ⟨_, .sendOn (.refl _), if_pos h⟩
  obtain ⟨hlnk, hcap⟩ := ((s.setXlast source x).relinked l).xtrigIn_takes mask source x
  rw [htake]
  refine ⟨?_, hcap⟩
  rw [State.xlastOf, hlnk]
  exact s.xlastOf_setXlast_self source x

theorem State.takeXtrig_older (h : xseqNewer (s.xlastOf source) x = false) (k : Fin 24) (mask time : Nat) :
    s.takeXtrig k source mask x time = s := if_neg (Bool.eq_false_iff.mp h)

end

end Sys2Proof.Machine

namespace Sys2Proof.Proofs

open Sys2Proof Sys2Proof.Machine Sys2Proof.Statements

/-- Settles O24: each accepted flit acts on the state in which its lane has received it, by channel and epoch, or by the source's last XSEQ. -/
theorem channelFlitsAreTaken : Obligations.ChannelFlitsAreTaken := by
  unfold Obligations.ChannelFlitsAreTaken
  intro s k i q hup hseq
  obtain ⟨hk, -⟩ := id hup
  obtain ⟨l, hact⟩ := State.arrive_accepts hup hseq
  let u := s.relinked l
  have haccepted : ∀ {c : Instr} {act : State → State}, exec c s = .next (s.arrive k i true q.toNat act) → exec c s = .next (act u) :=
    fun h => h.trans (congrArg _ (hact _))
  refine ⟨fun ch f lo e es ws m c b hc => ?_, fun ch f e n hn he => ?_, fun ch f e es n hn he => ?_, fun w m ch lo e n hn he hacc => ?_,
    fun src m x tm => ?_⟩
  · obtain ⟨hb, hexec⟩ := exec_channelFlit hk i true q hc
    refine ⟨fun hdrop => ⟨_, haccepted hexec, ?_⟩, fun n hn hown hnext => ⟨_, haccepted hexec, ?_⟩⟩
    · rw [State.chanFlit_drops (s := u) hb hdrop]
      exact ⟨rfl, rfl, regsBut_setReg u _ _, u.toNat_reg_addFld_word ..⟩
    · rw [State.chanFlit_aside (s := u) hb hn hown hnext]
      exact ⟨rfl, State.mach_setMach_self ..⟩
  · refine ⟨_, haccepted (exec_token hk ..), ?_⟩
    rw [State.chanFlit_takes (s := u) (b := .token ch f.toNat e) rfl hn he]
    exact ⟨rfl, State.mach_setMach_self ..⟩
  · refine ⟨_, haccepted (exec_vote hk ..), ?_⟩
    obtain ⟨l', hvotes⟩ := u.takeVotes_holds n k f.toNat e (es.take 11)
    rw [State.chanFlit_takes (s := u) (b := .vote ch f.toNat e (es.take 11)) rfl hn he, State.takeFlit, hvotes]
    exact ⟨rfl, State.mach_setMach_self ..⟩
  · refine ⟨_, haccepted (exec_xchgFlit hk ..), ?_⟩
    obtain ⟨kept, hheld⟩ := State.holdWord_accepted (s := u) hacc (fullFrame (s.shownFrame n) lo.toNat) e w
    have htake : u.takeFlit n k (.xchg ([w].take 3) m.toNat ch lo.toNat e) =
      u.holdWord n k (fullFrame (s.shownFrame n) lo.toNat) e m.toNat w := rfl
    rw [State.chanFlit_takes (s := u) (b := .xchg ([w].take 3) m.toNat ch lo.toNat e) rfl hn he, htake, hheld]
    refine ⟨fun j hj => State.part_setPart_ne _ _ hj, rfl, ?_, fun x hx => ?_⟩ <;> rw [State.part_setPart_self]
    · rfl
    · exact List.mem_append_right _ (List.mem_map_of_mem hx)
  · refine ⟨fun hnew => ⟨_, haccepted (exec_xtrig hk ..), State.takeXtrig_newer (s := u) hnew k m.toNat tm.toNat⟩,
      fun hold => ⟨_, haccepted (exec_xtrig hk ..), ?_⟩⟩
    rw [State.takeXtrig_older (s := u) hold k m.toNat tm.toNat]
    exact ⟨rfl, rfl⟩

end Sys2Proof.Proofs
end

section
/-!
SUPPORT. Fields of registers (R7, R8): what one reads after a field of its own or of another register is written, and which registers a write leaves.
-/
namespace Sys2Proof.Machine

open Sys2Proof Sys2Proof.Statements

section
variable (s : State) {a : Nat}

theorem State.fld_setFld_self {lo w : Nat} (x : Nat) (h : lo + w ≤ 32) : (s.setFld a lo w x).fld a lo w = x % 2 ^ w := by
  rw [State.fld, State.reg_setFld_self, bitsAt_setBitsAt_self _ lo w x h]

theorem State.fld_setFld_of_disjoint {lo w lo' w' : Nat} (x : Nat) (h : lo + w ≤ 32) (hd : lo' + w' ≤ lo ∨ lo + w ≤ lo') :
    (s.setFld a lo w x).fld a lo' w' = s.fld a lo' w' := by
  rw [State.fld, State.reg_setFld_self, State.fld]
  rcases hd with hd | hd
  · exact bitsAt_setBitsAt_below _ lo w x lo' w' h hd
  · exact bitsAt_setBitsAt_above _ lo w x lo' w' h hd

theorem State.fld_setFld_ne {b : Nat} (lo w x : Nat) {lo' w' : Nat} (h : b ≠ a) : (s.setFld a lo w x).fld b lo' w' = s.fld b lo' w' := by
  rw [State.fld, State.reg_setFld_ne s lo w x h, State.fld]

theorem State.fld_lt (lo w : Nat) : s.fld a lo w < 2 ^ w := Nat.mod_lt _ (by positivity)

end

/-- Of the state only registers have changed. -/
def RegsOnly (s t : State) : Prop := ∃ r, t = { s with regs := r }

namespace RegsOnly

theorem refl (s : State) : RegsOnly s s := ⟨_, rfl⟩

variable {s t : State}

theorem setReg (h : RegsOnly s t) {a : Nat} {w : Word} : RegsOnly s (t.setReg a w) := by
  obtain ⟨_, rfl⟩ := h
  exact ⟨_, rfl⟩

theorem setFld (h : RegsOnly s t) {a lo w x : Nat} : RegsOnly s (t.setFld a lo w x) := h.setReg

theorem addFld (h : RegsOnly s t) {a lo w k : Nat} : RegsOnly s (t.addFld a lo w k) := h.setReg

theorem addFld_self (s : State) {a lo w k : Nat} : RegsOnly s (s.addFld a lo w k) := (RegsOnly.refl s).addFld

theorem vlt (h : RegsOnly s t) : t.vlt = s.vlt := by
  obtain ⟨_, rfl⟩ := h
  rfl

theorem noc (h : RegsOnly s t) : t.noc = s.noc := by
  obtain ⟨_, rfl⟩ := h
  rfl

theorem parts (h : RegsOnly s t) : t.parts = s.parts := by
  obtain ⟨_, rfl⟩ := h
  rfl

end RegsOnly

theorem fld_of_reg {s t : State} {a : Nat} (h : t.reg a = s.reg a) (lo w : Nat) : t.fld a lo w = s.fld a lo w := by
  rw [State.fld, h, State.fld]

section
variable {s t u : State} {l : List Nat}

theorem regsBut_refl : RegsBut s s l := fun _ _ => rfl

theorem regsBut_trans (h : RegsBut s t l) (hu : RegsBut t u l) : RegsBut s u l := fun a ha => (hu a ha).trans (h a ha)

theorem regsBut_mono {l' : List Nat} (h : RegsBut s t l) (hl : l ⊆ l') : RegsBut s t l' := fun a ha => h a fun hm => ha (hl hm)

theorem regsBut_setReg_mem (h : RegsBut s t l) {a : Nat} {w : Word} (ha : a ∈ l) : RegsBut s (t.setReg a w) l :=
  regsBut_trans h fun _ hb => t.reg_setReg_ne w fun e => hb (e ▸ ha)

theorem regsBut_setFld (h : RegsBut s t l) {a lo w x : Nat} (ha : a ∈ l) : RegsBut s (t.setFld a lo w x) l := regsBut_setReg_mem h ha

theorem regsBut_curOnly (h : RegsBut s t l) (hu : CurOnly t u) : RegsBut s u l := regsBut_trans h fun a _ => curOnly_reg hu a

theorem regsBut_setFld_self (s : State) {a lo w x : Nat} : RegsBut s (s.setFld a lo w x) [a] := regsBut_setReg s a _

theorem curOnly_fld (h : CurOnly s t) (a lo w : Nat) : t.fld a lo w = s.fld a lo w := fld_of_reg (curOnly_reg h a) lo w

theorem curOnly_ite {c : Prop} {_ : Decidable c} (ht : CurOnly s t) (hu : CurOnly s u) : CurOnly s (if c then t else u) := by
  split
  exacts [ht, hu]

theorem curOnly_vlt (h : CurOnly s t) : t.vlt = s.vlt := by rw [h]

end

end Sys2Proof.Machine
end

section
/-!
SUPPORT. The handover of a vault bank (R186 to R190): what a write of VLT_LOAN and the ends of DRAINING and SCRUBBING leave, and that a scrub empties
the words of its bank alone.
-/
namespace Sys2Proof

/-- A store without the keys that a test drops reads there as unlisted, and elsewhere as before. -/
theorem mget_filter {α : Type} (d : Nat → α) (p : Nat → Bool) (a : Nat) :
    ∀ m : List (Nat × α), mget d (m.filter fun e => p e.1) a = if p a = true then mget d m a else d a
  | [] => by simp [mget]
  | (k, v) :: r => by
    have ih := mget_filter d p a r
    by_cases hk : a = k
    · subst hk
      by_cases hp : p a = true <;> simp [hp, mget, ih]
    · by_cases hp : p k = true <;> simp [hp, mget, hk, ih]

end Sys2Proof

namespace Sys2Proof.Machine

open Sys2Proof Sys2Proof.Statements

theorem exec_vltLoanWrite {s : State} {bank : BitVec 10} (hb : s.hasBank bank.toNat = true) (owner : BitVec 4) (scrub : Bool) :
    exec (.vltLoanWrite bank owner scrub) s = .next
      (if s.loanHeld bank.toNat ∧ s.loanState bank.toNat = 0 ∧ owner.toNat < 14 then s else s.loanWrite bank.toNat owner.toNat scrub) :=
  congrArg (guardUnit s · _) hb

theorem exec_loanDrained {s : State} {bank : BitVec 10} (hb : s.hasBank bank.toNat = true) :
    exec (.loanDrained bank) s = .next (s.loanDrained bank.toNat) := congrArg (guardUnit s · _) hb

theorem exec_loanScrubDone {s : State} {bank : BitVec 10} (hb : s.hasBank bank.toNat = true) :
    exec (.loanScrubDone bank) s = .next (s.loanScrubbed bank.toNat) := congrArg (guardUnit s · _) hb

theorem State.loanOwner_eq (s : State) (bank : Nat) : s.loanOwner bank = s.fld (loanReg bank) 0 4 := rfl

theorem State.loanState_eq (s : State) (bank : Nat) : s.loanState bank = s.fld (loanReg bank) 8 2 := rfl

section
variable {s : State} {bank : Nat}

theorem State.loanWrite_refused {owner : Nat} (h : s.loanState bank ≠ 0 ∨ 14 ≤ owner) (scrub : Bool) :
    s.loanWrite bank owner scrub = s.setFld (loanReg bank) 11 1 1 := if_pos h

/-- The loan register of a bank that has a new owner and drains its old one's requests (R189). -/
def State.loanMoved (s : State) (bank owner : Nat) : State :=
  ((((s.setFld (loanReg bank) 0 4 owner).setFld (loanReg bank) 8 2 1).setFld (loanReg bank) 10 1 0).setFld (loanReg bank) 11 1 0).setFld
    (loanReg bank) 12 4 (s.loanOwner bank)

/-- The banks that a handover must scrub, with this one or without it (R190). -/
def State.scrubNoted (s : State) (bank : Nat) (scrub : Bool) : State :=
  { s with vlt := { s.vlt with scrub := if scrub then insNat bank s.vlt.scrub else s.vlt.scrub.filter fun b => b != bank } }

theorem State.loanWrite_moves {owner : Nat} {scrub : Bool} (hlent : s.loanState bank = 0) (ho : owner < 14)
    (hnew : owner ≠ s.loanOwner bank ∨ scrub = true) :
    s.loanWrite bank owner scrub = (s.loanMoved bank owner).scrubNoted bank scrub := by
  have hok : ¬ (s.loanState bank ≠ 0 ∨ 14 ≤ owner) := by omega
  have hmove : ¬ (owner = s.loanOwner bank ∧ scrub = false) := by
    rintro ⟨rfl, rfl⟩
    simp at hnew
  exact (if_neg hok).trans (if_neg hmove)

@[simp] theorem State.fld_scrubNoted (s : State) (bank : Nat) (scrub : Bool) (a lo w : Nat) :
    (s.scrubNoted bank scrub).fld a lo w = s.fld a lo w := rfl

theorem State.regsBut_scrubNoted (s : State) (bank : Nat) (scrub : Bool) {l : List Nat} : RegsBut s (s.scrubNoted bank scrub) l :=
  fun _ _ => rfl

theorem State.loanMoved_fields (s : State) (bank : Nat) {owner : Nat} (ho : owner < 14) (scrub : Bool) :
    let t := (s.loanMoved bank owner).scrubNoted bank scrub
    t.loanOwner bank = owner ∧ t.loanState bank = 1 ∧ t.fld (loanReg bank) 10 1 = 0 ∧ t.fld (loanReg bank) 11 1 = 0 ∧
      t.fld (loanReg bank) 12 4 = s.loanOwner bank := by
  have hold : s.loanOwner bank < 16 := s.fld_lt 0 4
  simp only [State.loanMoved, State.loanOwner_eq, State.loanState_eq] at hold ⊢
  simp [State.fld_setFld_self, State.fld_setFld_of_disjoint]
  omega

theorem State.regsBut_loanMoved (s : State) (bank owner : Nat) : RegsBut s (s.loanMoved bank owner) [loanReg bank] := by
  have hr : loanReg bank ∈ [loanReg bank] := List.mem_singleton_self _
  exact regsBut_setFld (regsBut_setFld (regsBut_setFld (regsBut_setFld (regsBut_setFld regsBut_refl hr) hr) hr) hr) hr

theorem State.scrubNoted_loanMoved_frame (s : State) (bank owner : Nat) (scrub : Bool) :
    let t := (s.loanMoved bank owner).scrubNoted bank scrub
    t.vlt.mem = s.vlt.mem ∧ t = { s with regs := t.regs, vlt := t.vlt } ∧ RegsBut s t [loanReg bank] := by
  obtain ⟨r, hr⟩ : RegsOnly s (s.loanMoved bank owner) := (RegsOnly.refl s).setFld.setFld.setFld.setFld.setFld
  refine ⟨?_, ?_, regsBut_trans (s.regsBut_loanMoved bank owner) (State.regsBut_scrubNoted _ bank scrub)⟩ <;> rw [hr] <;> rfl

/-- A handover that ends leaves the bank LENT with DONE, and its waiting command answered (R189, R474). -/
theorem State.loanDone_ends (s : State) (bank : Nat) :
    (s.loanDone bank).loanState bank = 0 ∧ (s.loanDone bank).fld (loanReg bank) 10 1 = 1 ∧
      (s.loanDone bank).loanOwner bank = s.loanOwner bank ∧ (s.loanDone bank).vlt = s.vlt ∧ RegsBut s (s.loanDone bank) [loanReg bank] := by
  have hcur : CurOnly ((s.setFld (loanReg bank) 8 2 0).setFld (loanReg bank) 10 1 1) (s.loanDone bank) := State.answerAll_curOnly ..
  have hr : loanReg bank ∈ [loanReg bank] := List.mem_singleton_self _
  have hvlt : (s.loanDone bank).vlt = s.vlt := (curOnly_vlt hcur).trans rfl
  refine ⟨?_, ?_, ?_, hvlt, regsBut_curOnly (regsBut_setFld (regsBut_setFld regsBut_refl hr) hr) hcur⟩ <;>
    simp [State.loanOwner_eq, State.loanState_eq, curOnly_fld hcur, State.fld_setFld_self, State.fld_setFld_of_disjoint]

theorem State.loanDrained_empty (hdrain : s.loanState bank = 1) (hq : ∀ q ∈ s.vlt.qNoc, q.bank ≠ bank) :
    s.loanDrained bank = if s.vlt.scrub.contains bank then s.setFld (loanReg bank) 8 2 2 else s.loanDone bank := by
  have hnone : (s.vlt.qNoc.any fun q => q.bank == bank) = false := by simpa using hq
  exact if_pos ⟨hdrain, by simp [hnone]⟩

/-- The bank no longer stands among those to scrub. -/
theorem State.loanScrubbed_eq (hscrub : s.loanState bank = 2) :
    s.loanScrubbed bank = ((s.scrubBank bank).scrubNoted bank false).loanDone bank := if_pos hscrub

theorem mget_scrubBank (s : State) (bank a : Nat) :
    mget dByte (s.scrubBank bank).vlt.mem a = if bank * 65536 ≤ a ∧ a < (bank + 1) * 65536 then 0 else mget dByte s.vlt.mem a := by
  refine (mget_filter dByte (fun a => !(decide (bank * 65536 ≤ a) && decide (a < (bank + 1) * 65536))) a s.vlt.mem).trans ?_
  by_cases h : bank * 65536 ≤ a ∧ a < (bank + 1) * 65536 <;> simp [h, dByte]

/-- Two memories with the same bytes of a word hold the same word there. -/
theorem memRd64_congr {m m' : List Host.Cell} {a : Nat} (h : ∀ i < 8, mget dByte m' (a + i) = mget dByte m (a + i)) :
    memRd64 m' a = memRd64 m a := by
  rw [memRd64, memRd64]
  congr 1
  refine List.foldl_ext _ _ _ fun acc i hi => ?_
  rw [h i (List.mem_range.mp hi)]

theorem memRd64_nil (a : Nat) : memRd64 [] a = 0 :=
  congrArg (BitVec.ofNat 64) (List.foldl_fixed' (by simp [mget, dByte]) _)

theorem State.vword_scrubBank_self (s : State) (bank : Nat) {w : Nat} (hw : w < 8192) : (s.scrubBank bank).vword bank w = 0 := by
  rw [State.vword, ← memRd64_nil (bankAddr bank w)]
  refine memRd64_congr fun i hi => (mget_scrubBank s bank _).trans (if_pos ?_)
  unfold bankAddr
  omega

theorem State.vword_scrubBank_ne (s : State) {bank b w : Nat} (hb : b ≠ bank) (hw : w < 8192) :
    (s.scrubBank bank).vword b w = s.vword b w := by
  refine memRd64_congr fun i hi => (mget_scrubBank s bank _).trans (if_neg ?_)
  unfold bankAddr
  omega

theorem vword_of_vlt {s t : State} (h : t.vlt.mem = s.vlt.mem) (b w : Nat) : t.vword b w = s.vword b w := by rw [State.vword, h, State.vword]

end

end Sys2Proof.Machine

namespace Sys2Proof.Proofs

open Sys2Proof Sys2Proof.Machine Sys2Proof.Statements

/-- Settles O13: each write is refused, held back or a move, and DRAINING and SCRUBBING end in the next state of the handover. -/
theorem loanHandover : Obligations.LoanHandover := by
  unfold Obligations.LoanHandover
  intro s bank hb
  refine ⟨fun owner scrub hheld hlent ho => ?_, fun owner scrub hfree hlent ho hnew => ⟨_, exec_vltLoanWrite hb owner scrub, ?_⟩,
    fun owner scrub hbad => ⟨_, exec_vltLoanWrite hb owner scrub, ?_⟩, fun hdrain hq => ⟨_, exec_loanDrained hb, ?_⟩,
    fun hscrub => ⟨_, exec_loanScrubDone hb, ?_⟩⟩
  · rw [exec_vltLoanWrite hb, if_pos ⟨hheld, hlent, ho⟩]
  · rw [if_neg (by simp [hfree]), State.loanWrite_moves hlent ho hnew]
    obtain ⟨howner, hstate, hdone, herr, hprev⟩ := s.loanMoved_fields bank.toNat ho scrub
    exact ⟨howner, hstate, hdone, herr, hprev, s.scrubNoted_loanMoved_frame bank.toNat owner.toNat scrub⟩
  · rw [if_neg (by omega), State.loanWrite_refused hbad]
    refine ⟨?_, ?_, ?_, ?_, ?_, rfl, regsBut_setFld_self s⟩ <;>
      simp [State.loanOwner_eq, State.loanState_eq, State.fld_setFld_self, State.fld_setFld_of_disjoint]
  · rw [State.loanDrained_empty hdrain hq]
    by_cases hmust : s.vlt.scrub.contains bank.toNat = true
    · rw [if_pos hmust]
      refine ⟨?_, rfl, regsBut_setFld_self s, fun _ => ?_, fun h => absurd hmust (h ▸ Bool.false_ne_true)⟩ <;>
        simp [State.loanOwner_eq, State.loanState_eq, State.fld_setFld_self, State.fld_setFld_of_disjoint]
    · rw [if_neg hmust]
      obtain ⟨hstate, hdone, howner, hvlt, hregs⟩ := s.loanDone_ends bank.toNat
      exact ⟨howner, hvlt, hregs, fun h => absurd h hmust, fun _ => ⟨hstate, hdone⟩⟩
  · rw [State.loanScrubbed_eq hscrub]
    obtain ⟨hstate, hdone, howner, hvlt, hregs⟩ := ((s.scrubBank bank.toNat).scrubNoted bank.toNat false).loanDone_ends bank.toNat
    have hword := vword_of_vlt (congrArg Vlt.mem hvlt)
    exact ⟨hstate, hdone, howner, fun w hw => (hword _ w).trans (s.vword_scrubBank_self bank.toNat hw),
      fun b' w hne hw => (hword b' w).trans (s.vword_scrubBank_ne hne hw), hregs⟩

end Sys2Proof.Proofs
end

section
/-!
SUPPORT. What SECDED counts in a bank (R183, R338): the score of a bank changes registers of the reserve tables alone, so that the counts and the
last error read as written; then the patrol (R184) and the VAULT_BUSY_N ball (R198).
-/
namespace Sys2Proof.Machine

open Sys2Proof Sys2Proof.Statements

/-- Every register below those of the reserve tables (R357) reads as before. -/
def BelowReserve (s t : State) : Prop := ∀ a, a < Reg.SPR_CAPS → t.reg a = s.reg a

theorem le_bhealth (k : Nat) : Reg.SPR_CAPS ≤ bhealth k := by
  simp only [bhealth, Reg.SPR_BHEALTH, Reg.SPR_CAPS]
  omega

namespace BelowReserve

theorem refl (s : State) : BelowReserve s s := fun _ _ => rfl

variable {s t u : State} {a : Nat}

theorem ite {c : Prop} {_ : Decidable c} (ht : BelowReserve s t) (hu : BelowReserve s u) : BelowReserve s (if c then t else u) := by
  split
  exacts [ht, hu]

section
variable (h : BelowReserve s t)
include h

theorem curOnly (hu : CurOnly t u) : BelowReserve s u := fun a ha => (curOnly_reg hu a).trans (h a ha)

theorem setReg {w : Word} (ha : Reg.SPR_CAPS ≤ a) : BelowReserve s (t.setReg a w) := fun b hb =>
  (t.reg_setReg_ne w (by omega)).trans (h b hb)

theorem setFld {lo w x : Nat} (ha : Reg.SPR_CAPS ≤ a) : BelowReserve s (t.setFld a lo w x) := .setReg h ha

theorem addFld {lo w k : Nat} (ha : Reg.SPR_CAPS ≤ a) : BelowReserve s (t.addFld a lo w k) := .setReg h ha

theorem spr {x : Spr} : BelowReserve s { t with spr := x } := h

theorem fresh : BelowReserve s t.fresh.1 := h

theorem noSpare {q : Pend} : BelowReserve s (t.noSpare q) := by
  unfold State.noSpare
  exact .curOnly (.fresh h) (State.notice_curOnly ..)

theorem setPend {l : List Pend} : BelowReserve s (t.setPend l) := .setFld (.spr h) (by decide)

theorem demand {q : Pend} : BelowReserve s (t.demand q) := by
  dsimp only [State.demand]
  refine .ite h (.ite ?_ (.noSpare h))
  split
  exacts [.ite (.noSpare (.setPend h)) (.noSpare h), .setPend h]

theorem deaccBank {k : Nat} : BelowReserve s (t.deaccBank k) := by
  unfold State.deaccBank
  exact .setReg (.setReg (.fresh (.setFld (.setFld h (le_bhealth k)) (le_bhealth k))) (by decide)) (by decide)

theorem scoreBank {k points : Nat} : BelowReserve s (t.scoreBank k points) := by
  have hadd : BelowReserve s (t.addFld (bhealth k) 0 8 points) := .addFld h (le_bhealth k)
  dsimp only [State.scoreBank, State.actBank]
  refine .ite (.ite (.deaccBank hadd) (.ite ?_ hadd)) hadd
  split
  exacts [.demand hadd, hadd]

theorem bankCorrected {b : Nat} : BelowReserve s (t.bankCorrected b) := by
  unfold State.bankCorrected
  exact .ite (.scoreBank (.spr h)) (.spr h)

end

end BelowReserve

section
variable (s : State) (bank word path : Nat)

theorem State.vltCorr_frame : (s.vltCorr bank).vlt = s.vlt ∧ (s.vltCorr bank).parts = s.parts := by
  have h : HealthOnly s (s.vltCorr bank) := .bankCorrected (.addFld (.refl s))
  exact ⟨h.vlt, h.parts⟩

theorem State.reg_vltCorr (hb : bank < 1024) : ((s.vltCorr bank).reg (Reg.VLT_CORR (bank / 256))).toNat =
    min (2 ^ 32 - 1) ((s.reg (Reg.VLT_CORR (bank / 256))).toNat + 1) := by
  have hlow : Reg.VLT_CORR (bank / 256) < Reg.SPR_CAPS := by
    simp only [Reg.VLT_CORR, Reg.SPR_CAPS]
    omega
  have hreg := BelowReserve.bankCorrected (b := bank) (.refl (s.addFld (Reg.VLT_CORR (bank / 256)) 0 32 1)) _ hlow
  rw [State.vltCorr, hreg, State.toNat_reg_addFld_word]

/-- The count of double-bit errors and the last of them, before the bank's score is charged (R202). -/
def State.dbeLogged : State :=
  (s.addFld (Reg.VLT_DBE (bank / 256)) 0 32 1).setReg Reg.VLT_LAST_DBE
    (BitVec.ofNat 32 (bank % 1024 + word % 8192 * 2 ^ 10 + path * 2 ^ 23 + 2 ^ 31))

/-- The words that hold a double-bit error, with one more. -/
def State.dbeMarked : State := { s with vlt := { s.vlt with dbe := insNat (bank * 8192 + word) s.vlt.dbe } }

theorem State.dbeLogged_marked_frame : ((s.dbeLogged bank word path).dbeMarked bank word).vlt.mem = s.vlt.mem ∧
    ((s.dbeLogged bank word path).dbeMarked bank word).parts = s.parts := by
  obtain ⟨r, hr⟩ : RegsOnly s (s.dbeLogged bank word path) := (RegsOnly.refl s).addFld.setReg
  rw [hr]
  exact ⟨rfl, rfl⟩

theorem State.vltDbe_eq : s.vltDbe bank word path =
    ((s.dbeLogged bank word path).dbeMarked bank word).scoreBank ((s.dbeLogged bank word path).physBank bank) 32 := rfl

theorem State.vltDbe_frame : (s.vltDbe bank word path).vlt.mem = s.vlt.mem ∧ (s.vltDbe bank word path).parts = s.parts := by
  have h : HealthOnly ((s.dbeLogged bank word path).dbeMarked bank word) (s.vltDbe bank word path) := .scoreBank (.refl _)
  obtain ⟨hmem, hparts⟩ := s.dbeLogged_marked_frame bank word path
  exact ⟨(congrArg Vlt.mem h.vlt).trans hmem, h.parts.trans hparts⟩

theorem State.dbeMarked_reg (a : Nat) : (s.dbeMarked bank word).reg a = s.reg a := rfl

theorem State.reg_vltDbe {a : Nat} (ha : a < Reg.SPR_CAPS) : (s.vltDbe bank word path).reg a = (s.dbeLogged bank word path).reg a := by
  rw [State.vltDbe_eq, BelowReserve.scoreBank (.refl _) a ha, State.dbeMarked_reg]

theorem State.reg_vltDbe_count (hb : bank < 1024) : ((s.vltDbe bank word path).reg (Reg.VLT_DBE (bank / 256))).toNat =
    min (2 ^ 32 - 1) ((s.reg (Reg.VLT_DBE (bank / 256))).toNat + 1) := by
  have hne : Reg.VLT_DBE (bank / 256) ≠ Reg.VLT_LAST_DBE := by
    simp only [Reg.VLT_DBE, Reg.VLT_LAST_DBE]
    omega
  have hlow : Reg.VLT_DBE (bank / 256) < Reg.SPR_CAPS := by
    simp only [Reg.VLT_DBE, Reg.SPR_CAPS]
    omega
  rw [State.reg_vltDbe _ _ _ _ hlow, State.dbeLogged, State.reg_setReg_ne _ _ hne, State.toNat_reg_addFld_word]

theorem State.reg_vltDbe_last : (s.vltDbe bank word path).reg Reg.VLT_LAST_DBE =
    BitVec.ofNat 32 (bank % 1024 + word % 8192 * 2 ^ 10 + path * 2 ^ 23 + 2 ^ 31) := by
  rw [State.reg_vltDbe _ _ _ _ (by decide), State.dbeLogged, State.reg_setReg_self]

theorem State.last_vltDbe (hb : bank < 1024) (hw : word < 8192) (hp : path < 4) :
    (s.vltDbe bank word path).fld Reg.VLT_LAST_DBE 0 10 = bank ∧ (s.vltDbe bank word path).fld Reg.VLT_LAST_DBE 10 13 = word ∧
      (s.vltDbe bank word path).fld Reg.VLT_LAST_DBE 23 2 = path ∧ (s.vltDbe bank word path).fld Reg.VLT_LAST_DBE 31 1 = 1 := by
  simp only [State.fld, State.reg_vltDbe_last, bitsAt, BitVec.toNat_ofNat]
  omega

end

/-- What the patrol finds in a word that it may look at (R183). -/
def State.patrolled (s : State) (bank word : Nat) (ecc : Ecc) : State :=
  if s.isDbe bank word then s.vltDbe bank word 3
  else
    match ecc with
    | .good => s
    | .single => s.vltCorr bank
    | .double => s.vltDbe bank word 3

theorem State.patrolled_frame (s : State) (bank word : Nat) (ecc : Ecc) :
    (s.patrolled bank word ecc).vlt.mem = s.vlt.mem ∧ (s.patrolled bank word ecc).parts = s.parts := by
  unfold State.patrolled
  split
  · exact s.vltDbe_frame ..
  · cases ecc with
    | good => exact ⟨rfl, rfl⟩
    | single => exact (s.vltCorr_frame bank).imp_left (congrArg Vlt.mem)
    | double => exact s.vltDbe_frame ..

theorem exec_patrolScrub {s : State} {bank : BitVec 10} (hb : s.hasBank bank.toNat = true) (word : BitVec 13) (ecc : Ecc) (meet : Bool) :
    exec (.patrolScrub bank word ecc meet) s = .next
      (if s.fld Reg.VLT_SCRUB 0 1 = 0 ∨ s.loanState bank.toNat ≠ 0 ∨ meet = true then s else s.patrolled bank.toNat word.toNat ecc) :=
  congrArg (guardUnit s · _) hb

theorem exec_vaultBusyNRelease (s : State) : exec .vaultBusyNRelease s = .next s.releaseBusy := rfl

end Sys2Proof.Machine

namespace Sys2Proof.Proofs

open Sys2Proof Sys2Proof.Machine Sys2Proof.Statements

/-- Settles O14: the patrol leaves the state, or what it finds is counted; the release of the ball is its row. -/
theorem patrolScrubAndBusyBall : Obligations.PatrolScrubAndBusyBall := by
  unfold Obligations.PatrolScrubAndBusyBall
  refine ⟨fun s bank word ecc meet hb => ⟨_, exec_patrolScrub hb word ecc meet, ?_⟩,
    fun s => ⟨_, exec_vaultBusyNRelease s, rfl, rfl⟩⟩
  by_cases hidle : s.fld Reg.VLT_SCRUB 0 1 = 0 ∨ s.loanState bank.toNat ≠ 0 ∨ meet = true
  · rw [if_pos hidle]
    refine ⟨rfl, rfl, fun _ => rfl, fun hon hlent hmeet => absurd hidle ?_⟩
    simp [hon, hlent, hmeet]
  · rw [if_neg hidle]
    obtain ⟨hmem, hparts⟩ := s.patrolled_frame bank.toNat word.toNat ecc
    refine ⟨hmem, hparts, fun h => absurd h hidle, fun _ _ _ hclean => ?_⟩
    unfold State.patrolled
    rw [if_neg (by simp [hclean])]
    refine ⟨?_, ?_, ?_⟩ <;> rintro rfl
    · rfl
    · exact s.reg_vltCorr bank.toNat bank.isLt
    · exact ⟨s.reg_vltDbe_count bank.toNat word.toNat 3 bank.isLt, s.last_vltDbe bank.toNat word.toNat 3 bank.isLt word.isLt (by decide)⟩

end Sys2Proof.Proofs
end

section
/-!
SUPPORT. Port N of a bank (R181, R194, R196, R197): how a queued request of the bank's owner ends, which words a write of several words stores, and
what a completion with BUSY counts.
-/
namespace Sys2Proof.Machine

open Sys2Proof Sys2Proof.Statements

section
variable {s : State} {bank word : Nat}

/-- A write of several words changes stored words and their error marks alone. -/
theorem State.writeWords_frame (bank word bmask wmask : Nat) :
    ∀ (l : List DWord) (i : Nat) (s : State), ∃ m d, s.writeWords bank word bmask wmask l i = { s with vlt := { s.vlt with mem := m, dbe := d } }
  | [], _, s => ⟨_, _, rfl⟩
  | v :: r, i, s => by
    unfold State.writeWords
    split <;> exact State.writeWords_frame bank word bmask wmask r (i + 1) _

/-- A write of several words leaves every word that none of those it enables is stored in. -/
theorem State.vword_writeWords_other (bank word bmask wmask : Nat) {b w : Nat} (hw : w < 8192) (l : List DWord) (i : Nat) (s : State)
    (h : b = bank → ∀ k, k < l.length → bitOf wmask (i + k) = true → (word + (i + k)) % 8192 ≠ w) :
    (s.writeWords bank word bmask wmask l i).vword b w = s.vword b w := by
  induction l generalizing i s with
  | nil => rfl
  | cons v r ih =>
    unfold State.writeWords
    rw [ih]
    · split
      next hbit =>
        refine s.setVword_vword_other _ (Nat.mod_lt _ (by decide)) hw ?_
        by_cases hb : b = bank
        · exact .inr (h hb 0 (by simp) hbit).symm
        · exact .inl hb
      next => rfl
    · intro hb k hk hbit
      rw [Nat.add_assoc, Nat.add_comm 1 k] at hbit ⊢
      exact h hb (k + 1) (by simpa using hk) hbit

theorem State.writeWords_cons (s : State) (bank word wmask : Nat) (v : DWord) (r : List DWord) (i : Nat) :
    s.writeWords bank word 255 wmask (v :: r) i =
      (if bitOf wmask i = true then s.setVword bank ((word + i) % 8192) v else s).writeWords bank word 255 wmask r (i + 1) := rfl

/-- A write of whole words stores each word that it enables. -/
theorem State.vword_writeWords_stored (bank word wmask : Nat) (l : List DWord) (hlen : l.length ≤ 8192) (i : Nat) (s : State) {k : Nat}
    {x : DWord} (hx : l[k]? = some x) (hbit : bitOf wmask (i + k) = true) :
    (s.writeWords bank word 255 wmask l i).vword bank ((word + (i + k)) % 8192) = x := by
  induction l generalizing i s k with
  | nil => simp at hx
  | cons v r ih =>
    rw [List.length_cons] at hlen
    rw [State.writeWords_cons]
    cases k with
    | zero =>
      obtain rfl : v = x := by simpa using hx
      rw [Nat.add_zero] at hbit ⊢
      rw [State.vword_writeWords_other _ _ _ _ (Nat.mod_lt _ (by decide)) _ _ _ fun _ k hk _ => by omega]
      rw [if_pos hbit]
      exact s.setVword_vword_self bank _ v
    | succ k =>
      rw [Nat.add_comm k 1, ← Nat.add_assoc i] at hbit ⊢
      exact ih (by omega) (i + 1) _ (by simpa using hx) hbit

theorem State.readEcc_clean (h : s.isDbe bank word = false) (path : Nat) : s.readEcc bank word path .good = (s, false) := by
  simp [State.readEcc, h]

/-- Words without an error change nothing when they are read (R183). -/
theorem State.readEccs_clean {count : Nat} (h : ∀ i, i < count → s.isDbe bank ((word + i) % 8192) = false) :
    s.readEccs bank word .good count = (s, false) := by
  have hall : ∀ l : List Nat, (∀ i ∈ l, i < count) → l.foldl (fun (t : State × Bool) i =>
      ((t.1.readEcc bank ((word + i) % 8192) 1 (if i = 0 then .good else .good)).1,
        t.2 || (t.1.readEcc bank ((word + i) % 8192) 1 (if i = 0 then .good else .good)).2)) (s, false) = (s, false) := by
    intro l hl
    induction l with
    | nil => rfl
    | cons i r ih =>
      have hi := State.readEcc_clean (h i (hl i List.mem_cons_self)) 1
      simpa [hi] using ih fun j hj => hl j (List.mem_cons_of_mem i hj)
  exact hall _ fun i => List.mem_range.mp

/-- An undefined read changes data on their way and the count of free values. -/
theorem State.undefineRead_frame (s : State) (bank word : Nat) :
    (s.undefineRead bank word).regs = s.regs ∧ (s.undefineRead bank word).vlt = s.vlt := by
  dsimp only [State.undefineRead]
  split <;> exact ⟨rfl, rfl⟩

theorem State.undefineReads_frame (s : State) (bank word wmask count : Nat) :
    (s.undefineReads bank word wmask count).regs = s.regs ∧ (s.undefineReads bank word wmask count).vlt = s.vlt := by
  unfold State.undefineReads
  generalize List.range count = l
  induction l generalizing s with
  | nil => exact ⟨rfl, rfl⟩
  | cons i r ih =>
    rw [List.foldl_cons]
    split
    · obtain ⟨hregs, hvlt⟩ := ih (s.undefineRead bank ((word + i) % 8192))
      obtain ⟨hregs', hvlt'⟩ := s.undefineRead_frame bank ((word + i) % 8192)
      exact ⟨hregs.trans hregs', hvlt.trans hvlt'⟩
    · exact ih s

/-- The VAULT_BUSY_N ball and the nanoseconds it stays low, replaced. -/
def State.setBall (s : State) (low : Bool) (left : Nat) : State := { s with vlt := { s.vlt with busyLow := low, busyLeft := left } }

theorem State.reg_setBall (s : State) (low : Bool) (left a : Nat) : (s.setBall low left).reg a = s.reg a := rfl
theorem State.setBall_mem (s : State) (low : Bool) (left : Nat) : (s.setBall low left).vlt.mem = s.vlt.mem := rfl
theorem State.setBall_noc (s : State) (low : Bool) (left : Nat) : (s.setBall low left).noc = s.noc := rfl

/-- A completion with BUSY is counted and may drive the ball (R198). -/
theorem State.vltBusy_counts (s : State) (bank : Nat) :
    ((s.vltBusy bank).reg (Reg.VLT_BUSY (bank / 256))).toNat = min (2 ^ 32 - 1) ((s.reg (Reg.VLT_BUSY (bank / 256))).toNat + 1) ∧
      (s.vltBusy bank).vlt.mem = s.vlt.mem ∧ (s.vltBusy bank).noc = s.noc := by
  have hball : s.vltBusy bank = s.addFld (Reg.VLT_BUSY (bank / 256)) 0 32 1 ∨
      ∃ b k, s.vltBusy bank = (s.addFld (Reg.VLT_BUSY (bank / 256)) 0 32 1).setBall b k := by
    unfold State.vltBusy
    dsimp only
    split
    exacts [.inr ⟨_, _, rfl⟩, .inl rfl]
  have hadd : RegsOnly s (s.addFld (Reg.VLT_BUSY (bank / 256)) 0 32 1) := .addFld_self s
  rcases hball with h | ⟨b, k, h⟩ <;> rw [h]
  · exact ⟨s.toNat_reg_addFld_word .., by rw [hadd.vlt], hadd.noc⟩
  · rw [State.reg_setBall, State.setBall_mem, State.setBall_noc]
    exact ⟨s.toNat_reg_addFld_word .., by rw [hadd.vlt], hadd.noc⟩

end

@[simp] theorem State.respond_vlt (s : State) (p : Pkt) (st : Status) (derr : Bool) (data : List DWord) :
    (s.respond p st derr data).vlt = s.vlt := rfl
@[simp] theorem State.respond_regs (s : State) (p : Pkt) (st : Status) (derr : Bool) (data : List DWord) :
    (s.respond p st derr data).regs = s.regs := rfl
@[simp] theorem State.respond_parts (s : State) (p : Pkt) (st : Status) (derr : Bool) (data : List DWord) :
    (s.respond p st derr data).parts = s.parts := rfl
@[simp] theorem State.respond_pkts (s : State) (p : Pkt) (st : Status) (derr : Bool) (data : List DWord) :
    (s.respond p st derr data).noc.pkts = s.noc.pkts ++ [(p.response (if p.op = 0 then 8 else 9) st.code derr data).launch] := rfl

/-- The state without a queued request of a bank. -/
def State.unqueued (s : State) (q : NReq) : State := { s with vlt := { s.vlt with qNoc := s.vlt.qNoc.erase q } }

theorem exec_portNAccess {s : State} {bank : BitVec 10} {q : NReq} (hb : s.hasBank bank.toNat = true)
    (hq : s.vlt.qNoc.find? (fun q => q.bank == bank.toNat) = some q) (meet : Meet) (ecc : Ecc) :
    exec (.portNAccess bank meet ecc) s = .next ((s.unqueued q).serveN q meet ecc) := by
  refine (congrArg (guardUnit s · _) hb).trans ?_
  rw [hq]
  rfl

/-- Port N takes the request for one of the bank's owner: the bank is LENT, the owner codes agree and no recovery fences it (R191, R327). -/
def State.Owned (s : State) (q : NReq) : Prop :=
  s.loanState q.bank = 0 ∧ q.pkt.owner.code = s.loanOwner q.bank ∧ s.fenced (s.loanOwner q.bank) = false

section
variable {s : State} {q : NReq} (h : s.Owned q) (meet : Meet) (ecc : Ecc)
include h

theorem State.serveN_read (hop : q.pkt.op = 0) (hclean : ∀ i, i < q.count → s.isDbe q.bank ((q.word + i) % 8192) = false) :
    s.serveN q .none .good = s.respond q.pkt .ok false (s.readWords q.bank q.word q.count) := by
  obtain ⟨hlent, howner, hfence⟩ := h
  simp [State.serveN, hlent, howner, hfence, hop, meetLater, State.readEccs_clean hclean]

/-- A write past the owner check: BUSY for a log entry or an earlier access, which leaves an earlier read of the same cycle undefined (R196, R197). -/
theorem State.serveN_write (hop : q.pkt.op ≠ 0) (hderr : q.pkt.derr = false) : s.serveN q meet ecc =
    if s.writeLogged q.bank q.word q.pkt = true then (s.vltBusy q.bank).respond q.pkt .busy false []
    else if meet = .none then (s.writeWords q.bank q.word q.pkt.bmask q.pkt.wmask q.pkt.data 0).respond q.pkt .ok false []
    else ((if meet = .read ∧ q.pkt.bmask = 255 then s.undefineReads q.bank q.word q.pkt.wmask q.pkt.data.length else s).vltBusy
      q.bank).respond q.pkt .busy false [] := by
  obtain ⟨hlent, howner, hfence⟩ := h
  cases meet <;> simp [State.serveN, hlent, howner, hfence, hop, hderr]

/-- A write that finds a log entry or an earlier access completes with BUSY. -/
theorem State.serveN_busy (hop : q.pkt.op ≠ 0) (hderr : q.pkt.derr = false)
    (hbusy : s.writeLogged q.bank q.word q.pkt = true ∨ meet ≠ .none) :
    ∃ u : State, s.serveN q meet ecc = (u.vltBusy q.bank).respond q.pkt .busy false [] ∧ u.regs = s.regs ∧ u.vlt = s.vlt ∧
      (meet ≠ .read → u.noc = s.noc) := by
  rw [State.serveN_write h meet ecc hop hderr]
  by_cases hlog : s.writeLogged q.bank q.word q.pkt = true
  · exact ⟨s, if_pos hlog, rfl, rfl, fun _ => rfl⟩
  · rw [if_neg hlog, if_neg (hbusy.resolve_left hlog)]
    by_cases hread : meet = .read ∧ q.pkt.bmask = 255
    · obtain ⟨hregs, hvlt⟩ := s.undefineReads_frame q.bank q.word q.pkt.wmask q.pkt.data.length
      exact ⟨_, by rw [if_pos hread], hregs, hvlt, fun hne => absurd hread.1 hne⟩
    · exact ⟨s, by rw [if_neg hread], rfl, rfl, fun _ => rfl⟩

end

end Sys2Proof.Machine

namespace Sys2Proof.Proofs

open Sys2Proof Sys2Proof.Machine Sys2Proof.Statements

/-- Settles O15: a request of the bank's owner is read, stored or completed with BUSY, on the state without it in the queue. -/
theorem portNServesTheOwner : Obligations.PortNServesTheOwner := by
  unfold Obligations.PortNServesTheOwner
  intro s bank q hb hq hlent howner hfence
  obtain hbank : q.bank = bank.toNat := by simpa using List.find?_some hq
  rw [← hbank] at hlent howner hfence ⊢
  have howned : (s.unqueued q).Owned q := ⟨hlent, howner, hfence⟩
  refine ⟨fun hop hclean => ⟨_, exec_portNAccess hb hq _ _, ?_⟩, fun hop hderr hmask hlog hlen => ⟨_, exec_portNAccess hb hq _ _, ?_⟩,
    fun meet ecc hop hderr hbusy => ?_⟩
  · rw [State.serveN_read howned hop hclean]
    refine ⟨rfl, rfl, rfl, rfl, ?_⟩
    rw [State.respond_pkts, if_pos hop]
    rfl
  · have hfree : ¬ (s.unqueued q).writeLogged q.bank q.word q.pkt = true := Bool.eq_false_iff.mp hlog
    rw [State.serveN_write howned .none .good hop hderr, if_neg hfree, if_pos rfl, hmask]
    obtain ⟨m, d, hw⟩ := State.writeWords_frame q.bank q.word 255 q.pkt.wmask q.pkt.data 0 (s.unqueued q)
    rw [State.respond_regs, State.respond_parts, State.respond_vlt]
    refine ⟨(congrArg State.regs hw).trans rfl, (congrArg State.parts hw).trans rfl, congrArg (fun t => t.vlt.qNoc) hw, ?_, fun k v hv hbit => ?_, fun b w hw hne => ?_⟩
    · rw [State.respond_pkts, if_neg hop, hw]
      rfl
    · rw [← Nat.zero_add k] at hbit ⊢
      exact State.vword_writeWords_stored q.bank q.word q.pkt.wmask q.pkt.data hlen 0 (s.unqueued q) hv hbit
    · refine State.vword_writeWords_other q.bank q.word 255 q.pkt.wmask hw q.pkt.data 0 (s.unqueued q) fun hb' k hk => ?_
      rw [Nat.zero_add]
      exact hne hb' k hk
  · obtain ⟨u, hserve, hregs, hvlt, hnoc⟩ := State.serveN_busy howned meet ecc hop hderr hbusy
    obtain ⟨hcount, hmem, hpkts⟩ := u.vltBusy_counts q.bank
    refine ⟨_, u.noc.pkts, (exec_portNAccess hb hq meet ecc).trans (congrArg _ hserve), ?_, ?_, fun hne => ?_, ?_⟩
    · exact hmem.trans ((congrArg Vlt.mem hvlt).trans rfl)
    · simp [hpkts, hop]
    · exact congrArg Noc.pkts (hnoc hne)
    · have hreg : u.reg (Reg.VLT_BUSY (q.bank / 256)) = s.reg (Reg.VLT_BUSY (q.bank / 256)) := by
        rw [State.reg, hregs]
        rfl
      rw [← hreg]
      exact hcount

end Sys2Proof.Proofs
end

section
/-!
SUPPORT. What a partition's fall into FAULT (R48, R326, R330) leaves standing: nothing that follows it, the record's end, the recovery that begins
or fails, the holds and a shutdown that end, changes the state or the fault cause of any partition.
-/
namespace Sys2Proof.Machine

open Sys2Proof Sys2Proof.Statements

/-- Every partition has the state and the fault cause that it had. -/
def FaultKept (s t : State) : Prop := ∀ m, (t.part m).state = (s.part m).state ∧ (t.part m).faultCause = (s.part m).faultCause

namespace FaultKept

theorem refl (s : State) : FaultKept s s := fun _ => ⟨rfl, rfl⟩

variable {s t u : State} {n : Fin 8}

theorem ite {c : Prop} {_ : Decidable c} (ht : FaultKept s t) (hu : FaultKept s u) : FaultKept s (if c then t else u) := by
  split
  exacts [ht, hu]

section
variable (h : FaultKept s t)
include h

theorem parts (hu : u.parts = t.parts) : FaultKept s u := fun m => by
  rw [State.part, hu]
  exact h m

theorem quiet (hu : Quiet t u) : FaultKept s u := .parts h hu.1

theorem curOnly (hu : CurOnly t u) : FaultKept s u := .parts h (curOnly_parts hu)

theorem modPart {f : Part → Part} (hf : ∀ p, (f p).state = p.state ∧ (f p).faultCause = p.faultCause) : FaultKept s (t.modPart n f) := by
  intro m
  by_cases hm : m = n
  · subst hm
    rw [State.part_modPart_self, (hf _).1, (hf _).2]
    exact h m
  · rw [State.modPart_eq, State.part_setPart_ne t _ hm]
    exact h m

theorem modCk {f : Ckp → Ckp} : FaultKept s (t.modCk n f) := .parts h rfl

theorem setReg {a : Nat} {w : Word} : FaultKept s (t.setReg a w) := .parts h rfl

theorem setFld {a lo w x : Nat} : FaultKept s (t.setFld a lo w x) := .setReg h

theorem setPwr {p : Pwr} : FaultKept s (t.setPwr p) := .parts h rfl

theorem foldl {α : Type} {f : State → α → State} {l : List α} (hf : ∀ {v x}, FaultKept s v → FaultKept s (f v x)) :
    FaultKept s (l.foldl f t) := by
  induction l generalizing t with
  | nil => exact h
  | cons x r ih => exact ih (hf h)

theorem raiseFrm {bit : Nat} : FaultKept s (t.raiseFrm n bit) := .quiet h (.raiseFrm (.refl t))

theorem flushGather : FaultKept s (t.flushGather n) := .foldl h fun h => .ite (.quiet h (.tryHandover (.setPhm (.refl _)))) h

theorem recWrite {l : List RecE} : FaultKept s (t.recWrite n l) := by
  induction l generalizing t with
  | nil => exact h
  | cons e r ih =>
    dsimp only [State.recWrite]
    exact .ite (ih (.setReg (.modCk h))) (.ite (.setFld (.setFld (.modCk h))) h)

theorem fileAsync : FaultKept s (t.fileAsync n) := by
  dsimp only [State.fileAsync]
  refine .ite h ?_
  split <;> exact .parts h rfl

theorem recSettle : FaultKept s (t.recSettle n) := by
  dsimp only [State.recSettle, State.capSettle]
  exact .recWrite (.fileAsync (.quiet h (.closeDue (.blockWrite (.refl t)))))

theorem failWaits : FaultKept s (t.failWaits n) :=
  .curOnly h (curOnly_trans (curOnly_trans (State.answerAll_curOnly ..) (curOnly_mapWaits ..)) (State.answerAll_curOnly ..))

theorem unmap : FaultKept s (t.unmap n) := .foldl h fun h => .foldl h fun h => .ite (.setFld h) h

theorem recoveryFail {cause : FaultCause} {frame aborts since reason : Nat} {units : List Nat} :
    FaultKept s (t.recoveryFail n cause frame aborts since reason units) := by
  dsimp only [State.recoveryFail, State.recoveryNotice]
  refine .curOnly (.unmap (.failWaits (.modCk (.setFld (.setFld (.setFld (.modPart h fun p => ?_))))))) (State.notice_curOnly ..)
  split <;> exact ⟨rfl, rfl⟩

theorem recoveryStart {cause : FaultCause} {frame : Nat} : FaultKept s (t.recoveryStart n cause frame) := by
  dsimp only [State.recoveryStart]
  split
  exacts [.recoveryFail (.recSettle h), .setFld (.setFld (.modCk (.recSettle h)))]

theorem relockAdvance : FaultKept s t.relockAdvance := by
  unfold State.relockAdvance
  split
  · exact .ite h (.foldl h fun h => .ite h (.setReg h))
  · exact h

theorem answerHold : FaultKept s (t.answerHold n) := .relockAdvance (.curOnly (.curOnly h (curOnly_mapWaits ..)) (State.answerAll_curOnly ..))

theorem dropHolds : FaultKept s (t.dropHolds n) := .setPwr h

theorem endHoldReq : FaultKept s (t.endHoldReq n) := .ite (.answerHold (.dropHolds (.modPart h fun _ => ⟨rfl, rfl⟩))) h

theorem requestHold : FaultKept s (t.requestHold n) := by
  dsimp only [State.requestHold]
  exact .ite h (.ite (.ite (.modPart h fun _ => ⟨rfl, rfl⟩) (.modPart h fun _ => ⟨rfl, rfl⟩)) h)

theorem releaseHold : FaultKept s (t.releaseHold n) := .ite (.modPart h fun _ => ⟨rfl, rfl⟩) (.modPart h fun _ => ⟨rfl, rfl⟩)

theorem changeOver {r : Rsp} : FaultKept s (t.changeOver r) := by
  unfold State.changeOver
  split
  · exact .curOnly (.foldl (.setPwr (.foldl h fun h => .setFld h)) fun h => .releaseHold h) (State.answerAll_curOnly ..)
  · exact h

theorem dormantBegin : FaultKept s t.dormantBegin := by
  unfold State.dormantBegin
  cases t.pwr.shut with
  | none =>
    dsimp only
    refine .foldl ?_ fun h => .requestHold h
    exact .parts h rfl
  | some x =>
    dsimp only
    refine .foldl ?_ fun h => .requestHold h
    exact .parts (.changeOver h) rfl

theorem shutHalted : FaultKept s (t.shutHalted n) := by
  unfold State.shutHalted
  split
  · exact .ite (.ite (.dormantBegin h) (.setPwr h)) h
  · exact h

end

end FaultKept

/-- What follows a fall into FAULT: the interrupt, the handover, the recovery and the holds that end. -/
theorem FaultKept.afterFall (u : State) (n : Fin 8) (cause : FaultCause) (frame : Nat) :
    let w := ((u.raiseFrm n 1).flushGather n).recoveryStart n cause frame
    FaultKept u ((if (w.ck n).recov.isSome then w else w.endHoldReq n).shutHalted n) := by
  have hstart : FaultKept u (((u.raiseFrm n 1).flushGather n).recoveryStart n cause frame) :=
    .recoveryStart (.flushGather (.raiseFrm (.refl u)))
  exact .shutHalted (.ite hstart (.endHoldReq hstart))

/-- A partition that enters FAULT stands in it, with the cause given (R48). -/
theorem State.enterFault_stands (s : State) (n : Fin 8) (cause : FaultCause) (stall bp frame : Nat) :
    ((s.enterFault n cause stall bp frame).part n).state = .fault ∧ ((s.enterFault n cause stall bp frame).part n).faultCause = cause := by
  dsimp only [State.enterFault]
  refine ⟨(FaultKept.afterFall _ n cause frame n).1.trans ?_, (FaultKept.afterFall _ n cause frame n).2.trans ?_⟩ <;>
    rw [State.part_modPart_self]

/-- A fault of a partition that does not recover from one puts it in FAULT (R48). -/
theorem State.faultNow_stands {s : State} {n : Fin 8} (hrec : (s.ck n).recov = none) (cause : FaultCause) (stall bp frame : Nat) :
    ((s.faultNow n cause stall bp frame).part n).state = .fault ∧ ((s.faultNow n cause stall bp frame).part n).faultCause = cause := by
  obtain ⟨q, -, hflush⟩ := (Quiet.start s n).flushHaz
  have hcatch : (s.flushHaz n).catchingUp n = false := by
    rw [hflush.catchingUp, State.catchingUp, State.ck_setPart, hrec]
  rw [show s.faultNow n cause stall bp frame = _ from if_neg (by simp [hcatch])]
  exact State.enterFault_stands ..

end Sys2Proof.Machine
end

section
/-!
SUPPORT. An accession of a cluster or of a bank (R201, R342 to R349): the registers of maps, states and generations that it writes, and what the rest
of it, the lists of the reserve collection, the waiting commands and the end of the boundary hold, leaves.
-/
namespace Sys2Proof

/-- A field that lies outside the word is not written. -/
theorem setBitsAt_beyond {n : Nat} (v : BitVec n) {lo : Nat} (w x : Nat) (h : n ≤ lo) : setBitsAt v lo w x = v := by
  have hv : v.toNat < 2 ^ lo := v.isLt.trans_le (Nat.pow_le_pow_right (by decide) h)
  have hv' : v.toNat < 2 ^ (lo + w) := hv.trans_le (Nat.pow_le_pow_right (by decide) (by omega))
  obtain ⟨k, rfl⟩ := Nat.exists_eq_add_of_le h
  apply BitVec.eq_of_toNat_eq
  rw [setBitsAt, BitVec.toNat_ofNat, Nat.div_eq_of_lt hv', Nat.mod_eq_of_lt hv, Nat.zero_mul, Nat.zero_add, Nat.pow_add, Nat.mul_comm (2 ^ n),
    ← Nat.mul_assoc, Nat.mul_add_mod_self_right, Nat.mod_eq_of_lt v.isLt]

/-- The low bits of a field are a field. -/
theorem bitsAt_narrow {n : Nat} (v : BitVec n) (lo : Nat) {w w' : Nat} (h : w' ≤ w) : bitsAt v lo w' = bitsAt v lo w % 2 ^ w' := by
  rw [bitsAt, bitsAt, Nat.mod_mod_of_dvd _ (Nat.pow_dvd_pow 2 h)]

end Sys2Proof

namespace Sys2Proof.Machine

open Sys2Proof Sys2Proof.Statements

theorem exec_clusterAccession {s : State} {tl : BitVec 8} (hd : s.hasDie (tl.toNat / 64) = true) (c : Fin 16) (parity : Bool) :
    exec (.clusterAccession tl c parity) s = .next (s.clusterAccession tl.toNat c parity) := congrArg (guardUnit s · _) hd

theorem exec_bankSpareRemap {s : State} {b : BitVec 10} (hb : s.hasBank b.toNat = true) (sp : Fin 8) :
    exec (.bankSpareRemap b sp) s = .next (s.bankAccession b.toNat (256 + sp.val)) := congrArg (guardUnit s · _) hb

section
variable (s : State)

/-- The answers to the commands of an accession change the Curator's state alone. -/
theorem State.accAnswer_curOnly (q : Pend) : CurOnly s (s.accAnswer q) := by
  exact curOnly_ite (curOnly_mapWaits s _) (curOnly_trans (curOnly_mapWaits s _) (State.answerAll_curOnly ..))

/-- The end of a boundary hold changes nothing of a partition but its holds. -/
theorem State.accHoldEnd_leaves (n : Option (Fin 8)) : s.accHoldEnd n = { s with parts := (s.accHoldEnd n).parts } ∧
    ∀ m, ((s.accHoldEnd n).part m).img = (s.part m).img := by
  cases n with
  | none => exact ⟨rfl, fun _ => rfl⟩
  | some n =>
    by_cases hstay : s.curatorDue n = true ∨ (s.ck n).recov.isSome = true
    · rw [show s.accHoldEnd (some n) = s from if_pos hstay]
      exact ⟨rfl, fun _ => rfl⟩
    · rw [show s.accHoldEnd (some n) = s.endHold n fun h => h == .curator from if_neg hstay]
      obtain ⟨hframe, hothers, -, hpart⟩ := s.endHold_takes_only n fun h => h == .curator
      refine ⟨hframe, fun m => ?_⟩
      by_cases hm : m = n
      · subst hm
        rw [hpart]
      · rw [hothers m hm]

/-- A field below the written one is unchanged, wherever the written one lies. -/
theorem State.fld_setFld_flag {a lo lo' w' : Nat} (x : Nat) (hd : lo' + w' ≤ lo) : (s.setFld a lo 1 x).fld a lo' w' = s.fld a lo' w' := by
  rcases Nat.lt_or_ge lo 32 with h | h
  · exact s.fld_setFld_of_disjoint x h (.inl hd)
  · rw [State.fld, State.reg_setFld_self, setBitsAt_beyond _ 1 x h, State.fld]

/-- The unit an accession replaces is RETIRED, with its expected generation raised (R346). -/
def State.retired (a : Nat) : State := (s.genUp a).setFld a 8 3 3

theorem State.retired_fields (a : Nat) : (s.retired a).fld a 8 3 = 3 ∧ (s.retired a).fld a 12 4 = (s.fld a 12 4 + 1) % 16 := by
  simp [State.retired, State.genUp, State.fld_setFld_self, State.fld_setFld_of_disjoint]

/-- The state with other contents of the registers of an accession's last row, the lists of the reserve collection, the Curator and the count of free
values. -/
def AccNoted (t : State) (q : Pend) : Prop :=
  HealthOnly s t ∧ q ∉ t.spr.pend ∧ RegsBut s t [Reg.SPR_STATUS, Reg.SPR_LAST_ACC, Reg.SPR_LAST_ACC_DETAIL]

end

section
variable {s t u : State} {q : Pend}

theorem AccNoted.curOnly (h : AccNoted s t q) (hu : CurOnly t u) : AccNoted s u q := by
  obtain ⟨hhealth, hpend, hregs⟩ := h
  refine ⟨hhealth.curOnly hu, ?_, regsBut_curOnly hregs hu⟩
  rw [hu]
  exact hpend

/-- A waiting accession leaves the list, and SPR_LAST_ACC shows it. -/
theorem State.setPend_accNoted (s : State) (q : Pend) : AccNoted s (s.setPend (s.spr.pend.filter fun x => x != q)) q := by
  refine ⟨.setPend (.refl s), ?_, regsBut_mono (l := [Reg.SPR_STATUS]) ?_ (by simp)⟩
  · simp [State.setPend, State.setFld]
  · exact regsBut_setFld_self { s with spr := { s.spr with pend := s.spr.pend.filter fun x => x != q } }

theorem AccNoted.lastAcc (h : AccNoted s t q) (entry from_ new path result : Nat) : AccNoted s (t.lastAcc entry from_ new path result) q := by
  obtain ⟨hhealth, hpend, hregs⟩ := h
  rw [State.lastAcc]
  refine ⟨.setReg (.setReg hhealth), ?_, regsBut_setReg_mem (regsBut_setReg_mem hregs (by simp)) (by simp)⟩
  rwa [State.setReg_spr, State.setReg_spr]

theorem AccNoted.fresh (h : AccNoted s t q) : AccNoted s t.fresh.1 q := by
  obtain ⟨hhealth, hpend, hregs⟩ := h
  exact ⟨hhealth.fresh, hpend, hregs⟩

theorem AccNoted.of_spr {x : Spr} (h : AccNoted { s with spr := x } t q) : AccNoted s t q := by
  obtain ⟨hhealth, hpend, hregs⟩ := h
  exact ⟨.trans (.spr (.refl s)) hhealth, hpend, hregs⟩

theorem HealthOnly.recov (h : HealthOnly s t) (n : Fin 8) : (t.ck n).recov = (s.ck n).recov := by
  obtain ⟨_, _, _, _, rfl⟩ := h
  rfl

theorem HealthOnly.tileHolder (h : HealthOnly s t) (tl : Nat) : t.tileHolder tl = s.tileHolder tl := by
  unfold State.tileHolder State.part
  rw [h.parts]

/-- What an accession leaves once the hold of its boundary has ended as well. -/
theorem AccNoted.ends (h : AccNoted s t q) (n : Option (Fin 8)) :
    q ∉ (t.accHoldEnd n).spr.pend ∧ (t.accHoldEnd n).vlt = s.vlt ∧ (∀ m, ((t.accHoldEnd n).part m).img = (s.part m).img) ∧
      RegsBut s (t.accHoldEnd n) [Reg.SPR_STATUS, Reg.SPR_LAST_ACC, Reg.SPR_LAST_ACC_DETAIL] := by
  obtain ⟨hhealth, hpend, hregs⟩ := h
  obtain ⟨hframe, himg⟩ := t.accHoldEnd_leaves n
  rw [hframe] at himg ⊢
  refine ⟨hpend, hhealth.vlt, fun m => (himg m).trans ?_, hregs⟩
  rw [State.part, hhealth.parts, State.part]

end

section
variable (s : State) (tl c : Nat)

/-- The registers that an accession of a cluster writes (R342, R346, R357). -/
def State.clusterMoved : State :=
  ((((s.retired (Reg.SPR_CHEALTH tl (s.physOf tl c))).setFld (Reg.SPR_CHEALTH tl (s.idleClu tl)) 8 3 0).setFld (cmapAt tl c).1 (cmapAt tl c).2 5
    (s.idleClu tl)).setFld (Reg.SPR_TILE tl) 0 6 0x1F).setFld (Reg.SPR_TILE tl) (8 + s.physOf tl c) 1 1

theorem State.clusterMoved_regsOnly : RegsOnly s (s.clusterMoved tl c) := (RegsOnly.refl s).setFld.setFld.setFld.setFld.setFld.setFld

variable {tl c}

theorem cmapAt_place (htl : tl < 256) : (cmapAt tl c).1 < Reg.SPR_CHEALTH 0 0 ∧ (cmapAt tl c).1 ≠ Reg.SPR_TILE tl ∧ (cmapAt tl c).2 ≤ 25 := by
  simp only [cmapAt, Reg.SPR_CMAP0, Reg.SPR_CMAP1, Reg.SPR_CMAP2, Reg.SPR_TILE, Reg.SPR_CHEALTH]
  split_ifs <;> omega

theorem State.clusterMoved_fields (htl : tl < 256) :
    (s.clusterMoved tl c).physOf tl c = s.idleClu tl ∧ (s.clusterMoved tl c).fld (Reg.SPR_CHEALTH tl (s.idleClu tl)) 8 3 = 0 ∧
      (s.clusterMoved tl c).idleClu tl = 0x1F ∧ (s.physOf tl c < 17 → (s.clusterMoved tl c).fld (Reg.SPR_TILE tl) (8 + s.physOf tl c) 1 = 1) := by
  obtain ⟨hlow, hne, hbits⟩ := cmapAt_place (c := c) htl
  have hmap : ∀ p, Reg.SPR_CHEALTH tl p ≠ (cmapAt tl c).1 := fun p => by
    simp only [Reg.SPR_CHEALTH] at hlow ⊢
    omega
  have htile : ∀ p, Reg.SPR_CHEALTH tl p ≠ Reg.SPR_TILE tl := fun p => by
    simp only [Reg.SPR_CHEALTH, Reg.SPR_TILE]
    omega
  have hnew : s.idleClu tl < 32 := s.fld_lt 0 5
  refine ⟨?_, ?_, ?_, fun hold => ?_⟩
  · rw [State.physOf, State.clusterMoved, State.fld_setFld_ne _ _ _ _ hne, State.fld_setFld_ne _ _ _ _ hne,
      State.fld_setFld_self _ _ (by omega)]
    exact Nat.mod_eq_of_lt hnew
  · rw [State.clusterMoved, State.fld_setFld_ne _ _ _ _ (htile _), State.fld_setFld_ne _ _ _ _ (htile _),
      State.fld_setFld_ne _ _ _ _ (hmap _), State.fld_setFld_self _ _ (by decide)]
    rfl
  · rw [State.idleClu, State.clusterMoved, State.fld_setFld_flag _ _ (by omega), State.fld, bitsAt_narrow _ 0 (w := 6) (by decide), ← State.fld,
      State.fld_setFld_self _ _ (by decide)]
    rfl
  · rw [State.clusterMoved, State.fld_setFld_self _ _ (by omega)]
    rfl

/-- The cluster that is replaced is RETIRED, unless it is the one that takes over. -/
theorem State.clusterMoved_retires (htl : tl < 256) (hne : s.physOf tl c ≠ s.idleClu tl) :
    (s.clusterMoved tl c).reg (Reg.SPR_CHEALTH tl (s.physOf tl c)) =
      (s.retired (Reg.SPR_CHEALTH tl (s.physOf tl c))).reg (Reg.SPR_CHEALTH tl (s.physOf tl c)) := by
  obtain ⟨hlow, -, -⟩ := cmapAt_place (c := c) htl
  have hmap : Reg.SPR_CHEALTH tl (s.physOf tl c) ≠ (cmapAt tl c).1 := by
    simp only [Reg.SPR_CHEALTH] at hlow ⊢
    omega
  have htile : Reg.SPR_CHEALTH tl (s.physOf tl c) ≠ Reg.SPR_TILE tl := by
    simp only [Reg.SPR_CHEALTH, Reg.SPR_TILE]
    omega
  have hother : Reg.SPR_CHEALTH tl (s.physOf tl c) ≠ Reg.SPR_CHEALTH tl (s.idleClu tl) := by
    simp only [Reg.SPR_CHEALTH]
    omega
  rw [State.clusterMoved, State.reg_setFld_ne _ _ _ _ htile, State.reg_setFld_ne _ _ _ _ htile, State.reg_setFld_ne _ _ _ _ hmap,
    State.reg_setFld_ne _ _ _ _ hother]

/-- What an accession of a cluster leaves before a boundary hold ends or a fault is taken. -/
def State.clusterAccounted (tl c : Nat) (parity : Bool) : State :=
  let q : Pend := ⟨1, tl * 16 + c⟩
  let u := s.clusterMoved tl c
  let mine := fun (k : Nat) => k % 2 == 0 && k / 2 / 2048 / 64 == tl * 16 + c
  let v := { u with spr := { u.spr with
    staging := u.spr.staging.filter (fun (x : Nat × Nat) => x.1 != tl), staged := u.spr.staged.filter (fun (x : Nat × Nat) => x.1 != tl),
    rowFail := u.spr.rowFail.filter (fun k => !mine k), rowDue := u.spr.rowDue.filter fun k => !mine k } }
  ((v.setPend (v.spr.pend.filter fun x => x != q)).lastAcc (unitEntry 1 q.id 1) (tl + s.physOf tl c * 256) (tl + s.idleClu tl * 256)
    (if s.inRecovery q then 2 else if s.spr.staged.contains (tl, c) then 0 else 1) (if parity && !s.inRecovery q then 2 else 0)).accAnswer q

theorem State.clusterAccounted_noted (tl c : Nat) (parity : Bool) :
    AccNoted (s.clusterMoved tl c) (s.clusterAccounted tl c parity) ⟨1, tl * 16 + c⟩ :=
  .of_spr (.curOnly (.lastAcc (State.setPend_accNoted ..) ..) (State.accAnswer_curOnly ..))

/-- The end of an accession of a cluster (R343): the copy's error is its holder's fault, else the boundary hold may end. -/
theorem State.accCluster_eq (tl c : Nat) (parity : Bool) : s.accCluster tl c parity =
    ((s.clusterAccounted tl c parity).unitHolder ⟨1, tl * 16 + c⟩).elim (s.clusterAccounted tl c parity) fun n =>
      if parity = true ∧ s.inRecovery ⟨1, tl * 16 + c⟩ = false then
        (s.clusterAccounted tl c parity).faultNow n .abortLimit 0 0 ((s.clusterAccounted tl c parity).part n).cur
      else (s.clusterAccounted tl c parity).accHoldEnd (some n) := by
  dsimp only [State.accCluster, State.clusterAccounted, State.clusterMoved, State.retired]
  generalize State.unitHolder _ _ = holder
  cases holder <;> rfl

theorem State.accCluster_clean (tl c : Nat) : s.accCluster tl c false =
    (s.clusterAccounted tl c false).accHoldEnd ((s.clusterAccounted tl c false).unitHolder ⟨1, tl * 16 + c⟩) := by
  rw [State.accCluster_eq]
  cases (s.clusterAccounted tl c false).unitHolder ⟨1, tl * 16 + c⟩ with
  | none => rfl
  | some n =>
    rw [Option.elim_some, if_neg fun h => Bool.false_ne_true h.1]

/-- A copy in error is a fault of the unit's holder (R343). -/
theorem State.accCluster_fault {tl c : Nat} {n : Fin 8} (hholder : s.unitHolder ⟨1, tl * 16 + c⟩ = some n)
    (hrec : s.inRecovery ⟨1, tl * 16 + c⟩ = false) :
    ((s.accCluster tl c true).part n).state = .fault ∧ ((s.accCluster tl c true).part n).faultCause = .abortLimit := by
  obtain ⟨hhealth, -, -⟩ := s.clusterAccounted_noted tl c true
  have hmoved : HealthOnly s (s.clusterAccounted tl c true) := by
    obtain ⟨r, hr⟩ := s.clusterMoved_regsOnly tl c
    exact .trans ⟨_, _, _, _, hr⟩ hhealth
  have hsame : (s.clusterAccounted tl c true).unitHolder ⟨1, tl * 16 + c⟩ = some n := (hmoved.tileHolder _).trans hholder
  have hnone : ((s.clusterAccounted tl c true).ck n).recov = none := by
    rw [hmoved.recov]
    simpa [State.inRecovery, hholder] using hrec
  rw [State.accCluster_eq, hsame, Option.elim_some, if_pos ⟨rfl, hrec⟩]
  exact State.faultNow_stands hnone ..

end

theorem State.clusterAccession_acts {s : State} {tl c : Nat} (hpend : (⟨1, tl * 16 + c⟩ : Pend) ∈ s.spr.pend)
    (hmay : s.accMay ⟨1, tl * 16 + c⟩ = true) (hidle : s.idleClu tl ≠ 0x1F) (parity : Bool) :
    s.clusterAccession tl c parity = s.accCluster tl c parity :=
  (if_pos ⟨List.contains_iff_mem.mpr hpend, hmay⟩).trans (if_neg hidle)

theorem State.clusterAccession_waits {s : State} {tl c : Nat}
    (h : ¬ ((⟨1, tl * 16 + c⟩ : Pend) ∈ s.spr.pend ∧ s.accMay ⟨1, tl * 16 + c⟩ = true)) (parity : Bool) :
    s.clusterAccession tl c parity = s := if_neg fun ⟨hpend, hmay⟩ => h ⟨List.contains_iff_mem.mp hpend, hmay⟩

/-- The registers of an accession's last row lie below the maps. -/
theorem notMem_accRow {a : Nat} (h : Reg.SPR_CMAP0 0 ≤ a) : a ∉ [Reg.SPR_STATUS, Reg.SPR_LAST_ACC, Reg.SPR_LAST_ACC_DETAIL] := by
  simp only [Reg.SPR_CMAP0, Reg.SPR_STATUS, Reg.SPR_LAST_ACC, Reg.SPR_LAST_ACC_DETAIL, List.mem_cons, List.not_mem_nil, or_false] at h ⊢
  omega

theorem bhealth_eq (k : Nat) : bhealth k = Reg.SPR_BHEALTH 0 0 + 4 * k := by
  simp only [bhealth, Reg.SPR_BHEALTH]
  omega

section
variable (s : State) (bank p : Nat)

/-- The registers that an accession of a bank writes (R201, R346, R357). -/
def State.bankMoved : State :=
  ((s.retired (bhealth (s.physBank bank))).setFld (bhealth (bank / 256 * 264 + p)) 8 3 0).setFld (Reg.SPR_BMAP (bank / 256) (bank % 256)) 0 9 p

theorem State.bankMoved_regsOnly : RegsOnly s (s.bankMoved bank p) := (RegsOnly.refl s).setFld.setFld.setFld.setFld

variable {bank p}

theorem bmap_lt_bhealth (hb : bank < 1024) (k : Nat) : Reg.SPR_BMAP (bank / 256) (bank % 256) < bhealth k := by
  rw [bhealth_eq]
  simp only [Reg.SPR_BMAP, Reg.SPR_BHEALTH]
  omega

theorem State.bankMoved_fields (hb : bank < 1024) (hp : p < 512) :
    (s.bankMoved bank p).physBank bank = bank / 256 * 264 + p ∧ (s.bankMoved bank p).fld (bhealth (bank / 256 * 264 + p)) 8 3 = 0 := by
  constructor
  · rw [State.physBank, State.bankMoved, State.fld_setFld_self _ _ (by decide)]
    exact congrArg _ (Nat.mod_eq_of_lt hp)
  · rw [State.bankMoved, State.fld_setFld_ne _ _ _ _ (bmap_lt_bhealth hb _).ne', State.fld_setFld_self _ _ (by decide)]
    rfl

/-- The bank that is replaced is RETIRED, unless it is the one that takes over. -/
theorem State.bankMoved_retires (hb : bank < 1024) (hne : s.physBank bank ≠ bank / 256 * 264 + p) :
    (s.bankMoved bank p).reg (bhealth (s.physBank bank)) = (s.retired (bhealth (s.physBank bank))).reg (bhealth (s.physBank bank)) := by
  have hother : bhealth (s.physBank bank) ≠ bhealth (bank / 256 * 264 + p) := by
    rw [bhealth_eq, bhealth_eq]
    omega
  rw [State.bankMoved, State.reg_setFld_ne _ _ _ _ (bmap_lt_bhealth hb _).ne', State.reg_setFld_ne _ _ _ _ hother]

variable (bank p) in
/-- What an accession of a bank leaves before its commands are answered and a boundary hold ends. -/
def State.bankAccounted : State :=
  let q : Pend := ⟨2, bank⟩
  let old := s.physBank bank
  let f := ((s.bankMoved bank p).setPend ((s.bankMoved bank p).spr.pend.filter fun x => x != q)).fresh
  f.1.lastAcc (unitEntry 2 q.id 1) (old / 264 * 512 + old % 264) (bank / 256 * 512 + p) (if s.inRecovery q then 2 else Config.freeNat f.2) 0

theorem State.bankAccounted_noted (bank p : Nat) : AccNoted (s.bankMoved bank p) (s.bankAccounted bank p) ⟨2, bank⟩ :=
  (State.setPend_accNoted ..).fresh.lastAcc ..

theorem State.accBank_eq (bank p : Nat) : s.accBank bank p =
    ((s.bankAccounted bank p).accAnswer ⟨2, bank⟩).accHoldEnd ((s.bankAccounted bank p).unitHolder ⟨2, bank⟩) := rfl

end

theorem State.bankAccession_acts {s : State} {bank p : Nat} (hpend : (⟨2, bank⟩ : Pend) ∈ s.spr.pend)
    (hmay : s.accMay ⟨2, bank⟩ = true) (hidle : s.fld (Reg.SPR_BHEALTH (bank / 256) p) 8 3 = 1) :
    s.bankAccession bank p = s.accBank bank p := (if_pos ⟨List.contains_iff_mem.mpr hpend, hmay⟩).trans (if_pos hidle)

theorem State.bankAccession_waits {s : State} {bank : Nat} (h : ¬ ((⟨2, bank⟩ : Pend) ∈ s.spr.pend ∧ s.accMay ⟨2, bank⟩ = true)) (p : Nat) :
    s.bankAccession bank p = s := if_neg fun ⟨hpend, hmay⟩ => h ⟨List.contains_iff_mem.mp hpend, hmay⟩

end Sys2Proof.Machine

namespace Sys2Proof.Proofs

open Sys2Proof Sys2Proof.Machine Sys2Proof.Statements

/-- An accession of a cluster that may act and whose copy is clean. -/
theorem cluster_accession {s : State} {tl c : Nat} (htl : tl < 256) :
    let t := s.accCluster tl c false
    t.physOf tl c = s.idleClu tl ∧ t.fld (Reg.SPR_CHEALTH tl (s.idleClu tl)) 8 3 = 0 ∧ t.idleClu tl = 0x1F ∧
      ⟨1, tl * 16 + c⟩ ∉ t.spr.pend ∧ t.vlt = s.vlt ∧
      (s.physOf tl c ≠ s.idleClu tl → t.fld (Reg.SPR_CHEALTH tl (s.physOf tl c)) 8 3 = 3 ∧
        t.fld (Reg.SPR_CHEALTH tl (s.physOf tl c)) 12 4 = (s.fld (Reg.SPR_CHEALTH tl (s.physOf tl c)) 12 4 + 1) % 16 ∧
        (s.physOf tl c < 17 → t.fld (Reg.SPR_TILE tl) (8 + s.physOf tl c) 1 = 1)) ∧
      ∀ n, (t.part n).img = (s.part n).img := by
  obtain ⟨hpend, hvlt, himg, hregs⟩ := (s.clusterAccounted_noted tl c false).ends
    ((s.clusterAccounted tl c false).unitHolder ⟨1, tl * 16 + c⟩)
  rw [← State.accCluster_clean] at hpend hvlt himg hregs
  obtain ⟨hphys, hactive, hidle, hgone⟩ := s.clusterMoved_fields (c := c) htl
  obtain ⟨hretired, hgen⟩ := s.retired_fields (Reg.SPR_CHEALTH tl (s.physOf tl c))
  have hmoved := s.clusterMoved_regsOnly tl c
  have hcell : ∀ k lo w, (s.accCluster tl c false).fld (Reg.SPR_CHEALTH tl k) lo w = (s.clusterMoved tl c).fld (Reg.SPR_CHEALTH tl k) lo w :=
    fun k => fld_of_reg (hregs _ (notMem_accRow (by simp only [Reg.SPR_CHEALTH, Reg.SPR_CMAP0]; omega)))
  have htile := fld_of_reg (hregs (Reg.SPR_TILE tl) (notMem_accRow (by simp only [Reg.SPR_TILE, Reg.SPR_CMAP0]; omega)))
  have hmap := fld_of_reg (hregs (cmapAt tl c).1 (notMem_accRow (by
    simp only [cmapAt, Reg.SPR_CMAP0, Reg.SPR_CMAP1, Reg.SPR_CMAP2]
    split_ifs <;> omega)))
  refine ⟨(hmap ..).trans hphys, (hcell ..).trans hactive, (htile ..).trans hidle, hpend, hvlt.trans hmoved.vlt, fun hne => ?_, fun n => ?_⟩
  · have hreg := fld_of_reg (s.clusterMoved_retires htl hne)
    exact ⟨((hcell ..).trans (hreg ..)).trans hretired, ((hcell ..).trans (hreg ..)).trans hgen, fun hold => (htile ..).trans (hgone hold)⟩
  · rw [himg, State.part, hmoved.parts, State.part]

/-- An accession of a bank that may act, onto an idle spare. -/
theorem bank_accession {s : State} {bank p : Nat} (hb : bank < 1024) (hp : p < 264) :
    let t := s.accBank bank p
    t.physBank bank = bank / 256 * 264 + p ∧ t.fld (Reg.SPR_BHEALTH (bank / 256) p) 8 3 = 0 ∧ ⟨2, bank⟩ ∉ t.spr.pend ∧ t.vlt = s.vlt ∧
      (s.physBank bank ≠ bank / 256 * 264 + p → t.fld (bhealth (s.physBank bank)) 8 3 = 3 ∧
        t.fld (bhealth (s.physBank bank)) 12 4 = (s.fld (bhealth (s.physBank bank)) 12 4 + 1) % 16) := by
  obtain ⟨hpend, hvlt, -, hregs⟩ := ((s.bankAccounted_noted bank p).curOnly (State.accAnswer_curOnly ..)).ends
    ((s.bankAccounted bank p).unitHolder ⟨2, bank⟩)
  rw [← State.accBank_eq] at hpend hvlt hregs
  obtain ⟨hphys, hactive⟩ := s.bankMoved_fields (bank := bank) (p := p) hb (by omega)
  obtain ⟨hretired, hgen⟩ := s.retired_fields (bhealth (s.physBank bank))
  have hspare : Reg.SPR_BHEALTH (bank / 256) p = bhealth (bank / 256 * 264 + p) := by
    rw [bhealth_eq]
    simp only [Reg.SPR_BHEALTH]
    omega
  have hcell : ∀ k lo w, (s.accBank bank p).fld (bhealth k) lo w = (s.bankMoved bank p).fld (bhealth k) lo w := fun k =>
    fld_of_reg (hregs _ (notMem_accRow (by rw [bhealth_eq]; simp only [Reg.SPR_BHEALTH, Reg.SPR_CMAP0]; omega)))
  have hmap := fld_of_reg (hregs (Reg.SPR_BMAP (bank / 256) (bank % 256)) (notMem_accRow (by simp only [Reg.SPR_BMAP, Reg.SPR_CMAP0]; omega)))
  refine ⟨?_, ?_, hpend, hvlt.trans (s.bankMoved_regsOnly bank p).vlt, fun hne => ?_⟩
  · rw [State.physBank, hmap, ← State.physBank, hphys]
  · rw [hspare, hcell, hactive]
  · have hreg := fld_of_reg (s.bankMoved_retires hb hne)
    exact ⟨((hcell ..).trans (hreg ..)).trans hretired, ((hcell ..).trans (hreg ..)).trans hgen⟩

/-- Settles O39: a pending accession that may act is the cluster's or the bank's, clean or with a copy in error, and any other changes nothing. -/
theorem accessionOfAUnit : Obligations.AccessionOfAUnit := by
  unfold Obligations.AccessionOfAUnit
  refine fun s => ⟨fun tl c parity hd => ⟨fun hno => ?_, fun hpend hmay hidle => ⟨⟨_, exec_clusterAccession hd c false, ?_⟩,
    fun n hholder hrec => ⟨_, exec_clusterAccession hd c true, ?_⟩⟩⟩, fun b sp hb => ⟨fun hno => ?_, fun hpend hmay hidle => ⟨_,
    exec_bankSpareRemap hb sp, ?_⟩⟩⟩
  · rw [exec_clusterAccession hd, State.clusterAccession_waits hno]
  · rw [State.clusterAccession_acts hpend hmay hidle]
    exact cluster_accession tl.isLt
  · rw [State.clusterAccession_acts hpend hmay hidle]
    exact s.accCluster_fault hholder hrec
  · rw [exec_bankSpareRemap hb, State.bankAccession_waits hno]
  · rw [State.bankAccession_acts hpend hmay hidle]
    exact bank_accession b.isLt (by omega)

end Sys2Proof.Proofs
end

section
/-!
SUPPORT. Inline commands of a privileged host mailbox (R447, R448, R452, R463): which row lets one act, that its answer is posted at once, and that
one that waits stands begun.
-/
namespace Sys2Proof.Machine

open Sys2Proof Sys2Proof.Statements

/-- The payload bits that a layout defines (R14). -/
def layoutMask (used : List (Nat × Nat × Nat)) : Nat := used.foldl (fun a u => a ||| (u.2.2 % 2 ^ (8 * u.2.1) * 2 ^ (8 * u.1))) 0

/-- A payload whose bits the layout defines carries no reserved bit (R14). -/
theorem badPayload_of_land {pay : Nat} {used : List (Nat × Nat × Nat)} (h : pay &&& layoutMask used = pay) : badPayload pay used = none := by
  have hbyte : ∀ i, (pay / 2 ^ (8 * i) % 256) &&& (255 - layoutMask used / 2 ^ (8 * i) % 256) = 0 := by
    intro i
    refine Nat.eq_of_testBit_eq fun j => ?_
    have hj := congrArg (Nat.testBit · (8 * i + j)) h
    have hlt : layoutMask used / 2 ^ (8 * i) % 2 ^ 8 < 2 ^ 8 := Nat.mod_lt _ (by decide)
    rw [show 255 - layoutMask used / 2 ^ (8 * i) % 256 = 2 ^ 8 - (layoutMask used / 2 ^ (8 * i) % 2 ^ 8 + 1) by omega,
      show 256 = 2 ^ 8 from rfl, Nat.testBit_and, Nat.testBit_two_pow_sub_succ hlt]
    simp only [Nat.testBit_and, Nat.testBit_mod_two_pow, Nat.testBit_div_two_pow, Nat.zero_testBit] at hj ⊢
    rw [Nat.add_comm j]
    revert hj
    cases pay.testBit (8 * i + j) <;> cases (layoutMask used).testBit (8 * i + j) <;> simp
  have hmask : used.foldl (fun a u => a ||| (u.2.2 % 2 ^ (8 * u.2.1) * 2 ^ (8 * u.1))) 0 = layoutMask used := rfl
  simp [badPayload, hmask, hbyte]

/-- The layout defines the low bits and the payload has no other. -/
theorem land_layoutMask_of_lt {pay k : Nat} {used : List (Nat × Nat × Nat)} (hmask : layoutMask used = 2 ^ k - 1) (hpay : pay < 2 ^ k) :
    pay &&& layoutMask used = pay := by
  rw [hmask, Nat.and_two_pow_sub_one_of_lt_two_pow hpay]

/-- The bits of a payload are defined when those of its low and of its high part are. -/
theorem land_of_parts {a b k mask : Nat} (ha : a < 2 ^ k) (hlow : a &&& mask % 2 ^ k = a) (hhigh : b &&& mask / 2 ^ k = b) :
    (a + b * 2 ^ k) &&& mask = a + b * 2 ^ k := by
  have hmod : (a + b * 2 ^ k) % 2 ^ k = a := by rw [Nat.add_mul_mod_self_right, Nat.mod_eq_of_lt ha]
  have hdiv : (a + b * 2 ^ k) / 2 ^ k = b := by
    rw [Nat.add_mul_div_right _ _ (by positivity), Nat.div_eq_of_lt ha, Nat.zero_add]
  have h := Nat.mod_add_div ((a + b * 2 ^ k) &&& mask) (2 ^ k)
  rw [Nat.and_mod_two_pow, Nat.and_div_two_pow, hmod, hdiv, hlow, hhigh] at h
  rw [← h, Nat.mul_comm b]

section
variable {s t : State} {m : Fin 36} {op p : Nat} {c : Cmd} {rest : List Cmd}

theorem op_of_turn (h : Turn s m op c rest) : c.op = op := by
  have hdue := h.1
  unfold State.due at hdue
  split at hdue
  · unfold State.safetyCmd at hdue
    split at hdue
    · cases hdue
    · have hf := List.find?_some hdue
      simp only [Bool.and_eq_true, beq_iff_eq] at hf
      exact hf.2
  · cases hn : s.nextCmd with
    | none => simp [hn] at hdue
    | some x =>
      simp only [hn, Option.ite_none_right_eq_some, Option.some.injEq] at hdue
      obtain ⟨⟨-, hop⟩, rfl⟩ := hdue
      exact hop

theorem pay_of_inline (h : Inline s m op c rest p) (off len : Nat) : c.pay off len = p / 2 ^ (8 * off) % 2 ^ (8 * len) := by
  obtain ⟨-, -, -, -, -, rfl⟩ := h
  rfl

/-- Such a command of a privileged form acts when its payload has no reserved bit (R447, R463). -/
theorem cmdRow_of_inline {f : Form} (h : Inline s m f.op c rest p) (hp : f.p = true) (hpay : badPayload p f.used = none) {sel : Cmd → Bool}
    (hsel : sel c = true) (named : Fin 8 → Cmd → Bool) (act : State → Cmd → State) : s.cmdRow m f sel named act = act s c := by
  obtain ⟨⟨hdue, -, -, -⟩, hm, hdoc, hhead, hdesc, rfl⟩ := h
  have htenant : tenantOf m = none := dif_neg (by omega)
  have hallow : s.notAllowed m f false = none := by
    have h1 : ¬ (m.val = 23 ∨ m.val = 35) := by omega
    simp [State.notAllowed, permit, h1, hm, hdoc, hp]
  exact State.cmdRow_acts hdue hsel (by simp [State.refusal, hhead, hdesc, htenant, hallow, hpay])

/-- The partition that a command with a partition in byte 0 names (R452). -/
theorem part_of_inline (h : Inline s m op c rest p) (hop : opNamesPart op = true) {n : Fin 8} (hn : p % 256 = n.val) : c.part = some n.val := by
  have hpay : c.pay 0 1 = n.val := by rw [pay_of_inline h]; simpa using hn
  obtain ⟨ht, -, -, -, hdesc, -⟩ := h
  rw [Cmd.part, op_of_turn ht, hop, hdesc, hpay]
  simp

theorem part_of_inline_none (h : Inline s m op c rest p) (hn : opNamesPart op = false ∨ 8 ≤ p % 256) : c.part = none := by
  have hpay : c.pay 0 1 = p % 256 := by rw [pay_of_inline h]; simp
  rw [Cmd.part, op_of_turn h.1, hpay]
  rcases hn with hn | hn
  · simp [hn]
  · simp [Nat.not_lt.mpr hn]

/-- The command is answered at once, in any state that has the mailbox as it was. -/
theorem answered_of_turn (h : Turn s m op c rest) (ht : t.mbx m = s.mbx m) (r : Rsp) : Answered s (t.reply m c r) m c rest r := by
  obtain ⟨-, hq, hlt, hb⟩ := h
  have ha := State.reply_answered (s := t) (ht ▸ hq) hlt (ht ▸ hb) r
  unfold Answered at *
  rw [ha, ht]

theorem queue_of_turn (h : Turn s m op c rest) : (s.mbx m).queue.filter (fun q => q.stamp != c.stamp) = rest := by
  obtain ⟨-, hq, hlt, -⟩ := h
  rw [hq, List.filter_cons_of_neg (by simp), List.filter_eq_self]
  intro q hq
  simpa using (hlt q hq).ne'

/-- The command waits, in any state that has the mailbox as it was. -/
theorem begin_waits (h : Turn s m op c rest) (ht : t.mbx m = s.mbx m) (part : Option Nat) (frees : Bool) (w : Wait) :
    Waits s (t.begin m c part frees w) m c rest part frees w := by
  have hb : (s.mbx m).begun = [] := h.2.2.2
  simp [Waits, State.begin, ht, queue_of_turn h, hb]

theorem wait_waits (h : Turn s m op c rest) (ht : t.mbx m = s.mbx m) (frees : Bool) (w : Wait) :
    Waits s (t.wait m c frees w) m c rest c.part frees w := begin_waits h ht ..

theorem waits_of_mbx {u : State} {part : Option Nat} {frees : Bool} {w : Wait} (h : Waits s t m c rest part frees w) (hu : u.mbx m = t.mbx m) :
    Waits s u m c rest part frees w := hu.trans h

theorem State.begin_curOnly (s : State) (m : Fin 36) (c : Cmd) (part : Option Nat) (frees : Bool) (w : Wait) :
    CurOnly s (s.begin m c part frees w) := s.setMbx_curOnly m _

theorem State.wait_curOnly (s : State) (m : Fin 36) (c : Cmd) (frees : Bool) (w : Wait) : CurOnly s (s.wait m c frees w) :=
  s.begin_curOnly ..

/-- An answer at once that changes nothing else. -/
theorem reply_now (h : Turn s m op c rest) (r : Rsp) : CurOnly s (s.reply m c r) ∧ Answered s (s.reply m c r) m c rest r :=
  ⟨s.reply_curOnly m c r, answered_of_turn h rfl r⟩

/-- The partition state block does not depend on the Curator (R467). -/
theorem rspBlock_of_curOnly (h : CurOnly s t) (n : Fin 8) (st : Status) (k : Nat) : t.rspBlock n st k = s.rspBlock n st k := by
  rw [h]
  rfl

theorem answered_block_of_turn (h : Turn s m op c rest) (ht : t.mbx m = s.mbx m) (n : Fin 8) (st : Status) (k : Nat) :
    Answered s (t.replyBlock m c n st k) m c rest ((t.replyBlock m c n st k).rspBlock n st k) := by
  rw [State.replyBlock, rspBlock_of_curOnly (t.reply_curOnly m c _)]
  exact answered_of_turn h ht _

end

end Sys2Proof.Machine
end

section
/-!
SUPPORT. LOAN (R188 to R190, R474): one that names the owner that the bank has is answered at once, any other begins the handover, and a bank that
leaves HDMA leaves the pool (R392).
-/
namespace Sys2Proof.Machine

open Sys2Proof Sys2Proof.Statements

section
variable {s : State} {m : Fin 36} {c : Cmd} {rest : List Cmd} {p : Nat}

theorem badPayload_of_bits {pay : Nat} (k : Nat) {used : List (Nat × Nat × Nat)} (hmask : layoutMask used = 2 ^ k - 1) (hpay : pay < 2 ^ k) :
    badPayload pay used = none := badPayload_of_land (land_layoutMask_of_lt hmask hpay)

/-- What an inline command's row does when nothing refuses it. -/
theorem exec_of_cmdRow {i : Instr} {f : Form} {sel : Cmd → Bool} {named : Fin 8 → Cmd → Bool} {act : State → Cmd → State}
    (he : exec i s = .next (s.cmdRow m f sel named act)) (h : Inline s m f.op c rest p) (hp : f.p = true)
    (hpay : badPayload p f.used = none) (hsel : sel c = true) : exec i s = .next (act s c) :=
  he.trans (congrArg _ (cmdRow_of_inline h hp hpay hsel named act))

theorem RegsOnly.mbx {t : State} (h : RegsOnly s t) (k : Fin 36) : t.mbx k = s.mbx k := by
  obtain ⟨_, rfl⟩ := h
  rfl

theorem State.hasBank_lt {bank : Nat} (h : s.hasBank bank = true) : bank < 1024 := by
  unfold State.hasBank State.nDies at h
  split at h <;> simp only [decide_eq_true_eq] at h <;> omega

end

theorem mem_insNat_self (a : Nat) : ∀ l : List Nat, a ∈ insNat a l
  | [] => List.mem_singleton_self a
  | b :: r => by
    unfold insNat
    split
    · exact List.mem_cons_self
    · split
      · simp [*]
      · exact List.mem_cons_of_mem b (mem_insNat_self a r)

theorem State.mem_scrubNoted (s : State) (bank : Nat) (scrub : Bool) : bank ∈ (s.scrubNoted bank scrub).vlt.scrub ↔ scrub = true := by
  cases scrub <;> simp [State.scrubNoted, mem_insNat_self]

theorem loanReg_ne_pool {bank : Nat} (h : bank < 1024) : loanReg bank ≠ Reg.MBX_POOL := by
  simp only [loanReg, Reg.VLT_LOAN, Reg.MBX_POOL]
  omega

section
variable (s : State) (bank owner : Nat)

/-- The pool without a bank. -/
def State.unpooled : State := { s with cur := { s.cur with pool := s.cur.pool.filter fun b => b != bank } }

/-- The 16 buffers of a bank leave the counts of the pool. -/
def State.poolCut : State :=
  (s.setFld Reg.MBX_POOL 0 16 (s.fld Reg.MBX_POOL 0 16 - 16)).setFld Reg.MBX_POOL 16 16 (s.fld Reg.MBX_POOL 16 16 - 16)

theorem State.poolCut_regsOnly : RegsOnly s s.poolCut := (RegsOnly.refl s).setFld.setFld

theorem State.poolLeave_eq : s.poolLeave bank owner = if s.cur.pool.contains bank ∧ owner ≠ 8 then (s.unpooled bank).poolCut else s := rfl

theorem State.poolLeave_leaves : (s.poolLeave bank owner).parts = s.parts ∧ RegsBut s (s.poolLeave bank owner) [Reg.MBX_POOL] ∧
    ∀ k, (s.poolLeave bank owner).mbx k = s.mbx k := by
  rw [State.poolLeave_eq]
  split
  · have hregs := (s.unpooled bank).poolCut_regsOnly
    exact ⟨hregs.parts, regsBut_setFld (regsBut_setFld (fun _ _ => rfl) (List.mem_singleton_self _)) (List.mem_singleton_self _),
      fun k => hregs.mbx k⟩
  · exact ⟨rfl, regsBut_refl, fun _ => rfl⟩

/-- A bank whose new owner is not HDMA is not in the pool (R392). -/
theorem State.poolLeave_pool (ho : owner ≠ 8) : bank ∉ (s.poolLeave bank owner).cur.pool := by
  rw [State.poolLeave_eq]
  split
  · simp [State.unpooled, State.poolCut, State.setFld_eq]
  · next h => simpa [ho] using h

end

section
variable {s : State} {m : Fin 36} {c : Cmd} {rest : List Cmd} {p bank owner : Nat} {scrub : Bool}

/-- A LOAN that the Curator does not refuse, with its bank LENT. -/
theorem State.loanCmd_eq (hbank : s.hasBank bank = true) (ho : owner < 14) (hkept : s.loanKept bank owner = false)
    (h : Inline s m 0x0301 c rest (bank + owner * 2 ^ 16 + b2n scrub * 2 ^ 24)) :
    s.loanCmd m c = if owner = s.loanOwner bank ∧ scrub = false then
        (s.loanWrite bank owner scrub).reply m c ⟨.ok, 0, 4, ((s.loanWrite bank owner scrub).reg (loanReg bank)).toNat⟩
      else ((s.wait m c false (.loan bank)).poolLeave bank owner).loanWrite bank owner scrub := by
  have hlt := State.hasBank_lt hbank
  have h0 : c.pay 0 2 = bank := by
    rw [pay_of_inline h]
    cases scrub <;> simp only [b2n] <;> omega
  have h1 : c.pay 2 1 = owner := by
    rw [pay_of_inline h]
    cases scrub <;> simp only [b2n] <;> omega
  have h2 : (c.pay 3 1 == 1) = scrub := by
    rw [pay_of_inline h]
    cases scrub <;> simp only [b2n] <;> simp <;> omega
  unfold State.loanCmd
  simp only [h0, h1, h2]
  rw [if_neg (by simp [hbank]), if_neg (by omega), if_neg (by simp [hkept])]

theorem State.loanWrite_stays (hlent : s.loanState bank = 0) (ho : s.loanOwner bank < 14) :
    s.loanWrite bank (s.loanOwner bank) false = s.setFld (loanReg bank) 11 1 0 := by
  refine (if_neg ?_).trans (if_pos ⟨rfl, rfl⟩)
  omega

theorem loanCmd_stays (ho : s.loanOwner bank < 14) (hlent : s.loanState bank = 0)
    (h : Turn s m 0x0301 c rest) :
    let u := s.loanWrite bank (s.loanOwner bank) false
    let t := u.reply m c ⟨.ok, 0, 4, (u.reg (loanReg bank)).toNat⟩
    t.parts = s.parts ∧ t.fld (loanReg bank) 0 4 = s.loanOwner bank ∧ t.fld (loanReg bank) 11 1 = 0 ∧
      Answered s t m c rest ⟨.ok, 0, 4, (t.reg (loanReg bank)).toNat⟩ ∧ RegsBut s t [loanReg bank] := by
  intro u t
  have hu : u = s.setFld (loanReg bank) 11 1 0 := State.loanWrite_stays hlent ho
  have hcur : CurOnly u t := u.reply_curOnly m c _
  have hregs : RegsOnly s u := hu ▸ (RegsOnly.refl s).setFld
  refine ⟨(curOnly_parts hcur).trans hregs.parts, ?_, ?_, ?_, regsBut_curOnly (hu ▸ regsBut_setFld_self s) hcur⟩
  · rw [curOnly_fld hcur, hu, State.fld_setFld_of_disjoint _ 0 (by decide) (by decide), State.loanOwner_eq]
  · rw [curOnly_fld hcur, hu, State.fld_setFld_self _ 0 (by decide)]
    rfl
  · rw [curOnly_reg hcur]
    exact answered_of_turn h (hregs.mbx m) _

theorem loanCmd_moves (hbank : s.hasBank bank = true) (ho : owner < 14) (hlent : s.loanState bank = 0)
    (hnew : owner ≠ s.loanOwner bank ∨ scrub = true) (h : Inline s m 0x0301 c rest (bank + owner * 2 ^ 16 + b2n scrub * 2 ^ 24)) :
    let t := ((s.wait m c false (.loan bank)).poolLeave bank owner).loanWrite bank owner scrub
    t.parts = s.parts ∧ t.fld (loanReg bank) 0 4 = owner ∧ t.fld (loanReg bank) 11 1 = 0 ∧ Waits s t m c rest none false (.loan bank) ∧
      t.loanState bank = 1 ∧ t.fld (loanReg bank) 12 4 = s.loanOwner bank ∧ (bank ∈ t.vlt.scrub ↔ scrub = true) ∧
      (owner ≠ 8 → bank ∉ t.cur.pool) := by
  have hcur := s.wait_curOnly m c false (.loan bank)
  have hpart : c.part = none := part_of_inline_none h (.inl rfl)
  have hwaits := hpart ▸ wait_waits h.1 rfl false (.loan bank)
  have hpool := State.poolLeave_pool (s.wait m c false (.loan bank)) bank owner
  obtain ⟨hparts, hregs, hmbx⟩ := State.poolLeave_leaves (s.wait m c false (.loan bank)) bank owner
  generalize hu : (s.wait m c false (.loan bank)).poolLeave bank owner = u at hpool hparts hregs hmbx
  have hreg : u.reg (loanReg bank) = s.reg (loanReg bank) :=
    (hregs _ (by simpa using loanReg_ne_pool (State.hasBank_lt hbank))).trans (curOnly_reg hcur _)
  have hst : u.loanState bank = s.loanState bank := fld_of_reg hreg 8 2
  have hown : u.loanOwner bank = s.loanOwner bank := fld_of_reg hreg 0 4
  rw [State.loanWrite_moves (hst.trans hlent) ho (hown ▸ hnew)]
  obtain ⟨hf0, hf8, -, hf11, hf12⟩ := u.loanMoved_fields bank ho scrub
  obtain ⟨-, hframe, -⟩ := u.scrubNoted_loanMoved_frame bank owner scrub
  have hmem := State.mem_scrubNoted (u.loanMoved bank owner) bank scrub
  generalize (u.loanMoved bank owner).scrubNoted bank scrub = t at hf0 hf8 hf11 hf12 hframe hmem
  refine ⟨?_, hf0, hf11, waits_of_mbx hwaits ?_, hf8, hf12.trans hown, hmem, ?_⟩
  · rw [hframe]
    exact hparts.trans (curOnly_parts hcur)
  · rw [hframe]
    exact hmbx m
  · rw [hframe]
    exact hpool

theorem exec_loan_of_inline (h : Inline s m 0x0301 c rest p) (hp : p < 2 ^ 25) : exec (.loan m) s = .next (s.loanCmd m c) :=
  exec_of_cmdRow (i := .loan m) rfl h rfl (badPayload_of_bits 25 (by decide) hp) rfl

end

end Sys2Proof.Machine
end

section
/-!
SUPPORT. DEPOT_GRANT and DEPOT_RETURN (R219, R220, R474): what a granted segment's entry holds, that other segments keep theirs, and that with no
other command waiting the grant is made at once unless a transaction is outstanding.
-/
namespace Sys2Proof.Machine

open Sys2Proof Sys2Proof.Statements

section
variable {s t : State} {m : Fin 36} {op : Nat} {c : Cmd} {rest : List Cmd}

/-- A command that waits is answered once its result is known: it comes before every queued one (R449, R452). -/
theorem answer_of_waits (h : Turn s m op c rest) {part : Option Nat} {frees : Bool} {w : Wait}
    (ht : Waits s t m c rest part frees w) (r : Rsp) : Answered s (t.answer m c.stamp r) m c rest r := by
  obtain ⟨-, -, hlt, hb⟩ := h
  unfold Waits at ht
  unfold Answered State.answer
  rw [State.flushMbx_mbx_of_known (b := ⟨c, part, frees, false, .result, some r⟩) (r := r) (by simp [ht]) rfl rfl (by simpa [ht] using hlt)]
  simp [ht, hb]

/-- A list in which one place alone gives anything. -/
theorem flatMap_of_single {α β : Type} {l : List α} (hl : l.Nodup) {a : α} (ha : a ∈ l) {f : α → List β}
    (hf : ∀ x ∈ l, x ≠ a → f x = []) :
    l.flatMap f = f a := by
  obtain ⟨l₁, l₂, rfl⟩ := List.append_of_mem ha
  have hnd := List.nodup_middle.mp hl
  have hne : ∀ x ∈ l₁ ++ l₂, f x = [] := by
    intro x hx
    refine hf x (by simp at hx ⊢; tauto) ?_
    rintro rfl
    exact (List.nodup_cons.mp hnd).1 hx
  have h₁ : l₁.flatMap f = [] := List.flatMap_eq_nil_iff.mpr fun x hx => hne x (by simp [hx])
  have h₂ : l₂.flatMap f = [] := List.flatMap_eq_nil_iff.mpr fun x hx => hne x (by simp [hx])
  simp [h₁, h₂]

/-- Where no command waits, one that begins to wait is the only one. -/
theorem waiting_wait (hnone : s.waiting = []) (h : Turn s m op c rest) (frees : Bool) (w : Wait) :
    (s.wait m c frees w).waiting = [(m, ⟨c, c.part, frees, false, w, none⟩)] := by
  have hw : (s.wait m c frees w).mbx m = _ := wait_waits h rfl frees w
  have hne : ∀ k, k ≠ m → (s.wait m c frees w).mbx k = s.mbx k := fun k hk => vget_vset_ne _ _ hk
  have hs : ∀ k, ((s.mbx k).begun.filter (·.result.isNone)).map (fun b => (k, b)) = [] := fun k =>
    List.flatMap_eq_nil_iff.mp hnone k (List.mem_finRange k)
  refine (flatMap_of_single (List.nodup_finRange 36) (List.mem_finRange m) fun k _ hk => ?_).trans ?_
  · rw [hne k hk]
    exact hs k
  · rw [hw]
    rfl

end

section
variable (s : State) (owner : Nat) (ro : Bool)

/-- The map entry of a segment is a grant to this owner (R219). -/
def State.Granted (g : Nat) : Prop :=
  bitsAt (s.depotEntry g) 0 1 = 1 ∧ bitsAt (s.depotEntry g) 1 4 = owner ∧ bitsAt (s.depotEntry g) 5 1 = b2n ro

theorem State.depotEntry_setDepotEntry (g h : Nat) (v : DWord) :
    (s.setDepotEntry g v).depotEntry h = if h = g then v else s.depotEntry h := mget_mset ..

theorem State.grantSeg_granted {g : Nat} (ho : owner < 14) (hg : (s.rangeOfSeg g).isSome = true) : (s.grantSeg owner ro g).Granted owner ro g := by
  obtain ⟨r, hr⟩ := Option.isSome_iff_exists.mp hg
  unfold State.Granted State.grantSeg
  rw [hr]
  simp only [State.depotEntry_setDepotEntry, if_pos, bitsAt, BitVec.toNat_ofNat]
  have hro : b2n ro < 2 := by cases ro <;> decide
  refine ⟨?_, ?_, ?_⟩ <;> omega

theorem State.depotEntry_grantSeg_ne {g h : Nat} (hne : h ≠ g) : (s.grantSeg owner ro g).depotEntry h = s.depotEntry h := by
  unfold State.grantSeg
  split
  · rw [State.depotEntry_setDepotEntry, if_neg hne]
  · rfl

/-- Of the state only the depot has changed. -/
def DepotOnly (s t : State) : Prop := t = { s with dep := t.dep }

theorem DepotOnly.trans {s t u : State} (h : DepotOnly s t) (hu : DepotOnly t u) : DepotOnly s u := by
  unfold DepotOnly at h
  rw [DepotOnly, hu, h]

theorem DepotOnly.parts {s t : State} (h : DepotOnly s t) : t.parts = s.parts := by
  rw [DepotOnly] at h
  rw [h]

theorem State.grantSeg_depotOnly (g : Nat) : DepotOnly s (s.grantSeg owner ro g) := by
  unfold State.grantSeg
  split <;> rfl

/-- The grants of a list of segments from `first` on. -/
def State.grantSegs (first : Nat) (l : List Nat) : State := l.foldl (fun u k => u.grantSeg owner ro (first + k)) s

end

section
variable {s : State} {owner first : Nat} {ro : Bool}

theorem State.grantSegs_depotOnly : ∀ (l : List Nat) (s : State), DepotOnly s (s.grantSegs owner ro first l)
  | [], _ => rfl
  | k :: r, s => (s.grantSeg_depotOnly owner ro (first + k)).trans (State.grantSegs_depotOnly r _)

theorem State.depotEntry_grantSegs {g : Nat} : ∀ (l : List Nat) (s : State), (∀ k ∈ l, g ≠ first + k) →
    (s.grantSegs owner ro first l).depotEntry g = s.depotEntry g
  | [], _, _ => rfl
  | k :: r, s, h => (State.depotEntry_grantSegs r _ fun j hj => h j (List.mem_cons_of_mem k hj)).trans
      (s.depotEntry_grantSeg_ne owner ro (h k List.mem_cons_self))

/-- A segment of the list is granted, and one that already was stays so. -/
theorem State.grantSegs_granted {g : Nat} (ho : owner < 14) : ∀ (l : List Nat) (s : State), (s.rangeOfSeg g).isSome = true →
    s.Granted owner ro g ∨ (∃ k ∈ l, g = first + k) → (s.grantSegs owner ro first l).Granted owner ro g
  | [], _, _, h => h.resolve_right (by simp)
  | k :: r, s, hg, h => by
    have hrange : ((s.grantSeg owner ro (first + k)).rangeOfSeg g).isSome = true := by
      rw [State.rangeOfSeg, s.grantSeg_depotOnly owner ro (first + k)]
      exact hg
    refine State.grantSegs_granted ho r _ hrange ?_
    by_cases hk : g = first + k
    · subst hk
      exact .inl (s.grantSeg_granted owner ro ho hg)
    · refine h.imp (fun hs => ?_) ?_
      · unfold State.Granted
        rw [s.depotEntry_grantSeg_ne owner ro hk]
        exact hs
      · rintro ⟨j, hj, rfl⟩
        rcases List.mem_cons.mp hj with rfl | hj
        · exact absurd rfl hk
        · exact ⟨j, hj, rfl⟩

variable {m : Fin 36} {op count : Nat} {c : Cmd} {rest : List Cmd}

/-- With no other command waiting, a grant waits for a transaction outstanding, or acts at once (R220, R474). -/
theorem depotMapDue_wait (hnone : s.waiting = []) (h : Turn s m op c rest) (hkept : ∀ k < count, s.segKept (first + k) = false) :
    let u := s.wait m c false (.depotMap first count owner ro)
    u.depotMapDue = if s.segBusy first count = true then u
      else (u.grantSegs owner ro first (List.range count)).answer m c.stamp (rspEmpty .ok 0) := by
  intro u
  have hfree : (List.range count).any (fun k => u.segKept (first + k)) = false := by
    simp only [List.any_eq_false, List.mem_range]
    intro k hk
    rw [show u.segKept (first + k) = s.segKept (first + k) from rfl, hkept k hk]
    exact Bool.false_ne_true
  unfold State.depotMapDue
  rw [waiting_wait hnone h]
  simp only [List.foldl_cons, List.foldl_nil]
  change (if s.segBusy first count = true then u else _) = _
  exact congrArg (ite (s.segBusy first count = true) u) (if_neg (hfree ▸ Bool.false_ne_true))

/-- A map command past its refusals (R220). -/
theorem State.mapCmd_eq (hlen : first + count ≤ 65536) (ho : owner < 14) (hfirst : c.pay 0 2 = first)
    (hlast : c.pay 2 2 + 1 = count) (hsegs : ∀ k < count, (s.rangeOfSeg (first + k)).isSome = true ∧ s.segKept (first + k) = false) :
    s.mapCmd m c owner ro = (s.wait m c false (.depotMap first count owner ro)).depotMapDue := by
  unfold State.mapCmd
  simp only [hfirst, hlast]
  rw [if_neg, if_neg (by omega), if_neg]
  · simpa using fun k hk => (hsegs k hk).2
  · simp only [List.any_map, List.any_eq_true, List.mem_range, Function.comp_apply, Bool.or_eq_true, decide_eq_true_eq, not_exists]
    rintro k ⟨hk, hbad⟩
    have hsome := (hsegs k hk).1
    rcases hbad with hbad | hbad
    · omega
    · simp [Option.isNone_iff_eq_none.mp hbad] at hsome

theorem curOnly_depotEntry {s t : State} (h : CurOnly s t) (g : Nat) : t.depotEntry g = s.depotEntry g := by
  rw [h]
  rfl

/-- What a grant or a return of segments of which no partition keeps one leaves (R220). -/
theorem depotMapDue_gives (hnone : s.waiting = []) (h : Turn s m op c rest) (hpart : c.part = none) (ho : owner < 14)
    (hsegs : ∀ k < count, (s.rangeOfSeg (first + k)).isSome = true ∧ s.segKept (first + k) = false) :
    let t := (s.wait m c false (.depotMap first count owner ro)).depotMapDue
    (s.segBusy first count = true → CurOnly s t ∧ Waits s t m c rest none false (.depotMap first count owner ro)) ∧
      (s.segBusy first count = false → Answered s t m c rest (rspEmpty .ok 0) ∧ t.parts = s.parts ∧
        (∀ k < count, t.Granted owner ro (first + k)) ∧ ∀ g, g < first ∨ first + count ≤ g → t.depotEntry g = s.depotEntry g) := by
  have hwait : CurOnly s (s.wait m c false (.depotMap first count owner ro)) := s.wait_curOnly ..
  have hwaits := hpart ▸ wait_waits h rfl false (.depotMap first count owner ro)
  have hdue := depotMapDue_wait (owner := owner) (ro := ro) hnone h fun k hk => (hsegs k hk).2
  simp only at hdue ⊢
  rw [hdue]
  generalize s.wait m c false (.depotMap first count owner ro) = u at hwait hwaits ⊢
  refine ⟨fun hbusy => ?_, fun hfree => ?_⟩
  · rw [if_pos hbusy]
    exact ⟨hwait, hwaits⟩
  · rw [if_neg (by simp [hfree])]
    have hdep := State.grantSegs_depotOnly (owner := owner) (first := first) (ro := ro) (List.range count) u
    have hcur := State.answer_curOnly (u.grantSegs owner ro first (List.range count)) m c.stamp (rspEmpty .ok 0)
    refine ⟨answer_of_waits h (waits_of_mbx hwaits (by rw [hdep]; rfl)) _, ?_, fun k hk => ?_, fun g hg => ?_⟩
    · exact (curOnly_parts hcur).trans (hdep.parts.trans (curOnly_parts hwait))
    · unfold State.Granted
      rw [curOnly_depotEntry hcur]
      refine State.grantSegs_granted ho _ u ?_ (.inr ⟨k, List.mem_range.mpr hk, rfl⟩)
      rw [hwait]
      exact (hsegs k hk).1
    · rw [curOnly_depotEntry hcur, State.depotEntry_grantSegs _ u fun k hk => ?_, curOnly_depotEntry hwait]
      have := List.mem_range.mp hk
      omega

theorem exec_depotGrant_of_inline {p : Nat} (h : Inline s m 0x0302 c rest p) (hp : p < 2 ^ 41) :
    exec (.depotGrant m) s = .next (s.mapCmd m c (c.pay 4 1) (c.pay 5 1 == 1)) :=
  exec_of_cmdRow (i := .depotGrant m) (act := fun s c => s.mapCmd m c (c.pay 4 1) (c.pay 5 1 == 1)) rfl h rfl
    (badPayload_of_bits 41 (by decide) hp) rfl

theorem exec_depotReturn_of_inline {p : Nat} (h : Inline s m 0x0303 c rest p) (hp : p < 2 ^ 32) :
    exec (.depotReturn m) s = .next (s.mapCmd m c 13 false) :=
  exec_of_cmdRow (i := .depotReturn m) (act := fun s c => s.mapCmd m c 13 false) rfl h rfl (badPayload_of_bits 32 (by decide) hp) rfl

end

end Sys2Proof.Machine
end

section
/-!
SUPPORT. Buffers of the pool (R458, R459, R474): what taking a list of buffers leaves and zeroes, and what BUF_ALLOC and BUF_FREE do past their
refusals.
-/
namespace Sys2Proof.Machine

open Sys2Proof Sys2Proof.Statements

section
variable (s : State) (owner id : Nat)

/-- The words of a buffer are all 0. -/
def State.BufZero : Prop := ∀ w < 512, s.vword (id / 16) (id % 16 * 512 + w) = 0

/-- Some words of a buffer are set to 0. -/
def State.zeroWords (l : List Nat) : State := l.foldl (fun (t : State) i => t.setVword (id / 16) (id % 16 * 512 + i) 0) s

/-- A buffer is another mailbox's (R458). -/
def State.noteBuf : State :=
  { s with cur := { s.cur with bufs := s.cur.bufs ++ [(id, owner)],
                               bufPrev := (id, owner) :: s.cur.bufPrev.filter fun (x : Nat × Nat) => x.1 != id } }

theorem State.takeBuf_eq : s.takeBuf owner id =
    (if s.cur.bufPrev.any fun (x : Nat × Nat) => x.1 == id && x.2 == owner then s else s.zeroWords id (List.range 512)).noteBuf owner id := rfl

/-- Of the state only the vault has changed. -/
def VltOnly (s t : State) : Prop := t = { s with vlt := t.vlt }

theorem VltOnly.trans {s t u : State} (h : VltOnly s t) (hu : VltOnly t u) : VltOnly s u := by
  unfold VltOnly at h
  rw [VltOnly, hu, h]

end

theorem State.zeroWords_vltOnly (id : Nat) : ∀ (l : List Nat) (s : State), VltOnly s (s.zeroWords id l)
  | [], _ => rfl
  | i :: r, s => VltOnly.trans (t := s.setVword (id / 16) (id % 16 * 512 + i) 0) rfl (State.zeroWords_vltOnly id r _)

/-- The words listed hold 0 afterwards, and so does every word that held 0. -/
theorem State.zeroWords_zero (id : Nat) {b w : Nat} (hw : w < 8192) : ∀ (l : List Nat) (s : State), (∀ i ∈ l, i < 512) →
    s.vword b w = 0 ∨ (b = id / 16 ∧ ∃ i ∈ l, w = id % 16 * 512 + i) → (s.zeroWords id l).vword b w = 0
  | [], _, _, h => h.resolve_right (by simp)
  | i :: r, s, hl, h => by
    have hi := hl i List.mem_cons_self
    refine State.zeroWords_zero id hw r (s.setVword (id / 16) (id % 16 * 512 + i) 0) (fun j hj => hl j (List.mem_cons_of_mem i hj)) ?_
    by_cases hsame : b = id / 16 ∧ w = id % 16 * 512 + i
    · obtain ⟨rfl, rfl⟩ := hsame
      exact .inl (s.setVword_vword_self ..)
    · refine h.imp (fun h0 => ?_) ?_
      · rw [s.setVword_vword_other 0 (by omega) hw (by omega)]
        exact h0
      · rintro ⟨rfl, j, hj, rfl⟩
        rcases List.mem_cons.mp hj with rfl | hj
        · exact absurd ⟨rfl, rfl⟩ hsame
        · exact ⟨rfl, j, hj, rfl⟩

theorem State.vword_noteBuf (s : State) (owner id b w : Nat) : (s.noteBuf owner id).vword b w = s.vword b w := rfl

section
variable {s : State} {owner id : Nat}

theorem State.takeBuf_leaves (s : State) (owner id : Nat) : (s.takeBuf owner id).regs = s.regs ∧ (s.takeBuf owner id).parts = s.parts ∧
    (s.takeBuf owner id).cur.bufs = s.cur.bufs ++ [(id, owner)] ∧ ∀ k, (s.takeBuf owner id).mbx k = s.mbx k := by
  rw [State.takeBuf_eq]
  split
  · exact ⟨rfl, rfl, rfl, fun _ => rfl⟩
  · have h := State.zeroWords_vltOnly id (List.range 512) s
    generalize s.zeroWords id (List.range 512) = t at h
    rw [h]
    exact ⟨rfl, rfl, rfl, fun _ => rfl⟩

/-- A buffer that comes from another mailbox is zeroed (R458). -/
theorem State.takeBuf_zero (h : (id, owner) ∉ s.cur.bufPrev) : (s.takeBuf owner id).BufZero id := by
  intro w hw
  rw [State.takeBuf_eq, State.vword_noteBuf, if_neg]
  · exact State.zeroWords_zero id (by omega) (List.range 512) s (fun i => List.mem_range.mp) (.inr ⟨rfl, w, List.mem_range.mpr hw, rfl⟩)
  · simp only [List.any_eq_true, Bool.and_eq_true, beq_iff_eq, not_exists]
    rintro ⟨i, o⟩ ⟨hmem, rfl, rfl⟩
    exact h hmem

/-- A buffer of zeros stays one when any buffer is taken. -/
theorem State.takeBuf_zero_keeps {i : Nat} (h : s.BufZero i) : (s.takeBuf owner id).BufZero i := by
  intro w hw
  rw [State.takeBuf_eq, State.vword_noteBuf]
  split
  · exact h w hw
  · exact State.zeroWords_zero id (by omega) (List.range 512) s (fun i => List.mem_range.mp) (.inl (h w hw))

theorem State.takeBuf_prev {i : Nat} (hne : i ≠ id) (h : (i, owner) ∉ s.cur.bufPrev) : (i, owner) ∉ (s.takeBuf owner id).cur.bufPrev := by
  have hprev : (s.takeBuf owner id).cur.bufPrev = (id, owner) :: s.cur.bufPrev.filter fun (x : Nat × Nat) => x.1 != id := by
    rw [State.takeBuf_eq]
    split
    · rfl
    · have hv := State.zeroWords_vltOnly id (List.range 512) s
      generalize s.zeroWords id (List.range 512) = t at hv
      rw [hv]
      rfl
  simp [hprev, hne, h]

end

/-- Buffers pass to a mailbox. -/
def State.takeBufs (s : State) (owner : Nat) (ids : List Nat) : State := ids.foldl (fun (t : State) i => t.takeBuf owner i) s

section
variable {owner : Nat}

theorem State.takeBufs_leaves : ∀ (ids : List Nat) (s : State), (s.takeBufs owner ids).regs = s.regs ∧ (s.takeBufs owner ids).parts = s.parts ∧
    (s.takeBufs owner ids).cur.bufs = s.cur.bufs ++ ids.map (fun i => (i, owner)) ∧ ∀ k, (s.takeBufs owner ids).mbx k = s.mbx k
  | [], s => ⟨rfl, rfl, by simp [State.takeBufs], fun _ => rfl⟩
  | i :: r, s => by
    obtain ⟨hregs, hparts, hbufs, hmbx⟩ := s.takeBuf_leaves owner i
    obtain ⟨hregs', hparts', hbufs', hmbx'⟩ := State.takeBufs_leaves r (s.takeBuf owner i)
    exact ⟨hregs'.trans hregs, hparts'.trans hparts, hbufs'.trans (by simp [hbufs]), fun k => (hmbx' k).trans (hmbx k)⟩

theorem State.takeBufs_zero {i : Nat} : ∀ (ids : List Nat) (s : State),
    s.BufZero i ∨ (i ∈ ids ∧ (i, owner) ∉ s.cur.bufPrev) → (s.takeBufs owner ids).BufZero i
  | [], _, h => h.resolve_right (by simp)
  | j :: r, s, h => by
    refine State.takeBufs_zero r (s.takeBuf owner j) ?_
    rcases h with h | ⟨hmem, hprev⟩
    · exact .inl (State.takeBuf_zero_keeps h)
    · by_cases hij : i = j
      · subst hij
        exact .inl (State.takeBuf_zero hprev)
      · exact .inr ⟨(List.mem_cons.mp hmem).resolve_left hij, State.takeBuf_prev hij hprev⟩

end

section
variable (m : Fin 36)

theorem State.mbxIrq_bufs (s : State) (notify : Bool) : (s.mbxIrq m notify).cur.bufs = s.cur.bufs := by
  unfold State.mbxIrq
  split
  · split
    · rfl
    · split <;> rfl
  · rfl

theorem State.enterRsp_bufs (s : State) (raw : BitVec 512) (notify : Bool) : (s.enterRsp m raw notify).cur.bufs = s.cur.bufs :=
  State.mbxIrq_bufs m _ notify

theorem State.releaseHeldNotices_bufs : ∀ (l : List (BitVec 512)) (s : State), (s.releaseHeldNotices m l).cur.bufs = s.cur.bufs
  | [], _ => rfl
  | raw :: r, s => by
    unfold State.releaseHeldNotices
    split
    · exact (State.releaseHeldNotices_bufs r _).trans (State.enterRsp_bufs m _ raw false)
    · rfl

theorem State.flushMbx_bufs : ∀ (fuel : Nat) (s : State), (s.flushMbx m fuel).cur.bufs = s.cur.bufs
  | 0, _ => rfl
  | fuel + 1, s => by
    unfold State.flushMbx
    split
    · refine (State.flushMbx_bufs fuel _).trans ?_
      split
      · split
        · exact State.releaseHeldNotices_bufs m _ _
        · exact State.enterRsp_bufs m _ _ _
      · rfl
    · rfl

/-- An answer leaves the buffers (R458). -/
theorem State.reply_bufs (s : State) (c : Cmd) (r : Rsp) : (s.reply m c r).cur.bufs = s.cur.bufs := State.flushMbx_bufs m _ _

end

theorem RegsOnly.bufs {s t : State} (h : RegsOnly s t) : t.cur.bufs = s.cur.bufs := by
  obtain ⟨_, rfl⟩ := h
  rfl

theorem regsBut_of_regs {s t : State} (h : t.regs = s.regs) (l : List Nat) : RegsBut s t l := fun a _ => by
  rw [State.reg, h, State.reg]

section
variable {s : State} {m : Fin 36} {c : Cmd} {rest : List Cmd} {p : Nat}

theorem exec_bufAlloc_of_inline (h : Inline s m 0x0304 c rest p) (hp : p < 2 ^ 8) : exec (.bufAlloc m) s = .next (s.bufAlloc m c) :=
  exec_of_cmdRow (i := .bufAlloc m) rfl h rfl (badPayload_of_bits 8 (by decide) hp) rfl

theorem exec_bufFree_of_inline (h : Inline s m 0x0305 c rest p) (hp : p < 2 ^ 16) : exec (.bufFree m) s = .next (s.bufFree m c) :=
  exec_of_cmdRow (i := .bufFree m) rfl h rfl (badPayload_of_bits 16 (by decide) hp) rfl

/-- The ids of the buffers given, 16 bits each (R474). -/
def idsPayload (ids : List Nat) : Nat := (ids.zip (List.range 8)).foldl (fun a (x : Nat × Nat) => a + x.1 * 2 ^ (16 * x.2)) 0

/-- The count of free buffers of the pool falls. -/
def State.poolTaken (s : State) (k : Nat) : State := s.setFld Reg.MBX_POOL 16 16 (s.fld Reg.MBX_POOL 16 16 - k)

theorem State.bufAlloc_eq {k : Nat} (hk : c.pay 0 1 = k) (hpos : 0 < k) (hle : k ≤ 8) : s.bufAlloc m c =
    if (s.freeBufs.take k).length < k then s.reply m c (rspEmpty .retry 0)
    else ((s.takeBufs m.val (s.freeBufs.take k)).poolTaken k).reply m c ⟨.ok, 0, 16, idsPayload (s.freeBufs.take k)⟩ := by
  subst hk
  have hok : ¬ (c.pay 0 1 = 0 ∨ 8 < c.pay 0 1) := by omega
  unfold State.bufAlloc
  rw [if_neg hok]
  rfl

theorem bufAlloc_gives (h : Turn s m 0x0304 c rest) (k : Nat) (ids : List Nat) :
    let t := ((s.takeBufs m.val ids).poolTaken k).reply m c ⟨.ok, 0, 16, idsPayload ids⟩
    t.cur.bufs = s.cur.bufs ++ ids.map (fun i => (i, m.val)) ∧ t.parts = s.parts ∧
      (∀ i ∈ ids, (i, m.val) ∉ s.cur.bufPrev → t.BufZero i) ∧ RegsBut s t [Reg.MBX_POOL] ∧
      Answered s t m c rest ⟨.ok, 0, 16, idsPayload ids⟩ := by
  obtain ⟨hregs, hparts, hbufs, hmbx⟩ := State.takeBufs_leaves (owner := m.val) ids s
  have hzero := fun i (hi : i ∈ ids) (hp : (i, m.val) ∉ s.cur.bufPrev) => State.takeBufs_zero ids s (.inr ⟨hi, hp⟩)
  generalize s.takeBufs m.val ids = u at hregs hparts hbufs hmbx hzero ⊢
  have hpool : RegsOnly u (u.poolTaken k) := (RegsOnly.refl u).setFld
  have hbut : RegsBut u (u.poolTaken k) [Reg.MBX_POOL] := regsBut_setFld_self u
  generalize u.poolTaken k = v at hpool hbut ⊢
  have hcur : CurOnly v (v.reply m c ⟨.ok, 0, 16, idsPayload ids⟩) := v.reply_curOnly ..
  refine ⟨(State.reply_bufs ..).trans (hpool.bufs.trans hbufs), (curOnly_parts hcur).trans (hpool.parts.trans hparts),
    fun i hi hp w hw => ?_, regsBut_curOnly (regsBut_trans (regsBut_of_regs hregs _) hbut) hcur,
    answered_of_turn h ((hpool.mbx m).trans (hmbx m)) _⟩
  rw [vword_of_vlt (congrArg Vlt.mem ((curOnly_vlt hcur).trans hpool.vlt))]
  exact hzero i hi hp w hw

/-- A buffer is no mailbox's any more, and is one free buffer more (R459). -/
def State.bufFreed (s : State) (id : Nat) : State := { s with cur := { s.cur with bufs := s.cur.bufs.filter fun (x : Nat × Nat) => x.1 != id } }

theorem State.bufFree_own {id : Nat} (hid : c.pay 0 2 = id) (hown : s.cur.bufs.find? (fun x => x.1 == id) = some (id, m.val)) :
    s.bufFree m c = ((s.bufFreed id).addFld Reg.MBX_POOL 16 16 1).reply m c (rspEmpty .ok 0) := by
  subst hid
  unfold State.bufFree
  simp only [hown, if_true, State.bufFreed]

theorem bufFree_gives (h : Turn s m 0x0305 c rest) (id : Nat) :
    let t := ((s.bufFreed id).addFld Reg.MBX_POOL 16 16 1).reply m c (rspEmpty .ok 0)
    t.cur.bufs = s.cur.bufs.filter (fun x => x.1 != id) ∧ Answered s t m c rest (rspEmpty .ok 0) ∧ RegsBut s t [Reg.MBX_POOL] := by
  have hmore : RegsOnly (s.bufFreed id) ((s.bufFreed id).addFld Reg.MBX_POOL 16 16 1) := RegsOnly.addFld_self _
  have hregs : RegsBut (s.bufFreed id) ((s.bufFreed id).addFld Reg.MBX_POOL 16 16 1) [Reg.MBX_POOL] :=
    regsBut_setReg_mem regsBut_refl (List.mem_singleton_self _)
  generalize (s.bufFreed id).addFld Reg.MBX_POOL 16 16 1 = u at hmore hregs
  exact ⟨(State.reply_bufs ..).trans hmore.bufs, answered_of_turn h (hmore.mbx m) _, regsBut_curOnly hregs (u.reply_curOnly ..)⟩

/-- The registers of a bad free (R459). -/
def State.badFreeNoted (s : State) (v : Word) : State := (s.addFld Reg.MBX_BAD_FREE 0 32 1).setReg Reg.MBX_LAST_BAD_FREE v

theorem State.badFreeNoted_regsOnly (s : State) (v : Word) : RegsOnly s (s.badFreeNoted v) := (RegsOnly.addFld_self s).setReg

theorem State.regsBut_badFreeNoted (s : State) (v : Word) : RegsBut s (s.badFreeNoted v) [Reg.MBX_LAST_BAD_FREE, Reg.MBX_BAD_FREE] :=
  regsBut_setReg_mem (regsBut_setReg_mem regsBut_refl (by simp)) (by simp)

/-- A bad free changes no buffer and is recorded with the owner that the buffer has, 0x3F with none (R459). -/
theorem badFree_gives (h : Turn s m 0x0305 c rest) (id owner : Nat) :
    let t := s.badFree m c id owner
    t.cur.bufs = s.cur.bufs ∧ Answered s t m c rest (rspEmpty .badFree 0) ∧
      t.reg Reg.MBX_LAST_BAD_FREE = BitVec.ofNat 32 (id % 2 ^ 14 + m.val * 2 ^ 14 + owner * 2 ^ 20 + 2 ^ 31) ∧
      RegsBut s t [Reg.MBX_LAST_BAD_FREE, Reg.MBX_BAD_FREE] ∧ t.parts = s.parts := by
  have hreg : (s.badFreeNoted (BitVec.ofNat 32 (id % 2 ^ 14 + m.val * 2 ^ 14 + owner * 2 ^ 20 + 2 ^ 31))).reg Reg.MBX_LAST_BAD_FREE = _ :=
    State.reg_setReg_self ..
  have heq : s.badFree m c id owner = State.reply (s.badFreeNoted _) m c (rspEmpty .badFree 0) := rfl
  rw [heq]
  have hnoted := s.badFreeNoted_regsOnly (BitVec.ofNat 32 (id % 2 ^ 14 + m.val * 2 ^ 14 + owner * 2 ^ 20 + 2 ^ 31))
  have hbut := s.regsBut_badFreeNoted (BitVec.ofNat 32 (id % 2 ^ 14 + m.val * 2 ^ 14 + owner * 2 ^ 20 + 2 ^ 31))
  generalize s.badFreeNoted _ = u at hreg hnoted hbut ⊢
  have hcur : CurOnly u (u.reply m c (rspEmpty .badFree 0)) := u.reply_curOnly ..
  exact ⟨(State.reply_bufs ..).trans hnoted.bufs, answered_of_turn h (hnoted.mbx m) _, (curOnly_reg hcur _).trans hreg, regsBut_curOnly hbut hcur,
    (curOnly_parts hcur).trans hnoted.parts⟩

theorem State.bufFree_other {id o : Nat} (hid : c.pay 0 2 = id) (hfind : s.cur.bufs.find? (fun x => x.1 == id) = some (id, o))
    (ho : o ≠ m.val) : s.bufFree m c = s.badFree m c id o := by
  subst hid
  unfold State.bufFree
  simp only [hfind, if_neg ho]

theorem State.bufFree_none {id : Nat} (hid : c.pay 0 2 = id) (hfind : s.cur.bufs.find? (fun x => x.1 == id) = none) :
    s.bufFree m c = s.badFree m c id 0x3F := by
  subst hid
  unfold State.bufFree
  simp only [hfind]

end

end Sys2Proof.Machine
end

section
/-!
SUPPORT. DMA between the host and a buffer of its mailbox (R191, R458, R475): the words that a write stores, and a clean read.
-/
namespace Sys2Proof.Machine

open Sys2Proof Sys2Proof.Statements

section
variable {s : State} {m : Fin 36} {c : Cmd} {rest : List Cmd} {p : Nat}

theorem exec_dma_of_inline (h : Inline s m 0x0306 c rest p) (hp : p < 2 ^ 224) (data : List DWord) (stop : Option (Nat × Bool) × List Nat) :
    exec (.dma m data stop) s = .next (s.dma m c data stop.1 stop.2) :=
  exec_of_cmdRow (i := .dma m data stop) (act := fun s c => s.dma m c data stop.1 stop.2) rfl h rfl (badPayload_of_bits 224 (by decide) hp) rfl

/-- A DMA between the host and one of the mailbox's buffers, past its refusals. -/
theorem State.dma_buf {k id off len : Nat} {write : Bool} (hk : k < 2) (hwrite : (k == 0) = write) (hid : id < 2 ^ 16)
    (hoff : off % 8 = 0) (hlen : len % 8 = 0) (hend : off + len ≤ 4096) (hown : (id, m.val) ∈ s.cur.bufs)
    (h : Inline s m 0x0306 c rest (k + id * 2 ^ 16 + off * 2 ^ 32 + len * 2 ^ 192))
    (data : List DWord) (sbe : List Nat) : s.dma m c data none sbe =
      State.dmaReply m c (s.dmaBank (id / 16) (id % 16 * 512 + off / 8) write data none sbe 0 (len / 8)) := by
  subst hwrite
  have hdir : c.pay 0 1 = k := by rw [pay_of_inline h]; omega
  have hkind : c.pay 1 1 = 0 := by rw [pay_of_inline h]; omega
  have hbuf : c.pay 2 2 = id := by rw [pay_of_inline h]; omega
  have hat : c.pay 4 4 = off := by rw [pay_of_inline h]; omega
  have hhost : c.pay 8 8 = 0 := by rw [pay_of_inline h]; omega
  have hbytes : c.pay 24 4 = len := by rw [pay_of_inline h]; omega
  have hmine : (s.cur.bufs.any fun (x : Nat × Nat) => x.1 == id && x.2 == m.val) = true :=
    List.any_eq_true.mpr ⟨(id, m.val), hown, by simp⟩
  unfold State.dma
  simp only [hdir, hkind, hbuf, hat, hhost, hbytes, hmine]
  rw [if_neg (by omega), if_neg (by omega), if_neg (by omega), if_neg (by omega), if_neg (by omega), if_neg (by omega), if_neg (by omega)]
  simp only [Bool.not_true, Bool.false_eq_true, if_false]
  rw [if_neg (by omega)]

theorem State.dmaBank_write_succ {bank word i left : Nat} {data : List DWord} {sbe : List Nat} (hfree : s.wordLogged bank (word + i) = false) :
    s.dmaBank bank word true data none sbe i (left + 1) =
      let r := (s.setVword bank (word + i) (data.getD i 0)).dmaBank bank word true data none sbe (i + 1) left
      (r.1, r.2.1 + 1, r.2.2) := by
  rw [State.dmaBank]
  simp [dmaEnd, hfree]

/-- A write of words that no partition has logged stores them all, and no other word of the bank below the first. -/
theorem State.dmaBank_write {bank word : Nat} {data : List DWord} {sbe : List Nat} : ∀ (left i : Nat) (s : State), word + i + left ≤ 8192 →
    (∀ j, i ≤ j → j < i + left → s.wordLogged bank (word + j) = false) →
    let r := s.dmaBank bank word true data none sbe i left
    r.2 = (left, .ok) ∧ VltOnly s r.1 ∧ (∀ j, i ≤ j → j < i + left → r.1.vword bank (word + j) = data.getD j 0) ∧
      ∀ w < word + i, r.1.vword bank w = s.vword bank w
  | 0, _, s, _, _ => ⟨rfl, rfl, fun _ hj hlt => absurd hlt (by omega), fun _ _ => rfl⟩
  | left + 1, i, s, hend, hfree => by
    have hself := s.setVword_vword_self bank (word + i) (data.getD i 0)
    have hother : ∀ w < word + i, (s.setVword bank (word + i) (data.getD i 0)).vword bank w = s.vword bank w := fun w hw =>
      s.setVword_vword_other _ (by omega) (by omega) (.inr (by omega))
    have hvlt : VltOnly s (s.setVword bank (word + i) (data.getD i 0)) := rfl
    have ih := State.dmaBank_write (data := data) (sbe := sbe) left (i + 1) (s.setVword bank (word + i) (data.getD i 0)) (by omega)
      fun j hj hlt => hfree j (by omega) (by omega)
    rw [State.dmaBank_write_succ (hfree i le_rfl (by omega))]
    generalize s.setVword bank (word + i) (data.getD i 0) = t at hself hother hvlt ih ⊢
    obtain ⟨hok, hvlt', hstored, hbelow⟩ := ih
    generalize t.dmaBank bank word true data none sbe (i + 1) left = r at hok hvlt' hstored hbelow ⊢
    refine ⟨by simp [hok], hvlt.trans hvlt', fun j hj hlt => ?_, fun w hw => (hbelow w (by omega)).trans (hother w hw)⟩
    by_cases hji : j = i
    · subst hji
      exact (hbelow _ (by omega)).trans hself
    · exact hstored j (by omega) (by omega)

/-- A read of words without errors changes nothing. -/
theorem State.dmaBank_read {bank word : Nat} {data : List DWord} : ∀ (left i : Nat),
    (∀ j, i ≤ j → j < i + left → s.isDbe bank (word + j) = false) → s.dmaBank bank word false data none [] i left = (s, left, .ok)
  | 0, _, _ => rfl
  | left + 1, i, h => by
    have ih := State.dmaBank_read (data := data) left (i + 1) fun j hj hlt => h j (by omega) (by omega)
    have hclean := State.readEcc_clean (h i le_rfl (by omega)) 1
    rw [State.dmaBank]
    simp [dmaEnd, hclean, ih]

theorem State.dmaReply_ok (t : State) {n len : Nat} (hn : 8 * n = len) : State.dmaReply m c (t, n, .ok) = t.reply m c ⟨.ok, 0, 4, len⟩ := by
  rw [State.dmaReply, hn]
  rfl

theorem curOnly_regs {s t : State} (h : CurOnly s t) : t.regs = s.regs := by rw [h]

/-- An answer after a change of the vault alone. -/
theorem reply_of_vltOnly {op : Nat} {u : State} (h : Turn s m op c rest) (hu : VltOnly s u) (r : Rsp) :
    (∀ b w, (u.reply m c r).vword b w = u.vword b w) ∧ (u.reply m c r).parts = s.parts ∧ (u.reply m c r).regs = s.regs ∧
      Answered s (u.reply m c r) m c rest r := by
  have hcur := u.reply_curOnly m c r
  have hmbx : u.mbx m = s.mbx m := by rw [hu]; rfl
  refine ⟨vword_of_vlt (congrArg Vlt.mem (curOnly_vlt hcur)), (curOnly_parts hcur).trans ?_, (curOnly_regs hcur).trans ?_,
    answered_of_turn h hmbx r⟩ <;> rw [hu]

end

end Sys2Proof.Machine
end

section
/-!
SUPPORT. ACCESSION of a unit that a running partition holds, which waits for its boundary (R339, R344, R476), and DEACCESSION of a cluster (R345).
-/
namespace Sys2Proof.Machine

open Sys2Proof Sys2Proof.Statements

section
variable {s : State} {m : Fin 36} {c : Cmd} {rest : List Cmd} {p : Nat}

theorem exec_accession_of_inline (h : Inline s m 0x0401 c rest p) (hp : p < 2 ^ 32) (spare : Fin 8) (parity : Bool) :
    exec (.accession m spare parity) s = .next (s.accession m c (256 + spare.val) parity) :=
  exec_of_cmdRow (i := .accession m spare parity) (act := fun s c => s.accession m c (256 + spare.val) parity) rfl h rfl
    (badPayload_of_bits 32 (by decide) hp) rfl

theorem exec_deaccession_of_inline (h : Inline s m 0x0402 c rest p) (hp : p < 2 ^ 32) : exec (.deaccession m) s = .next (s.deaccession m c) :=
  exec_of_cmdRow (i := .deaccession m) rfl h rfl (badPayload_of_bits 32 (by decide) hp) rfl

/-- The accession of a unit is pending. -/
def State.pended (s : State) (q : Pend) : State := if s.spr.pend.contains q then s else s.setPend (s.spr.pend ++ [q])

theorem State.pended_leaves (s : State) (q : Pend) : q ∈ (s.pended q).spr.pend ∧ (s.pended q).parts = s.parts ∧
    RegsBut s (s.pended q) [Reg.SPR_STATUS] ∧ ∀ k, (s.pended q).mbx k = s.mbx k := by
  unfold State.pended
  split
  · next h => exact ⟨by simpa using h, rfl, regsBut_refl, fun _ => rfl⟩
  · have hregs : RegsOnly { s with spr := { s.spr with pend := s.spr.pend ++ [q] } } (s.setPend (s.spr.pend ++ [q])) := (RegsOnly.refl _).setFld
    refine ⟨?_, hregs.parts, regsBut_setFld (fun _ _ => rfl) (List.mem_singleton_self _), fun k => hregs.mbx k⟩
    obtain ⟨_, hr⟩ := hregs
    rw [hr]
    simp

/-- An ACCESSION of a unit that a running partition holds waits for the boundary (R339, R466). -/
theorem State.accession_waits {kind id : Nat} {q : Pend} {n : Fin 8} (hkind : kind = 1 ∨ kind = 2) (hk : c.pay 0 1 = kind) (hid : c.pay 1 3 = id)
    (hunit : s.accUnit kind id = some q) (hspare : s.hasSpare q = true)
    (hrival : ∀ x ∈ s.spr.pend, x.kind ≠ 1 ∨ kind ≠ 1 ∨ x.unit / 16 ≠ q.unit / 16 ∨ x.unit = q.unit) (hholder : s.unitHolder q = some n)
    (hrun : (s.part n).state = .running) (spare : Nat) (parity : Bool) : s.accession m c spare parity =
      (s.pended q).begin m c (some n.val) true (.accession n q.kind q.unit none 0) := by
  have hnone : (s.spr.pend.any fun (x : Pend) => x.kind == 1 && kind == 1 && x.unit / 16 == q.unit / 16 && x.unit != q.unit) = false := by
    simp only [List.any_eq_false]
    intro x hx
    have := hrival x hx
    simp
    omega
  unfold State.accession
  simp only [hk, hid, hunit, hspare, hnone, hholder, hrun]
  rw [if_neg (by omega)]
  rfl

/-- The physical cluster is retired, and the tile has no idle one (R345). -/
def State.clusterRetired (s : State) (tl p : Nat) : State :=
  ((s.retired (Reg.SPR_CHEALTH tl p)).setFld (Reg.SPR_TILE tl) 0 6 0x1F).setFld (Reg.SPR_TILE tl) (8 + p) 1 1

theorem State.lastAcc_leaves (s : State) (entry from_ new path result : Nat) :
    (s.lastAcc entry from_ new path result).parts = s.parts ∧ (∀ k, (s.lastAcc entry from_ new path result).mbx k = s.mbx k) ∧
      RegsBut s (s.lastAcc entry from_ new path result) [Reg.SPR_LAST_ACC, Reg.SPR_LAST_ACC_DETAIL] := by
  have h : RegsOnly s (s.lastAcc entry from_ new path result) := (RegsOnly.refl s).setReg.setReg
  exact ⟨h.parts, h.mbx, regsBut_setReg_mem (regsBut_setReg_mem regsBut_refl (by simp)) (by simp)⟩

/-- The staging of the tile ends. -/
def State.unstaged (s : State) (tl : Nat) : State :=
  { s with spr := { s.spr with staging := s.spr.staging.filter (fun (x : Nat × Nat) => x.1 != tl),
                               staged := s.spr.staged.filter fun x => x.1 != tl } }

/-- The staging of the tile ends and the retirement is recorded (R345). -/
def State.deaccTold (s : State) (tl p : Nat) : State :=
  let f := (s.unstaged tl).fresh
  let g := Config.freeNat f.2
  f.1.lastAcc (unitEntry 1 g 2) (tl + p * 256) (g / 2 ^ 22) (g / 2 ^ 35) 0

theorem State.deaccCluster_eq (s : State) (tl p : Nat) : s.deaccCluster tl p = (s.clusterRetired tl p).deaccTold tl p := rfl

theorem State.deaccTold_leaves (s : State) (tl p : Nat) : (s.deaccTold tl p).parts = s.parts ∧ (∀ k, (s.deaccTold tl p).mbx k = s.mbx k) ∧
    RegsBut s (s.deaccTold tl p) [Reg.SPR_LAST_ACC, Reg.SPR_LAST_ACC_DETAIL] :=
  State.lastAcc_leaves (s.unstaged tl).fresh.1 ..

theorem State.clusterRetired_regsOnly (s : State) (tl p : Nat) : RegsOnly s (s.clusterRetired tl p) :=
  (RegsOnly.refl s).setFld.setFld.setFld.setFld

theorem State.clusterRetired_fields (s : State) {tl : Nat} (htl : tl < 256) (p : Nat) :
    (s.clusterRetired tl p).fld (Reg.SPR_CHEALTH tl p) 8 3 = 3 ∧ (s.clusterRetired tl p).idleClu tl = 0x1F := by
  have hne : Reg.SPR_CHEALTH tl p ≠ Reg.SPR_TILE tl := by
    simp only [Reg.SPR_CHEALTH, Reg.SPR_TILE]
    omega
  unfold State.clusterRetired State.idleClu
  constructor
  · rw [State.fld_setFld_ne _ _ _ _ hne, State.fld_setFld_ne _ _ _ _ hne]
    exact (s.retired_fields _).1
  · rw [State.fld_setFld_flag _ 1 (by omega)]
    exact (bitsAt_narrow _ 0 (w := 6) (by decide)).trans (congrArg (· % 2 ^ 5) (State.fld_setFld_self _ 0x1F (by decide)))

/-- A DEACCESSION of an idle or staged cluster (R345, R357). -/
theorem deaccession_gives {id : Nat} (hid : id < 4352) (hdie : s.hasDie (id % 256 / 64) = true)
    (hst : s.fld (Reg.SPR_CHEALTH (id % 256) (id / 256)) 8 3 = 1 ∨ s.fld (Reg.SPR_CHEALTH (id % 256) (id / 256)) 8 3 = 2)
    (h : Inline s m 0x0402 c rest (1 + id * 2 ^ 8)) :
    let t := s.deaccession m c
    t.fld (Reg.SPR_CHEALTH (id % 256) (id / 256)) 8 3 = 3 ∧ t.parts = s.parts ∧ t.idleClu (id % 256) = 0x1F ∧
      Answered s t m c rest ⟨.ok, 0, 4, (t.reg Reg.SPR_LAST_ACC).toNat⟩ := by
  have h0 : c.pay 0 1 = 1 := by rw [pay_of_inline h]; omega
  have h1 : c.pay 1 3 = id := by rw [pay_of_inline h]; omega
  have heq : s.deaccession m c = ((s.clusterRetired (id % 256) (id / 256)).deaccTold (id % 256) (id / 256)).reply m c
      ⟨.ok, 0, 4, (((s.clusterRetired (id % 256) (id / 256)).deaccTold (id % 256) (id / 256)).reg Reg.SPR_LAST_ACC).toNat⟩ := by
    unfold State.deaccession
    simp only [h0, h1]
    rw [if_pos trivial, if_neg (by simp [hdie]; omega), if_pos hst, State.deaccCluster_eq]
  obtain ⟨hhealth, hidle⟩ := s.clusterRetired_fields (tl := id % 256) (by omega) (id / 256)
  have hregs := s.clusterRetired_regsOnly (id % 256) (id / 256)
  simp only [heq]
  generalize s.clusterRetired (id % 256) (id / 256) = u at hhealth hidle hregs ⊢
  obtain ⟨hparts, hmbx, hbut⟩ := u.deaccTold_leaves (id % 256) (id / 256)
  generalize u.deaccTold (id % 256) (id / 256) = v at hparts hmbx hbut ⊢
  have hcur : CurOnly v (v.reply m c ⟨.ok, 0, 4, (v.reg Reg.SPR_LAST_ACC).toNat⟩) := v.reply_curOnly ..
  have hkeep : ∀ a lo w, a ∉ [Reg.SPR_LAST_ACC, Reg.SPR_LAST_ACC_DETAIL] →
      (v.reply m c ⟨.ok, 0, 4, (v.reg Reg.SPR_LAST_ACC).toNat⟩).fld a lo w = u.fld a lo w := fun a lo w ha =>
    (curOnly_fld hcur ..).trans (fld_of_reg (hbut a ha) lo w)
  refine ⟨(hkeep _ _ _ ?_).trans hhealth, (curOnly_parts hcur).trans (hparts.trans hregs.parts), (hkeep _ _ _ ?_).trans hidle, ?_⟩
  · simp only [Reg.SPR_CHEALTH, Reg.SPR_LAST_ACC, Reg.SPR_LAST_ACC_DETAIL, List.mem_cons, List.not_mem_nil, or_false, not_or]
    omega
  · simp only [Reg.SPR_TILE, Reg.SPR_LAST_ACC, Reg.SPR_LAST_ACC_DETAIL, List.mem_cons, List.not_mem_nil, or_false, not_or]
    omega
  · rw [curOnly_reg hcur]
    exact answered_of_turn h.1 ((hmbx m).trans (hregs.mbx m)) _

end

end Sys2Proof.Machine
end

section
/-!
SUPPORT. SET_OP (R505 to R508): what asking dies for an operating point writes, what a hold and a relock leave, and the VCORE that the change
finds or sets.
-/
namespace Sys2Proof.Machine

open Sys2Proof Sys2Proof.Statements

section
variable {s t u : State}

theorem RegsOnly.trans (h : RegsOnly s t) (hu : RegsOnly t u) : RegsOnly s u := by
  obtain ⟨_, rfl⟩ := h
  obtain ⟨_, rfl⟩ := hu
  exact ⟨_, rfl⟩

/-- Of the state only the partitions have changed. -/
def PartsOnly (s t : State) : Prop := ∃ v, t = { s with parts := v }

namespace PartsOnly

theorem refl (s : State) : PartsOnly s s := ⟨_, rfl⟩

theorem trans (h : PartsOnly s t) (hu : PartsOnly t u) : PartsOnly s u := by
  obtain ⟨_, rfl⟩ := h
  obtain ⟨_, rfl⟩ := hu
  exact ⟨_, rfl⟩

theorem modPart (s : State) (n : Fin 8) (f : Part → Part) : PartsOnly s (s.modPart n f) := ⟨_, rfl⟩

theorem foldl {α : Type} {f : State → α → State} (hf : ∀ v x, PartsOnly v (f v x)) : ∀ (l : List α) (s : State), PartsOnly s (l.foldl f s)
  | [], s => refl s
  | x :: r, s => (hf s x).trans (foldl hf r (f s x))

theorem regs (h : PartsOnly s t) : t.regs = s.regs := by
  obtain ⟨_, rfl⟩ := h
  rfl

theorem pwr (h : PartsOnly s t) : t.pwr = s.pwr := by
  obtain ⟨_, rfl⟩ := h
  rfl

theorem rgs (h : PartsOnly s t) : t.rgs = s.rgs := by
  obtain ⟨_, rfl⟩ := h
  rfl

theorem mbx (h : PartsOnly s t) (k : Fin 36) : t.mbx k = s.mbx k := by
  obtain ⟨_, rfl⟩ := h
  rfl

end PartsOnly

theorem State.requestHold_partsOnly (s : State) (n : Fin 8) : PartsOnly s (s.requestHold n) := by
  dsimp only [State.requestHold]
  split
  · exact .refl s
  · split
    · split
      · exact .modPart s n _
      · exact .modPart s n _
    · exact .refl s

theorem State.releaseHold_partsOnly (s : State) (n : Fin 8) : PartsOnly s (s.releaseHold n) := by
  unfold State.releaseHold
  split
  · exact .modPart s n _
  · exact .modPart s n _

end

/-- A die of a relock goes to the bypass, unless a hold has still to act or it is there (R508). -/
def State.relockDie (s : State) (d : Nat) : State :=
  let waits := (List.finRange 8).any fun n => s.onDie n d && (s.part n).holdReq && (s.part n).held.isNone
  if waits || decide (1 < s.fld (Reg.CLK_STEP d) 0 3) then s
  else s.setReg (Reg.CLK_STEP d) (BitVec.ofNat 32 (2 + 500 * 2 ^ 4))

theorem State.relockDie_leaves (s : State) (d : Nat) : RegsOnly s (s.relockDie d) ∧ ∀ a < Reg.CLK_STEP 0, (s.relockDie d).reg a = s.reg a := by
  unfold State.relockDie
  dsimp only
  split
  · exact ⟨.refl s, fun _ _ => rfl⟩
  · refine ⟨(RegsOnly.refl s).setReg, fun a ha => State.reg_setReg_ne _ _ ?_⟩
    simp only [Reg.CLK_STEP] at ha ⊢
    omega

theorem State.relockDies_leaves : ∀ (l : List Nat) (s : State), RegsOnly s (l.foldl State.relockDie s) ∧
    ∀ a < Reg.CLK_STEP 0, (l.foldl State.relockDie s).reg a = s.reg a
  | [], s => ⟨.refl s, fun _ _ => rfl⟩
  | d :: r, s => by
    obtain ⟨hregs, hreg⟩ := State.relockDies_leaves r (s.relockDie d)
    obtain ⟨hregs', hreg'⟩ := s.relockDie_leaves d
    exact ⟨hregs'.trans hregs, fun a ha => (hreg a ha).trans (hreg' a ha)⟩

/-- A relock that goes on changes the step clocks' registers alone (R508). -/
theorem State.relockAdvance_leaves (s : State) : RegsOnly s s.relockAdvance ∧ ∀ a < Reg.CLK_STEP 0, s.relockAdvance.reg a = s.reg a := by
  unfold State.relockAdvance
  split
  · split
    · exact ⟨.refl s, fun _ _ => rfl⟩
    · exact State.relockDies_leaves _ s
  · exact ⟨.refl s, fun _ _ => rfl⟩

section
variable (s : State) (op : Nat)

/-- A die is asked for an operating point: TARGET and PENDING, and no failure (PWR_DIE_OP). -/
def State.opAsked (d : Nat) : State :=
  ((s.setFld (Reg.PWR_DIE_OP d) 2 2 op).setFld (Reg.PWR_DIE_OP d) 4 1 1).setFld (Reg.PWR_DIE_OP d) 5 3 0

/-- Dies are asked for an operating point. -/
def State.opsAsked (l : List Nat) : State := l.foldl (fun t d => t.opAsked op d) s

/-- The die is asked for this operating point. -/
def State.Asks (d : Nat) : Prop := s.fld (Reg.PWR_DIE_OP d) 2 2 = op ∧ s.fld (Reg.PWR_DIE_OP d) 4 1 = 1

theorem State.opAsked_regsOnly (d : Nat) : RegsOnly s (s.opAsked op d) := (RegsOnly.refl s).setFld.setFld.setFld

theorem State.reg_opAsked_ne {a d : Nat} (h : a ≠ Reg.PWR_DIE_OP d) : (s.opAsked op d).reg a = s.reg a := by
  rw [State.opAsked, State.reg_setFld_ne _ _ _ _ h, State.reg_setFld_ne _ _ _ _ h, State.reg_setFld_ne _ _ _ _ h]

theorem State.opAsked_fields (hop : op < 4) (d : Nat) : (s.opAsked op d).Asks op d ∧ (s.opAsked op d).dieOp d = s.dieOp d := by
  unfold State.Asks State.opAsked State.dieOp
  simp [State.fld_setFld_self, State.fld_setFld_of_disjoint]
  omega

end

theorem vcore_lt_clk : Reg.PWR_VCORE < Reg.CLK_STEP 0 := by decide

theorem dieOpReg_ne {d e : Nat} (h : d ≠ e) : Reg.PWR_DIE_OP d ≠ Reg.PWR_DIE_OP e := by
  simp only [Reg.PWR_DIE_OP]
  omega

section
variable {op : Nat}

theorem State.opsAsked_cons (s : State) (d : Nat) (r : List Nat) : s.opsAsked op (d :: r) = (s.opAsked op d).opsAsked op r := rfl

theorem State.opsAsked_leaves : ∀ (l : List Nat) (s : State), RegsOnly s (s.opsAsked op l) ∧
    ∀ a, (∀ d ∈ l, a ≠ Reg.PWR_DIE_OP d) → (s.opsAsked op l).reg a = s.reg a
  | [], s => ⟨.refl s, fun _ _ => rfl⟩
  | d :: r, s => by
    obtain ⟨hregs, hreg⟩ := State.opsAsked_leaves r (s.opAsked op d)
    rw [State.opsAsked_cons]
    exact ⟨(s.opAsked_regsOnly op d).trans hregs, fun a ha =>
      (hreg a fun e he => ha e (List.mem_cons_of_mem d he)).trans (s.reg_opAsked_ne op (ha d List.mem_cons_self))⟩

/-- The dies of the list are asked, and one that was asked before stays so; the point that each has stays (R505). -/
theorem State.opsAsked_fields (hop : op < 4) {d : Nat} : ∀ (l : List Nat) (s : State),
    (s.opsAsked op l).dieOp d = s.dieOp d ∧ (s.Asks op d ∨ d ∈ l → (s.opsAsked op l).Asks op d)
  | [], s => ⟨rfl, fun h => h.resolve_right (by simp)⟩
  | e :: r, s => by
    obtain ⟨hsame, hasks⟩ := State.opsAsked_fields hop (d := d) r (s.opAsked op e)
    rw [State.opsAsked_cons]
    obtain ⟨hask, hdie⟩ := s.opAsked_fields op hop e
    by_cases hde : d = e
    · subst hde
      exact ⟨hsame.trans hdie, fun _ => hasks (.inl hask)⟩
    · have hreg := s.reg_opAsked_ne op (dieOpReg_ne hde)
      refine ⟨hsame.trans (fld_of_reg hreg 0 2), fun h => hasks (h.imp (fun h => ?_) fun h => (List.mem_cons.mp h).resolve_left hde)⟩
      unfold State.Asks
      rw [fld_of_reg hreg, fld_of_reg hreg]
      exact h

end

theorem opMv_le (op : Nat) : opMv op ≤ 800 := by
  unfold opMv
  split <;> omega

theorem State.needMv_le (s : State) : s.needMv ≤ 800 := by
  have hall : ∀ (l : List Nat) (a : Nat), a ≤ 800 → l.foldl (fun a d => max a (opMv (s.dieOp d))) a ≤ 800 := by
    intro l
    induction l with
    | nil => exact fun _ h => h
    | cons d r ih => exact fun a h => ih _ (max_le h (opMv_le _))
  exact hall _ 600 (by decide)

/-- A relock that begins holds partitions and changes the step clocks' registers alone, and the change is under way (R508). -/
theorem State.relockBegin_leaves (s : State) (k : OpChange) : (s.relockBegin k).pwr.change.isSome = true ∧
    (∀ j, (s.relockBegin k).mbx j = s.mbx j) ∧ ∀ a < Reg.CLK_STEP 0, (s.relockBegin k).reg a = s.reg a := by
  let ns := s.loadedParts.filter fun n => k.dies.any fun d => bitOf (s.part n).eph.dieMask d
  let p : Pwr := { s.pwr with change := some { k with volt := false, since := s.lnk.timebase },
                              relock := ns.foldl (fun v n => vset v n true) s.pwr.relock }
  have hhold := PartsOnly.foldl (fun (t : State) n => t.requestHold_partsOnly n) ns (s.setPwr p)
  have heq : s.relockBegin k = (ns.foldl (fun (t : State) n => t.requestHold n) (s.setPwr p)).relockAdvance := rfl
  rw [heq]
  generalize ns.foldl (fun (t : State) n => t.requestHold n) (s.setPwr p) = v at hhold ⊢
  obtain ⟨hregs, hlow⟩ := v.relockAdvance_leaves
  refine ⟨?_, fun j => (hregs.mbx j).trans (hhold.mbx j), fun a ha => (hlow a ha).trans ?_⟩
  · obtain ⟨_, hr⟩ := hregs
    rw [hr]
    exact congrArg (fun q : Pwr => q.change.isSome) hhold.pwr
  · rw [State.reg, hhold.regs]
    rfl

section
variable {s : State} {m : Fin 36} {c : Cmd} {rest : List Cmd} {mask op : Nat}

theorem exec_setOp_of_inline {p : Nat} (h : Inline s m 0x0403 c rest p) (hp : p < 2 ^ 16) : exec (.setOp m) s = .next (s.setOp m c) :=
  exec_of_cmdRow (i := .setOp m) rfl h rfl (badPayload_of_bits 16 (by decide) hp) rfl

/-- The dies of a SET_OP that another operating point has (R505). -/
def State.opChange (s : State) (mask op : Nat) : List Nat := (s.diesIn mask).filter fun d => s.dieOp d != op

/-- The change that a SET_OP begins. -/
def opBegun (l : List Nat) (op : Nat) : OpChange := ⟨l, l, [], op, false, 0⟩

/-- VCORE has a new target and has not settled (R506). -/
def State.coreSet (s : State) (need : Nat) : State := (s.setFld Reg.PWR_VCORE 0 10 need).setFld Reg.PWR_VCORE 26 1 0

/-- VCORE is set to rise to what a change needs (R506). -/
def State.coreRaised (s : State) (need : Nat) (k : OpChange) : State :=
  (s.coreSet need).setPwr { s.pwr with change := some { k with volt := true } }

theorem State.coreSet_regsOnly (s : State) (need : Nat) : RegsOnly s (s.coreSet need) := (RegsOnly.refl s).setFld.setFld

theorem State.reg_coreSet_ne (s : State) (need : Nat) {a : Nat} (h : a ≠ Reg.PWR_VCORE) : (s.coreSet need).reg a = s.reg a := by
  rw [State.coreSet, State.reg_setFld_ne _ _ _ _ h, State.reg_setFld_ne _ _ _ _ h]

theorem State.fld_coreSet (s : State) {need : Nat} (h : need < 1024) : (s.coreSet need).fld Reg.PWR_VCORE 0 10 = need := by
  rw [State.coreSet, State.fld_setFld_of_disjoint _ 0 (by decide) (by decide), State.fld_setFld_self _ _ (by decide)]
  exact Nat.mod_eq_of_lt h

/-- A SET_OP that nothing refuses, with the regulator on (R170, R505 to R508). -/
theorem State.setOp_eq (hmask : c.pay 0 1 = mask) (hopc : c.pay 1 1 = op) (hlt : mask < 16) (hop : op < 4)
    (hdies : ∀ d < 4, bitOf mask d = true → s.hasDie d = true) (hsplit : s.splitsPart mask = false)
    (hdebug : ∀ n : Fin 8, op < 2 → (s.part n).state ≠ .empty → (s.part n).eph.debug = true →
      ∀ d ∈ s.diesIn mask, bitOf (s.part n).eph.dieMask d = false)
    (hen : s.fld Reg.PWR_VR 7 1 = 1) : s.setOp m c =
      if (s.opChange mask op).isEmpty then s.reply m c ⟨.ok, 0, 1, 0⟩
      else
        let u := (s.wait m c false (.setOp (maskOf (s.opChange mask op)))).opsAsked op (s.opChange mask op)
        if s.fld Reg.PWR_VCORE 0 10 < max s.needMv (opMv op) then u.coreRaised (max s.needMv (opMv op)) (opBegun (s.opChange mask op) op)
        else u.relockBegin (opBegun (s.opChange mask op) op) := by
  have hbits : (List.range 8).any (fun d => bitOf mask d && !s.hasDie d) = false := by
    simp only [List.any_eq_false, List.mem_range, Bool.and_eq_true, Bool.not_eq_true']
    rintro d - ⟨hbit, hno⟩
    rcases Nat.lt_or_ge d 4 with hd | hd
    · simp [hdies d hd hbit] at hno
    · have hzero : mask / 2 ^ d = 0 := Nat.div_eq_of_lt (hlt.trans_le (Nat.pow_le_pow_right (n := 2) (by decide) hd))
      simp [bitOf, hzero] at hbit
  have hdbg : ((s.loadedParts.any fun n => (s.part n).eph.debug && (s.diesIn mask).any fun d => bitOf (s.part n).eph.dieMask d) &&
      decide (op < 2)) = false := by
    simp only [Bool.and_eq_false_iff, decide_eq_false_iff_not, List.any_eq_false, Bool.and_eq_true, List.any_eq_true, not_and, not_exists]
    by_cases hop2 : op < 2
    · refine .inl fun n hn hd d hdie hbit => ?_
      have hloaded : (s.part n).state ≠ .empty := by simpa [State.loadedParts] using hn
      simp [hdebug n hop2 hloaded hd d hdie] at hbit
    · exact .inr hop2
  unfold State.setOp
  simp only [hmask, hopc, hbits, hsplit, hdbg, hen]
  rw [if_neg (by simp), if_neg (by omega), if_neg (by simp), if_neg (by simp)]
  simp only [beq_self_eq_true, Bool.not_true, Bool.false_eq_true, false_and, if_false, true_and]
  rfl

theorem opChange_lt {d : Nat} (hd : d ∈ s.opChange mask op) : d < 4 := by
  simp only [State.opChange, State.diesIn, List.mem_filter, List.mem_range] at hd
  omega

theorem State.setPwr_mbx (s : State) (q : Pwr) (j : Fin 36) : (s.setPwr q).mbx j = s.mbx j := rfl

/-- A rise of VCORE leaves the registers of the dies' operating points, and shows what the change needs (R506). -/
theorem State.coreRaised_leaves (s : State) {need : Nat} (hneed : need < 1024) (k : OpChange) :
    (s.coreRaised need k).pwr.change.isSome = true ∧ (∀ j, (s.coreRaised need k).mbx j = s.mbx j) ∧
      (∀ d, (s.coreRaised need k).reg (Reg.PWR_DIE_OP d) = s.reg (Reg.PWR_DIE_OP d)) ∧ (s.coreRaised need k).fld Reg.PWR_VCORE 0 10 = need := by
  have hne : ∀ d, Reg.PWR_DIE_OP d ≠ Reg.PWR_VCORE := fun d => by
    simp only [Reg.PWR_DIE_OP, Reg.PWR_VCORE]
    omega
  refine ⟨rfl, fun j => ?_, fun d => ?_, ?_⟩
  · rw [State.coreRaised, State.setPwr_mbx, (s.coreSet_regsOnly need).mbx]
  · rw [State.coreRaised, State.setPwr_reg, s.reg_coreSet_ne need (hne d)]
  · rw [State.coreRaised, State.fld, State.setPwr_reg]
    exact s.fld_coreSet hneed

/-- A SET_OP that changes dies has begun: it waits, its dies are asked, and VCORE is as it was (R505). -/
def OpAskedFor (s u : State) (l : List Nat) (op : Nat) : Prop :=
  (∀ d ∈ l, u.Asks op d ∧ u.dieOp d = s.dieOp d) ∧ u.fld Reg.PWR_VCORE 0 10 = s.fld Reg.PWR_VCORE 0 10

theorem opsAsked_asks {u : State} (hop : op < 4) (l : List Nat) (hcur : CurOnly s u) : OpAskedFor s (u.opsAsked op l) l op := by
  refine ⟨fun d hd => ?_, ?_⟩
  · obtain ⟨hdie, hask⟩ := State.opsAsked_fields hop (d := d) l u
    exact ⟨hask (.inr hd), hdie.trans (curOnly_fld hcur _ 0 2)⟩
  · refine (fld_of_reg ((State.opsAsked_leaves l _).2 _ fun d _ => ?_) 0 10).trans (curOnly_fld hcur _ 0 10)
    simp only [Reg.PWR_DIE_OP, Reg.PWR_VCORE]
    omega

theorem OpAskedFor.fields {u t : State} {l : List Nat} (h : OpAskedFor s u l op) {d : Nat} (hd : d ∈ l)
    (hreg : t.reg (Reg.PWR_DIE_OP d) = u.reg (Reg.PWR_DIE_OP d)) :
    t.fld (Reg.PWR_DIE_OP d) 2 2 = op ∧ t.fld (Reg.PWR_DIE_OP d) 4 1 = 1 ∧ t.dieOp d = s.dieOp d := by
  obtain ⟨⟨htarget, hpending⟩, hdie⟩ := h.1 d hd
  exact ⟨(fld_of_reg hreg 2 2).trans htarget, (fld_of_reg hreg 4 1).trans hpending, (fld_of_reg hreg 0 2).trans hdie⟩

/-- What a SET_OP that changes a die leaves: VCORE is what the change needs, or rises to it (R505, R506). -/
theorem setOp_gives {u : State} (hu : OpAskedFor s u (s.opChange mask op) op) (k : OpChange) :
    let need := max s.needMv (opMv op)
    let t := if s.fld Reg.PWR_VCORE 0 10 < need then u.coreRaised need k else u.relockBegin k
    (∀ j, t.mbx j = u.mbx j) ∧ t.pwr.change.isSome = true ∧
      (∀ d ∈ s.opChange mask op, t.fld (Reg.PWR_DIE_OP d) 2 2 = op ∧ t.fld (Reg.PWR_DIE_OP d) 4 1 = 1 ∧ t.dieOp d = s.dieOp d) ∧
      s.fld Reg.PWR_VCORE 0 10 ≤ t.fld Reg.PWR_VCORE 0 10 ∧ opMv op ≤ t.fld Reg.PWR_VCORE 0 10 := by
  dsimp only
  split
  · next hrise =>
    have hneed : max s.needMv (opMv op) < 1024 := (max_le s.needMv_le (opMv_le op)).trans_lt (by decide)
    obtain ⟨hchange, hmbx, hreg, hvcore⟩ := u.coreRaised_leaves hneed k
    exact ⟨hmbx, hchange, fun d hd => hu.fields hd (hreg d), hrise.le.trans hvcore.ge, (le_max_right _ _).trans hvcore.ge⟩
  · next hrise =>
    obtain ⟨hchange, hmbx, hreg⟩ := u.relockBegin_leaves k
    have hvcore : (u.relockBegin k).fld Reg.PWR_VCORE 0 10 = s.fld Reg.PWR_VCORE 0 10 :=
      (fld_of_reg (hreg _ vcore_lt_clk) 0 10).trans hu.2
    refine ⟨hmbx, hchange, fun d hd => hu.fields hd (hreg _ ?_), hvcore.ge, (le_max_right _ _).trans ((not_lt.mp hrise).trans hvcore.ge)⟩
    have := opChange_lt hd
    simp only [Reg.PWR_DIE_OP, Reg.CLK_STEP]
    omega

end

end Sys2Proof.Machine
end

section
/-!
SUPPORT. SET_POWER of a partition (R494 to R496): RUN ends what held it, or leaves NAP, and HOLD and NAP ask for the hold.
-/
namespace Sys2Proof.Machine

open Sys2Proof Sys2Proof.Statements

section
variable {s : State} {m : Fin 36} {c : Cmd} {rest : List Cmd} {p : Nat} {n : Fin 8}

theorem exec_setPowerRun_of_inline (h : Inline s m 0x0404 c rest p) (hp : p < 2 ^ 16) (hstate : c.pay 1 1 = 0) :
    exec (.setPowerRun m) s = .next (s.powerRun m c) :=
  exec_of_cmdRow (i := .setPowerRun m) (f := formPower true) rfl h rfl (badPayload_of_bits 16 (by decide) hp) (by simp [hstate])

theorem exec_setPowerHold_of_inline (h : Inline s m 0x0404 c rest p) (hp : p < 2 ^ 16) (hstate : c.pay 1 1 = 1) :
    exec (.setPowerHold m) s = .next (s.powerHold m c) :=
  exec_of_cmdRow (i := .setPowerHold m) (f := formPower true) rfl h rfl (badPayload_of_bits 16 (by decide) hp) (by simp [hstate])

theorem exec_setPowerNap_of_inline (h : Inline s m 0x0404 c rest p) (hp : p < 2 ^ 16) (hstate : c.pay 1 1 = 2) :
    exec (.setPowerNap m) s = .next (s.powerNap m c) :=
  exec_of_cmdRow (i := .setPowerNap m) (f := formPower false) rfl h rfl (badPayload_of_bits 16 (by decide) hp) (by simp [hstate])

theorem exec_setPowerDormant_of_inline (h : Inline s m 0x0404 c rest p) (hp : p < 2 ^ 16) (hstate : c.pay 1 1 = 3) :
    exec (.setPowerDormant m) s = .next (s.powerDormant m c) :=
  exec_of_cmdRow (i := .setPowerDormant m) (f := formPower false) rfl h rfl (badPayload_of_bits 16 (by decide) hp) (by simp [hstate])

theorem badScope_of_part (hn : c.pay 0 1 = n.val) : c.badScope = false := by
  simp [Cmd.badScope, hn]

/-- What SET_POWER held the partition by on its own and the device's behalf ends (R494). -/
def State.unheld (s : State) (n : Fin 8) : State := s.setPwr { s.pwr with own := vset s.pwr.own n false, dev := vset s.pwr.dev n false }

theorem State.powerRun_eq (hn : c.pay 0 1 = n.val) (hstate : c.pay 1 1 = 0) : s.powerRun m c =
    if vget s.pwr.nap n ≠ .none then (s.unheld n).napLeave m c n else ((s.unheld n).releaseHold n).replyBlock m c n .ok 0 := by
  have hlt : c.pay 0 1 < 8 := hn ▸ n.isLt
  have hfin : (⟨c.pay 0 1, hlt⟩ : Fin 8) = n := Fin.ext hn
  unfold State.powerRun
  rw [if_neg (by simp [badScope_of_part hn]), if_neg (by omega), dif_pos hlt, hfin]
  rfl

theorem State.powerHold_eq (hn : c.pay 0 1 = n.val) (hrun : (s.part n).state = .running) (hnap : vget s.pwr.nap n = .none)
    (hheld : (s.part n).held = none) : s.powerHold m c =
      ((s.setPwr { s.pwr with own := vset s.pwr.own n true }).requestHold n).awaitHold m c [n] n.val 1 := by
  have hlt : c.pay 0 1 < 8 := hn ▸ n.isLt
  have hfin : (⟨c.pay 0 1, hlt⟩ : Fin 8) = n := Fin.ext hn
  unfold State.powerHold
  rw [if_neg (by simp [badScope_of_part hn]), dif_pos hlt, hfin]
  simp only [hrun, hnap, hheld, ne_eq, not_true_eq_false, if_false, Option.isSome_none, Bool.false_eq_true]

theorem State.powerNap_eq (hn : c.pay 0 1 = n.val) (hrun : (s.part n).state = .running) (hnap : vget s.pwr.nap n = .none) : s.powerNap m c =
      ((s.setPwr { s.pwr with nap := vset s.pwr.nap n .entering }).requestHold n).awaitHold m c [n] n.val 2 := by
  have hlt : c.pay 0 1 < 8 := hn ▸ n.isLt
  have hfin : (⟨c.pay 0 1, hlt⟩ : Fin 8) = n := Fin.ext hn
  unfold State.powerNap
  rw [if_neg (by simp [badScope_of_part hn]), dif_pos hlt, hfin]
  simp only [hrun, hnap, ne_eq, not_true_eq_false, if_false]

theorem State.releaseHold_partsBut (s : State) (n : Fin 8) : PartsBut s (s.releaseHold n) n := by
  unfold State.releaseHold
  split
  · exact partsBut_setPart s n _
  · exact partsBut_setPart s n _

theorem State.releaseHold_free (h : s.holdWanted n = false) : s.releaseHold n = s.modPart n fun p => { p with held := none, holdReq := false } := by
  rw [State.releaseHold, h]
  exact if_neg Bool.false_ne_true

theorem curOnly_partsBut {t u : State} (h : PartsBut s t n) (hu : CurOnly t u) : PartsBut s u n := fun k hk => by
  rw [State.part, curOnly_parts hu]
  exact h k hk

theorem curOnly_part {t : State} (h : CurOnly s t) (k : Fin 8) : t.part k = s.part k := by rw [State.part, curOnly_parts h, State.part]

theorem curOnly_pwr {t : State} (h : CurOnly s t) : t.pwr = s.pwr := by rw [h]

/-- RUN of a partition outside NAP: what held it ends, and it goes on unless the device holds it for DORMANT or a relock (R494). -/
theorem powerRun_goes_on (h : Turn s m 0x0404 c rest) (hnap : vget s.pwr.nap n = .none) :
    let t := ((s.unheld n).releaseHold n).replyBlock m c n .ok 0
    vget t.pwr.own n = false ∧ vget t.pwr.dev n = false ∧
      (vget s.pwr.dorm n = false → vget s.pwr.relock n = false → t.part n = { s.part n with held := none, holdReq := false }) ∧
      PartsBut s t n ∧ t.regs = s.regs ∧ Answered s t m c rest (t.rspBlock n .ok 0) := by
  have hparts := (s.unheld n).releaseHold_partsOnly n
  have hbut := (s.unheld n).releaseHold_partsBut n
  have hfree : vget s.pwr.dorm n = false → vget s.pwr.relock n = false →
      ((s.unheld n).releaseHold n).part n = { s.part n with held := none, holdReq := false } := fun hdorm hrelock => by
    have hwant : (s.unheld n).holdWanted n = false := by simp [State.holdWanted, State.unheld, hdorm, hrelock, hnap]
    rw [State.releaseHold_free hwant, State.part_modPart_self]
    rfl
  generalize (s.unheld n).releaseHold n = u at hparts hbut hfree ⊢
  have hcur : CurOnly u (u.replyBlock m c n .ok 0) := u.reply_curOnly ..
  have hpwr : (u.replyBlock m c n .ok 0).pwr = (s.unheld n).pwr := (curOnly_pwr hcur).trans hparts.pwr
  refine ⟨?_, ?_, fun hdorm hrelock => (curOnly_part hcur n).trans (hfree hdorm hrelock), curOnly_partsBut hbut hcur,
    (curOnly_regs hcur).trans hparts.regs, answered_block_of_turn h (hparts.mbx m) n .ok 0⟩
  · rw [hpwr]
    exact vget_vset_self ..
  · rw [hpwr]
    exact vget_vset_self ..

/-- RUN of a partition in NAP: it leaves NAP, and the command waits for that (R496). -/
theorem powerRun_leaves_nap (h : Inline s m 0x0404 c rest p) (hn : p % 256 = n.val) (hnap : vget s.pwr.nap n = .napping) :
    let t := (s.unheld n).napLeave m c n
    vget t.pwr.nap n = .leaving ∧ t.parts = s.parts ∧ t.regs = s.regs ∧ Waits s t m c rest (some n.val) false (.napExit n) := by
  have heq : (s.unheld n).napLeave m c n = ((s.unheld n).wait m c false (.napExit n)).setPwr
      { (s.unheld n).pwr with nap := vset (s.unheld n).pwr.nap n .leaving } := if_pos hnap
  have hwaits := part_of_inline h rfl hn ▸ wait_waits (t := s.unheld n) h.1 rfl false (.napExit n)
  dsimp only
  rw [heq]
  exact ⟨vget_vset_self .., rfl, rfl, hwaits⟩

/-- A hold that is asked for of a running partition that nothing holds (R495). -/
theorem State.requestHold_asks (hrun : (s.part n).state = .running) (hheld : (s.part n).held = none) (hb : (s.part n).bholds = []) :
    s.requestHold n = s.modPart n fun p => { p with holdReq := true } := by
  unfold State.requestHold
  simp [hrun, hheld, hb]

/-- HOLD and NAP ask for the hold, and the command waits until it acts (R476, R495). -/
theorem hold_asked (h : Inline s m 0x0404 c rest p) (hn : p % 256 = n.val) (hrun : (s.part n).state = .running)
    (hheld : (s.part n).held = none) (hb : (s.part n).bholds = []) (q : Pwr) (k : Nat) :
    let t := ((s.setPwr q).requestHold n).awaitHold m c [n] n.val k
    t.pwr = q ∧ t.part n = { s.part n with holdReq := true } ∧ PartsBut s t n ∧ t.regs = s.regs ∧
      Waits s t m c rest (some n.val) false (.hold [n.val] n.val k) := by
  have hask : (s.setPwr q).requestHold n = (s.setPwr q).modPart n fun p => { p with holdReq := true } :=
    State.requestHold_asks (s := s.setPwr q) hrun hheld hb
  have hpart : ((s.setPwr q).modPart n fun p => { p with holdReq := true }).part n = { s.part n with holdReq := true } :=
    State.part_modPart_self ..
  have hbut : PartsBut s ((s.setPwr q).modPart n fun p => { p with holdReq := true }) n := partsBut_setPart (s.setPwr q) n _
  have hmbx : ((s.setPwr q).modPart n fun p => { p with holdReq := true }).mbx m = s.mbx m := rfl
  have hpwr : ((s.setPwr q).modPart n fun p => { p with holdReq := true }).pwr = q := rfl
  have hregs : ((s.setPwr q).modPart n fun p => { p with holdReq := true }).regs = s.regs := rfl
  dsimp only
  rw [hask]
  generalize (s.setPwr q).modPart n (fun p => { p with holdReq := true }) = u at hpart hbut hmbx hpwr hregs ⊢
  have hwait : u.awaitHold m c [n] n.val k = u.wait m c false (.hold [n.val] n.val k) := by
    unfold State.awaitHold
    simp [hpart, hheld]
  have hcur := u.wait_curOnly m c false (.hold [n.val] n.val k)
  rw [hwait]
  exact ⟨(curOnly_pwr hcur).trans hpwr, (curOnly_part hcur n).trans hpart, curOnly_partsBut hbut hcur, (curOnly_regs hcur).trans hregs,
    part_of_inline h rfl hn ▸ wait_waits h.1 hmbx false _⟩

end

end Sys2Proof.Machine
end

section
/-!
SUPPORT. DORMANT and THERMAL_SHUTDOWN (R497, R498): the entry begins with every running partition marked, and leaves a mailbox whose commands do
not wait for a change of operating point.
-/
namespace Sys2Proof.Machine

open Sys2Proof Sys2Proof.Statements

section
variable {m k : Fin 36} (hk : k ≠ m)
include hk

theorem State.setMbx_mbx_ne (s : State) (x : Mbx) : (s.setMbx k x).mbx m = s.mbx m := vget_vset_ne _ _ hk.symm

theorem State.enterRsp_mbx_ne (s : State) (raw : BitVec 512) (notify : Bool) : (s.enterRsp k raw notify).mbx m = s.mbx m := by
  rw [State.enterRsp, State.mbxIrq_mbx, State.setMbx_mbx_ne hk]

theorem State.releaseHeldNotices_mbx_ne : ∀ (l : List (BitVec 512)) (s : State), (s.releaseHeldNotices k l).mbx m = s.mbx m
  | [], _ => rfl
  | raw :: r, s => by
    unfold State.releaseHeldNotices
    split
    · rw [State.releaseHeldNotices_mbx_ne r, State.enterRsp_mbx_ne hk, State.setMbx_mbx_ne hk]
    · rfl

theorem State.flushMbx_mbx_ne : ∀ (fuel : Nat) (s : State), (s.flushMbx k fuel).mbx m = s.mbx m
  | 0, _ => rfl
  | fuel + 1, s => by
    unfold State.flushMbx
    split
    · refine (State.flushMbx_mbx_ne fuel _).trans ?_
      split
      · split
        · rw [State.releaseHeldNotices_mbx_ne hk, State.setMbx_mbx_ne hk]
        · rw [State.enterRsp_mbx_ne hk, State.setMbx_mbx_ne hk]
      · exact State.setMbx_mbx_ne hk s _
    · rfl

/-- An answer leaves every other mailbox. -/
theorem State.answer_mbx_ne (s : State) (stamp : Nat) (r : Rsp) : (s.answer k stamp r).mbx m = s.mbx m :=
  (State.flushMbx_mbx_ne hk _ _).trans (State.setMbx_mbx_ne hk s _)

end

/-- A mailbox of whose commands none is answered stays as it is. -/
theorem State.answerAll_mbx {m : Fin 36} {f : State → Begun → Option Rsp} : ∀ (l : List (Fin 36 × Begun)) (s : State),
    (∀ x ∈ l, x.1 = m → ∀ t, f t x.2 = none) → (s.answerAll f l).mbx m = s.mbx m
  | [], _, _ => rfl
  | (k, b) :: r, s, h => by
    refine (State.answerAll_mbx r _ fun x hx => h x (List.mem_cons_of_mem _ hx)).trans ?_
    split
    · next x hx =>
      refine State.answer_mbx_ne (fun e => ?_) s _ x
      simp [h (k, b) List.mem_cons_self e s] at hx
    · rfl

theorem begun_of_mem_waiting {s : State} {x : Fin 36 × Begun} (h : x ∈ s.waiting) : x.2 ∈ (s.mbx x.1).begun := by
  obtain ⟨k, -, hx⟩ := List.mem_flatMap.mp h
  obtain ⟨b, hb, rfl⟩ := List.mem_map.mp hx
  exact (List.mem_filter.mp hb).1

section
variable {s : State}

theorem State.releaseHold_state (s : State) (n k : Fin 8) : ((s.releaseHold n).part k).state = (s.part k).state := by
  by_cases hk : k = n
  · subst hk
    unfold State.releaseHold
    split <;> rw [State.part_modPart_self]
  · rw [s.releaseHold_partsBut n k hk]

/-- The operating points of dies go back to the ones that they have (R454). -/
def State.opsDropped (s : State) (l : List Nat) : State :=
  l.foldl (fun (t : State) d => t.setFld (Reg.PWR_DIE_OP d) 2 3 (t.fld (Reg.PWR_DIE_OP d) 0 2)) s

theorem State.opsDropped_regsOnly : ∀ (l : List Nat) (s : State), RegsOnly s (s.opsDropped l)
  | [], s => .refl s
  | _ :: r, s => (RegsOnly.refl s).setFld.trans (State.opsDropped_regsOnly r _)

theorem foldl_releaseHold_state (k : Fin 8) : ∀ (l : List (Fin 8)) (s : State),
    ((l.foldl (fun (t : State) n => t.releaseHold n) s).part k).state = (s.part k).state
  | [], _ => rfl
  | n :: r, s => (foldl_releaseHold_state k r (s.releaseHold n)).trans (s.releaseHold_state n k)

/-- The dies and partitions of a change of operating point are free of it (R505). -/
def State.changeFreed (s : State) (l : List Nat) : State :=
  (List.finRange 8).foldl (fun (t : State) n => t.releaseHold n)
    ((s.opsDropped l).setPwr { (s.opsDropped l).pwr with change := none, relock := Vector.replicate 8 false })

theorem State.changeFreed_leaves (s : State) (l : List Nat) :
    (∀ n, ((s.changeFreed l).part n).state = (s.part n).state) ∧ ∀ m, (s.changeFreed l).mbx m = s.mbx m := by
  have hdrop := State.opsDropped_regsOnly l s
  unfold State.changeFreed
  generalize s.opsDropped l = t at hdrop ⊢
  refine ⟨fun n => ?_, fun m => (PartsOnly.foldl (fun (t : State) n => t.releaseHold_partsOnly n) _ _).mbx m |>.trans (hdrop.mbx m)⟩
  rw [foldl_releaseHold_state, State.setPwr_part, State.part, hdrop.parts, State.part]

theorem State.changeOver_eq (r : Rsp) {c : OpChange} (hc : s.pwr.change = some c) :
    ∃ f : State → Begun → Option Rsp, (∀ t b, (∀ k, b.wait ≠ .setOp k) → f t b = none) ∧
      s.changeOver r = (s.changeFreed c.dies).answerAll f (s.changeFreed c.dies).waiting := by
  unfold State.changeOver
  rw [hc]
  refine ⟨_, fun t b hb => ?_, rfl⟩
  split
  · next k hk => exact absurd hk (hb k)
  · rfl

/-- A change of operating point that is given up leaves the partitions' states, and a mailbox of which no command waits for such a change
(R454, R505). -/
theorem State.changeOver_leaves (s : State) (r : Rsp) : (∀ n, ((s.changeOver r).part n).state = (s.part n).state) ∧
    ∀ m, (∀ b ∈ (s.mbx m).begun, ∀ k, b.wait ≠ .setOp k) → (s.changeOver r).mbx m = s.mbx m := by
  cases hc : s.pwr.change with
  | none =>
    have heq : s.changeOver r = s := by
      unfold State.changeOver
      rw [hc]
    rw [heq]
    exact ⟨fun _ => rfl, fun _ _ => rfl⟩
  | some c =>
    obtain ⟨f, hf, heq⟩ := State.changeOver_eq r hc
    obtain ⟨hstate, hmbx⟩ := s.changeFreed_leaves c.dies
    rw [heq]
    refine ⟨fun n => ?_, fun m hm => (State.answerAll_mbx _ _ fun x hx hxm t => hf t x.2 (hm x.2 ?_)).trans (hmbx m)⟩
    · rw [curOnly_part (State.answerAll_curOnly ..) n, hstate n]
    · rw [← hmbx m, ← hxm]
      exact begun_of_mem_waiting hx

theorem vget_foldl_vset {n : Fin 8} : ∀ (l : List (Fin 8)) (v : Vector Bool 8), vget v n = true ∨ n ∈ l →
    vget (l.foldl (fun v n => vset v n true) v) n = true
  | [], _, h => h.resolve_right (by simp)
  | k :: r, v, h => by
    refine vget_foldl_vset r (vset v k true) ?_
    by_cases hk : n = k
    · subst hk
      exact .inl (vget_vset_self ..)
    · exact h.imp (fun h => (vget_vset_ne v true hk).trans h) fun h => (List.mem_cons.mp h).resolve_left hk

/-- A shutdown that comes during a change of operating point gives it up (R454). -/
def State.shutOver (s : State) : State := s.pwr.shut.elim s fun x => s.changeOver ⟨.superseded, 0, 48, x.1 % 2 ^ 64 * 2 ^ 320⟩

/-- The partitions that a DORMANT entry holds (R498). -/
def State.dormantRuns (s : State) : List (Fin 8) := (List.finRange 8).filter fun n => (s.part n).state == .running || s.catchingUp n

/-- The power unit of a DORMANT entry (R498, R500). -/
def State.dormantPwr (s : State) : Pwr :=
  { s.pwr with phase := .entering, since := s.lnk.timebase, wake := 0, wakes := 0, during := false, shut := none,
               dorm := s.dormantRuns.foldl (fun v n => vset v n true) s.pwr.dorm,
               ports := (List.range 8).filter fun i => s.fld (Reg.DEP_PORT_STATE i) 0 3 == 3 }

/-- The Registrar stops dispatch (R498). -/
def State.rgsStopped (s : State) : State := { s with rgs := { s.rgs with stopped := true } }

theorem State.dormantBegin_eq (s : State) : s.dormantBegin =
    s.shutOver.dormantRuns.foldl (fun (t : State) n => t.requestHold n) (s.shutOver.setPwr s.shutOver.dormantPwr).rgsStopped := by
  cases hs : s.pwr.shut with
  | none =>
    have hover : s.shutOver = s := by
      rw [State.shutOver, hs]
      rfl
    rw [hover]
    unfold State.dormantBegin
    rw [hs]
    rfl
  | some x =>
    have hover : s.shutOver = s.changeOver ⟨.superseded, 0, 48, x.1 % 2 ^ 64 * 2 ^ 320⟩ := by
      rw [State.shutOver, hs]
      rfl
    rw [hover]
    unfold State.dormantBegin
    rw [hs]
    rfl

theorem State.shutOver_leaves (s : State) : (∀ n, (s.shutOver.part n).state = (s.part n).state) ∧
    ∀ m, (∀ b ∈ (s.mbx m).begun, ∀ k, b.wait ≠ .setOp k) → s.shutOver.mbx m = s.mbx m := by
  unfold State.shutOver
  cases s.pwr.shut with
  | none => exact ⟨fun _ => rfl, fun _ _ => rfl⟩
  | some x => exact s.changeOver_leaves _

/-- A DORMANT entry begins: every running partition is marked, dispatch stops, no wake is latched, and a mailbox of which no command waits for
a change of operating point is left (R497, R498, R500). -/
theorem State.dormantBegin_gives (s : State) : s.dormantBegin.pwr.phase = .entering ∧ s.dormantBegin.rgs.stopped = true ∧
    s.dormantBegin.pwr.wakes = 0 ∧ (∀ n, (s.part n).state = .running → vget s.dormantBegin.pwr.dorm n = true) ∧
    ∀ m, (∀ b ∈ (s.mbx m).begun, ∀ k, b.wait ≠ .setOp k) → s.dormantBegin.mbx m = s.mbx m := by
  obtain ⟨hstate, hmbx⟩ := s.shutOver_leaves
  rw [s.dormantBegin_eq]
  generalize s.shutOver = u at hstate hmbx ⊢
  have hparts := PartsOnly.foldl (fun (t : State) n => t.requestHold_partsOnly n) u.dormantRuns (u.setPwr u.dormantPwr).rgsStopped
  generalize u.dormantRuns.foldl (fun (t : State) n => t.requestHold n) (u.setPwr u.dormantPwr).rgsStopped = t at hparts ⊢
  have hpwr : t.pwr = u.dormantPwr := hparts.pwr
  refine ⟨?_, ?_, ?_, fun n hn => ?_, fun m hm => (hparts.mbx m).trans (hmbx m hm)⟩
  · rw [hpwr]
    rfl
  · rw [hparts.rgs]
    rfl
  · rw [hpwr]
    rfl
  · rw [hpwr]
    exact vget_foldl_vset _ _ (.inr (List.mem_filter.mpr ⟨List.mem_finRange n, by simp [hstate n, hn]⟩))

end

section
variable {s : State} {m : Fin 36} {op : Nat} {c : Cmd} {rest : List Cmd}

theorem State.powerDormant_eq (hscope : c.pay 0 1 = 0xFF) (hspans : ∀ n, (s.part n).state = .running → (s.part n).eph.spans = false) :
    s.powerDormant m c = (s.wait m c false .dormant).dormantBegin := by
  have hnone : (List.finRange 8).any (fun n => (s.part n).state == .running && (s.part n).eph.spans) = false := by
    simp only [List.any_eq_false, Bool.and_eq_true, beq_iff_eq, not_and]
    rintro n - hrun hspan
    simp [hspans n hrun] at hspan
  unfold State.powerDormant
  rw [if_neg (by simp [Cmd.badScope, hscope]), if_neg (by simp [hscope]), if_neg (by simp [hnone])]

/-- A command that waits for the device's return from DORMANT still does when the entry begins. -/
theorem dormantBegin_waits {t : State} {part : Option Nat} {frees : Bool} (ht : Waits s t m c rest part frees .dormant) :
    Waits s t.dormantBegin m c rest part frees .dormant := by
  obtain ⟨-, -, -, -, hmbx⟩ := t.dormantBegin_gives
  refine waits_of_mbx ht (hmbx m fun b hb k => ?_)
  rw [ht] at hb
  rw [List.mem_singleton.mp hb]
  exact Wait.noConfusion

theorem exec_thermalShutdown_of_inline {p : Nat} (h : Inline s m 0x0405 c rest p) (hp : p = 0) :
    exec (.thermalShutdown m) s = .next ((s.begin m c none true .dormant).thermalShut c.stamp) :=
  exec_of_cmdRow (i := .thermalShutdown m) (act := fun s c => (s.begin m c none true .dormant).thermalShut c.stamp) rfl h rfl
    (badPayload_of_bits 0 (by decide) (by omega)) rfl

/-- A SAFETY command has been executed on partitions (R453). -/
def State.safetyNoted (s : State) (l : List (Fin 8)) (stamp : Nat) : State := l.foldl (fun (t : State) n => t.noteSafety n stamp) s

theorem State.safetyNoted_leaves (stamp : Nat) : ∀ (l : List (Fin 8)) (s : State), CurOnly s (s.safetyNoted l stamp) ∧
    ∀ k, (s.safetyNoted l stamp).mbx k = s.mbx k
  | [], s => ⟨curOnly_refl s, fun _ => rfl⟩
  | n :: r, s => by
    obtain ⟨hcur, hmbx⟩ := State.safetyNoted_leaves stamp r (s.noteSafety n stamp)
    exact ⟨curOnly_trans (t := s.noteSafety n stamp) rfl hcur, hmbx⟩

/-- A safety halt is asked of partitions (R497). -/
def State.safetyHalts (s : State) (l : List (Fin 8)) : State :=
  l.foldl (fun (t : State) n => t.modPart n fun p => { p with haltReqs := p.haltReqs ++ [.safety] }) s

theorem State.safetyHalts_part (n : Fin 8) : ∀ (l : List (Fin 8)) (s : State), l.Nodup → (s.safetyHalts l).part n =
    if n ∈ l then { s.part n with haltReqs := (s.part n).haltReqs ++ [.safety] } else s.part n
  | [], _, _ => rfl
  | k :: r, s, h => by
    obtain ⟨hk, hr⟩ := List.nodup_cons.mp h
    refine (State.safetyHalts_part n r _ hr).trans ?_
    by_cases hn : n = k
    · subst hn
      rw [if_neg hk, if_pos List.mem_cons_self, State.part_modPart_self]
    · have hsame : (s.modPart k fun p => { p with haltReqs := p.haltReqs ++ [.safety] }).part n = s.part n := State.part_setPart_ne s _ hn
      simp only [hsame, List.mem_cons, hn, false_or]

theorem State.safetyHalts_partsOnly (s : State) (l : List (Fin 8)) : PartsOnly s (s.safetyHalts l) :=
  PartsOnly.foldl (fun t n => PartsOnly.modPart t n _) l s

/-- The partitions that a thermal shutdown waits for, and its stamp. -/
def State.shutNoted (s : State) (stamp : Nat) (l : List (Fin 8)) : State := s.setPwr { s.pwr with shut := some (stamp, l.map fun n => n.val) }

theorem State.thermalShut_eq (s : State) (stamp : Nat) (hshut : s.pwr.shut = none) : s.thermalShut stamp =
    let left := s.loadedParts.filter s.live
    let t := ((s.safetyNoted s.loadedParts stamp).safetyHalts left).shutNoted stamp left
    if left.isEmpty ∧ t.pwr.phase = .run then t.dormantBegin else t := by
  unfold State.thermalShut
  rw [hshut]
  rfl

/-- A thermal shutdown asks every partition that runs to halt, and its command waits (R497). -/
theorem thermalShut_asks {u : State} (hcur : CurOnly s u) (hwaits : Waits s u m c rest none true .dormant) {left : List (Fin 8)}
    (hleft : left.Nodup) :
    let t := ((u.safetyNoted u.loadedParts c.stamp).safetyHalts left).shutNoted c.stamp left
    t.pwr = { s.pwr with shut := some (c.stamp, left.map fun n => n.val) } ∧
      (∀ n, t.part n = if n ∈ left then { s.part n with haltReqs := (s.part n).haltReqs ++ [.safety] } else s.part n) ∧
      t.regs = s.regs ∧ Waits s t m c rest none true .dormant := by
  obtain ⟨hnoted, hmbx⟩ := State.safetyNoted_leaves c.stamp u.loadedParts u
  generalize u.safetyNoted u.loadedParts c.stamp = v at hnoted hmbx ⊢
  have hv : CurOnly s v := curOnly_trans hcur hnoted
  have hparts := v.safetyHalts_partsOnly left
  have hpart := fun n => v.safetyHalts_part n left hleft
  generalize v.safetyHalts left = w at hparts hpart ⊢
  have hpwr : w.pwr = s.pwr := hparts.pwr.trans (curOnly_pwr hv)
  refine ⟨?_, fun n => ?_, ?_, waits_of_mbx hwaits ((hparts.mbx m).trans (hmbx m))⟩
  · rw [← hpwr]
    rfl
  · rw [← curOnly_part hv n]
    exact hpart n
  · exact hparts.regs.trans (curOnly_regs hv)

/-- The loaded partitions that a thermal shutdown halts (R497). -/
def State.shutLeft (s : State) : List (Fin 8) := s.loadedParts.filter s.live

theorem State.shutLeft_nodup (s : State) : s.shutLeft.Nodup := ((List.nodup_finRange 8).filter _).filter _

/-- A thermal shutdown with partitions to halt waits for them (R497). -/
theorem thermalShut_halts (h : Turn s m 0x0405 c rest) (hshut : s.pwr.shut = none) (hleft : s.shutLeft ≠ []) :
    let t := (s.begin m c none true .dormant).thermalShut c.stamp
    t.pwr.shut = some (c.stamp, s.shutLeft.map fun n => n.val) ∧
      (∀ n, t.part n = if n ∈ s.shutLeft then { s.part n with haltReqs := (s.part n).haltReqs ++ [.safety] } else s.part n) ∧
      t.regs = s.regs ∧ Waits s t m c rest none true .dormant := by
  have heq := State.thermalShut_eq (s.begin m c none true .dormant) c.stamp hshut
  obtain ⟨hpwr, hleaves⟩ := thermalShut_asks (s.begin_curOnly ..) (begin_waits h rfl none true .dormant) s.shutLeft_nodup
  dsimp only
  rw [heq, show (s.begin m c none true .dormant).loadedParts.filter (s.begin m c none true .dormant).live = s.shutLeft from rfl]
  dsimp only
  rw [if_neg fun hempty => hleft (List.isEmpty_iff.mp hempty.1)]
  exact ⟨by rw [hpwr], hleaves⟩

/-- With none to halt, the DORMANT entry begins (R497). -/
theorem thermalShut_enters (h : Turn s m 0x0405 c rest) (hshut : s.pwr.shut = none) (hleft : s.shutLeft = []) (hphase : s.pwr.phase = .run) :
    let t := (s.begin m c none true .dormant).thermalShut c.stamp
    t.pwr.phase = .entering ∧ Waits s t m c rest none true .dormant := by
  have heq := State.thermalShut_eq (s.begin m c none true .dormant) c.stamp hshut
  obtain ⟨hpwr, -, -, hwaits⟩ := thermalShut_asks (s.begin_curOnly ..) (begin_waits h rfl none true .dormant) s.shutLeft_nodup
  dsimp only
  rw [heq, show (s.begin m c none true .dormant).loadedParts.filter (s.begin m c none true .dormant).live = s.shutLeft from rfl]
  dsimp only
  rw [if_pos ⟨List.isEmpty_iff.mpr hleft, by rw [hpwr]; exact hphase⟩]
  exact ⟨(State.dormantBegin_gives _).1, dormantBegin_waits hwaits⟩

end

end Sys2Proof.Machine
end

section
/-!
SUPPORT. Metering and logbook commands (R476, R516, R518, R520, R523).
-/
namespace Sys2Proof.Machine

open Sys2Proof Sys2Proof.Statements

/-- A payload whose low and high parts lie in a byte and in a run of bits from `k` on. -/
theorem badPayload_of_two {a b k w : Nat} {used : List (Nat × Nat × Nat)} (hmask : layoutMask used = 255 + (2 ^ w - 1) * 2 ^ k) (hk : 8 ≤ k)
    (ha : a < 256) (hb : b < 2 ^ w) : badPayload (a + b * 2 ^ k) used = none := by
  have hbyte : 256 ≤ 2 ^ k := Nat.pow_le_pow_right (n := 2) (by decide) hk
  refine badPayload_of_land (land_of_parts (by omega) ?_ ?_) <;> rw [hmask]
  · rw [Nat.add_mul_mod_self_right, Nat.mod_eq_of_lt (by omega)]
    exact Nat.and_two_pow_sub_one_of_lt_two_pow (n := 8) ha
  · rw [Nat.add_mul_div_right _ _ (by omega), Nat.div_eq_of_lt (by omega), Nat.zero_add, Nat.and_two_pow_sub_one_of_lt_two_pow hb]

section
variable {s : State} {m : Fin 36} {c : Cmd} {rest : List Cmd} {p : Nat}

theorem exec_tallyRead_of_inline {n addr count : Nat} (h : Inline s m 0x0501 c rest (n + addr * 2 ^ 64 + count * 2 ^ 128)) (hn : n < 256)
    (haddr : addr < 2 ^ 64) (hcount : count < 2 ^ 32) : exec (.tallyRead m) s = .next (s.tallyRead m c) := by
  have hpay : n + addr * 2 ^ 64 + count * 2 ^ 128 = n + (addr + count * 2 ^ 64) * 2 ^ 64 := by omega
  rw [hpay] at h
  exact exec_of_cmdRow (i := .tallyRead m) rfl h rfl (badPayload_of_two (w := 96) (by decide) (by decide) hn (by omega)) rfl

theorem exec_tallyClock_of_inline (h : Inline s m 0x0502 c rest p) (hp : p < 2 ^ 64) :
    exec (.tallyClock m) s = .next ((s.tallyClock (c.pay 0 8)).reply m c (rspEmpty .ok 0)) :=
  exec_of_cmdRow (i := .tallyClock m) (act := fun s c => (s.tallyClock (c.pay 0 8)).reply m c (rspEmpty .ok 0)) rfl h rfl
    (badPayload_of_bits 64 (by decide) hp) rfl

theorem exec_lgbToken_of_inline (h : Inline s m 0x0504 c rest p) (hp : p < 2 ^ 256) (ok : Bool) : exec (.lgbToken m ok) s = .next
    (if ok then (s.setFld Reg.LGB_STATUS 0 1 1).reply m c ⟨.ok, 0, 1, 1⟩ else s.reply m c (rspEmpty .authFail 0)) :=
  exec_of_cmdRow (i := .lgbToken m ok)
    (act := fun s c => if ok then (s.setFld Reg.LGB_STATUS 0 1 1).reply m c ⟨.ok, 0, 1, 1⟩ else s.reply m c (rspEmpty .authFail 0)) rfl h rfl
    (badPayload_of_bits 256 (by decide) hp) rfl

/-- A TALLY_TENANT that names a partition (R516). -/
def State.tallyTenant (s : State) (m : Fin 36) (c : Cmd) (n : Fin 8) : State :=
  if s.live n then s.wait m c true (.tenant n (c.pay 4 4) none)
  else (s.setReg (Reg.TLY_TENANT n) (BitVec.ofNat 32 (c.pay 4 4))).replyBlock m c n .ok 0

theorem exec_tallyTenant_of_inline {n : Fin 8} {id : Nat} (h : Inline s m 0x0503 c rest (n.val + id * 2 ^ 32)) (hid : id < 2 ^ 32) :
    exec (.tallyTenant m) s = .next (s.tallyTenant m c n) := by
  have hn : c.pay 0 1 = n.val := by rw [pay_of_inline h]; omega
  have hlt : c.pay 0 1 < 8 := hn ▸ n.isLt
  have hfin : (⟨c.pay 0 1, hlt⟩ : Fin 8) = n := Fin.ext hn
  refine (exec_of_cmdRow (i := .tallyTenant m)
    (act := fun s c => if h : c.pay 0 1 < 8 then s.tallyTenant m c ⟨c.pay 0 1, h⟩ else s.reply m c (rspEmpty .range 1)) rfl h rfl
    (badPayload_of_two (w := 32) (by decide) (by decide) (by omega) hid) rfl).trans ?_
  rw [dif_pos hlt, hfin]

/-- The unread records that a TALLY_READ gives (R518). -/
def State.tallyGot (s : State) (n count : Nat) : List (Nat × Nat) :=
  (s.tly.unread.filter fun (x : Nat × Nat) => n == 0xFF || x.2 == n).take count

/-- Records are read and so reclaimable (R518). -/
def State.tallyTaken (s : State) (got : List (Nat × Nat)) : State :=
  { s with tly := { s.tly with unread := s.tly.unread.filter fun x => !got.contains x } }

theorem State.tallyRead_eq {n addr count : Nat} (hn : c.pay 0 1 = n) (hok : n < 8 ∨ n = 255) (haddr : c.pay 8 8 = addr) (h8 : addr % 8 = 0)
    (hcount : c.pay 16 4 = count) (hm : m.val < 23) :
    s.tallyRead m c = (s.tallyTaken (s.tallyGot n count)).reply m c ⟨.ok, 0, 4, (s.tallyGot n count).length⟩ := by
  have htenant : tenantOf m = none := dif_neg (by omega)
  unfold State.tallyRead
  simp only [hn, haddr, hcount, htenant]
  rw [if_neg (by omega), if_neg (by omega)]
  rfl

/-- Of the state only the metering unit has changed. -/
def TlyOnly (s t : State) : Prop := t = { s with tly := t.tly }

/-- An answer after a change of the metering unit alone. -/
theorem reply_of_tlyOnly {op : Nat} {u : State} (h : Turn s m op c rest) (hu : TlyOnly s u) (r : Rsp) :
    (u.reply m c r).tly = u.tly ∧ (u.reply m c r).regs = s.regs ∧ (u.reply m c r).parts = s.parts ∧ Answered s (u.reply m c r) m c rest r := by
  have hcur := u.reply_curOnly m c r
  have hmbx : u.mbx m = s.mbx m := by rw [hu]; rfl
  refine ⟨by rw [hcur], (curOnly_regs hcur).trans ?_, (curOnly_parts hcur).trans ?_, answered_of_turn h hmbx r⟩ <;> rw [hu]

theorem State.tallyTaken_tlyOnly (s : State) (got : List (Nat × Nat)) : TlyOnly s (s.tallyTaken got) := rfl

theorem State.tallyClock_tlyOnly (s : State) (v : Nat) : TlyOnly s (s.tallyClock v) := rfl

/-- The next tenant of a partition that does not run (R516). -/
theorem tallyTenant_gives {n : Fin 8} {id : Nat} (h : Turn s m 0x0503 c rest) (hid : id < 2 ^ 32) :
    let t := (s.setReg (Reg.TLY_TENANT n) (BitVec.ofNat 32 id)).replyBlock m c n .ok 0
    t.tenant n = id ∧ t.parts = s.parts ∧ RegsBut s t [Reg.TLY_TENANT n] ∧ Answered s t m c rest (t.rspBlock n .ok 0) := by
  have hreg := s.reg_setReg_self (Reg.TLY_TENANT n) (BitVec.ofNat 32 id)
  have hregs : RegsOnly s (s.setReg (Reg.TLY_TENANT n) (BitVec.ofNat 32 id)) := (RegsOnly.refl s).setReg
  have hbut := regsBut_setReg s (Reg.TLY_TENANT n) (BitVec.ofNat 32 id)
  generalize s.setReg (Reg.TLY_TENANT n) (BitVec.ofNat 32 id) = u at hreg hregs hbut ⊢
  have hcur : CurOnly u (u.replyBlock m c n .ok 0) := u.reply_curOnly ..
  refine ⟨?_, (curOnly_parts hcur).trans hregs.parts, regsBut_curOnly hbut hcur, answered_block_of_turn h (hregs.mbx m) n .ok 0⟩
  rw [State.tenant, curOnly_reg hcur, hreg, BitVec.toNat_ofNat, Nat.mod_eq_of_lt hid]

/-- A token of this device unlocks the logbook (R523). -/
theorem lgbToken_gives (h : Turn s m 0x0504 c rest) :
    let t := (s.setFld Reg.LGB_STATUS 0 1 1).reply m c ⟨.ok, 0, 1, 1⟩
    t.fld Reg.LGB_STATUS 0 1 = 1 ∧ t.parts = s.parts ∧ RegsBut s t [Reg.LGB_STATUS] ∧ Answered s t m c rest ⟨.ok, 0, 1, 1⟩ := by
  have hfld : (s.setFld Reg.LGB_STATUS 0 1 1).fld Reg.LGB_STATUS 0 1 = 1 := State.fld_setFld_self s 1 (by decide)
  have hregs : RegsOnly s (s.setFld Reg.LGB_STATUS 0 1 1) := (RegsOnly.refl s).setFld
  have hbut : RegsBut s (s.setFld Reg.LGB_STATUS 0 1 1) [Reg.LGB_STATUS] := regsBut_setFld_self s
  generalize s.setFld Reg.LGB_STATUS 0 1 1 = u at hfld hregs hbut ⊢
  have hcur : CurOnly u (u.reply m c ⟨.ok, 0, 1, 1⟩) := u.reply_curOnly ..
  exact ⟨(curOnly_fld hcur ..).trans hfld, (curOnly_parts hcur).trans hregs.parts, regsBut_curOnly hbut hcur,
    answered_of_turn h (hregs.mbx m) _⟩

end

end Sys2Proof.Machine
end

section
/-!
PROOF. The resource, reserve, power and metering commands, each from what its own command does.
-/
namespace Sys2Proof.Proofs

open Sys2Proof Sys2Proof.Machine Sys2Proof.Statements

/-- Settles O54: each command's row acts, by the lemma that says what its command does. -/
theorem resourceCommands : Obligations.ResourceCommands := by
  unfold Obligations.ResourceCommands
  intro s m c rest
  refine ⟨fun bank owner scrub hbank ho hkept hlent h => ?_, fun first count owner ro hpos hlen ho hnone hsegs => ⟨fun h => ?_, fun h => ?_⟩,
    fun k hpos hle h => ⟨fun hfew => ?_, fun hids => ?_⟩, fun id hid h => ⟨fun hfind => ?_, fun o hfind hother => ?_, fun hfind => ?_⟩,
    fun id off len data hid hoff hlen hend hown => ⟨fun h hfree sbe => ?_, fun h hclean => ?_⟩,
    fun kind id q n spare parity hkind hid hunit hspare hrival hholder hrun h => ?_, fun id hid hdie h hst => ?_,
    fun mask op hop hdies hsplit hdebug hen h => ?_,
    fun n => ⟨fun h => ⟨fun hnap => ?_, fun hnap => ?_⟩, fun hrun hnap hheld hb => ⟨fun h => ?_, fun h => ?_⟩⟩,
    fun h hspans => ?_, fun h hshut => ⟨fun hleft => ?_, fun hleft hphase => ?_⟩, fun n addr count hn haddr h8 hcount h => ?_,
    fun v hv h => ?_, fun n id hid h => ⟨fun hlive => ?_, fun hlive => ?_⟩, fun v hv h => ⟨?_, ?_⟩⟩
  · -- LOAN.
    have hlt := State.hasBank_lt hbank
    have hp : bank + owner * 2 ^ 16 + b2n scrub * 2 ^ 24 < 2 ^ 25 := by cases scrub <;> simp only [b2n] <;> simp <;> omega
    rw [exec_loan_of_inline h hp, State.loanCmd_eq hbank ho hkept h]
    by_cases hsame : owner = s.loanOwner bank ∧ scrub = false
    · obtain ⟨rfl, rfl⟩ := hsame
      rw [if_pos ⟨rfl, rfl⟩]
      obtain ⟨hparts, hown, herr, hans, hregs⟩ := loanCmd_stays ho hlent h.1
      exact ⟨_, rfl, hparts, hown, herr, fun _ _ => ⟨hans, hregs⟩, fun hnew => by simp at hnew⟩
    · rw [if_neg hsame]
      have hnew : owner ≠ s.loanOwner bank ∨ scrub = true := by simpa [imp_iff_not_or] using hsame
      obtain ⟨hparts, hown, herr, hwaits, hst, hprev, hscrub, hpool⟩ := loanCmd_moves hbank ho hlent hnew h
      exact ⟨_, rfl, hparts, hown, herr, fun h1 h2 => absurd ⟨h1, h2⟩ hsame, fun _ => ⟨hwaits, hst, hprev, hscrub, hpool⟩⟩
  · -- DEPOT_GRANT.
    have hro : b2n ro < 2 := by cases ro <;> decide
    have hpart : c.part = none := part_of_inline_none h (.inl rfl)
    have h4 : c.pay 4 1 = owner := by rw [pay_of_inline h]; omega
    have h5 : (c.pay 5 1 == 1) = ro := by
      rw [pay_of_inline h]
      cases ro <;> simp only [b2n] <;> simp <;> omega
    rw [exec_depotGrant_of_inline h (by omega), h4, h5, State.mapCmd_eq hlen ho (by rw [pay_of_inline h]; omega)
      (by rw [pay_of_inline h]; omega) hsegs]
    exact ⟨_, rfl, depotMapDue_gives hnone h.1 hpart ho hsegs⟩
  · -- DEPOT_RETURN.
    have hpart : c.part = none := part_of_inline_none h (.inl rfl)
    rw [exec_depotReturn_of_inline h (by omega), State.mapCmd_eq hlen (by decide) (by rw [pay_of_inline h]; omega)
      (by rw [pay_of_inline h]; omega) hsegs]
    exact ⟨_, rfl, depotMapDue_gives hnone h.1 hpart (by decide) hsegs⟩
  · -- BUF_ALLOC, with too few free buffers.
    rw [exec_bufAlloc_of_inline h (by omega), State.bufAlloc_eq (by rw [pay_of_inline h]; omega) hpos hle, if_pos hfew]
    exact ⟨_, rfl, reply_now h.1 _⟩
  · -- BUF_ALLOC.
    rw [exec_bufAlloc_of_inline h (by omega), State.bufAlloc_eq (by rw [pay_of_inline h]; omega) hpos hle, if_neg (by omega)]
    exact ⟨_, rfl, bufAlloc_gives h.1 k _⟩
  · -- BUF_FREE by the owner.
    rw [exec_bufFree_of_inline h hid, State.bufFree_own (by rw [pay_of_inline h]; omega) hfind]
    exact ⟨_, rfl, bufFree_gives h.1 id⟩
  · -- BUF_FREE by another mailbox.
    rw [exec_bufFree_of_inline h hid, State.bufFree_other (by rw [pay_of_inline h]; omega) hfind hother]
    exact ⟨_, rfl, badFree_gives h.1 id o⟩
  · -- BUF_FREE of a free buffer.
    rw [exec_bufFree_of_inline h hid, State.bufFree_none (by rw [pay_of_inline h]; omega) hfind]
    exact ⟨_, rfl, badFree_gives h.1 id 0x3F⟩
  · -- DMA, a write of a buffer.
    rw [← Nat.zero_add (id * 2 ^ 16)] at h
    obtain ⟨hok, hvlt, hstored, -⟩ := State.dmaBank_write (data := data) (sbe := sbe) (bank := id / 16) (word := id % 16 * 512 + off / 8)
      (len / 8) 0 s (by omega) fun j _ hj => hfree j (by omega)
    rw [exec_dma_of_inline h (by omega), State.dma_buf (write := true) (by decide) rfl hid hoff hlen hend hown h]
    generalize s.dmaBank (id / 16) (id % 16 * 512 + off / 8) true data none sbe 0 (len / 8) = r at hok hvlt hstored ⊢
    obtain ⟨u, _⟩ := r
    cases hok
    rw [State.dmaReply_ok u (len := len) (by omega)]
    obtain ⟨hword, hparts, hregs, hans⟩ := reply_of_vltOnly h.1 hvlt ⟨.ok, 0, 4, len⟩
    exact ⟨_, rfl, fun i hi => (hword _ _).trans (hstored i (by omega) (by omega)), hparts, hregs, hans⟩
  · -- DMA, a read of a buffer.
    rw [exec_dma_of_inline h (by omega), State.dma_buf (write := false) (by decide) rfl hid hoff hlen hend hown h,
      State.dmaBank_read (len / 8) 0 fun j _ hj => hclean j (by omega), State.dmaReply_ok s (len := len) (by omega)]
    exact ⟨_, rfl, reply_now h.1 _⟩
  · -- ACCESSION.
    rw [exec_accession_of_inline h (by omega), State.accession_waits hkind (by rw [pay_of_inline h]; omega) (by rw [pay_of_inline h]; omega)
      hunit hspare hrival hholder hrun]
    obtain ⟨hmem, hparts, hregs, hmbx⟩ := s.pended_leaves q
    have hcur := (s.pended q).begin_curOnly m c (some n.val) true (.accession n q.kind q.unit none 0)
    exact ⟨_, rfl, by rw [hcur]; exact hmem, (curOnly_parts hcur).trans hparts, regsBut_curOnly hregs hcur, begin_waits h.1 (hmbx m) ..⟩
  · -- DEACCESSION.
    rw [exec_deaccession_of_inline h (by omega)]
    exact ⟨_, rfl, deaccession_gives hid hdie hst h⟩
  · -- SET_OP.
    have hmask := mask.isLt
    have hpart : c.part = none := part_of_inline_none h (.inl rfl)
    rw [exec_setOp_of_inline h (by omega), State.setOp_eq (mask := mask) (op := op) (by rw [pay_of_inline h]; omega)
      (by rw [pay_of_inline h]; omega) hmask hop hdies hsplit hdebug hen]
    refine ⟨fun (hnone : s.opChange mask op = []) => ?_, fun (hsome : s.opChange mask op ≠ []) => ?_⟩
    · rw [if_pos (List.isEmpty_iff.mpr hnone)]
      exact ⟨_, rfl, reply_now h.1 _⟩
    · rw [if_neg fun hnil => hsome (List.isEmpty_iff.mp hnil)]
      have hasks := opsAsked_asks hop (s.opChange mask op) (s.wait_curOnly m c false (.setOp (maskOf (s.opChange mask op))))
      obtain ⟨hmbx, hchange, hfields, hcore, hneed⟩ := setOp_gives hasks (opBegun (s.opChange mask op) op)
      refine ⟨_, rfl, waits_of_mbx ?_ (hmbx m), hchange, hfields, hcore, hneed⟩
      exact waits_of_mbx (hpart ▸ wait_waits h.1 rfl false _) ((State.opsAsked_leaves _ _).1.mbx m)
  · -- SET_POWER RUN outside NAP.
    have hlt := n.isLt
    have hstate : c.pay 1 1 = 0 := by rw [pay_of_inline h]; omega
    rw [exec_setPowerRun_of_inline h (by omega) hstate, State.powerRun_eq (n := n) (by rw [pay_of_inline h]; omega) hstate,
      if_neg (by simp [hnap])]
    exact ⟨_, rfl, powerRun_goes_on h.1 hnap⟩
  · -- SET_POWER RUN in NAP.
    have hlt := n.isLt
    have hstate : c.pay 1 1 = 0 := by rw [pay_of_inline h]; omega
    rw [exec_setPowerRun_of_inline h (by omega) hstate, State.powerRun_eq (n := n) (by rw [pay_of_inline h]; omega) hstate,
      if_pos (by simp [hnap])]
    exact ⟨_, rfl, powerRun_leaves_nap h (by omega) hnap⟩
  · -- SET_POWER HOLD.
    have hlt := n.isLt
    rw [exec_setPowerHold_of_inline h (by omega) (by rw [pay_of_inline h]; omega),
      State.powerHold_eq (n := n) (by rw [pay_of_inline h]; omega) hrun hnap hheld]
    obtain ⟨hpwr, hasked⟩ := hold_asked h (by omega) hrun hheld hb { s.pwr with own := vset s.pwr.own n true } 1
    exact ⟨_, rfl, by rw [hpwr]; exact vget_vset_self .., hasked⟩
  · -- SET_POWER NAP.
    have hlt := n.isLt
    rw [exec_setPowerNap_of_inline h (by omega) (by rw [pay_of_inline h]; omega),
      State.powerNap_eq (n := n) (by rw [pay_of_inline h]; omega) hrun hnap]
    obtain ⟨hpwr, hasked⟩ := hold_asked h (by omega) hrun hheld hb { s.pwr with nap := vset s.pwr.nap n .entering } 2
    exact ⟨_, rfl, by rw [hpwr]; exact vget_vset_self .., hasked⟩
  · -- SET_POWER DORMANT.
    have hpart : c.part = none := part_of_inline_none h (.inr (by decide))
    rw [exec_setPowerDormant_of_inline h (by decide) (by rw [pay_of_inline h]; omega), State.powerDormant_eq (by rw [pay_of_inline h]; omega) hspans]
    obtain ⟨hphase, hstop, hwakes, hdorm, -⟩ := (s.wait m c false .dormant).dormantBegin_gives
    exact ⟨_, rfl, hphase, hstop, hwakes, hdorm, dormantBegin_waits (hpart ▸ wait_waits h.1 rfl false .dormant)⟩
  · -- THERMAL_SHUTDOWN with partitions to halt.
    rw [exec_thermalShutdown_of_inline h rfl]
    exact ⟨_, rfl, thermalShut_halts h.1 hshut hleft⟩
  · -- THERMAL_SHUTDOWN with none.
    rw [exec_thermalShutdown_of_inline h rfl]
    exact ⟨_, rfl, thermalShut_enters h.1 hshut hleft hphase⟩
  · -- TALLY_READ.
    rw [exec_tallyRead_of_inline h (by omega) haddr hcount, State.tallyRead_eq (n := n) (addr := addr) (count := count)
      (by rw [pay_of_inline h]; omega) hn (by rw [pay_of_inline h]; omega) h8 (by rw [pay_of_inline h]; omega) h.2.1]
    exact ⟨_, rfl, reply_of_tlyOnly h.1 (s.tallyTaken_tlyOnly _) _⟩
  · -- TALLY_CLOCK.
    have hclock : c.pay 0 8 = v := by rw [pay_of_inline h]; omega
    rw [exec_tallyClock_of_inline h hv, hclock]
    obtain ⟨htly, hkept⟩ := reply_of_tlyOnly h.1 (s.tallyClock_tlyOnly v) (rspEmpty .ok 0)
    exact ⟨_, rfl, by rw [htly]; rfl, by rw [htly]; rfl, by rw [htly]; rfl, hkept⟩
  · -- TALLY_TENANT of a partition that runs.
    have hlt := n.isLt
    have htenant : c.pay 4 4 = id := by rw [pay_of_inline h]; omega
    rw [exec_tallyTenant_of_inline h hid, State.tallyTenant, if_pos hlive, htenant]
    exact ⟨_, rfl, s.wait_curOnly .., part_of_inline (n := n) h rfl (by omega) ▸ wait_waits h.1 rfl true _⟩
  · -- TALLY_TENANT of one that does not.
    have hlt := n.isLt
    have htenant : c.pay 4 4 = id := by rw [pay_of_inline h]; omega
    rw [exec_tallyTenant_of_inline h hid, State.tallyTenant, if_neg (by simp [hlive]), htenant]
    exact ⟨_, rfl, tallyTenant_gives h.1 hid⟩
  · -- LGB_TOKEN that is not the device's.
    rw [exec_lgbToken_of_inline h hv, if_neg Bool.false_ne_true]
    exact ⟨_, rfl, reply_now h.1 _⟩
  · -- LGB_TOKEN.
    rw [exec_lgbToken_of_inline h hv, if_pos rfl]
    exact ⟨_, rfl, lgbToken_gives h.1⟩

end Sys2Proof.Proofs
end

section
/-!
SUPPORT. Requests (R208 to R210, R213, R216): a credit of an interface reads as it was set and leaves the others, and what a request finds and
leaves at each kind of endpoint once it has left the routers and spent its credit.
-/
namespace Sys2Proof.Machine

open Sys2Proof Sys2Proof.Statements

set_option Elab.async false

section
variable (s : State) (k : CreditKey)

theorem State.creditOf_key : (s.creditOf k).key = k := by
  unfold State.creditOf
  cases hf : s.noc.credits.find? (fun c => c.key == k) with
  | none => rfl
  | some c => simpa using List.find?_some hf

/-- The credit that was set reads as set, also where none is left and its entry goes. -/
theorem State.creditOf_setCredit_self {c : Credit} (h : c.key = k) : (s.setCredit c).creditOf k = c := by
  subst h
  have hrest : (s.noc.credits.filter fun x => x.key != c.key).find? (fun x => x.key == c.key) = none := by
    simp [List.find?_eq_none]
  unfold State.creditOf State.setCredit
  by_cases hnone : c.free = 0 ∧ c.used = 0
  · obtain ⟨key, free, used⟩ := c
    obtain ⟨rfl, rfl⟩ := hnone
    simp [hrest]
  · simp [hnone, List.find?_append, hrest]

/-- The credits of every other interface or endpoint stay. -/
theorem State.creditOf_setCredit_ne {c : Credit} (h : k ≠ c.key) : (s.setCredit c).creditOf k = s.creditOf k := by
  have hrest : (s.noc.credits.filter fun x => x.key != c.key).find? (fun x => x.key == k) = s.noc.credits.find? fun x => x.key == k := by
    rw [List.find?_filter]
    congr 1
    funext x
    by_cases hx : x.key = k
    · simp [hx, h]
    · simp [hx]
  have hc : (c.key == k) = false := beq_false_of_ne (Ne.symm h)
  unfold State.creditOf State.setCredit
  by_cases hnone : c.free = 0 ∧ c.used = 0
  · simp [hnone, hrest]
  · simp [hnone, List.find?_append, hrest, hc]

/-- A request that arrives has spent the credit on which it left, if one was noted (R213). -/
theorem State.used_spendCredit : ((s.spendCredit k).creditOf k).used = (s.creditOf k).used - 1 := by
  unfold State.spendCredit
  dsimp only
  split
  next hused => omega
  next =>
    have hkey : ({ s.creditOf k with used := (s.creditOf k).used - 1 } : Credit).key = k := s.creditOf_key k
    rw [s.creditOf_setCredit_self k hkey]

end

/-- The state as the endpoint of a request finds it: the packet has left the routers and its credit is spent (R205, R213). -/
def State.reached (s : State) (p : Pkt) : State := (s.takePkt p).spendCredit p.creditKey

section
variable {s : State} {p : Pkt}

theorem State.reached_eq (s : State) (p : Pkt) : ∃ c, s.reached p = (s.takePkt p).setCredits c := (s.takePkt p).spendCredit_eq _

theorem State.used_reached (s : State) (p : Pkt) : ((s.reached p).creditOf p.creditKey).used = (s.creditOf p.creditKey).used - 1 :=
  (s.takePkt p).used_spendCredit p.creditKey

theorem State.arriveReq_reached (hr : s.reaches p = true) :
    s.arriveReq p false = (s.reached p).requestAt p ((s.creditOf p.creditKey).used != 0) := by
  unfold State.arriveReq
  dsimp only
  rw [hr, if_neg (by decide)]
  rfl

theorem State.refuseAt_reached (hr : s.reaches p = true) : s.refuseAt p false = (s.reached p).respond p .range false [] := by
  unfold State.refuseAt
  dsimp only
  rw [hr, if_neg (by decide)]
  rfl

/-- A request for a bank that does not refuse it joins the queue of port N (R181). -/
theorem State.requestAt_bank (hep : p.ep < 4) {credited : Bool}
    (h : s.portNRefuses (bankAt p.dest p.ep) p.owner.code (p.sep == 14) credited = none) :
    s.requestAt p credited = { s with vlt := { s.vlt with qNoc := s.vlt.qNoc ++ [⟨bankAt p.dest p.ep, p.addr % 8192, p.words, p⟩] } } := by
  unfold State.requestAt State.bankArrive
  rw [if_pos hep]
  dsimp only
  rw [h]

/-- A request at the attach router of a depot port in use waits there for the map check (R209, R220). -/
theorem State.requestAt_port (hep : p.ep = 8) {i : Fin 8} (hi : s.portAt p.dest = some i) (credited : Bool) :
    s.requestAt p credited = s.setPort i { s.port i with arrived := (s.port i).arrived ++ [p] } := by
  unfold State.requestAt
  rw [if_neg (by omega), if_pos hep, hi]

/-- A write to a unit is taken, unless a flit of it is in error (R210, R216). -/
theorem State.requestAt_unit (hlow : 4 ≤ p.ep) (hep : p.ep ≠ 8) (hu : unitAt p.dest p.ep = true) (hop : p.op ≠ 0) (credited : Bool) :
    s.requestAt p credited =
      ({ s with noc := { s.noc with msgs := if p.derr then s.noc.msgs else s.noc.msgs ++ [p] } } : State).respond p .ok p.derr [] := by
  unfold State.requestAt
  rw [if_neg (by omega), if_neg hep, if_pos hu, if_neg hop]
  cases p.derr <;> rfl

/-- A router without the endpoint refuses with RANGE (R209). -/
theorem State.requestAt_unlisted (hlow : 4 ≤ p.ep) (hep : p.ep ≠ 8) (hu : unitAt p.dest p.ep = false) (credited : Bool) :
    s.requestAt p credited = s.respond p .range false [] := by
  unfold State.requestAt
  rw [if_neg (by omega), if_neg hep, if_neg (by simp [hu])]

end

section
variable {s : State} {p : Pkt} (hd : s.hasDie (p.dest / 64) = true) (hcls : classOk p.op p.cls = true)
include hd hcls

theorem arriveOp_of_class {op : Nat} (hop : p.op = op) (bad : Bool) : s.arriveOp op p bad = .next (s.arriveReq p bad) := by
  subst hop
  rw [State.arriveOp, hd, guardUnit_true, if_pos (by simp [Pkt.isOp, hcls])]

theorem exec_read (hop : p.op = 0) (bad : Bool) : exec (.read p bad) s = .next (s.arriveReq p bad) := arriveOp_of_class hd hcls hop bad

theorem exec_write (hop : p.op = 1) (bad : Bool) : exec (.write p bad) s = .next (s.arriveReq p bad) := arriveOp_of_class hd hcls hop bad

theorem exec_cfgWrite_taken (hop : p.op = 2) (hep : p.ep = 5) (bad : Bool) : exec (.cfgWrite ⟨p, bad⟩) s = .next (s.arriveReq p bad) :=
  (if_pos hep : execCfgWrite ⟨p, bad⟩ s = _).trans (arriveOp_of_class hd hcls hop bad)

theorem exec_cfgWrite_refused (hop : p.op = 2) (hep : p.ep ≠ 5) (bad : Bool) : exec (.cfgWrite ⟨p, bad⟩) s = .next (s.refuseAt p bad) := by
  refine (if_neg hep : execCfgWrite ⟨p, bad⟩ s = _).trans ?_
  rw [hd, guardUnit_true, if_pos (by simp [Pkt.isOp, hop ▸ hcls, hop])]

theorem exec_msg_taken (hop : p.op = 3) (hu : unitAt p.dest p.ep = true) (bad : Bool) :
    exec (.msg ⟨p, bad⟩) s = .next (s.arriveReq p bad) :=
  (if_pos hu : execMsg ⟨p, bad⟩ s = _).trans (arriveOp_of_class hd hcls hop bad)

theorem exec_msg_refused (hop : p.op = 3) (hu : unitAt p.dest p.ep = false) (bad : Bool) :
    exec (.msg ⟨p, bad⟩) s = .next (s.refuseAt p bad) := by
  refine (if_neg (Bool.eq_false_iff.mp hu) : execMsg ⟨p, bad⟩ s = _).trans ?_
  rw [hd, guardUnit_true, if_pos (by simp [Pkt.isOp, hop ▸ hcls, hop])]

/-- A request whose header is in error is dropped by the router that finds it, whatever its opcode, and its landing entry waits for the
timeout (R216). -/
theorem exec_request_lost {c : Instr} (hc : (p.op = 0 ∧ c = .read p true) ∨ (p.op = 1 ∧ c = .write p true) ∨
    (p.op = 2 ∧ c = .cfgWrite ⟨p, true⟩) ∨ (p.op = 3 ∧ c = .msg ⟨p, true⟩)) : exec c s = .next ((s.takePkt p).loseReq p) := by
  rcases hc with ⟨hop, rfl⟩ | ⟨hop, rfl⟩ | ⟨hop, rfl⟩ | ⟨hop, rfl⟩
  · exact exec_read hd hcls hop true
  · exact exec_write hd hcls hop true
  · by_cases hep : p.ep = 5
    · exact exec_cfgWrite_taken hd hcls hop hep true
    · exact exec_cfgWrite_refused hd hcls hop hep true
  · by_cases hu : unitAt p.dest p.ep = true
    · exact exec_msg_taken hd hcls hop hu true
    · exact exec_msg_refused hd hcls hop (Bool.eq_false_iff.mpr hu) true

/-- A request that reaches a unit that takes its opcode is performed, unless a flit of it is in error (R209, R210, R216). -/
theorem exec_unit_taken (hr : s.reaches p = true) {c : Instr} (hc : (p.op = 2 ∧ p.ep = 5 ∧ c = .cfgWrite ⟨p, false⟩) ∨
    (p.op = 3 ∧ 4 ≤ p.ep ∧ p.ep ≠ 8 ∧ unitAt p.dest p.ep = true ∧ c = .msg ⟨p, false⟩)) :
    exec c s = .next (({ s.reached p with noc := { (s.reached p).noc with
      msgs := if p.derr then (s.reached p).noc.msgs else (s.reached p).noc.msgs ++ [p] } } : State).respond p .ok p.derr []) := by
  rcases hc with ⟨hop, hep, rfl⟩ | ⟨hop, hlow, hep, hu, rfl⟩
  · rw [exec_cfgWrite_taken hd hcls hop hep, State.arriveReq_reached hr,
      State.requestAt_unit (by omega) (by omega) (by rw [hep]; rfl) (by omega)]
  · rw [exec_msg_taken hd hcls hop hu, State.arriveReq_reached hr, State.requestAt_unit hlow hep hu (by omega)]

/-- A CFG_WRITE or MSG at an endpoint that does not take it is refused with RANGE (R209). -/
theorem exec_unit_refused (hr : s.reaches p = true) {c : Instr} (hc : (p.op = 2 ∧ p.ep ≠ 5 ∧ c = .cfgWrite ⟨p, false⟩) ∨
    (p.op = 3 ∧ unitAt p.dest p.ep = false ∧ c = .msg ⟨p, false⟩)) :
    exec c s = .next ((s.reached p).respond p .range false []) := by
  rcases hc with ⟨hop, hep, rfl⟩ | ⟨hop, hu, rfl⟩
  · rw [exec_cfgWrite_refused hd hcls hop hep, State.refuseAt_reached hr]
  · rw [exec_msg_refused hd hcls hop hu, State.refuseAt_reached hr]

end

end Sys2Proof.Machine

namespace Sys2Proof.Proofs

open Sys2Proof Sys2Proof.Machine Sys2Proof.Statements

set_option Elab.async false

/-- Settles O17: a request that reaches its endpoint acts there by kind of endpoint, on the state without it and with its credit spent; one with
a bad header is lost. -/
theorem requestPacketsAtEndpoints : Obligations.RequestPacketsAtEndpoints := by
  unfold Obligations.RequestPacketsAtEndpoints
  refine fun s p hd hcls => ⟨fun hr => ⟨fun c hc => ?_, fun c hc => ⟨_, exec_unit_taken hd hcls hr hc, ?_⟩,
    fun c hc => ⟨_, exec_unit_refused hd hcls hr hc, ?_⟩⟩, fun c hc => ⟨_, exec_request_lost hd hcls hc, rfl, rfl, rfl, rfl, rfl⟩⟩
  · have hexec : exec c s = .next ((s.reached p).requestAt p ((s.creditOf p.creditKey).used != 0)) := by
      rw [← State.arriveReq_reached hr]
      rcases hc with ⟨hop, rfl⟩ | ⟨hop, rfl⟩
      exacts [exec_read hd hcls hop false, exec_write hd hcls hop false]
    have hused := s.used_reached p
    obtain ⟨cr, hcr⟩ := s.reached_eq p
    refine ⟨fun hep hroom => ⟨_, hexec, ?_⟩, fun i hep hi => ⟨_, hexec, ?_⟩, fun hlow hep hu => ⟨_, hexec, ?_⟩⟩
    · rw [State.requestAt_bank hep (by rw [hcr]; exact hroom)]
      refine ⟨?_, ?_, hused, ?_, ?_, ?_⟩ <;> rw [hcr] <;> rfl
    · rw [State.requestAt_port hep (by rw [hcr]; exact hi), State.port_setPort_self, hcr]
      exact ⟨rfl, rfl, rfl, rfl, rfl⟩
    · rw [State.requestAt_unlisted hlow hep hu, hcr]
      exact ⟨rfl, rfl, rfl, rfl, rfl⟩
  · have hop : p.op ≠ 0 := by omega
    obtain ⟨cr, hcr⟩ := s.reached_eq p
    rw [State.respond_pkts, if_neg hop, hcr]
    exact ⟨rfl, rfl, rfl, rfl, rfl⟩
  · have hop : p.op ≠ 0 := by omega
    obtain ⟨cr, hcr⟩ := s.reached_eq p
    rw [State.respond_pkts, if_neg hop, hcr]
    exact ⟨rfl, rfl, rfl, rfl, rfl⟩

end Sys2Proof.Proofs
end

section
/-!
SUPPORT. Credits, ages and arbiters (R211 to R215, R206): what asking for credit and its reply leave (the credits asked for or granted stand in
ADDR by log entry 132, and an ask that reaches its endpoint is answered in the same step by log entry 147, DESIGN CHOICES), and which flit an
arbiter of the model's NoC cycle serves (log entry 146, DESIGN CHOICE).
-/
namespace Sys2Proof.Machine

open Sys2Proof Sys2Proof.Statements

set_option Elab.async false

section
variable {s : State} {src dest : BitVec 8} (hs : s.hasDie (src.toNat / 64) = true) (hd : s.hasDie (dest.toNat / 64) = true)
include hs hd

theorem exec_creditReq (sep ep : Fin 16) (w : CreditAsk) :
    exec (.creditReq src sep dest ep w) s = .next (s.creditReq ⟨src.toNat, sep.val, dest.toNat, ep.val, w.ctrl⟩ w.credits w.hdrBad) :=
  congrArg (guardUnit s · _) (Bool.and_eq_true_iff.mpr ⟨hs, hd⟩)

theorem exec_creditReply (sep ep : Fin 16) (a : Arrival) : exec (.creditReply src sep dest ep a) s =
    .next (s.creditReply ⟨src.toNat, sep.val, dest.toNat, ep.val, a.pkt.cls == 0⟩ a.pkt a.hdrBad) :=
  congrArg (guardUnit s · _) (Bool.and_eq_true_iff.mpr ⟨hs, hd⟩)

theorem exec_creditReturn (sep ep : Fin 16) (ctrl : Bool) : exec (.creditReturn src sep dest (ep, ctrl)) s =
    .next (s.setCredit { s.creditOf ⟨src.toNat, sep.val, dest.toNat, ep.val, ctrl⟩ with free := 0 }) :=
  congrArg (guardUnit s · _) (Bool.and_eq_true_iff.mpr ⟨hs, hd⟩)

end

section
variable {s : State} {k : CreditKey}

/-- What an endpoint's credit unit answers with: the credits asked for, or RETRY (R213). -/
theorem State.grant_cases (s : State) (k : CreditKey) (want : Nat) :
    (want ≤ k.capacity - s.queueUsed k - s.creditsOut k ∧ s.grantsNone k.dest k.ep = false → s.grant k want = want) ∧
      (¬ (want ≤ k.capacity - s.queueUsed k - s.creditsOut k ∧ s.grantsNone k.dest k.ep = false) → s.grant k want = 0) :=
  ⟨fun h => if_pos h, fun h => if_neg h⟩

/-- The ask of a unit that first asks for a credit. -/
def firstAsk (k : CreditKey) (want tag : Nat) : Ask := ⟨k, want, tag, 0, false, none⟩

/-- A unit asks anew where its interface has a landing entry free and none of its asks was refused (R211, R213). -/
theorem State.askCredit_first {tag : Nat} (htag : s.freeLanding k.src k.sep = some tag)
    (hnew : ∀ a ∈ s.noc.asks, a.key = k → a.refused = false) (want : Nat) :
    s.askCredit k want = (s.setAsks (s.noc.asks ++ [firstAsk k want tag]), some (firstAsk k want tag)) := by
  have hnone : s.noc.asks.find? (fun a => a.key == k && a.refused) = none := by
    rw [List.find?_eq_none]
    intro a ha hmatch
    obtain ⟨hkey, href⟩ := Bool.and_eq_true_iff.mp hmatch
    exact Bool.false_ne_true ((hnew a ha (beq_iff_eq.mp hkey)).symm.trans href)
  unfold State.askCredit
  rw [htag]
  dsimp only
  rw [hnone]
  rfl

theorem State.creditReq_first {tag : Nat} (hheld : s.heldReq 4 k = none) (htag : s.freeLanding k.src k.sep = some tag)
    (hnew : ∀ a ∈ s.noc.asks, a.key = k → a.refused = false) (want : Nat) (bad : Bool) : s.creditReq k want bad =
      if bad = true then s.setAsks (s.noc.asks ++ [firstAsk k want tag])
      else (s.setAsks (s.noc.asks ++ [firstAsk k want tag])).grantReply (firstAsk k want tag) := by
  unfold State.creditReq
  rw [hheld]
  dsimp only
  rw [State.askCredit_first htag hnew]

/-- A unit learns RETRY, and its ask keeps its age for the next time (R211, R213). -/
theorem State.askRetry_unit {a : Ask} (h : a.pkt = none) : s.askRetry a =
    { s with noc := { s.noc with
      asks := s.noc.asks.map fun x => if x == a then { a with refused := true } else x
      landed := s.noc.landed ++ [⟨a.key.src, a.key.sep, a.tag, Status.retry.code, false, []⟩] } } := by
  unfold State.askRetry
  rw [h]
  rfl

/-- RETRY reaches the unit that asked (R213). -/
theorem State.creditReply_retry {req p : Pkt} {a : Ask} (hheld : s.heldReq 10 k = some p) (hask : s.askOf k.src k.sep p.tag = some a)
    (hnone : p.addr = 0) : s.creditReply k req false = (s.takePkt p).askRetry a := by
  have htaken : (s.takePkt p).askOf k.src k.sep p.tag = some a := hask
  unfold State.creditReply
  rw [hheld]
  dsimp only
  rw [if_neg Bool.false_ne_true, htaken]
  dsimp only
  rw [if_pos hnone]

/-- The request that a grant lets leave: of the key's interface to its endpoint, with the age of its ask (R211). -/
def Pkt.granted (req : Pkt) (k : CreditKey) (age : Nat) : Pkt :=
  { req with src := k.src, sep := k.sep, dest := k.dest, ep := k.ep, age := age }

/-- The state in which a grant has landed: its reply is taken, its ask is over, and the interface has the credits (R213). -/
def State.grantLanded (s : State) (k : CreditKey) (p : Pkt) (a : Ask) : State :=
  ((s.takePkt p).setAsks (s.noc.asks.erase a)).setCredit { s.creditOf k with free := (s.creditOf k).free + p.addr }

theorem State.creditOf_grantLanded (p : Pkt) (a : Ask) :
    (s.grantLanded k p a).creditOf k = { s.creditOf k with free := (s.creditOf k).free + p.addr } :=
  ((s.takePkt p).setAsks (s.noc.asks.erase a)).creditOf_setCredit_self k (s.creditOf_key k)

/-- The request of a grant leaves on one of its credits (R213). -/
theorem State.creditReply_granted {req p : Pkt} {a : Ask} (hheld : s.heldReq 10 k = some p) (hask : s.askOf k.src k.sep p.tag = some a)
    (hunit : a.pkt = none) (hsome : p.addr ≠ 0) (hkey : (req.granted k a.age).creditKey = k)
    (hmay : (s.setAsks (s.noc.asks.erase a)).mayLeave (req.granted k a.age) = true) :
    s.creditReply k req false = (s.grantLanded k p a).leave (req.granted k a.age) := by
  have htaken : (s.takePkt p).askOf k.src k.sep p.tag = some a := hask
  have hlanded : ((s.takePkt p).setAsks ((s.takePkt p).noc.asks.erase a)).addCredit k p.addr = s.grantLanded k p a := if_neg hsome
  have hfree : ((s.grantLanded k p a).creditOf k).free ≠ 0 := by
    rw [State.creditOf_grantLanded]
    exact fun h => hsome (Nat.eq_zero_of_add_eq_zero_left h)
  unfold State.creditReply
  rw [hheld]
  dsimp only
  rw [if_neg Bool.false_ne_true, htaken]
  dsimp only
  rw [if_neg hsome, hlanded, hunit]
  exact if_pos ⟨hfree, hmay, hkey⟩

theorem State.grantLanded_eq (s : State) (k : CreditKey) (p : Pkt) (a : Ask) : ∃ c, s.grantLanded k p a =
    { s with noc := { s.noc with pkts := dropPkt s.noc.pkts p, asks := s.noc.asks.erase a, credits := c } } := ⟨_, rfl⟩

/-- A request that leaves is launched, and a landing entry waits for its response (R213). -/
theorem State.leave_eq (s : State) (r : Pkt) : ∃ c, s.leave r = { s with noc := { s.noc with
    pkts := s.noc.pkts ++ [r.launch], credits := c
    landing := s.noc.landing ++ [⟨r.src, r.sep, r.tag, r.dest, r.ep, r.op, r.cls == 0, false⟩] } } := ⟨_, rfl⟩

/-- A request that leaves has used one of its interface's credits (R213). -/
theorem State.creditOf_leave (r : Pkt) : (s.leave r).creditOf r.creditKey =
    { s.creditOf r.creditKey with free := (s.creditOf r.creditKey).free - 1, used := (s.creditOf r.creditKey).used + 1 } :=
  s.creditOf_setCredit_self r.creditKey (s.creditOf_key r.creditKey)

end

section
variable {s : State}

/-- What a flight wants is among what the arbiters choose from. -/
theorem mem_wants_of_idx {b : Want} {g : Flight} (hg : s.noc.pkts[b.idx]? = some g) (hb : b ∈ s.wants b.idx g) :
    b ∈ (s.noc.pkts.zip (List.range s.noc.pkts.length)).flatMap fun x : Flight × Nat => s.wants x.2 x.1 := by
  obtain ⟨hlt, hget⟩ := List.getElem?_eq_some_iff.mp hg
  refine List.mem_flatMap.mpr ⟨(g, b.idx), List.mem_of_getElem? (i := b.idx) ?_, hb⟩
  simpa [hlt] using hget

/-- Of two flits that want one output of a router, the one that an arbiter serves is the other or is served before it (R212). -/
theorem served_before {a b : Want} {g : Flight} (ha : a ∈ s.served) (hg : s.noc.pkts[b.idx]? = some g) (hb : b ∈ s.wants b.idx g)
    (hlink : b.link = a.link) : b = a ∨ s.serves a b = true := by
  have hall := List.all_eq_true.mp (List.mem_filter.mp ha).2 b (mem_wants_of_idx hg hb)
  simpa [hlink] using hall

/-- An arbiter serves by urgency, then by age (R212). -/
theorem urgency_age_of_serves {a b : Want} {f g : Flight} (h : s.serves a b = true) (hf : s.noc.pkts[a.idx]? = some f)
    (hg : s.noc.pkts[b.idx]? = some g) :
    s.urgency g.pkt ≤ s.urgency f.pkt ∧ (s.urgency g.pkt = s.urgency f.pkt → g.pkt.age ≤ f.pkt.age) := by
  unfold State.serves at h
  rw [hf, hg] at h
  dsimp only at h
  split at h
  next hurg =>
    have hlt : s.urgency g.pkt < s.urgency f.pkt := of_decide_eq_true h
    exact ⟨hlt.le, fun he => absurd he.symm hurg⟩
  next hurg =>
    refine ⟨(not_not.mp hurg).ge, fun _ => ?_⟩
    split at h
    next => exact (of_decide_eq_true h).le
    next hage => exact (not_not.mp hage).ge

/-- A NoC cycle moves flits, and changes no packet. -/
theorem State.nocCycle_pkts (s : State) : s.nocCycle.noc.pkts.map (·.pkt) = s.noc.pkts.map (·.pkt) := by
  unfold State.nocCycle
  split
  · rfl
  · have hpkt : ((fun f : Flight => f.pkt) ∘ fun x : Flight × Nat =>
        x.1.moved (s.headCycles x.1) (s.served.filter fun w => w.idx == x.2)) = (fun f : Flight => f.pkt) ∘ Prod.fst := rfl
    dsimp only
    rw [List.map_map, hpkt, ← List.map_map, List.map_fst_zip (by simp)]

theorem State.nocCycle_frame (s : State) : s.nocCycle = { s with noc := s.nocCycle.noc } := by
  unfold State.nocCycle
  split <;> rfl

end

end Sys2Proof.Machine

namespace Sys2Proof.Proofs

open Sys2Proof Sys2Proof.Machine Sys2Proof.Statements

set_option Elab.async false

/-- An ask is answered with all the credits it asks for, or with none and RETRY; one with a bad header is dropped. -/
theorem creditRequests : CreditRequests := by
  intro s src dest sep ep ctrl want tag hs hd k hheld htag hnew fits
  refine ⟨?_, _, exec_creditReq hs hd sep ep ⟨want, ctrl, true⟩, ?_⟩
  · obtain ⟨hfits, hfull⟩ := s.grant_cases k want
    refine ⟨_, creditPkt 10 k (s.grant k want) tag 0 (if s.grant k want = 0 then Status.retry.code else 0),
      exec_creditReq hs hd sep ep ⟨want, ctrl, false⟩, ?_⟩
    rw [State.creditReq_first hheld htag hnew, if_neg Bool.false_ne_true]
    refine ⟨rfl, rfl, rfl, rfl, rfl, rfl, rfl, rfl, rfl, rfl, rfl, hfits, fun hno => ?_⟩
    rw [hfull hno]
    exact ⟨rfl, rfl⟩
  · rw [State.creditReq_first hheld htag hnew, if_pos rfl]
    exact ⟨rfl, rfl⟩

/-- A reply without credits lands as RETRY; with credits its request leaves on one of them. -/
theorem creditReplies : CreditReplies := by
  intro s src dest sep ep req p a hs hd k hheld hask hkey hunit
  have hexec := exec_creditReply hs hd sep ep ⟨req, false⟩
  refine ⟨fun hnone => ⟨_, hexec, ?_⟩, ?_⟩
  · rw [State.creditReply_retry hheld hask hnone, State.askRetry_unit hunit, hkey]
    exact ⟨rfl, rfl, rfl⟩
  · intro hsome r hmay
    refine ⟨_, hexec, ?_⟩
    rw [State.creditReply_granted hheld hask hunit hsome rfl hmay]
    have hcredit := (s.grantLanded k p a).creditOf_leave (req.granted k a.age)
    rw [show (req.granted k a.age).creditKey = k from rfl, State.creditOf_grantLanded] at hcredit
    obtain ⟨_, hleave⟩ := (s.grantLanded k p a).leave_eq (req.granted k a.age)
    obtain ⟨_, hlanded⟩ := s.grantLanded_eq k p a
    rw [hcredit, hleave, hlanded]
    exact ⟨rfl, rfl, rfl, rfl, rfl, rfl⟩

/-- Unused credits go, and an age tick raises the ages of packets and of asks, and nothing else. -/
theorem creditsReturnAndAges : CreditsReturnAndAges := by
  refine ⟨?_, fun s => ⟨_, rfl, rfl, ?_, ?_, ?_⟩⟩
  · intro s src dest sep ep ctrl hs hd k
    have hkey : ({ s.creditOf k with free := 0 } : Credit).key = k := s.creditOf_key k
    refine ⟨_, exec_creditReturn hs hd sep ep ctrl, rfl, ?_⟩
    rw [s.creditOf_setCredit_self k hkey]
    exact ⟨rfl, rfl, fun k' hne => s.creditOf_setCredit_ne k' (hkey.symm ▸ hne)⟩
  all_goals exact List.map_map.trans rfl

/-- The flit served wins by urgency and age over every other that wants its output; a cycle keeps the packets. -/
theorem arbitersServeUrgencyThenAge : ArbitersServeUrgencyThenAge := by
  refine ⟨fun s a f g b ha hf hg hb hlink => ?_, fun s => ⟨s.nocCycle_pkts, s.nocCycle_frame⟩⟩
  rcases served_before ha hg hb hlink with rfl | hserves
  · obtain rfl : f = g := Option.some.inj (hf.symm.trans hg)
    exact ⟨le_rfl, fun _ => le_rfl⟩
  · exact urgency_age_of_serves hserves hf hg

/-- Settles O18: its four parts, asks, replies, returns with the age tick, and arbiters. -/
theorem creditsAndAges : Obligations.CreditsAndAges := by
  unfold Obligations.CreditsAndAges
  exact ⟨creditRequests, creditReplies, creditsReturnAndAges, arbitersServeUrgencyThenAge⟩

end Sys2Proof.Proofs
end

section
/-!
SUPPORT. Routes (R205, R207, R230): the way round a ring with its links open or closed, and what a packet does next at a router; it keeps its
direction on its way by log entry 146 (DESIGN CHOICE).
-/
namespace Sys2Proof.Machine

open Sys2Proof Sys2Proof.Statements

set_option Elab.async false

section
variable {s : State}

theorem State.wayOpen_of_linkOpen (h : ∀ u d, s.linkOpen u d = true) (dir : Nat) : ∀ k t, s.wayOpen dir k t = true
  | 0, _ => rfl
  | k + 1, t => by rw [State.wayOpen, h, State.wayOpen_of_linkOpen h dir k, Bool.and_self]

theorem ringUp_lt {size : Nat} (h : 0 < size) (at_ dst : Nat) : ringUp size at_ dst < size := Nat.mod_lt _ h

theorem State.dimY_cases (s : State) : s.dimY = 8 ∨ s.dimY = 16 := by
  unfold State.dimY
  split
  exacts [.inl rfl, .inr rfl]

/-- The shorter way round a ring, as direction and hops; the positive way at half the ring (R205). -/
def shortWay (dim size up : Nat) : Nat × Nat := if up ≤ size - up then (2 * dim, up) else (2 * dim + 1, size - up)

/-- The other way round. -/
def longWay (dim size up : Nat) : Nat × Nat := if up ≤ size - up then (2 * dim + 1, size - up) else (2 * dim, up)

theorem State.ringWay_eq (s : State) (t dim size up : Nat) : s.ringWay t dim size up =
    if s.wayOpen (shortWay dim size up).1 (shortWay dim size up).2 t then some (shortWay dim size up).1
    else if s.wayOpen (longWay dim size up).1 (longWay dim size up).2 t then some (longWay dim size up).1
    else none := by
  unfold State.ringWay shortWay longWay
  split <;> rfl

/-- With every link open a packet takes the shorter way round, and the positive way at half the ring (R205, R230). -/
theorem State.ringWay_of_linkOpen (h : ∀ u d, s.linkOpen u d = true) (t dim : Nat) {size up : Nat} (heven : size % 2 = 0) (hup : up < size) :
    s.ringWay t dim size up = some (if up ≤ size / 2 then 2 * dim else 2 * dim + 1) := by
  have hhalf : up ≤ size - up ↔ up ≤ size / 2 := by omega
  rw [State.ringWay_eq, if_pos (State.wayOpen_of_linkOpen h ..), shortWay]
  simp only [hhalf]
  split <;> rfl

section
variable {t input dest : Nat}

/-- A packet that has to go in X keeps the direction in which it entered, or enters (R205). -/
theorem State.nextDir_x (hx : ringUp 16 (nocX t) (nocX dest) ≠ 0) : s.nextDir t input dest =
    if input < 2 then some (opposite input) else s.ringWay t 0 16 (ringUp 16 (nocX t) (nocX dest)) := if_pos hx

/-- A packet that has done X goes in Y (R205). -/
theorem State.nextDir_y (hx : ringUp 16 (nocX t) (nocX dest) = 0) (hy : ringUp s.dimY (nocY t) (nocY dest) ≠ 0) : s.nextDir t input dest =
    if 2 ≤ input ∧ input < 4 then some (opposite input) else s.ringWay t 1 s.dimY (ringUp s.dimY (nocY t) (nocY dest)) :=
  (if_neg (not_not.mpr hx)).trans (if_pos hy)

/-- At its destination a packet goes out. -/
theorem State.nextDir_out (hx : ringUp 16 (nocX t) (nocX dest) = 0) (hy : ringUp s.dimY (nocY t) (nocY dest) = 0) :
    s.nextDir t input dest = some 4 := (if_neg (not_not.mpr hx)).trans (if_neg (not_not.mpr hy))

end

end

end Sys2Proof.Machine

namespace Sys2Proof.Proofs

open Sys2Proof Sys2Proof.Machine Sys2Proof.Statements

set_option Elab.async false

/-- X, then Y, each the shorter way round, then out. -/
theorem routesTakeTheShorterWay : RoutesTakeTheShorterWay := by
  intro s t dest hopen up vp
  refine ⟨fun hx => ?_, fun hx hy input hin => ?_, fun hx hy input => State.nextDir_out hx hy⟩
  · exact (State.nextDir_x hx).trans (State.ringWay_of_linkOpen hopen _ 0 (by decide) (ringUp_lt (by decide) ..))
  · have hdim := s.dimY_cases
    rw [State.nextDir_y hx hy, if_neg (by omega)]
    exact State.ringWay_of_linkOpen hopen _ 1 (by omega) (ringUp_lt (by omega) ..)

/-- The shorter way where it is open, the other where only that is; and the direction of entry is kept. -/
theorem routesAvoidClosedLinks : RoutesAvoidClosedLinks := by
  refine ⟨fun s t dim size up hdim => ?_, fun s t input dest hin hx => (State.nextDir_x hx).trans (if_pos hin)⟩
  refine ⟨fun hclosed hopen => ?_, fun hopen => ?_⟩
  · exact (s.ringWay_eq ..).trans ((if_neg (Bool.eq_false_iff.mp hclosed)).trans (if_pos hopen))
  · exact (s.ringWay_eq ..).trans (if_pos hopen)

end Sys2Proof.Proofs
end

section
/-!
SUPPORT. Links and routers out of service (R207, R346, R351): what the links' registers show at both routers, and that the fall into FAULT of the
partition that loses a fenced router's tile writes no register of a router or tile (R48, R326, R330).
-/
namespace Sys2Proof.Machine

open Sys2Proof Sys2Proof.Statements

set_option Elab.async false

/-- A register of a router's links or of a tile (R228, R357). -/
def RouterReg (a : Nat) : Prop := (Reg.NOC_LINKS 0 ≤ a ∧ a < Reg.NOC_LINKS 256) ∨ (Reg.SPR_TILE 0 ≤ a ∧ a < Reg.SPR_TILE 256)

theorem routerReg_links {t : Nat} (h : t < 256) : RouterReg (Reg.NOC_LINKS t) := by
  simp only [RouterReg, Reg.NOC_LINKS]
  omega

theorem routerReg_tile {t : Nat} (h : t < 256) : RouterReg (Reg.SPR_TILE t) := by
  simp only [RouterReg, Reg.SPR_TILE]
  omega

theorem not_routerReg {a : Nat} (h : a < 0x400400 ∨ 0x400800 ≤ a ∧ a < 0xA0100C ∨ 0xA0200C ≤ a) : ¬ RouterReg a := by
  simp only [RouterReg, Reg.NOC_LINKS, Reg.SPR_TILE]
  omega

theorem not_routerReg_cap (n : Fin 8) : ¬ RouterReg (Reg.CAP_STATUS n) ∧ ¬ RouterReg (Reg.CAP_PLATES n) := by
  constructor <;> exact not_routerReg (by simp only [Reg.CAP_STATUS, Reg.CAP_PLATES]; omega)

theorem not_routerReg_store (n : Fin 8) {d : Nat} (hd : d < 4) : ¬ RouterReg (Reg.CAP_STORE_HEAD n d) ∧
    ¬ RouterReg (Reg.CAP_STORE_TAIL n d) ∧ ¬ RouterReg (Reg.CAP_DEAD_FRAMES n d) := by
  refine ⟨?_, ?_, ?_⟩ <;>
    exact not_routerReg (by simp only [Reg.CAP_STORE_HEAD, Reg.CAP_STORE_TAIL, Reg.CAP_DEAD_FRAMES]; omega)

theorem not_routerReg_ckp (n : Fin 8) : ¬ RouterReg (Reg.CKP_STATUS n) ∧ ¬ RouterReg (Reg.CKP_REC_HEAD n) ∧
    ¬ RouterReg (Reg.CKP_RECOVERY n) := by
  refine ⟨?_, ?_, ?_⟩ <;> exact not_routerReg (by simp only [Reg.CKP_STATUS, Reg.CKP_REC_HEAD, Reg.CKP_RECOVERY]; omega)

theorem not_routerReg_op (d : Nat) : ¬ RouterReg (Reg.CLK_STEP d) ∧ ¬ RouterReg (Reg.PWR_DIE_OP d) := by
  constructor <;> exact not_routerReg (by simp only [Reg.CLK_STEP, Reg.PWR_DIE_OP]; omega)

theorem not_routerReg_map {k : Nat} (hk : k < 24) : ¬ RouterReg (Reg.LNK_MAP k) := not_routerReg (by simp only [Reg.LNK_MAP]; omega)

/-- The registers of routers and tiles read as before. -/
def RoutersKept (s t : State) : Prop := ∀ a, RouterReg a → t.reg a = s.reg a

namespace RoutersKept

theorem refl (s : State) : RoutersKept s s := fun _ _ => rfl

variable {s t u : State} {n : Fin 8} {a d : Nat}

theorem ite {c : Prop} {_ : Decidable c} (ht : RoutersKept s t) (hu : RoutersKept s u) : RoutersKept s (if c then t else u) := by
  split
  exacts [ht, hu]

section
variable (h : RoutersKept s t)
include h

theorem regs (hu : u.regs = t.regs := by rfl) : RoutersKept s u := fun a ha => by
  rw [State.reg, hu]
  exact h a ha

theorem curOnly (hu : CurOnly t u) : RoutersKept s u := fun a ha => (curOnly_reg hu a).trans (h a ha)

theorem setReg {w : Word} (ha : ¬ RouterReg a) : RoutersKept s (t.setReg a w) := fun b hb =>
  (t.reg_setReg_ne w fun e : b = a => ha (e ▸ hb)).trans (h b hb)

theorem setFld {lo w x : Nat} (ha : ¬ RouterReg a) : RoutersKept s (t.setFld a lo w x) := .setReg h ha

theorem addFld {lo w k : Nat} (ha : ¬ RouterReg a) : RoutersKept s (t.addFld a lo w k) := .setReg h ha

theorem foldl {α : Type} {f : State → α → State} {l : List α} (hf : ∀ {v x}, x ∈ l → RoutersKept s v → RoutersKept s (f v x)) :
    RoutersKept s (l.foldl f t) := List.foldlRecOn l f h fun _ hv _ hx => hf hx hv

theorem plt {x : Plt} : RoutersKept s { t with plt := x } := .regs h

theorem setCap {c : Cap} : RoutersKept s (t.setCap n c) := .regs h

theorem modCap {f : Cap → Cap} : RoutersKept s (t.modCap n f) := .regs h

theorem setCk {c : Ckp} : RoutersKept s (t.setCk n c) := .regs h

theorem modCk {f : Ckp → Ckp} : RoutersKept s (t.modCk n f) := .regs h

theorem modPart {f : Part → Part} : RoutersKept s (t.modPart n f) := .regs h

theorem setPhm {i : Fin 4} {x : Phm} : RoutersKept s (t.setPhm i x) := .regs h

theorem setPwr {x : Pwr} : RoutersKept s (t.setPwr x) := .regs h

theorem rgs {x : Rgs} : RoutersKept s { t with rgs := x } := .regs h

theorem setVword {bank word : Nat} {v : DWord} : RoutersKept s (t.setVword bank word v) := .regs h

theorem discardHeld {fromF : Nat} : RoutersKept s (t.discardHeld n fromF) := .regs h

theorem raiseFrm {bit : Nat} : RoutersKept s (t.raiseFrm n bit) :=
  .curOnly (.setFld h (not_routerReg (by simp only [Reg.FRM_IRQ_STATUS]; omega))) (State.irqEdge_curOnly ..)

theorem tryHandover {i : Fin 4} : RoutersKept s (t.tryHandover i n) := by
  have hlate : ¬ RouterReg (Reg.PHM_LATE i n) := not_routerReg (by simp only [Reg.PHM_LATE]; omega)
  exact .ite (.ite (.addFld (.setPhm h) hlate) (.setPhm h)) h

theorem flushGather : RoutersKept s (t.flushGather n) := .foldl h fun _ h => .ite (.tryHandover (.setPhm h)) h

theorem setCapState {v : Nat} : RoutersKept s (t.setCapState n v) := .setFld h (not_routerReg_cap n).1

theorem putUnits {pos : Nat} {l : List (BitVec 256)} : RoutersKept s (t.putUnits n d pos l) := by
  induction l generalizing t pos with
  | nil => exact h
  | cons x r ih => exact ih (.plt h)

theorem autoTrigger : RoutersKept s (t.autoTrigger n) := by
  dsimp only [State.autoTrigger]
  refine .ite ?_ h
  split
  exacts [.setCapState (.setCap h), .setCap h]

theorem tailsMove : RoutersKept s (t.tailsMove n) :=
  .foldl h fun hd h => .ite h (.setFld h (not_routerReg_store n (List.mem_range.mp hd)).2.1)

theorem writeBlock {bd : BlockDue} {key : Bool} (hd : d < 4) : RoutersKept s (t.writeBlock n bd key d) := by
  obtain ⟨hhead, htail, hdead⟩ := not_routerReg_store n hd
  unfold State.writeBlock
  exact .ite (.ite (.plt (.setFld (.setFld (.putUnits (.setCap h)) hhead) htail)) (.setFld (.setFld (.putUnits (.setCap h)) hhead) htail))
    (.addFld (.setCap h) hdead)

theorem writeBlocks {bd : BlockDue} {key : Bool} {l : List Nat} (hl : ∀ d ∈ l, d < 4) : RoutersKept s (t.writeBlocks n bd key l) := by
  induction l generalizing t with
  | nil => exact h
  | cons x r ih =>
    exact ih (.writeBlock h (hl x List.mem_cons_self)) fun d hd => hl d (List.mem_cons_of_mem x hd)

end

theorem mem_dies_lt {e : Eph} : ∀ d ∈ e.dies, d < 4 := fun _ hd => List.mem_range.mp (List.mem_filter.mp hd).1

section
variable (h : RoutersKept s t)
include h

theorem blockWrite : RoutersKept s (t.blockWrite n) := by
  have htrigger : RoutersKept s (t.autoTrigger n) := .autoTrigger h
  dsimp only [State.blockWrite]
  split
  · exact htrigger
  · refine .ite (.ite (.tailsMove (.modCap ?_)) ?_) (.setCap htrigger) <;> exact .writeBlocks (.modCap (.setCap htrigger)) mem_dies_lt

theorem closePart {pl : PlateOpen} {last : Nat} (hd : d < 4) : RoutersKept s (t.closePart n pl last d) := by
  unfold State.closePart
  exact .ite h (.setCap (.ite (.setFld (.putUnits h) (not_routerReg_store n hd).1) (.putUnits h)))

theorem closeDue : RoutersKept s (t.closeDue n) := by
  dsimp only [State.closeDue, State.closePlate]
  split
  · refine .ite ?_ h
    split
    · exact h
    · exact .ite (.setCapState (.addFld (.modCap (.foldl h fun hd h => .closePart h (mem_dies_lt _ hd))) (not_routerReg_cap n).2)) h
  · exact h

theorem fileAsync : RoutersKept s (t.fileAsync n) := by
  dsimp only [State.fileAsync]
  refine .ite h ?_
  split
  exacts [.setCk (.setCap h), .setCap h]

theorem recWrite {l : List RecE} : RoutersKept s (t.recWrite n l) := by
  obtain ⟨hstatus, hhead, -⟩ := not_routerReg_ckp n
  induction l generalizing t with
  | nil => exact h
  | cons e r ih =>
    dsimp only [State.recWrite]
    exact .ite (ih (.setReg (.modCk h) hhead)) (.ite (.setFld (.setFld (.modCk h) hstatus) hstatus) h)

theorem recSettle : RoutersKept s (t.recSettle n) := by
  dsimp only [State.recSettle, State.capSettle]
  exact .recWrite (.fileAsync (.closeDue (.blockWrite h)))

theorem failWaits : RoutersKept s (t.failWaits n) :=
  .curOnly h (curOnly_trans (curOnly_trans (State.answerAll_curOnly ..) (curOnly_mapWaits ..)) (State.answerAll_curOnly ..))

theorem unmap : RoutersKept s (t.unmap n) := by
  unfold State.unmap
  refine .foldl h fun {_ k} hk h => .foldl h fun _ h => .ite (.setFld h (not_routerReg_map ?_)) h
  obtain ⟨i, -, hi⟩ := List.mem_flatMap.mp hk
  obtain rfl := List.mem_singleton.mp hi
  exact i.isLt

theorem recoveryFail {cause : FaultCause} {frame aborts since reason : Nat} {units : List Nat} :
    RoutersKept s (t.recoveryFail n cause frame aborts since reason units) := by
  obtain ⟨-, -, hrec⟩ := not_routerReg_ckp n
  dsimp only [State.recoveryFail, State.recoveryNotice]
  exact .curOnly (.unmap (.failWaits (.modCk (.setFld (.setFld (.setFld (.modPart h) hrec) hrec) hrec)))) (State.notice_curOnly ..)

theorem recoveryStart {cause : FaultCause} {frame : Nat} : RoutersKept s (t.recoveryStart n cause frame) := by
  obtain ⟨-, -, hrec⟩ := not_routerReg_ckp n
  dsimp only [State.recoveryStart]
  split
  exacts [.recoveryFail (.recSettle h), .setFld (.setFld (.modCk (.recSettle h)) hrec) hrec]

theorem relockAdvance : RoutersKept s t.relockAdvance := by
  unfold State.relockAdvance
  split
  · exact .ite h (.foldl h fun _ h => .ite h (.setReg h (not_routerReg_op _).1))
  · exact h

theorem answerHold : RoutersKept s (t.answerHold n) :=
  .relockAdvance (.curOnly (.curOnly h (curOnly_mapWaits ..)) (State.answerAll_curOnly ..))

theorem dropHolds : RoutersKept s (t.dropHolds n) := .setPwr h

theorem endHoldReq : RoutersKept s (t.endHoldReq n) := .ite (.answerHold (.dropHolds (.modPart h))) h

theorem requestHold : RoutersKept s (t.requestHold n) := by
  dsimp only [State.requestHold]
  exact .ite h (.ite (.ite (.modPart h) (.modPart h)) h)

theorem releaseHold : RoutersKept s (t.releaseHold n) := .ite (.modPart h) (.modPart h)

theorem changeOver {r : Rsp} : RoutersKept s (t.changeOver r) := by
  unfold State.changeOver
  split
  · exact .curOnly (.foldl (.setPwr (.foldl h fun _ h => .setFld h (not_routerReg_op _).2)) fun _ h => .releaseHold h)
      (State.answerAll_curOnly ..)
  · exact h

theorem dormantBegin : RoutersKept s t.dormantBegin := by
  unfold State.dormantBegin
  cases t.pwr.shut with
  | none => exact .foldl (.rgs (.setPwr h)) fun _ h => .requestHold h
  | some x => exact .foldl (.rgs (.setPwr (.changeOver h))) fun _ h => .requestHold h

theorem shutHalted : RoutersKept s (t.shutHalted n) := by
  unfold State.shutHalted
  split
  · exact .ite (.ite (.dormantBegin h) (.setPwr h)) h
  · exact h

theorem capDiscard {fromF : Nat} : RoutersKept s (t.capDiscard n fromF) := by
  dsimp only [State.capDiscard]
  split
  exacts [.setCap h, h]

theorem discard {fromF : Nat} : RoutersKept s (t.discard n fromF) := by
  unfold State.discard
  exact .modCk (.capDiscard (.discardHeld (.modPart (.foldl h fun _ h => .setVword h))))

/-- A partition that falls into FAULT leaves the registers of routers and tiles (R48). -/
theorem enterFault {cause : FaultCause} {stall bp frame : Nat} : RoutersKept s (t.enterFault n cause stall bp frame) := by
  have hfall : ∀ {v : State}, RoutersKept s v → RoutersKept s (((v.raiseFrm n 1).flushGather n).recoveryStart n cause frame) :=
    fun h => .recoveryStart (.flushGather (.raiseFrm h))
  unfold State.enterFault
  exact .shutHalted (.ite (hfall (.modPart (.discard h))) (.endHoldReq (hfall (.modPart (.discard h)))))

end

/-- A withdrawn tile is marked so, and no other field of a router or tile changes (R351). -/
theorem withdraw (s : State) (t : Nat) : RoutersKept (s.setFld (Reg.SPR_TILE t) 6 1 1) (s.withdraw t) := by
  dsimp only [State.withdraw]
  split
  · refine .ite (.refl _) ?_
    split
    exacts [.recoveryFail (.enterFault (.refl _)), .enterFault (.refl _)]
  · exact .refl _

end RoutersKept

theorem opposite_ne (dir : Nat) : opposite dir ≠ dir := by
  unfold opposite
  split <;> omega

theorem opposite_lt {dir : Nat} (h : dir < 4) : opposite dir < 4 := by
  unfold opposite
  split <;> omega

/-- The state with another state of the reserve collection. -/
def State.withSpr (s : State) (x : Spr) : State := { s with spr := x }

/-- The registers of a link out of service show it at both its routers (R228). -/
def State.linkShut (s : State) (t dir : Nat) : State :=
  (s.setFld (Reg.NOC_LINKS t) dir 1 0).setFld (Reg.NOC_LINKS (s.neighbour t dir)) (opposite dir) 1 0

section
variable {s u : State} {t dir : Nat}

/-- Besides, the generations of the link that its receivers expect rise (R346). -/
theorem State.linkOut_eq (s : State) (t dir : Nat) : ∃ x, s.linkOut t dir = (s.linkShut t dir).withSpr x := ⟨_, rfl⟩

/-- The link's bit at its own router, which stays when the neighbour's is written: another register, or another bit of the same. -/
theorem State.fld_linkShut_own (hdir : dir < 4) : (s.linkShut t dir).fld (Reg.NOC_LINKS t) dir 1 = 0 := by
  have hopp := opposite_lt hdir
  have hne := opposite_ne dir
  have hfirst : (s.setFld (Reg.NOC_LINKS t) dir 1 0).fld (Reg.NOC_LINKS t) dir 1 = 0 := s.fld_setFld_self 0 (by omega)
  unfold State.linkShut
  by_cases hsame : Reg.NOC_LINKS t = Reg.NOC_LINKS (s.neighbour t dir)
  · rw [← hsame, State.fld_setFld_of_disjoint _ _ (by omega) (by omega), hfirst]
  · rw [State.fld_setFld_ne _ _ _ _ hsame, hfirst]

theorem State.fld_linkShut_other (hdir : dir < 4) : (s.linkShut t dir).fld (Reg.NOC_LINKS (s.neighbour t dir)) (opposite dir) 1 = 0 := by
  have hopp := opposite_lt hdir
  exact State.fld_setFld_self _ 0 (by omega)

theorem State.regsBut_linkShut (s : State) (t dir : Nat) :
    RegsBut s (s.linkShut t dir) [Reg.NOC_LINKS t, Reg.NOC_LINKS (s.neighbour t dir), Reg.SPR_STATUS] :=
  regsBut_setFld (regsBut_setFld regsBut_refl (by simp)) (by simp)

theorem State.linkShut_regsOnly (s : State) (t dir : Nat) : RegsOnly s (s.linkShut t dir) := .setFld (.setFld (.refl s))

theorem State.fld_withSpr (s : State) (x : Spr) (a lo w : Nat) : (s.withSpr x).fld a lo w = s.fld a lo w := rfl

theorem regsBut_withSpr {l : List Nat} (h : RegsBut s u l) (x : Spr) : RegsBut s (u.withSpr x) l := fun a ha => h a ha

theorem State.setFld_withSpr (s : State) (x : Spr) (a lo w v : Nat) : (s.withSpr x).setFld a lo w v = (s.setFld a lo w v).withSpr x := rfl

theorem State.withSpr_frame (h : RegsOnly s u) (x : Spr) : u.withSpr x = { s with regs := (u.withSpr x).regs, spr := (u.withSpr x).spr } := by
  obtain ⟨_, rfl⟩ := h
  rfl

/-- A link that fails while in service is out at both routers; one that splits its ring is shown in SPR_STATUS too (R351). -/
theorem State.linkFails_eq (h : s.fld (Reg.NOC_LINKS t) dir 1 = 1) : ∃ v x, s.linkFails t dir = v.withSpr x ∧
    (v = s.linkShut t dir ∨ v = (s.linkShut t dir).setFld Reg.SPR_STATUS 17 1 1) := by
  obtain ⟨x, hx⟩ := s.linkOut_eq t dir
  unfold State.linkFails
  rw [if_neg (by omega), hx]
  dsimp only
  split
  exacts [⟨_, x, rfl, .inl rfl⟩, ⟨_, x, State.setFld_withSpr .., .inr rfl⟩]

/-- A tile of a die that the part has is one of 256 (R25). -/
theorem lt_256_of_hasDie (h : s.hasDie (t / 64) = true) : t < 256 := by
  have hdie : t / 64 < s.nDies := of_decide_eq_true h
  have hfour : s.nDies ≤ 4 := by
    unfold State.nDies
    split <;> decide
  omega

theorem links_ne_status (ht : t < 256) : Reg.NOC_LINKS t ≠ Reg.SPR_STATUS := by
  simp only [Reg.NOC_LINKS, Reg.SPR_STATUS]
  omega

theorem links_ne_tile (ht : t < 256) : Reg.NOC_LINKS t ≠ Reg.SPR_TILE t := by
  simp only [Reg.NOC_LINKS, Reg.SPR_TILE]
  omega

/-- A fenced router is marked out with its own bit and the link's, and its tile is withdrawn (R351). -/
theorem State.fenceRouter_fields (ht : t < 256) (hdir : dir < 4) (h : u.fld (Reg.NOC_LINKS t) dir 1 = 0) :
    (u.fenceRouter t).fld (Reg.NOC_LINKS t) 4 1 = 0 ∧ (u.fenceRouter t).fld (Reg.NOC_LINKS t) dir 1 = 0 ∧
      (u.fenceRouter t).fld (Reg.SPR_TILE t) 6 1 = 1 := by
  have hkept := RoutersKept.withdraw ((u.setFld (Reg.NOC_LINKS t) 4 1 0).nocGen (1024 + t)) t
  have hlinks := fld_of_reg (hkept _ (routerReg_links ht))
  have hne := links_ne_tile ht
  refine ⟨(hlinks 4 1).trans ?_, (hlinks dir 1).trans ?_, (fld_of_reg (hkept _ (routerReg_tile ht)) 6 1).trans ?_⟩
  · rw [State.fld_setFld_ne _ _ _ _ hne]
    exact u.fld_setFld_self 0 (by decide)
  · rw [State.fld_setFld_ne _ _ _ _ hne]
    exact (u.fld_setFld_of_disjoint 0 (by decide) (by omega)).trans h
  · exact State.fld_setFld_self _ 1 (by decide)

end

section
variable {s : State} {tile : BitVec 8} (hd : s.hasDie (tile.toNat / 64) = true) (dir : Fin 4)
include hd

theorem exec_linkOutOfService : exec (.linkOutOfService tile dir) s = .next (s.linkFails tile.toNat dir) := congrArg (guardUnit s · _) hd

theorem exec_routerFence (hon : s.fld (Reg.NOC_LINKS tile.toNat) 4 1 = 1)
    (hopp : s.fld (Reg.NOC_LINKS tile.toNat) (opposite dir) 1 = 0) :
    exec (.routerFence tile dir) s = .next ((s.linkOut tile.toNat dir).fenceRouter tile.toNat) := by
  have hrow : exec (.routerFence tile dir) s = execRouterFence tile dir s := rfl
  rw [hrow, execRouterFence, hd, guardUnit_true, if_neg (by omega)]

end

end Sys2Proof.Machine

namespace Sys2Proof.Proofs

open Sys2Proof Sys2Proof.Machine Sys2Proof.Statements

set_option Elab.async false

/-- Settles O20: the routes; a link out of service by the registers of both its routers; a fenced router by its registers, which the fall of the
partition that loses its tile leaves. -/
theorem linksAndRoutersOutOfService : Obligations.LinksAndRoutersOutOfService := by
  unfold Obligations.LinksAndRoutersOutOfService
  refine ⟨routesTakeTheShorterWay, routesAvoidClosedLinks, ?_⟩
  intro s tile dir hd hu u
  refine ⟨fun hin => ⟨_, exec_linkOutOfService hd dir, ?_⟩, fun hon hopp => ⟨_, exec_routerFence hd dir hon hopp, ?_⟩⟩
  · have hown : (s.linkShut tile.toNat dir).fld (Reg.NOC_LINKS tile.toNat) dir 1 = 0 := State.fld_linkShut_own dir.isLt
    have hother : (s.linkShut tile.toNat dir).fld (Reg.NOC_LINKS u) (opposite dir) 1 = 0 := State.fld_linkShut_other dir.isLt
    have hregs := s.regsBut_linkShut tile.toNat dir
    have honly := s.linkShut_regsOnly tile.toNat dir
    obtain ⟨v, x, hfails, rfl | rfl⟩ := State.linkFails_eq hin <;> rw [hfails]
    · refine ⟨?_, ?_, State.withSpr_frame honly x, regsBut_withSpr hregs x⟩ <;> rw [State.fld_withSpr]
      exacts [hown, hother]
    · refine ⟨?_, ?_, State.withSpr_frame honly.setFld x, regsBut_withSpr (regsBut_setFld hregs (by simp)) x⟩ <;> rw [State.fld_withSpr]
      · rw [State.fld_setFld_ne _ _ _ _ (links_ne_status tile.isLt), hown]
      · rw [State.fld_setFld_ne _ _ _ _ (links_ne_status (lt_256_of_hasDie hu)), hother]
  · obtain ⟨x, hx⟩ := s.linkOut_eq tile.toNat dir
    have hlink : (s.linkOut tile.toNat dir).fld (Reg.NOC_LINKS tile.toNat) dir 1 = 0 := by
      rw [hx, State.fld_withSpr, State.fld_linkShut_own dir.isLt]
    obtain ⟨hrouter, hlink', htile⟩ := State.fenceRouter_fields tile.isLt dir.isLt hlink
    obtain ⟨-, hpending, -⟩ := Keeps.fenceRouter (tile := tile.toNat) (Keeps.linkOut (tile := tile.toNat) (dir := dir) (.refl s))
    exact ⟨hrouter, hlink', htile, hpending⟩

end Sys2Proof.Proofs
end

section
/-!
SUPPORT. Depot ports as they attach (R223, R229; the four lanes in service: log entry 66): what a step of the configuration that follows leaves
(R380, R397), that grants which waited change no port (R220), and what each command of an attach leaves.
-/
namespace Sys2Proof.Machine

open Sys2Proof Sys2Proof.Statements

set_option Elab.async false

/-- Only the state of the configuration and registers from the reserve tables on, among them those of the configuration, have changed. -/
def CfgNoted (s t : State) : Prop := BelowReserve s t ∧ ∃ r c, t = { s with regs := r, cfg := c }

namespace CfgNoted

theorem refl (s : State) : CfgNoted s s := ⟨.refl s, _, _, rfl⟩

variable {s t u : State} {a : Nat}

theorem ite {c : Prop} {_ : Decidable c} (ht : CfgNoted s t) (hu : CfgNoted s u) : CfgNoted s (if c then t else u) := by
  split
  exacts [ht, hu]

section
variable (h : CfgNoted s t)
include h

theorem setReg {w : Word} (ha : Reg.SPR_CAPS ≤ a) : CfgNoted s (t.setReg a w) := by
  obtain ⟨hlow, _, _, rfl⟩ := h
  exact ⟨.setReg hlow ha, _, _, rfl⟩

theorem cfg {x : Cfg} : CfgNoted s { t with cfg := x } := by
  obtain ⟨hlow, _, _, rfl⟩ := h
  exact ⟨hlow, _, _, rfl⟩

theorem cfgFail {stage code entry status : Nat} : CfgNoted s (t.cfgFail stage code entry status) := .ite h (.setReg h (by decide))

theorem stageEnd {k : Nat} : CfgNoted s (t.stageEnd k) := .ite (.setReg h (by simp only [Reg.SPR_CAPS, Reg.CFG_STAGE_US]; omega)) h

/-- The configuration's step changes its own registers and state (R380, R398). -/
theorem cfgAdvance : CfgNoted s t.cfgAdvance := by
  have hlanes : CfgNoted s (if (t.cfg.lanesOver || t.quadsUp) = true then { t with cfg := { t.cfg with lanesOver := true } }.stageEnd 4
      else t) := .ite (.stageEnd (.cfg h)) h
  exact .ite (.setReg (.ite (.stageEnd hlanes) hlanes) (by decide)) h

theorem fld (ha : a < Reg.SPR_CAPS) (lo w : Nat) : t.fld a lo w = s.fld a lo w := fld_of_reg (h.1 a ha) lo w

theorem dep : t.dep = s.dep := by
  obtain ⟨-, _, _, rfl⟩ := h
  rfl

theorem parts : t.parts = s.parts := by
  obtain ⟨-, _, _, rfl⟩ := h
  rfl

end

end CfgNoted

theorem State.setDepotEntry_ports (s : State) (seg : Nat) (v : DWord) : (s.setDepotEntry seg v).dep.ports = s.dep.ports := rfl

/-- A grant changes the map, and no port (R219). -/
theorem State.grantSeg_ports (s : State) (owner g : Nat) (ro : Bool) : (s.grantSeg owner ro g).dep.ports = s.dep.ports := by
  unfold State.grantSeg
  split
  exacts [State.setDepotEntry_ports .., rfl]

theorem State.answer_dep (s : State) (m : Fin 36) (stamp : Nat) (r : Rsp) : (s.answer m stamp r).dep = s.dep := by
  rw [s.answer_curOnly m stamp r]

/-- Grants and returns that waited change no port (R220, R474). -/
theorem State.depotMapDue_ports (s : State) : s.depotMapDue.dep.ports = s.dep.ports := by
  unfold State.depotMapDue
  refine List.foldlRecOn (motive := fun t : State => t.dep.ports = s.dep.ports) _ _ rfl fun t ht x _ => ?_
  split
  next first count owner ro _ =>
    have hgrants : ((List.range count).foldl (fun (u : State) k => u.grantSeg owner ro (first + k)) t).dep.ports = s.dep.ports :=
      List.foldlRecOn (motive := fun u : State => u.dep.ports = s.dep.ports) _ _ ht fun u hu k _ => (u.grantSeg_ports ..).trans hu
    split
    · exact ht
    · split
      · exact (congrArg Dep.ports (State.answer_dep ..)).trans ht
      · exact (congrArg Dep.ports (State.answer_dep ..)).trans hgrants
  next => exact ht

/-- What the grants and returns that waited change: the depot map and the answers to their commands (R220, R474). -/
theorem State.depotMapDue_eq (s : State) : ∃ m c, s.depotMapDue = { s with dep := { s.dep with map := m }, cur := c } := by
  obtain ⟨⟨m, ports⟩, c, hdue⟩ := DepotCurOnly.depotMapDue (.refl s)
  have hports := s.depotMapDue_ports
  rw [hdue] at hports
  obtain rfl : ports = s.dep.ports := hports
  exact ⟨m, c, hdue⟩

/-- A port that enters FAULT: nothing is outstanding, and held writes that were sent are gone (R223). -/
def DPort.faulted (p : DPort) : DPort :=
  { p with probe := none, outst := [], queue := [], wire := [], held := p.held.filter fun h => !h.sent }

theorem State.giveUp_eq (s : State) (r : DReq) : ∃ n, s.giveUp r = { s with noc := n } := by
  unfold State.giveUp
  split
  exacts [⟨_, rfl⟩, ⟨_, rfl⟩]

theorem State.giveUps_eq (s : State) (l : List DReq) : ∃ n, l.foldl State.giveUp s = { s with noc := n } := by
  refine List.foldlRecOn (motive := fun t => ∃ n, t = { s with noc := n }) _ _ ⟨s.noc, rfl⟩ ?_
  rintro _ ⟨n, rfl⟩ r -
  obtain ⟨n', h⟩ := State.giveUp_eq { s with noc := n } r
  exact ⟨n', h⟩

/-- What a port's fall into FAULT leaves: its STATE, the port emptied, and packets, map and answers besides (R223). -/
theorem State.portFault_eq (s : State) (i : Fin 8) : ∃ n m c, s.portFault i =
    { (s.setPortState i 4).setPort i (s.port i).faulted with
      noc := n, dep := { ((s.setPortState i 4).setPort i (s.port i).faulted).dep with map := m }, cur := c } := by
  obtain ⟨n, hn⟩ := ((s.setPortState i 4).setPort i (s.port i).faulted).giveUps_eq ((s.port i).outst ++ (s.port i).queue)
  obtain ⟨m, c, hdue⟩ := State.depotMapDue_eq { (s.setPortState i 4).setPort i (s.port i).faulted with noc := n }
  refine ⟨n, m, c, ?_⟩
  rw [show s.portFault i = (((s.port i).outst ++ (s.port i).queue).foldl State.giveUp
    ((s.setPortState i 4).setPort i (s.port i).faulted)).depotMapDue from rfl, hn, hdue]

theorem State.portFault_leaves (s : State) (i : Fin 8) :
    (s.portFault i).portState i = 4 ∧ (s.portFault i).port i = (s.port i).faulted ∧ (s.portFault i).parts = s.parts := by
  obtain ⟨n, m, c, h⟩ := s.portFault_eq i
  rw [h]
  exact ⟨s.fld_setFld_self 4 (by decide), State.port_setPort_self _ i _, rfl⟩

/-- The message that follows an ECHO's reply: the next ECHO, or INFO_REQ after the sixteenth (R223). -/
def DPort.nextProbe (p : DPort) : DMsg := if p.echoes + 1 = 16 then probeMsg 8 16 else probeMsg 6 (p.echoes + 1)

/-- A port after an ECHO's reply with this round trip less the node's turnaround (R223). -/
def DPort.echoed (p : DPort) (ns : Nat) : DPort :=
  { p with echoes := p.echoes + 1, bestRtt := min p.bestRtt ns, probe := some p.nextProbe, wire := p.wire ++ [p.nextProbe] }

section
variable {s : State} {i : Fin 8} (hp : s.hasPort i = true)
include hp

theorem exec_depotAttach (hstate : s.portState i = 1) (hlanes : s.fld (Reg.LANE_QUAD (s.fld (Reg.DEP_PORT_STATE i) 8 5)) 10 4 = 15) :
    exec (.depotAttach i) s = .next ((s.setPort i { s.port i with
      echoes := 0, bestRtt := 0xFFFF, probe := some (probeMsg 6 0), wire := [probeMsg 6 0] }).setPortState i 2) := by
  have hrow : exec (.depotAttach i) s = execDepotAttach i s := rfl
  rw [hrow, execDepotAttach, hp, guardUnit_true, if_pos ⟨hstate, hlanes⟩]

theorem exec_depotEchoReply (hstate : s.portState i = 2) (hechoes : (s.port i).echoes < 16) (rtt turn : Nat) :
    exec (.depotEchoReply i rtt turn) s = .next (if (s.port i).echoes + 1 = 16 then
      (s.setPort i ((s.port i).echoed (rtt - turn))).setFld (Reg.DEP_PORT_RTT i) 0 16 (min (s.port i).bestRtt (rtt - turn))
      else s.setPort i ((s.port i).echoed (rtt - turn))) := by
  have hrow : exec (.depotEchoReply i rtt turn) s = execDepotEchoReply i rtt turn s := rfl
  rw [hrow, execDepotEchoReply, hp, guardUnit_true]
  dsimp only
  rw [if_pos ⟨hstate, hechoes⟩]
  rfl

section
variable (hstate : s.portState i = 2) (hechoes : (s.port i).echoes = 16)
include hstate hechoes

theorem exec_depotInfo (tNode : BitVec 16) (gib : BitVec 24) : exec (.depotInfo i tNode gib) s = .next
    ((((s.setPort i { s.port i with probe := none }).setFld (Reg.DEP_NODE i) 0 16 tNode.toNat).setFld (Reg.DEP_NODE_CAP i) 0 24
      gib.toNat).setPortState i 3).cfgAdvance := by
  have hrow : exec (.depotInfo i tNode gib) s = execDepotInfo i tNode gib s := rfl
  rw [hrow, execDepotInfo, hp, guardUnit_true, if_pos ⟨hstate, hechoes⟩]

theorem exec_depotInfoTimeout : exec (.depotInfoTimeout i) s = .next
    (if (s.portFault i).configuring then (s.portFault i).cfgFail 5 8 0 0 else s.portFault i).cfgAdvance := by
  have hrow : exec (.depotInfoTimeout i) s = execDepotInfoTimeout i s := rfl
  rw [hrow, execDepotInfoTimeout, hp, guardUnit_true, if_pos ⟨hstate, hechoes⟩]

end

end

theorem dep_below_reserve (i : Fin 8) : Reg.DEP_PORT_STATE i < Reg.SPR_CAPS ∧ Reg.DEP_NODE i < Reg.SPR_CAPS ∧
    Reg.DEP_NODE_CAP i < Reg.SPR_CAPS := by
  simp only [Reg.DEP_PORT_STATE, Reg.DEP_NODE, Reg.DEP_NODE_CAP, Reg.SPR_CAPS]
  omega

/-- T_node, capacity and STATE of a port whose INFO has come, each in its own register (R229). -/
theorem State.infoNoted_fields (u : State) (i : Fin 8) (tNode : BitVec 16) (gib : BitVec 24) :
    let t := ((u.setFld (Reg.DEP_NODE i) 0 16 tNode.toNat).setFld (Reg.DEP_NODE_CAP i) 0 24 gib.toNat).setPortState i 3
    t.portState i = 3 ∧ t.fld (Reg.DEP_NODE i) 0 16 = tNode.toNat ∧ t.fld (Reg.DEP_NODE_CAP i) 0 24 = gib.toNat := by
  have hcap : Reg.DEP_NODE i ≠ Reg.DEP_NODE_CAP i := by simp only [Reg.DEP_NODE, Reg.DEP_NODE_CAP]; omega
  have hnode : Reg.DEP_NODE i ≠ Reg.DEP_PORT_STATE i := by simp only [Reg.DEP_NODE, Reg.DEP_PORT_STATE]; omega
  have hcap' : Reg.DEP_NODE_CAP i ≠ Reg.DEP_PORT_STATE i := by simp only [Reg.DEP_NODE_CAP, Reg.DEP_PORT_STATE]; omega
  refine ⟨State.fld_setFld_self _ 3 (by decide), ?_, ?_⟩
  · rw [State.setPortState, State.fld_setFld_ne _ _ _ _ hnode, State.fld_setFld_ne _ _ _ _ hcap, State.fld_setFld_self _ _ (by decide),
      Nat.mod_eq_of_lt tNode.isLt]
  · rw [State.setPortState, State.fld_setFld_ne _ _ _ _ hcap', State.fld_setFld_self _ _ (by decide), Nat.mod_eq_of_lt gib.isLt]

theorem State.infoNoted_frame (u : State) (i : Fin 8) (tNode : BitVec 16) (gib : BitVec 24) :
    let t := ((u.setFld (Reg.DEP_NODE i) 0 16 tNode.toNat).setFld (Reg.DEP_NODE_CAP i) 0 24 gib.toNat).setPortState i 3
    t.dep = u.dep ∧ t.parts = u.parts := by
  intro t
  obtain ⟨r, hr⟩ : RegsOnly u t := .setFld (.setFld (.setFld (.refl u)))
  rw [hr]
  exact ⟨rfl, rfl⟩

theorem port_of_dep {s t : State} (h : t.dep = s.dep) (j : Fin 8) : t.port j = s.port j := by rw [State.port, h, State.port]

theorem State.port_setFld (s : State) (a lo w x : Nat) (j : Fin 8) : (s.setFld a lo w x).port j = s.port j := port_of_dep rfl j

end Sys2Proof.Machine

namespace Sys2Proof.Proofs

open Sys2Proof Sys2Proof.Machine Sys2Proof.Statements

set_option Elab.async false

/-- Settles O21: each command of the attach takes its port to the next state, and the configuration's step that follows changes nothing of it. -/
theorem depotPortAttach : Obligations.DepotPortAttach := by
  unfold Obligations.DepotPortAttach
  refine fun s i hp => ⟨fun hstate hlanes => ⟨_, exec_depotAttach hp hstate hlanes, ?_⟩,
    fun rtt turn hstate hechoes => ⟨_, exec_depotEchoReply hp hstate hechoes rtt turn, ?_⟩,
    fun tNode gib hstate hechoes => ⟨_, exec_depotInfo hp hstate hechoes tNode gib, ?_⟩,
    fun hstate hechoes => ⟨_, exec_depotInfoTimeout hp hstate hechoes, ?_⟩⟩
  · rw [State.setPortState, State.port_setFld, State.port_setPort_self]
    exact ⟨State.fld_setFld_self _ 2 (by decide), rfl, rfl, regsBut_setFld_self _⟩
  · split
    next hlast =>
      rw [State.port_setFld, State.port_setPort_self]
      exact ⟨rfl, rfl, fun _ => State.fld_setFld_self _ _ (by decide), rfl, regsBut_setFld_self _⟩
    next hmore =>
      rw [State.port_setPort_self]
      exact ⟨rfl, rfl, fun h => absurd (congrArg (· + 1) h) hmore, rfl, regsBut_refl⟩
  · obtain ⟨hstate', hnode, hcap⟩ := (s.setPort i { s.port i with probe := none }).infoNoted_fields i tNode gib
    obtain ⟨hdep, hparts⟩ := (s.setPort i { s.port i with probe := none }).infoNoted_frame i tNode gib
    generalize (((s.setPort i { s.port i with probe := none }).setFld (Reg.DEP_NODE i) 0 16 tNode.toNat).setFld (Reg.DEP_NODE_CAP i) 0 24
      gib.toNat).setPortState i 3 = u at hstate' hnode hcap hdep hparts
    obtain ⟨hlow, hlow', hlow''⟩ := dep_below_reserve i
    have hcfg : CfgNoted u u.cfgAdvance := .cfgAdvance (.refl u)
    have hdep' := hcfg.dep.trans hdep
    refine ⟨(hcfg.fld hlow 0 3).trans hstate', (hcfg.fld hlow' 0 16).trans hnode, (hcfg.fld hlow'' 0 24).trans hcap,
      (port_of_dep hdep' i).trans (s.port_setPort_self i _), fun j hj => (port_of_dep hdep' j).trans (s.port_setPort_ne _ hj),
      (congrArg Dep.map hdep').trans rfl, hcfg.parts.trans hparts⟩
  · obtain ⟨hstate', hport, hparts⟩ := s.portFault_leaves i
    generalize s.portFault i = u at hstate' hport hparts
    have hcfg : CfgNoted u ((if u.configuring = true then u.cfgFail 5 8 0 0 else u).cfgAdvance) :=
      .cfgAdvance (.ite (.cfgFail (.refl u)) (.refl u))
    have hport' := (port_of_dep hcfg.dep i).trans hport
    exact ⟨(hcfg.fld (dep_below_reserve i).1 0 3).trans hstate', congrArg DPort.outst hport', congrArg DPort.queue hport',
      hcfg.parts.trans hparts⟩

end Sys2Proof.Proofs
end

section
/-!
SUPPORT. Traffic of a depot port (R219 to R225, R317): a request sent to the node carries a TAG that none outstanding has, what the map check
refuses and what it lets through, what the node's answers complete, and what a granule copy joins.
-/
namespace Sys2Proof.Machine

open Sys2Proof Sys2Proof.Statements

set_option Elab.async false

section
variable {p : DPort}

/-- With a slot free some TAG of the 1,024 is not outstanding, and the port takes such a one (R221, R222). -/
theorem DPort.freeTag_unused (h : p.outst.length < 1024) : ∀ o ∈ p.outst, o.msg.tag ≠ p.freeTag := by
  have hfind : (((List.range 1024).map fun k => (p.nextTag + k) % 1024).find? fun t => !(p.outst.any fun r => r.msg.tag == t)).isSome := by
    by_contra hnone
    have hused : List.range 1024 ⊆ p.outst.map (·.msg.tag) := by
      intro t ht
      have hturn : (p.nextTag + (t + 1024 - p.nextTag % 1024) % 1024) % 1024 = t := by
        have := List.mem_range.mp ht
        omega
      have hmem : t ∈ (List.range 1024).map fun k => (p.nextTag + k) % 1024 :=
        List.mem_map.mpr ⟨_, List.mem_range.mpr (Nat.mod_lt _ (by decide)), hturn⟩
      simpa using List.find?_eq_none.mp (Option.not_isSome_iff_eq_none.mp hnone) t hmem
    have hlen := (List.nodup_range.subperm hused).length_le
    rw [List.length_range, List.length_map] at hlen
    omega
  obtain ⟨t, ht⟩ := Option.isSome_iff_exists.mp hfind
  have hfree : p.freeTag = t := by rw [DPort.freeTag, ht, Option.getD_some]
  intro o ho htag
  have hnot := List.find?_some ht
  rw [Bool.not_eq_true', List.any_eq_false] at hnot
  exact hnot o ho (beq_iff_eq.mpr (htag.trans hfree))

/-- A request as it goes to the node: under the port's free TAG. -/
def DReq.tagged (r : DReq) (tag : Nat) : DReq := { r with msg := { r.msg with tag := tag } }

theorem DReq.tag_tagged (r : DReq) (tag : Nat) : (r.tagged tag).msg.tag = tag := rfl

theorem DReq.tagged_eq (r : DReq) (tag : Nat) : r.tagged tag = { r with msg := { r.msg with tag := (r.tagged tag).msg.tag } } := rfl

/-- A request goes to the node at once where none waits before it and a slot is free (R223). -/
theorem DPort.submit_sends (hq : p.queue = []) (hroom : p.outst.length < 1024) (r : DReq) : p.submit r = p.send r := by
  rw [DPort.submit, if_pos (by simp [hq, hroom])]

theorem DPort.heldFor_empty (h : p.held = []) (addr : Nat) (reader : Option (Nat × Nat)) : p.heldFor addr reader = none := by
  simp [DPort.heldFor, h]

end

theorem Pkt.words_pos (p : Pkt) : 0 < p.words := by
  unfold Pkt.words
  split <;> omega

/-- A read names a word at least (R208). -/
theorem Pkt.depotWords_ne_nil (p : Pkt) : p.depotWords false ≠ [] := by
  have hpos := p.words_pos
  simp only [Pkt.depotWords, Bool.false_eq_true, if_false]
  split
  · simp
  · simpa using hpos.ne'

theorem RegsOnly.port {s t : State} (h : RegsOnly s t) (j : Fin 8) : t.port j = s.port j := by
  obtain ⟨_, rfl⟩ := h
  rfl

theorem RegsOnly.ck {s t : State} (h : RegsOnly s t) (n : Fin 8) : t.ck n = s.ck n := by
  obtain ⟨_, rfl⟩ := h
  rfl

theorem State.port_respond (s : State) (p : Pkt) (st : Status) (derr : Bool) (data : List DWord) (j : Fin 8) :
    (s.respond p st derr data).port j = s.port j := rfl

/-- Grants and returns that waited touch neither ports nor the network nor partitions (R220). -/
theorem State.depotMapDue_leaves (s : State) :
    (∀ j, s.depotMapDue.port j = s.port j) ∧ s.depotMapDue.noc = s.noc ∧ s.depotMapDue.parts = s.parts := by
  obtain ⟨m, c, h⟩ := s.depotMapDue_eq
  rw [h]
  exact ⟨fun _ => rfl, rfl, rfl⟩

/-- The state of a port with its oldest request taken for the map check. -/
def State.checking (s : State) (i : Fin 8) (rest : List Pkt) : State := s.setPort i { s.port i with arrived := rest }

theorem State.port_checking (s : State) (i : Fin 8) (rest : List Pkt) : (s.checking i rest).port i = { s.port i with arrived := rest } :=
  s.port_setPort_self i _

section
variable {s : State} {i : Fin 8} {p : Pkt} {rest : List Pkt} (harr : (s.port i).arrived = p :: rest) (hfence : s.segFenced p = false)
include harr hfence

/-- A request that fails the map check is answered with its status, and moves no data (R220). -/
theorem State.depotRequest_refused (hst : s.depotCheck p.owner p.addr (p.op == 1) ≠ .ok) : s.depotRequest i =
    ((s.checking i rest).depotRefuse p.owner p.addr (p.op == 1)).respond p (s.depotCheck p.owner p.addr (p.op == 1)) false [] := by
  have hfence' : (s.setPort i { s.port i with arrived := rest }).segFenced p = false := hfence
  unfold State.depotRequest
  dsimp only
  rw [harr]
  dsimp only
  rw [hfence', if_neg Bool.false_ne_true, if_pos hst]
  rfl

theorem State.depotRequest_read (hst : s.depotCheck p.owner p.addr (p.op == 1) = .ok) (hop : p.op = 0) :
    s.depotRequest i = (s.checking i rest).depotRead i p := by
  have hfence' : (s.setPort i { s.port i with arrived := rest }).segFenced p = false := hfence
  unfold State.depotRequest
  dsimp only
  rw [harr]
  dsimp only
  rw [hfence', if_neg Bool.false_ne_true, if_neg (by simp [hst]), if_neg (by omega)]
  rfl

end

theorem State.depotRefuse_only (s : State) (owner : Owner) (addr : Nat) (write : Bool) : RegsOnly s (s.depotRefuse owner addr write) := by
  unfold State.depotRefuse
  dsimp only
  split
  exacts [.setReg (.refl s), .refl s]

/-- The request to the node of a read that no share entry serves (R219, R225). -/
def State.nodeRead (s : State) (p : Pkt) : DReq :=
  ⟨depotReadMsg (s.nodeOf p.addr) p.words, some p, none, p.addr, (p.depotWords false).map fun _ => none⟩

/-- A read of words without a held write goes to the node (R223, R225). -/
theorem State.depotRead_sent {s : State} {i : Fin 8} (hheld : (s.port i).held = []) (hqueue : (s.port i).queue = [])
    (hroom : (s.port i).outst.length < 1024) (p : Pkt) : s.depotRead i p = s.setPort i ((s.port i).send (s.nodeRead p)) := by
  have hnone : ((p.depotWords false).map fun a => (s.port i).heldFor a (s.readerOf p)) = (p.depotWords false).map fun _ => none :=
    List.map_congr_left fun a _ => DPort.heldFor_empty hheld a _
  have hmiss : ¬ ((p.depotWords false).map fun _ => (none : Option DWord)).all Option.isSome = true := by
    obtain ⟨a, l, hl⟩ := List.exists_cons_of_ne_nil p.depotWords_ne_nil
    simp [hl]
  unfold State.depotRead
  dsimp only
  rw [hnone, if_neg hmiss, DPort.submit_sends hqueue hroom]
  rfl

/-- A status other than OK is counted, and changes nothing else (R222, R229). -/
theorem State.nodeErr_only (s : State) (i : Fin 8) (status : Nat) : RegsOnly s (if status = 0 then s else s.nodeErr i status) := by
  split
  exacts [.refl s, .setFld (.addFld_self s)]

/-- The state without an outstanding request of a port. -/
def State.completed (s : State) (i : Fin 8) (r : DReq) : State := s.setPort i { s.port i with outst := (s.port i).outst.erase r }

section
variable {s : State} {i : Fin 8} {tag status : Nat} {r : DReq}

/-- The node's data of a read complete it, with DERR on a bad status (R222). -/
theorem State.nodeData_completes {p : Pkt} (hr : (s.port i).outst.find? (fun r => r.msg.tag == tag && r.msg.type == 1) = some r)
    (hpkt : r.pkt = some p) (hop : p.op = 0) (data : List DWord) :
    ∃ u, RegsOnly (s.completed i r) u ∧ s.nodeData i tag status data = u.respond p .ok (status != 0) (r.words p data) := by
  refine ⟨_, (s.completed i r).nodeErr_only i status, ?_⟩
  unfold State.nodeData
  dsimp only
  rw [hr]
  dsimp only
  rw [hpkt]
  exact if_pos hop

/-- The node's acknowledgement of a held write frees it (R224). -/
theorem State.nodeAck_frees {e : Nat × Nat × Nat} (hr : (s.port i).outst.find? (fun r => r.msg.tag == tag && r.msg.type == 2) = some r)
    (hpkt : r.pkt = none) (hentry : r.entry = some e) :
    ∃ u, RegsOnly (s.completed i r) u ∧ s.nodeAck i tag status = u.setPort i ((u.port i).dropHeld e) := by
  refine ⟨_, (s.completed i r).nodeErr_only i status, ?_⟩
  unfold State.nodeAck
  dsimp only
  rw [hr]
  dsimp only
  rw [hpkt, hentry]
  rfl

end

/-- The undo area with a granule (R317). -/
def CkImg.withGranule (i : CkImg) (g : Nat) : CkImg := if i.granules.contains g then i else { i with granules := i.granules ++ [g] }

theorem CkImg.length_withGranule (i : CkImg) (g : Nat) : (i.withGranule g).granules.length ≤ i.granules.length + 1 := by
  unfold CkImg.withGranule
  split <;> simp

theorem CkImg.contains_withGranule (i : CkImg) (g : Nat) : (i.withGranule g).granules.contains g = true := by
  unfold CkImg.withGranule
  split
  · assumption
  · simp

/-- The engine of a partition whose copy of a granule is done, with no checkpoint in progress. -/
def Ckp.copied (k : Ckp) (g : Nat) : Ckp :=
  { k with undoRun := k.undoRun.filter (fun x => x != g), busy := none, latest := k.latest.map (·.withGranule g) }

/-- A copied granule joins the undo area of the latest checkpoint where it fits, and the writes that waited for it go (R317). -/
theorem State.undoDone_joins {s : State} {n : Fin 8} {g : Nat} (hrun : (s.ck n).undoRun.contains g = true) (hbusy : (s.ck n).busy = none)
    (hroom : ∀ l, (s.ck n).latest = some l → l.granules.length + 1 ≤ s.undoRoom n) :
    ∃ u, RegsOnly (s.setCk n ((s.ck n).copied g)) u ∧ s.undoDone n g = u.sendWaiting n g := by
  unfold State.undoDone
  rw [if_pos hrun]
  dsimp only
  rw [hbusy]
  cases hlatest : (s.ck n).latest with
  | none => exact ⟨_, .refl _, by rw [Ckp.copied, hlatest]; rfl⟩
  | some l =>
    have hfits : ¬ s.undoRoom n < (l.withGranule g).granules.length :=
      Nat.not_lt.mpr ((l.length_withGranule g).trans (hroom l hlatest))
    refine ⟨_, .setReg (.refl _) (a := Reg.CKP_UNDO_USED n) (w := BitVec.ofNat 32 (l.withGranule g).granules.length), ?_⟩
    rw [Ckp.copied, hlatest]
    exact congrArg (State.sendWaiting · n g) (if_neg (Bool.eq_false_iff.mp (decide_eq_false hfits)))

section
variable {s : State} {i : Fin 8} (hp : s.hasPort i = true)
include hp

theorem exec_depotRequest : exec (.depotRequest i) s = .next (s.depotRequest i).depotMapDue := congrArg (guardUnit s · _) hp

theorem exec_depotReadData (tag : Nat) (status : Fin 3) (data : List DWord) :
    exec (.depotReadData i tag status data) s = .next (s.nodeData i tag status data).depotMapDue := congrArg (guardUnit s · _) hp

theorem exec_depotWriteAck (tag : Nat) (status : Fin 3) :
    exec (.depotWriteAck i tag status) s = .next (s.nodeAck i tag status).depotMapDue := congrArg (guardUnit s · _) hp

/-- The oldest waiting request is sent when a slot is free (R223). -/
theorem exec_depotQueueSend {r : DReq} {q : List DReq} (hq : (s.port i).queue = r :: q) (hroom : (s.port i).outst.length < 1024) :
    exec (.depotQueueSend i) s = .next (s.setPort i (DPort.send { s.port i with queue := q } r)) := by
  have hrow : exec (.depotQueueSend i) s = execDepotQueueSend i s := rfl
  rw [hrow, execDepotQueueSend, hp, guardUnit_true]
  dsimp only
  rw [hq]
  dsimp only
  rw [if_pos hroom]

end

end Sys2Proof.Machine

namespace Sys2Proof.Proofs

open Sys2Proof Sys2Proof.Machine Sys2Proof.Statements

set_option Elab.async false

/-- Settles O22: requests are refused or sent, the node's answers complete what they are for, and a copied granule joins; what the grants that
waited do besides is to the map and the Curator's answers. -/
theorem depotPortTraffic : Obligations.DepotPortTraffic := by
  unfold Obligations.DepotPortTraffic
  refine fun s i hp => ⟨fun p rest harr hfence => ⟨fun hst => ⟨_, exec_depotRequest hp, ?_⟩, fun hst hop hheld hqueue hroom => ?_⟩,
    fun tag status data r p hr hpkt hop => ⟨_, exec_depotReadData hp tag status data, ?_⟩,
    fun tag status r e hr hpkt hentry => ⟨_, exec_depotWriteAck hp tag status, ?_⟩,
    fun r q hq hroom => ?_, fun n g hrun hbusy hroom => ⟨s.undoDone n g.toNat, rfl, ?_⟩⟩
  · obtain ⟨hport, hnoc, -⟩ := (s.depotRequest i).depotMapDue_leaves
    have hrefuse := (s.checking i rest).depotRefuse_only p.owner p.addr (p.op == 1)
    rw [hport, hnoc, State.depotRequest_refused harr hfence hst, State.port_respond, hrefuse.port, State.port_checking]
    refine ⟨rfl, rfl, rfl, rfl, ?_⟩
    rw [State.respond_pkts, hrefuse.noc]
    rfl
  · obtain ⟨hport, hnoc, hparts⟩ := (s.depotRequest i).depotMapDue_leaves
    obtain ⟨hheld', hqueue', hroom'⟩ : ((s.checking i rest).port i).held = [] ∧ ((s.checking i rest).port i).queue = [] ∧
        ((s.checking i rest).port i).outst.length < 1024 := by
      rw [State.port_checking]
      exact ⟨hheld, hqueue, hroom⟩
    have hsent := State.depotRead_sent hheld' hqueue' hroom' p
    rw [← State.depotRequest_read harr hfence hst hop] at hsent
    have hport' := (hport i).trans ((congrArg (State.port · i) hsent).trans (State.port_setPort_self _ i _))
    refine ⟨_, (s.nodeRead p).tagged (s.port i).freeTag, exec_depotRequest hp, ?_⟩
    rw [hport', State.port_checking]
    refine ⟨rfl, rfl, by rw [DReq.tag_tagged]; exact DPort.freeTag_unused hroom, rfl, rfl, ?_, rfl,
      hnoc.trans ((congrArg State.noc hsent).trans rfl), hparts.trans ((congrArg State.parts hsent).trans rfl)⟩
    have hwords := p.words_pos
    simp only [State.nodeRead, DReq.tagged, depotReadMsg]
    omega
  · obtain ⟨u, hu, hdone⟩ := State.nodeData_completes (status := status) hr hpkt hop data
    obtain ⟨hport, hnoc, hparts⟩ := (s.nodeData i tag status data).depotMapDue_leaves
    rw [hport, hnoc, hdone, State.port_respond, hu.port, State.respond_pkts, hu.noc, if_pos hop, State.completed,
      State.port_setPort_self, ← hdone]
    exact ⟨rfl, rfl, hparts.trans ((congrArg State.parts hdone).trans hu.parts)⟩
  · obtain ⟨u, hu, hdone⟩ := State.nodeAck_frees (status := status) hr hpkt hentry
    obtain ⟨hport, hnoc, hparts⟩ := (s.nodeAck i tag status).depotMapDue_leaves
    have hport' := (hport i).trans ((congrArg (State.port · i) hdone).trans (State.port_setPort_self _ i _))
    rw [hport', hu.port, State.completed, State.port_setPort_self]
    exact ⟨rfl, rfl, hnoc.trans ((congrArg State.noc hdone).trans hu.noc), hparts.trans ((congrArg State.parts hdone).trans hu.parts)⟩
  · have hport := s.port_setPort_self i (DPort.send { s.port i with queue := q } r)
    refine ⟨_, r.tagged (s.port i).freeTag, exec_depotQueueSend hp hq hroom, ?_⟩
    rw [hport]
    exact ⟨rfl, DReq.tagged_eq r _, by rw [DReq.tag_tagged]; exact DPort.freeTag_unused hroom, rfl, rfl⟩
  · obtain ⟨u, hu, hdone⟩ := State.undoDone_joins hrun hbusy hroom
    have hck : (s.undoDone n g.toNat).ck n = (s.ck n).copied g.toNat := by
      rw [hdone]
      exact (hu.ck n).trans (s.ck_setCk_self n _)
    have hparts : (s.undoDone n g.toNat).parts = s.parts := by
      rw [hdone]
      exact hu.parts
    rw [hck]
    refine ⟨?_, fun l hl => ⟨l.withGranule g.toNat, ?_, l.contains_withGranule _⟩, hparts⟩
    · simp [Ckp.copied]
    · rw [Ckp.copied, hl]
      rfl

end Sys2Proof.Proofs
end

section
/-!
SUPPORT. Lanes of a link and what arrives on them (R232, R236, R237): a lane's stream replaced, what a flit in sequence and any other leaves of
it, and that nothing an accepted flit does touches the link it came on (`LinkStands`); what stands through work on units above the link layer
(`LinkKept`).
-/
namespace Sys2Proof.Machine

open Sys2Proof Sys2Proof.Statements

section
variable (s : State) (k : Fin 24) (i : Fin 4)

@[simp] theorem State.stream_setStream_self (x : Stream) : (s.setStream k i x).stream k i = x := by
  rw [State.stream, State.setStream, State.link_setLink_self]
  exact vget_vset_self ..

theorem State.streamsBut_setStream (x : Stream) : StreamsBut s (s.setStream k i x) k i := by
  intro k' i' hne
  rw [State.stream, State.setStream]
  by_cases hk : k' = k
  · subst hk
    have hi : i' ≠ i := fun h => hne (h ▸ rfl)
    rw [State.link_setLink_self]
    exact vget_vset_ne _ _ hi
  · rw [State.link_setLink_ne s _ hk]
    rfl

@[simp] theorem State.setStream_setStream (x y : Stream) : (s.setStream k i x).setStream k i y = s.setStream k i y := by
  simp only [State.setStream, State.setLink, State.link, vget_vset_self, vset_vset]

@[simp] theorem State.reg_setStream (x : Stream) (a : Nat) : (s.setStream k i x).reg a = s.reg a := rfl

@[simp] theorem State.stream_setFld (a lo w v : Nat) : (s.setFld a lo w v).stream k i = s.stream k i := rfl

@[simp] theorem State.stream_addFld (a lo w v : Nat) : (s.addFld a lo w v).stream k i = s.stream k i := rfl

@[simp] theorem State.link_addFld (a lo w v : Nat) : (s.addFld a lo w v).link k = s.link k := rfl

end

theorem streamsBut_setFld {s t : State} {k : Fin 24} {i : Fin 4} (h : StreamsBut s t k i) {a lo w x : Nat} :
    StreamsBut s (t.setFld a lo w x) k i := h

theorem streamsBut_addFld {s t : State} {k : Fin 24} {i : Fin 4} (h : StreamsBut s t k i) {a lo w x : Nat} :
    StreamsBut s (t.addFld a lo w x) k i := h

/-- Of the state only registers and the link layer have changed. -/
def LinkLayerOnly (s t : State) : Prop := ∃ r l, t = { s with regs := r, lnk := l }

namespace LinkLayerOnly

theorem refl (s : State) : LinkLayerOnly s s := ⟨_, _, rfl⟩

variable {s t u : State} (h : LinkLayerOnly s t)
include h

theorem trans (hu : LinkLayerOnly t u) : LinkLayerOnly s u := by
  obtain ⟨_, _, rfl⟩ := h
  obtain ⟨_, _, rfl⟩ := hu
  exact ⟨_, _, rfl⟩

theorem frame : t = { s with regs := t.regs, lnk := t.lnk } := by
  obtain ⟨_, _, rfl⟩ := h
  rfl

theorem parts : t.parts = s.parts := by
  obtain ⟨_, _, rfl⟩ := h
  rfl

theorem setReg {a : Nat} {w : Word} : LinkLayerOnly s (t.setReg a w) := by
  obtain ⟨_, _, rfl⟩ := h
  exact ⟨_, _, rfl⟩

theorem setFld {a lo w x : Nat} : LinkLayerOnly s (t.setFld a lo w x) := h.setReg

theorem addFld {a lo w x : Nat} : LinkLayerOnly s (t.addFld a lo w x) := h.setReg

theorem lnk {l : Lnk} : LinkLayerOnly s { t with lnk := l } := by
  obtain ⟨_, _, rfl⟩ := h
  exact ⟨_, _, rfl⟩

theorem setStream {k : Fin 24} {i : Fin 4} {x : Stream} : LinkLayerOnly s (t.setStream k i x) := h.lnk

end LinkLayerOnly

section
variable {x : Stream} {seq : Nat}

/-- A flit in sequence is accepted: the eighth since the last ACK is acknowledged (R237). -/
theorem Stream.receive_of_sequence (h : seq = x.rxSeq) : x.receive true seq = ({ x with
    rxSeq := (x.rxSeq + 1) % 4096, nakOut := false, sinceAck := if x.sinceAck + 1 = 8 then 0 else x.sinceAck + 1,
    ctl := if x.sinceAck + 1 = 8 then x.ctl ++ [.ack ((x.rxSeq + 1) % 4096)] else x.ctl }, true) := by
  unfold Stream.receive
  rw [if_pos ⟨rfl, h⟩]
  dsimp only
  split <;> rfl

/-- Any other is discarded, with one NAK outstanding (R237). -/
theorem Stream.receive_otherwise {ok : Bool} (h : ¬ (ok = true ∧ seq = x.rxSeq)) : x.receive ok seq =
    (if x.nakOut then x else { x with nakOut := true, ctl := x.ctl ++ [.nak x.rxSeq] }, false) := by
  unfold Stream.receive
  rw [if_neg h]
  split <;> rfl

end

section
variable {s : State} {k : Fin 24} {i : Fin 4} {seq : Nat} (act : State → State)

theorem State.arrive_down (h : s.laneUp k i = false) (ok : Bool) : s.arrive k i ok seq act = s := if_neg (by simp [h])

variable (hup : s.laneUp k i = true)
include hup

theorem State.arrive_of_sequence (h : seq = (s.stream k i).rxSeq) :
    s.arrive k i true seq act = act (s.setStream k i ((s.stream k i).receive true seq).1) := by
  refine (if_pos hup).trans (if_pos ?_)
  exact Stream.receive_accepts h

theorem State.arrive_otherwise {ok : Bool} (h : ¬ (ok = true ∧ seq = (s.stream k i).rxSeq)) :
    s.arrive k i ok seq act = if ok then s.setStream k i ((s.stream k i).receive ok seq).1
      else (s.setStream k i ((s.stream k i).receive ok seq).1).addFld (Reg.LNK_CRC k) 0 32 1 := by
  refine (if_pos hup).trans (if_neg ?_)
  simp [State.receiveSeq, Stream.receive_otherwise h]

end

/-- The partitions, the vaults, and the link layer with its registers and those below stand in t as in s. -/
def LinkKept (s t : State) : Prop := t.parts = s.parts ∧ t.vlt = s.vlt ∧ t.lnk = s.lnk ∧ ∀ a < 0x700000, t.reg a = s.reg a

namespace LinkKept

theorem refl (s : State) : LinkKept s s := ⟨rfl, rfl, rfl, fun _ _ => rfl⟩

variable {s t u : State} {n : Fin 8}

theorem trans (h : LinkKept s t) (hu : LinkKept t u) : LinkKept s u := by
  obtain ⟨hparts, hvlt, hlnk, hreg⟩ := h
  obtain ⟨hparts', hvlt', hlnk', hreg'⟩ := hu
  exact ⟨hparts'.trans hparts, hvlt'.trans hvlt, hlnk'.trans hlnk, fun a ha => (hreg' a ha).trans (hreg a ha)⟩

theorem ite {c : Prop} {_ : Decidable c} (ht : LinkKept s t) (hu : LinkKept s u) : LinkKept s (if c then t else u) := by
  split
  exacts [ht, hu]

section
variable (h : LinkKept s t)
include h

theorem part (m : Fin 8) : t.part m = s.part m := by rw [State.part, h.1, State.part]

theorem mach (m : Fin 8) : t.mach m = s.mach m := by
  obtain ⟨-, -, hlnk, -⟩ := h
  rw [State.mach, hlnk, State.mach]

theorem link (k : Fin 24) : t.link k = s.link k := by
  obtain ⟨-, -, hlnk, -⟩ := h
  rw [State.link, hlnk, State.link]

theorem reg_lnk {a : Nat} (ha : a < 0x700000) : t.reg a = s.reg a := by
  obtain ⟨-, -, -, hreg⟩ := h
  exact hreg a ha

theorem foldl {α : Type} {f : State → α → State} {l : List α} (hf : ∀ {v x}, LinkKept s v → LinkKept s (f v x)) :
    LinkKept s (l.foldl f t) := by
  induction l generalizing t with
  | nil => exact h
  | cons x r ih => exact ih (hf h)

theorem setReg {a : Nat} {w : Word} (ha : 0x700000 ≤ a) : LinkKept s (t.setReg a w) :=
  .trans h ⟨rfl, rfl, rfl, fun b hb => t.reg_setReg_ne w (by omega)⟩

theorem setFld {a lo w x : Nat} (ha : 0x700000 ≤ a) : LinkKept s (t.setFld a lo w x) := .setReg h ha

theorem addFld {a lo w x : Nat} (ha : 0x700000 ≤ a) : LinkKept s (t.addFld a lo w x) := .setReg h ha

theorem maxFld {a lo w x : Nat} (ha : 0x700000 ≤ a) : LinkKept s (t.maxFld a lo w x) := .setReg h ha

theorem curOnly (hu : CurOnly t u) : LinkKept s u := by
  rw [hu]
  exact h

theorem plt {x : Plt} : LinkKept s { t with plt := x } := h

theorem vtr {x : Vtr} : LinkKept s { t with vtr := x } := h

theorem cfg {x : Cfg} : LinkKept s { t with cfg := x } := h

theorem modCk {f : Ckp → Ckp} : LinkKept s (t.modCk n f) := h

theorem modCap {f : Cap → Cap} : LinkKept s (t.modCap n f) := h

theorem pushEvt {e : Evt} : LinkKept s (t.pushEvt n e) := by
  dsimp only [State.pushEvt]
  exact .ite (.ite (.maxFld (.plt h) (by simp only [Reg.CAP_FIFO_MAX]; omega)) (.addFld (.plt h) (by simp only [Reg.CAP_OVERRUN]; omega))) h

theorem xtrigIn {mask source xseq : Nat} : LinkKept s (t.xtrigIn mask source xseq) :=
  .foldl h fun h => .ite (.pushEvt (.modCap h)) (.modCap h)

end

end LinkKept

/-- Link k and its count of bad CRCs stand in t as in s. -/
def LinkStands (k : Fin 24) (s t : State) : Prop := t.link k = s.link k ∧ t.reg (Reg.LNK_CRC k) = s.reg (Reg.LNK_CRC k)

namespace LinkStands

variable {k : Fin 24} {s t u : State} {n : Fin 8}

theorem refl (k : Fin 24) (s : State) : LinkStands k s s := ⟨rfl, rfl⟩

theorem stream (h : LinkStands k s t) (i : Fin 4) : t.stream k i = s.stream k i := by rw [State.stream, h.1, State.stream]

section
variable (h : LinkStands k s t)
include h

theorem linkKept (hu : LinkKept t u) : LinkStands k s u :=
  ⟨(hu.link k).trans h.1, (hu.reg_lnk (by simp only [Reg.LNK_CRC]; omega)).trans h.2⟩

theorem setMach {m : Mach} : LinkStands k s (t.setMach n m) := h

theorem setPart {p : Part} : LinkStands k s (t.setPart n p) := h

theorem setXlast {source x : Nat} : LinkStands k s (t.setXlast source x) := h

theorem drop : LinkStands k s (t.addFld (Reg.LNK_DROP k) 0 32 1) :=
  ⟨(t.link_addFld k ..).trans h.1, (t.reg_addFld_ne 0 32 1 (by simp only [Reg.LNK_CRC, Reg.LNK_DROP]; omega)).trans h.2⟩

theorem sendFlit {j : Fin 24} {f : FlitBody} (hj : j ≠ k) : LinkStands k s (t.sendFlit j f) := by
  unfold State.sendFlit
  split
  · exact ⟨(t.link_setLink_ne _ hj.symm).trans h.1, h.2⟩
  · exact ⟨(t.link_setLink_ne _ hj.symm).trans h.1, h.2⟩

theorem sendOn {f : FlitBody} {l : List (Fin 24)} (hl : k ∉ l) : LinkStands k s (t.sendOn f l) := by
  induction l generalizing t with
  | nil => exact h
  | cons j r ih =>
    rw [List.mem_cons, not_or] at hl
    exact ih (.sendFlit h (Ne.symm hl.1)) hl.2

theorem holdWord {frame epoch mslot : Nat} {w : DWord} : LinkStands k s (t.holdWord n k frame epoch mslot w) := by
  unfold State.holdWord
  dsimp only
  split
  exacts [.drop h, .setPart h]

theorem holdWords {frame epoch mslot : Nat} {l : List DWord} : LinkStands k s (t.holdWords n k frame epoch mslot l) := by
  induction l generalizing t mslot with
  | nil => exact h
  | cons w r ih => exact ih (.holdWord h)

/-- Votes are forwarded on the other links (R243). -/
theorem takeVotes {frame epoch : Nat} {es : List VoteE} : LinkStands k s (t.takeVotes n k frame epoch es) := by
  unfold State.takeVotes State.forwardVotes
  dsimp only
  split
  exacts [.setMach h, .sendOn (.setMach h) (by simp)]

theorem takeFlit {f : FlitBody} : LinkStands k s (t.takeFlit n k f) := by
  cases f with
  | xchg ws mslot chan frame epoch => exact .holdWords h
  | token chan frame epoch => exact .setMach h
  | vote chan frame epoch es => exact .takeVotes h
  | xtrig source mask xseq time => exact h

theorem chanFlit {f : FlitBody} : LinkStands k s (t.chanFlit k f) := by
  unfold State.chanFlit
  split
  · exact .drop h
  · dsimp only
    split
    · exact .takeFlit h
    · split
      exacts [.setMach h, .drop h]

/-- A cross-trigger is forwarded on the other links (R248). -/
theorem takeXtrig {source mask x time : Nat} : LinkStands k s (t.takeXtrig k source mask x time) := by
  dsimp only [State.takeXtrig]
  split
  · exact .linkKept (.sendOn (.setXlast h) (by simp)) (.xtrigIn (.refl _))
  · exact h

end

end LinkStands

/-- A sequenced flit arrives and does an act of its own, which leaves the link that it came on. -/
theorem exec_sequenced {k : Fin 24} {i : Fin 4} {c : Bool → BitVec 12 → Instr} (h : Sequenced k i c) :
    ∃ act : State → State, (∀ u, LinkStands k u (act u)) ∧
      ∀ {s : State}, k.val < s.nLinks → ∀ ok q, exec (c ok q) s = .next (s.arrive k i ok q.toNat act) := by
  rcases h with ⟨ch, f, e, rfl⟩ | ⟨ch, f, e, es, rfl⟩ | ⟨ws, m, ch, f, e, rfl⟩ | ⟨src, m, x, tm, rfl⟩
  · exact ⟨_, fun u => .chanFlit (.refl k u), fun hk ok q => exec_token hk i ok q ch f e⟩
  · exact ⟨_, fun u => .chanFlit (.refl k u), fun hk ok q => exec_vote hk i ok q ch f e es⟩
  · exact ⟨_, fun u => .chanFlit (.refl k u), fun hk ok q => exec_xchgFlit hk i ok q ws m ch f e⟩
  · exact ⟨_, fun u => .takeXtrig (.refl k u), fun hk ok q => exec_xtrig hk i ok q src m x tm⟩

end Sys2Proof.Machine

namespace Sys2Proof.Proofs

open Sys2Proof Sys2Proof.Machine Sys2Proof.Statements

/-- Settles O23: a flit in sequence is received before it acts, and its act leaves its link; any other changes its lane's stream and a count. -/
theorem flitsAreReceivedInSequence : Obligations.FlitsAreReceivedInSequence := by
  unfold Obligations.FlitsAreReceivedInSequence
  intro s k i c hk hc
  obtain ⟨act, hact, hexec⟩ := exec_sequenced hc
  refine ⟨fun hdown ok q => ?_, fun hup q hseq => ⟨_, hexec hk true q, ?_⟩, fun hup ok q hne => ⟨_, hexec hk ok q, ?_⟩⟩
  · rw [hexec hk, State.arrive_down act hdown ok]
  · rw [State.arrive_of_sequence act hup hseq, (hact _).stream, (hact _).2, State.stream_setStream_self, Stream.receive_of_sequence hseq]
    exact ⟨rfl, rfl, rfl, rfl, rfl⟩
  · rw [State.arrive_otherwise act hup hne, Stream.receive_otherwise hne]
    cases ok with
    | true => exact ⟨rfl, State.stream_setStream_self .., s.streamsBut_setStream k i _, regsBut_refl, rfl⟩
    | false => exact ⟨(LinkLayerOnly.refl s).setStream.addFld.frame, (State.stream_addFld ..).trans (State.stream_setStream_self ..),
        streamsBut_addFld (s.streamsBut_setStream k i _), regsBut_setReg _ _ _, State.toNat_reg_addFld_word ..⟩

end Sys2Proof.Proofs
end

section
/-!
SUPPORT. What a lane's leaving service and its training touch (R266 to R269): `Trained L s t` says that of the state only registers, lanes and
links have changed, no stream of them, and of the registers only those of service and those of the training of the lanes in L.
-/
namespace Sys2Proof.Machine

open Sys2Proof Sys2Proof.Statements

theorem State.reg_eq_of_fld {s t : State} {a : Nat} (h : t.fld a 0 32 = s.fld a 0 32) : t.reg a = s.reg a := by
  have hs := (s.reg a).isLt
  have ht := (t.reg a).isLt
  unfold State.fld bitsAt at h
  exact BitVec.eq_of_toNat_eq (by omega)

/-- A field that neither a lane's leaving service nor the training of the lanes in L writes: not a lane's IN_SERVICE, a quad's IN_SERVICE
or a link's state, and of the lanes in L no field of LANE_STATE (R268, R277). -/
def TrainingFree (L : List Nat) (a lo w : Nat) : Prop :=
  (∀ l, a = Reg.LANE_STATE l → l ∉ L ∧ (lo + w ≤ 6 ∨ 7 ≤ lo)) ∧ (∀ q < 32, a = Reg.LANE_QUAD q → lo + w ≤ 10 ∨ 14 ≤ lo) ∧
    ∀ k < 24, a ≠ Reg.LNK_STATE k

theorem trainingFree_state {L : List Nat} {l lo w : Nat} (hl : l ∉ L) (hw : lo + w ≤ 6 ∨ 7 ≤ lo) : TrainingFree L (Reg.LANE_STATE l) lo w := by
  refine ⟨fun l' h => ?_, fun q hq h => ?_, fun k hk h => ?_⟩ <;> simp only [Reg.LANE_STATE, Reg.LANE_QUAD, Reg.LNK_STATE] at h
  · obtain rfl : l' = l := by omega
    exact ⟨hl, hw⟩
  · omega
  · omega

theorem trainingFree_quad {L : List Nat} {q lo w : Nat} (hq : q < 32) (hw : lo + w ≤ 10 ∨ 14 ≤ lo) : TrainingFree L (Reg.LANE_QUAD q) lo w := by
  refine ⟨fun l h => ?_, fun _ _ _ => hw, fun k hk h => ?_⟩ <;> simp only [Reg.LANE_STATE, Reg.LANE_QUAD, Reg.LNK_STATE] at h <;> omega

theorem trainingFree_spare {L : List Nat} {n : Nat} (hn : n < 8) (lo w : Nat) : TrainingFree L (Reg.LANE_SPARE n) lo w := by
  refine ⟨fun l h => ?_, fun q hq h => ?_, fun k hk h => ?_⟩ <;>
    simp only [Reg.LANE_STATE, Reg.LANE_QUAD, Reg.LNK_STATE, Reg.LANE_SPARE] at h <;> omega

theorem trainingFree_cfg {L : List Nat} (l lo w : Nat) : TrainingFree L (Reg.LANE_CFG l) lo w := by
  refine ⟨fun l h => ?_, fun q hq h => ?_, fun k hk h => ?_⟩ <;>
    simp only [Reg.LANE_STATE, Reg.LANE_QUAD, Reg.LNK_STATE, Reg.LANE_CFG] at h <;> omega

theorem trainingFree_ffe {L : List Nat} (l lo w : Nat) : TrainingFree L (Reg.LANE_FFE l) lo w := by
  refine ⟨fun l h => ?_, fun q hq h => ?_, fun k hk h => ?_⟩ <;>
    simp only [Reg.LANE_STATE, Reg.LANE_QUAD, Reg.LNK_STATE, Reg.LANE_FFE] at h <;> omega

theorem trainingFree_replay {L : List Nat} (k : Fin 24) (lo w : Nat) : TrainingFree L (Reg.LNK_REPLAY k) lo w := by
  refine ⟨fun l h => ?_, fun q hq h => ?_, fun k hk h => ?_⟩ <;>
    simp only [Reg.LANE_STATE, Reg.LANE_QUAD, Reg.LNK_STATE, Reg.LNK_REPLAY] at h <;> omega

/-- A working quad and a position in it are what a lane carries. -/
theorem State.carries_lt {s : State} {l q i : Nat} (h : s.carries l = some (q, i)) : q < 32 ∧ i < 4 := by
  unfold State.carries at h
  split at h
  · rw [Option.ite_none_right_eq_some, Option.some.injEq, Prod.mk.injEq] at h
    omega
  · split at h
    · next q' hprot =>
      rw [Option.ite_none_right_eq_some, Option.some.injEq, Prod.mk.injEq] at h
      unfold State.protects at hprot
      dsimp only at hprot
      rw [Option.ite_none_right_eq_some, Option.some.injEq] at hprot
      have hq := s.fld_lt (a := Reg.LANE_SPARE (l - 96)) 0 5
      have hi := s.fld_lt (a := Reg.LANE_SPARE (l - 96)) 5 2
      omega
    · cases h

/-- Of the state only registers, lanes and links have changed. -/
def LanesOnly (s t : State) : Prop := ∃ r a l, t = { s with regs := r, lan := a, lnk := l }

namespace LanesOnly

theorem refl (s : State) : LanesOnly s s := ⟨_, _, _, rfl⟩

variable {s t u : State}

theorem trans (h : LanesOnly s t) (hu : LanesOnly t u) : LanesOnly s u := by
  obtain ⟨_, _, _, rfl⟩ := h
  obtain ⟨_, _, _, rfl⟩ := hu
  exact ⟨_, _, _, rfl⟩

section
variable (h : LanesOnly s t)
include h

theorem frame : t = { s with regs := t.regs, lan := t.lan, lnk := t.lnk } := by
  obtain ⟨_, _, _, rfl⟩ := h
  rfl

theorem parts : t.parts = s.parts := by
  obtain ⟨_, _, _, rfl⟩ := h
  rfl

theorem setReg {a : Nat} {w : Word} : LanesOnly s (t.setReg a w) := h.trans ⟨_, _, _, rfl⟩

theorem setFld {a lo w x : Nat} : LanesOnly s (t.setFld a lo w x) := h.setReg

theorem lan {x : Lan} : LanesOnly s { t with lan := x } := h.trans ⟨_, _, _, rfl⟩

theorem lnk {x : Lnk} : LanesOnly s { t with lnk := x } := h.trans ⟨_, _, _, rfl⟩

end

end LanesOnly

/-- Of the registers only those of service and of the training of the lanes in L have changed, of the links no stream, and of the rest the lanes. -/
def Trained (L : List Nat) (s t : State) : Prop :=
  LanesOnly s t ∧ (∀ k i, t.stream k i = s.stream k i) ∧ ∀ a lo w, TrainingFree L a lo w → t.fld a lo w = s.fld a lo w

namespace Trained

variable {L : List Nat} {s t u : State}

theorem refl (L : List Nat) (s : State) : Trained L s s := ⟨.refl s, fun _ _ => rfl, fun _ _ _ _ => rfl⟩

theorem trans (h : Trained L s t) (hu : Trained L t u) : Trained L s u := by
  obtain ⟨hl, hs, hf⟩ := h
  obtain ⟨hl', hs', hf'⟩ := hu
  exact ⟨hl.trans hl', fun k i => (hs' k i).trans (hs k i), fun a lo w ha => (hf' a lo w ha).trans (hf a lo w ha)⟩

theorem ite {c : Prop} {_ : Decidable c} (ht : Trained L s t) (hu : Trained L s u) : Trained L s (if c then t else u) := by
  split
  exacts [ht, hu]

section
variable (h : Trained L s t)
include h

theorem lanesOnly : LanesOnly s t := h.1

theorem stream (k : Fin 24) (i : Fin 4) : t.stream k i = s.stream k i := by
  obtain ⟨-, hs, -⟩ := h
  exact hs k i

theorem fld {a lo w : Nat} (ha : TrainingFree L a lo w) : t.fld a lo w = s.fld a lo w := by
  obtain ⟨-, -, hf⟩ := h
  exact hf a lo w ha

theorem reg {a : Nat} (ha : TrainingFree L a 0 32) : t.reg a = s.reg a := State.reg_eq_of_fld (h.fld ha)

theorem foldl {α : Type} {f : State → α → State} {l : List α} (hf : ∀ {v x}, x ∈ l → Trained L s v → Trained L s (f v x)) :
    Trained L s (l.foldl f t) := by
  induction l generalizing t with
  | nil => exact h
  | cons x r ih => exact ih (hf List.mem_cons_self h) fun hx => hf (List.mem_cons_of_mem x hx)

theorem lan {x : Lan} : Trained L s { t with lan := x } := h.trans ⟨(LanesOnly.refl t).lan, fun _ _ => rfl, fun _ _ _ _ => rfl⟩

theorem setFld {a lo w x : Nat} (hw : lo + w ≤ 32) (ha : ∀ lo' w', TrainingFree L a lo' w' → lo' + w' ≤ lo ∨ lo + w ≤ lo') :
    Trained L s (t.setFld a lo w x) := by
  refine h.trans ⟨(LanesOnly.refl t).setFld, fun _ _ => rfl, fun b lo' w' hb => ?_⟩
  by_cases hba : b = a
  · subst hba
    exact t.fld_setFld_of_disjoint x hw (ha lo' w' hb)
  · exact t.fld_setFld_ne lo w x hba

theorem setState {l lo w x : Nat} (hl : l ∈ L) (hw : lo + w ≤ 32) : Trained L s (t.setFld (Reg.LANE_STATE l) lo w x) :=
  h.setFld hw fun _ _ ⟨hstate, _⟩ => absurd hl (hstate l rfl).1

theorem setInService {l x : Nat} : Trained L s (t.setFld (Reg.LANE_STATE l) 6 1 x) :=
  h.setFld (by decide) fun _ _ ⟨hstate, _⟩ => (hstate l rfl).2

theorem setQuadService {q i x : Nat} (hq : q < 32) (hi : i < 4) : Trained L s (t.setFld (Reg.LANE_QUAD q) (10 + i) 1 x) :=
  h.setFld (by omega) fun lo' w' ⟨_, hquad, _⟩ => by
    have := hquad q hq rfl
    omega

theorem setLinkState {k lo w x : Nat} (hk : k < 24) (hw : lo + w ≤ 32) : Trained L s (t.setFld (Reg.LNK_STATE k) lo w x) :=
  h.setFld hw fun _ _ ⟨_, _, hlink⟩ => absurd rfl (hlink k hk)

theorem dropInits {k : Fin 24} : Trained L s (t.setLink k { t.link k with inits := [] }) := by
  refine h.trans ⟨(LanesOnly.refl t).lnk, fun j i => ?_, fun _ _ _ _ => rfl⟩
  by_cases hj : j = k
  · subst hj
    rw [State.stream, State.link_setLink_self, State.stream]
  · rw [State.stream, State.link_setLink_ne t _ hj, State.stream]

theorem loseLink {k : Fin 24} : Trained L s (t.loseLink k) := h.trans ⟨(LanesOnly.refl t).lnk, fun _ _ => rfl, fun _ _ _ _ => rfl⟩

theorem linkLeavesUp {k : Fin 24} {on : Bool} : Trained L s (t.linkLeavesUp k on) :=
  .ite h (.loseLink (.setLinkState (.dropInits h) k.isLt (by decide)))

/-- A logical lane leaves service (R268). -/
theorem serviceOut {q i : Nat} (hq : q < 32) (hi : i < 4) : Trained L s (t.serviceOut q i) := by
  have hlane : Trained L s ((t.setFld (Reg.LANE_QUAD q) (10 + i) 1 0).setFld (Reg.LANE_STATE (t.carrier q i)) 6 1 0) :=
    .setInService (.setQuadService h hq hi)
  dsimp only [State.serviceOut]
  split
  · next hlink =>
    exact .ite (.linkLeavesUp (k := ⟨_, hlink.2⟩) (.setLinkState hlane hlink.2 (by omega))) (.setLinkState hlane hlink.2 (by omega))
  · exact hlane

theorem laneOut {l : Nat} : Trained L s (t.laneOut l) := by
  unfold State.laneOut
  split
  · next hcarries =>
    obtain ⟨hq, hi⟩ := State.carries_lt hcarries
    exact .serviceOut h hq hi
  · exact .setInService h

section
variable {l : Nat} (hl : l ∈ L)
include hl

theorem txQuiet : Trained L s (t.txQuiet l) := .setState (.lan h) hl (by decide)

theorem enterQuiet : Trained L s (t.enterQuiet l) := .txQuiet (.lan h) hl

theorem seeking : Trained L s (t.seeking l) := .setState (.setState (.setState h hl (by decide)) hl (by decide)) hl (by decide)

theorem toSeek : Trained L s (t.toSeek l) := .laneOut (.seeking (.lan h) hl)

theorem retrain : Trained L s (t.retrain l) := .ite (.enterQuiet h hl) (.toSeek (.enterQuiet h hl) hl)

end

end

end Trained

end Sys2Proof.Machine
end

section
/-!
SUPPORT. The sender's side of a lane (R237): what ACK and NAK free, and what a resend leaves, that which takes the lane down included.
-/
namespace Sys2Proof.Machine

open Sys2Proof Sys2Proof.Statements

theorem streamsBut_trans {s t u : State} {k : Fin 24} {i : Fin 4} (h : StreamsBut s t k i) (hu : StreamsBut t u k i) : StreamsBut s u k i :=
  fun k' i' hne => (hu k' i' hne).trans (h k' i' hne)

/-- The held flits of a lane are to be sent again, and the resend is counted (R237). -/
def State.resent (s : State) (k : Fin 24) (i : Fin 4) : State :=
  (s.addFld (Reg.LNK_REPLAY k) 0 32 1).setStream k i { s.stream k i with sent := 0, resends := (s.stream k i).resends + 1 }

section
variable (s : State) (k : Fin 24) (i : Fin 4)

theorem State.stream_resent : (s.resent k i).stream k i = { s.stream k i with sent := 0, resends := (s.stream k i).resends + 1 } :=
  State.stream_setStream_self ..

theorem State.streamsBut_resent : StreamsBut s (s.resent k i) k i := fun k' i' hne =>
  (State.streamsBut_setStream _ k i _ k' i' hne).trans (State.stream_addFld ..)

theorem State.toNat_reg_resent :
    ((s.resent k i).reg (Reg.LNK_REPLAY k)).toNat = min (2 ^ 32 - 1) ((s.reg (Reg.LNK_REPLAY k)).toNat + 1) := by
  rw [State.resent, State.reg_setStream, State.toNat_reg_addFld_word]

theorem State.regsBut_resent : RegsBut s (s.resent k i) [Reg.LNK_REPLAY k] := fun a ha =>
  (State.reg_setStream ..).trans (regsBut_setReg s _ _ a ha)

theorem LinkLayerOnly.resent {s t : State} (h : LinkLayerOnly s t) {k : Fin 24} {i : Fin 4} : LinkLayerOnly s (t.resent k i) :=
  h.addFld.setStream

theorem State.resend_eq : s.resend k i = if (s.stream k i).resends + 1 = 8 then (s.resent k i).takeDown k i else s.resent k i := by
  have hcounted : (s.fromOldest k i).setStream k i { s.stream k i with sent := 0, resends := (s.stream k i).resends + 1 } = s.resent k i :=
    State.setStream_setStream ..
  unfold State.resend
  dsimp only
  rw [hcounted]

variable {s k i}

/-- A resend that is not the eighth in a row (R237). -/
theorem State.resend_of_ne (h : (s.stream k i).resends ≠ 7) : s.resend k i = s.resent k i := by
  rw [State.resend_eq, if_neg (by omega)]

/-- The eighth resend in a row begins a new count, and the lane trains (R237). -/
theorem State.resend_of_eighth (h : (s.stream k i).resends = 7) :
    ∃ L, Trained L ((s.resent k i).setStream k i { s.stream k i with sent := 0, resends := 0 }) (s.resend k i) := by
  rw [State.resend_eq, if_pos (by omega), State.takeDown, State.stream_resent]
  exact ⟨_, .retrain (.refl _ _) (List.mem_singleton_self _)⟩

end

section
variable {s : State} {k : Fin 24} {i : Fin 4} (h : LaneUp s k i)
include h

theorem exec_ack (e : BitVec 12) (ns : BitVec 16) : exec (.ack k i true e ns) s =
    .next ((s.setStream k i ((s.stream k i).acked e.toNat)).setFld (Reg.LNK_RTT k) 0 16 ns.toNat) := by
  have hrow : exec (.ack k i true e ns) s = execAck k i true e ns s := rfl
  rw [hrow, execAck, decide_eq_true h.1, guardUnit_true, if_pos ⟨h.2, rfl⟩]

theorem exec_nak (e : BitVec 12) :
    exec (.nak k i true e) s = .next ((s.setStream k i ((s.stream k i).acked e.toNat)).resend k i) := by
  have hrow : exec (.nak k i true e) s = execNak k i true e s := rfl
  rw [hrow, execNak, decide_eq_true h.1, guardUnit_true, if_pos ⟨h.2, rfl⟩]

theorem exec_replayTimeout : exec (.replayTimeout k i) s = .next (if (s.stream k i).replay ≠ [] then s.resend k i else s) := by
  have hrow : exec (.replayTimeout k i) s = execReplayTimeout k i s := rfl
  rw [hrow, execReplayTimeout, decide_eq_true h.1, guardUnit_true]
  simp only [h.2, true_and]

theorem exec_ackTimer (hdue : (s.stream k i).sinceAck ≠ 0) : exec (.ackTimer k i) s =
    .next (s.setStream k i { s.stream k i with sinceAck := 0, ctl := (s.stream k i).ctl ++ [.ack (s.stream k i).rxSeq] }) := by
  have hrow : exec (.ackTimer k i) s = execAckTimer k i s := rfl
  rw [hrow, execAckTimer, decide_eq_true h.1, guardUnit_true]
  dsimp only
  rw [if_neg hdue]

end

end Sys2Proof.Machine

namespace Sys2Proof.Proofs

open Sys2Proof Sys2Proof.Machine Sys2Proof.Statements

/-- Settles O25: ACK and NAK first free what they name; a resend is counted, and the eighth in a row retrains a lane, which changes no stream. -/
theorem senderOfALane : Obligations.SenderOfALane := by
  unfold Obligations.SenderOfALane
  refine fun s k i hup => ⟨fun e ns => ⟨_, exec_ack hup e ns, ?_⟩, fun e hcount => ⟨_, exec_nak hup e, ?_⟩,
    fun hheld hcount => ⟨_, exec_replayTimeout hup, ?_⟩, fun hheld hcount => ⟨_, exec_replayTimeout hup, ?_⟩, fun hnone => ?_,
    fun hdue => ⟨_, exec_ackTimer hup hdue, rfl, s.streamsBut_setStream k i _, State.stream_setStream_self ..⟩⟩
  · have hfld := (s.setStream k i ((s.stream k i).acked e.toNat)).fld_setFld_self (a := Reg.LNK_RTT k) (lo := 0) (w := 16) ns.toNat (by decide)
    rw [State.stream_setFld, State.stream_setStream_self, hfld]
    exact ⟨(LinkLayerOnly.refl s).setStream.setFld.frame, streamsBut_setFld (s.streamsBut_setStream k i _), rfl, rfl, rfl, rfl,
      Nat.mod_eq_of_lt ns.isLt, regsBut_setFld_self _⟩
  · let u := s.setStream k i ((s.stream k i).acked e.toNat)
    have hacked : u.stream k i = (s.stream k i).acked e.toNat := State.stream_setStream_self ..
    have hresends : ((s.stream k i).acked e.toNat).resends = if freedBy (s.stream k i) e.toNat = 0 then (s.stream k i).resends else 0 := rfl
    have hfew : (u.stream k i).resends ≠ 7 := by
      rw [hacked, hresends]
      split <;> omega
    rw [State.resend_of_ne hfew, State.stream_resent, hacked]
    exact ⟨(LinkLayerOnly.refl s).setStream.resent.frame, streamsBut_trans (s.streamsBut_setStream k i _) (u.streamsBut_resent k i),
      rfl, rfl, rfl, u.toNat_reg_resent k i, u.regsBut_resent k i⟩
  · rw [if_pos hheld, State.resend_of_ne hcount]
    exact ⟨(LinkLayerOnly.refl s).resent.frame, s.streamsBut_resent k i, s.stream_resent k i, s.toNat_reg_resent k i, s.regsBut_resent k i⟩
  · obtain ⟨L, htrained⟩ := State.resend_of_eighth hcount
    rw [if_pos hheld, htrained.stream, State.stream_setStream_self, htrained.reg (trainingFree_replay k 0 32), State.reg_setStream]
    exact ⟨rfl, s.toNat_reg_resent k i, htrained.lanesOnly.parts.trans (LinkLayerOnly.refl s).resent.setStream.parts⟩
  · rw [exec_replayTimeout hup, if_neg (not_not.mpr hnone)]

end Sys2Proof.Proofs
end

section
/-!
SUPPORT. The LINKCTL flits that a device sends and the timebase (R249, R250, R252): the lane that carries a link's SYNC and INIT, and what an offset
leaves.
-/
namespace Sys2Proof.Machine

open Sys2Proof Sys2Proof.Statements

/-- The first up lane of a link carries its SYNC and INIT (R238, R249). -/
theorem State.sendLinkCtl_of_firstUp {s : State} {k : Fin 24} {i : Fin 4} (h : FirstUp s k i) (c : LinkCtl) :
    s.sendLinkCtl k c = s.setStream k i ((s.stream k i).say c) := by
  obtain ⟨hup, hlower⟩ := h
  have hfind : (List.finRange 4).find? (fun i => s.laneUp k i) = some i := by
    rw [List.find?_eq_some_iff_getElem]
    refine ⟨hup, i.val, by simp, by simp, fun j hj => ?_⟩
    simp [hlower ⟨j, by omega⟩ (Fin.lt_def.mpr hj)]
  rw [State.sendLinkCtl, hfind]
  rfl

theorem exec_syncSend_none {s : State} (h : s.upstream = none) : exec .syncSend s = .next s := by
  have hrow : exec .syncSend s = execSyncSend s := rfl
  rw [hrow, execSyncSend, h]

theorem exec_syncSend {s : State} {k : Fin 24} (h : s.upstream = some k) : exec .syncSend s = .next (s.sendLinkCtl k (.sync s.lnk.timebase)) := by
  have hrow : exec .syncSend s = execSyncSend s := rfl
  rw [hrow, execSyncSend, h]

theorem exec_sync {s : State} {k : Fin 24} {i : Fin 4} (h : LaneUp s k i) (lo hi : Word) : exec (.sync k i true lo hi) s = .next
    (s.setStream k i ((s.stream k i).say (.syncReply (lo.toNat + hi.toNat * 2 ^ 32) s.lnk.timebase s.lnk.timebase))) := by
  have hrow : exec (.sync k i true lo hi) s = execSync k i true lo hi s := rfl
  rw [hrow, execSync, decide_eq_true h.1, guardUnit_true, if_pos ⟨h.2, rfl⟩]
  rfl

/-- The one-way time of an exchange is shown, and its offset taken, on the upstream link (R249, R252). -/
theorem exec_syncReply {s : State} {k : Fin 24} (hk : k.val < s.nLinks) (h : s.upstream = some k) (t1 t2 t3 : DWord) :
    ∃ u, RegsOnly s u ∧ RegsBut s u [Reg.LNK_RTT k] ∧
      exec (.syncReply k true t1 t2 t3) s = .next (u.takeOffset (syncOffset t1.toNat t2.toNat t3.toNat s.lnk.timebase)) := by
  have hrow : exec (.syncReply k true t1 t2 t3) s = execSyncReply k true t1 t2 t3 s := rfl
  rw [hrow, execSyncReply, decide_eq_true hk, guardUnit_true, if_pos ⟨h, rfl⟩]
  exact ⟨_, (RegsOnly.refl s).setFld, regsBut_setFld_self s, rfl⟩

theorem sat16_lt (x : Int) : sat16 x < 2 ^ 16 := by
  unfold sat16
  split
  · decide
  · split
    · decide
    · omega

/-- The offset of the last exchange is shown (R252). -/
def State.showOffset (s : State) (off : Int) : State := s.setFld Reg.LNK_TIME_STATUS 0 16 (sat16 off)

/-- The timebase set, with no offset before it that counts (R250). -/
def State.stepTime (s : State) (timebase : Nat) : State :=
  { s with lnk := { s.lnk with timebase := timebase, slew := 0, first := false, good := 0 } }

/-- A correction to slew, and the offsets within 2 ns in a row, up to 16 (R250). -/
def State.slewTime (s : State) (slew : Int) (good : Nat) : State := { s with lnk := { s.lnk with slew := slew, good := good } }

/-- Offsets within 2 ns in a row after one more (R250). -/
def State.goodOffsets (s : State) (off : Int) : Nat := if -16 ≤ off ∧ off ≤ 16 then min 16 (s.lnk.good + 1) else 0

/-- What an offset that steps the timebase leaves (R250). -/
def State.stepped (s : State) (off : Int) : State :=
  (((s.showOffset off).stepTime (((s.lnk.timebase : Int) + off / 8).toNat % 2 ^ 64)).setFld Reg.LNK_TIME_STATUS 16 1 0).setFld
    Reg.LNK_TIME_STATUS 17 1 1

/-- What an offset that is slewed leaves, but for LOCKED (R250). -/
def State.slewed (s : State) (off : Int) : State := (s.showOffset off).slewTime (off / 8) (s.goodOffsets off)

section
variable {s : State} {off : Int}

/-- The first offset, and one beyond 1 µs, set the timebase (R250). -/
theorem State.takeOffset_steps (h : s.lnk.first = true ∨ 8000 < off ∨ off < -8000) : s.takeOffset off = s.stepped off := if_pos h

/-- Any other is slewed, and LOCKED is set after 16 within 2 ns (R250). -/
theorem State.takeOffset_slews (h : ¬ (s.lnk.first = true ∨ 8000 < off ∨ off < -8000)) : s.takeOffset off =
    if s.goodOffsets off = 16 then (s.slewed off).setFld Reg.LNK_TIME_STATUS 16 1 1 else s.slewed off := if_neg h

end

section
variable (s : State) (off : Int)

theorem State.lnk_setFld (a lo w x : Nat) : (s.setFld a lo w x).lnk = s.lnk := rfl

theorem State.fld_stepTime (timebase a lo w : Nat) : (s.stepTime timebase).fld a lo w = s.fld a lo w := rfl

theorem State.fld_slewTime (slew : Int) (good a lo w : Nat) : (s.slewTime slew good).fld a lo w = s.fld a lo w := rfl

theorem regsBut_stepTime {l : List Nat} (timebase : Nat) : RegsBut s (s.stepTime timebase) l := fun _ _ => rfl

theorem regsBut_slewTime {l : List Nat} (slew : Int) (good : Nat) : RegsBut s (s.slewTime slew good) l := fun _ _ => rfl

theorem State.fld_showOffset : (s.showOffset off).fld Reg.LNK_TIME_STATUS 0 16 = sat16 off := by
  rw [State.showOffset, State.fld_setFld_self _ _ (by decide), Nat.mod_eq_of_lt (sat16_lt off)]

theorem State.lnk_stepped : (s.stepped off).lnk =
    { s.lnk with timebase := ((s.lnk.timebase : Int) + off / 8).toNat % 2 ^ 64, slew := 0, first := false, good := 0 } := by
  rw [State.stepped, State.lnk_setFld, State.lnk_setFld, State.stepTime, State.showOffset, State.lnk_setFld]

theorem State.lnk_slewed : (s.slewed off).lnk = { s.lnk with slew := off / 8, good := s.goodOffsets off } := by
  rw [State.slewed, State.slewTime, State.showOffset, State.lnk_setFld]

theorem State.stepped_only : LinkLayerOnly s (s.stepped off) ∧ RegsBut s (s.stepped off) [Reg.LNK_TIME_STATUS] := by
  have hmem : Reg.LNK_TIME_STATUS ∈ [Reg.LNK_TIME_STATUS] := List.mem_singleton_self _
  exact ⟨(LinkLayerOnly.refl s).setFld.lnk.setFld.setFld,
    regsBut_setFld (regsBut_setFld (regsBut_trans (regsBut_setFld regsBut_refl hmem) (regsBut_stepTime _ _)) hmem) hmem⟩

theorem State.slewed_only : LinkLayerOnly s (s.slewed off) ∧ RegsBut s (s.slewed off) [Reg.LNK_TIME_STATUS] :=
  ⟨(LinkLayerOnly.refl s).setFld.lnk,
    regsBut_trans (regsBut_setFld regsBut_refl (List.mem_singleton_self _)) (regsBut_slewTime _ _ _)⟩

/-- What taking an offset shows and what it leaves (R250, R252). -/
theorem State.takeOffset_shows : LinkLayerOnly s (s.takeOffset off) ∧ RegsBut s (s.takeOffset off) [Reg.LNK_TIME_STATUS] ∧
    (s.takeOffset off).fld Reg.LNK_TIME_STATUS 0 16 = sat16 off := by
  have hslewed : (s.slewed off).fld Reg.LNK_TIME_STATUS 0 16 = sat16 off := by rw [State.slewed, State.fld_slewTime, State.fld_showOffset]
  by_cases hstep : s.lnk.first = true ∨ 8000 < off ∨ off < -8000
  · obtain ⟨honly, hregs⟩ := s.stepped_only off
    rw [State.takeOffset_steps hstep]
    refine ⟨honly, hregs, ?_⟩
    simp [State.stepped, State.fld_setFld_of_disjoint, State.fld_stepTime, State.fld_showOffset]
  · obtain ⟨honly, hregs⟩ := s.slewed_only off
    rw [State.takeOffset_slews hstep]
    split
    · refine ⟨honly.setFld, regsBut_setFld hregs (List.mem_singleton_self _), ?_⟩
      rw [State.fld_setFld_of_disjoint _ _ (by decide) (by decide), hslewed]
    · exact ⟨honly, hregs, hslewed⟩

end

section
variable {s : State} {off : Int}

theorem State.takeOffset_sets (h : s.lnk.first = true ∨ 8000 < off ∨ off < -8000) :
    (s.takeOffset off).lnk.timebase = ((s.lnk.timebase : Int) + off / 8).toNat % 2 ^ 64 ∧
      (s.takeOffset off).fld Reg.LNK_TIME_STATUS 16 1 = 0 ∧ (s.takeOffset off).fld Reg.LNK_TIME_STATUS 17 1 = 1 ∧
      (s.takeOffset off).lnk.first = false := by
  rw [State.takeOffset_steps h, State.lnk_stepped]
  refine ⟨rfl, ?_, ?_, rfl⟩ <;> simp [State.stepped, State.fld_setFld_of_disjoint, State.fld_setFld_self]

theorem State.takeOffset_leaves_timebase (hfirst : s.lnk.first = false) (hlo : -8000 ≤ off) (hhi : off ≤ 8000) :
    (s.takeOffset off).lnk.timebase = s.lnk.timebase ∧ (s.takeOffset off).lnk.slew = off / 8 ∧
      (s.lnk.good = 15 → -16 ≤ off → off ≤ 16 → (s.takeOffset off).fld Reg.LNK_TIME_STATUS 16 1 = 1) := by
  have hslew : ¬ (s.lnk.first = true ∨ 8000 < off ∨ off < -8000) := by
    rw [hfirst, not_or]
    exact ⟨Bool.false_ne_true, by omega⟩
  have hlnk : (s.takeOffset off).lnk = { s.lnk with slew := off / 8, good := s.goodOffsets off } := by
    rw [State.takeOffset_slews hslew, ← State.lnk_slewed]
    split
    exacts [State.lnk_setFld .., rfl]
  rw [hlnk]
  refine ⟨rfl, rfl, fun hgood hnear hnear' => ?_⟩
  have hlocked : s.goodOffsets off = 16 := by rw [State.goodOffsets, if_pos ⟨hnear, hnear'⟩, hgood]; rfl
  rw [State.takeOffset_slews hslew, if_pos hlocked, State.fld_setFld_self _ _ (by decide)]
  rfl

end

end Sys2Proof.Machine

namespace Sys2Proof.Proofs

open Sys2Proof Sys2Proof.Machine Sys2Proof.Statements

/-- Settles O26: SYNC leaves on the first up lane and is answered on its own, and the reply's offset steps the timebase or is slewed. -/
theorem timebaseFollowsUpstream : Obligations.TimebaseFollowsUpstream := by
  unfold Obligations.TimebaseFollowsUpstream
  refine fun s k => ⟨exec_syncSend_none, fun i hup hfirst => ⟨_, exec_syncSend hup, ?_⟩, fun i lo hi hup => ⟨_, exec_sync hup lo hi, rfl,
    s.streamsBut_setStream k i _, State.stream_setStream_self ..⟩, fun hk hup t1 t2 t3 => ?_⟩
  · rw [State.sendLinkCtl_of_firstUp hfirst]
    exact ⟨rfl, s.streamsBut_setStream k i _, State.stream_setStream_self ..⟩
  · obtain ⟨u, ⟨r, rfl⟩, hrtt, hexec⟩ := exec_syncReply hk hup t1 t2 t3
    obtain ⟨honly, hregs, hshown⟩ := State.takeOffset_shows { s with regs := r } (syncOffset t1.toNat t2.toNat t3.toNat s.lnk.timebase)
    refine ⟨_, hexec, (LinkLayerOnly.trans ⟨_, _, rfl⟩ honly).frame, ?_, hshown, State.takeOffset_sets (s := { s with regs := r }),
      State.takeOffset_leaves_timebase (s := { s with regs := r })⟩
    exact regsBut_trans (regsBut_mono hrtt (by simp)) (regsBut_mono hregs (by simp))

end Sys2Proof.Proofs
end

section
/-!
SUPPORT. INITs and arms that wait for links (R238): what a link holds after an INIT, what an arm that completes and one that is given up leave,
and which lanes an INIT repeated leaves on.
-/
namespace Sys2Proof.Machine

open Sys2Proof Sys2Proof.Statements

/-- The last INIT of a machine is the one held (R238). -/
theorem Link.initFor_holdInit_self (l : Link) (m : InitMsg) : (l.holdInit m).initFor m.machineId = some m := by
  have hothers : ∀ x ∈ l.inits.filter (fun x => x.machineId != m.machineId), ¬ (x.machineId == m.machineId) = true := fun x hx => by
    simpa using (List.mem_filter.mp hx).2
  unfold Link.initFor Link.holdInit
  dsimp only
  rw [List.find?_append, List.find?_eq_none.mpr fun x hx => ?_]
  · simp
  · split at hx
    exacts [hothers x (List.mem_of_mem_drop hx), hothers x hx]

/-- With fewer than eight INITs held none gives way to another machine's (R238). -/
theorem Link.initFor_holdInit_ne (l : Link) {m : InitMsg} (hroom : l.inits.length < 8) {d : Nat} (hd : d ≠ m.machineId) :
    (l.holdInit m).initFor d = l.initFor d := by
  have hfew : ¬ 8 ≤ (l.inits.filter fun x => x.machineId != m.machineId).length := by
    have := List.length_filter_le (fun x : InitMsg => x.machineId != m.machineId) l.inits
    omega
  have hkept : (l.inits.filter fun x => x.machineId != m.machineId).find? (fun x => x.machineId == d) =
      l.inits.find? fun x => x.machineId == d := by
    rw [List.find?_filter]
    congr 1
    funext x
    by_cases hx : x.machineId = d
    · simp [hx, hd]
    · simp [hx]
  unfold Link.initFor Link.holdInit
  dsimp only
  rw [if_neg hfew, List.find?_append, hkept]
  simp [Ne.symm hd]

theorem exec_init {s : State} {k : Fin 24} {i : Fin 4} (h : LaneUp s k i) (m : InitMsg) : exec (.init k i true m) s = .next (s.takeInit k m) := by
  have hrow : exec (.init k i true m) s = execInit k i true m s := rfl
  rw [hrow, execInit, decide_eq_true h.1, guardUnit_true, if_pos ⟨h.2, rfl⟩]

theorem exec_init_badCrc (s : State) (k : Fin 24) (i : Fin 4) (m : InitMsg) : exec (.init k i false m) s = .next s := by
  have hrow : exec (.init k i false m) s = execInit k i false m s := rfl
  rw [hrow, execInit, if_neg (by simp), guardUnit_eq, ite_self]

theorem exec_initRepeat (n : Fin 8) (s : State) : exec (.initRepeat n) s = .next (s.sendInits n) := rfl

theorem exec_armTimeout (n : Fin 8) (s : State) : exec (.armTimeout n) s = .next (s.armDrop n .retry) := rfl

section
variable (s : State) (k : Fin 24)

/-- Link k as it is once it holds an INIT. -/
def State.heldInit (m : InitMsg) : State := s.setLink k ((s.link k).holdInit m)

theorem State.link_heldInit (m : InitMsg) : (s.heldInit k m).link k = (s.link k).holdInit m := State.link_setLink_self ..

variable {s k} {m : InitMsg}

theorem State.takeInit_of_none (h : s.armingOn k m.machineId = []) : s.takeInit k m = s.heldInit k m :=
  congrArg (List.foldl (fun (t : State) n => t.armCheck n) (s.heldInit k m)) h

theorem State.takeInit_of_one {n : Fin 8} (h : s.armingOn k m.machineId = [n]) : s.takeInit k m = (s.heldInit k m).armCheck n :=
  congrArg (List.foldl (fun (t : State) n => t.armCheck n) (s.heldInit k m)) h

theorem State.machineId_of_armingOn {n : Fin 8} {d : Nat} (h : s.armingOn k d = [n]) : (s.part n).eph.machineId = d := by
  have hmem : n ∈ s.armingOn k d := h ▸ List.mem_singleton_self n
  unfold State.armingOn at hmem
  rw [List.mem_filter, Bool.and_eq_true, Bool.and_eq_true, beq_iff_eq] at hmem
  obtain ⟨-, ⟨-, hid⟩, -⟩ := hmem
  exact hid

end

namespace LinkKept

variable {s t : State} {n : Fin 8} (h : LinkKept s t)
include h

theorem noteMade {stamp made : Nat} {safety : Bool} : LinkKept s (t.noteMade n stamp made safety) := h

theorem cfgFail {stage code entry status : Nat} : LinkKept s (t.cfgFail stage code entry status) := .ite h (.setReg h (by decide))

theorem armEnd {a : Arming} {st : Status} : LinkKept s (t.armEnd n a st) := by
  dsimp only [State.armEnd]
  split
  · exact .curOnly (.ite (.noteMade h) h) (State.answer_curOnly ..)
  · split
    exacts [.ite (.cfg h) (.cfg (.cfgFail (.cfg h))), h]

theorem releaseRegions {l : List (Fin 8)} : LinkKept s (t.releaseRegions n l) := by
  induction l generalizing t with
  | nil => exact h
  | cons r l ih =>
    have hskip : 0x700000 ≤ Reg.VTR_REGION_SKIP r := by simp only [Reg.VTR_REGION_SKIP]; omega
    have hstate : 0x700000 ≤ Reg.VTR_REGION_STATE r := by simp only [Reg.VTR_REGION_STATE]; omega
    exact ih (.ite (.setFld (.vtr (.ite (.addFld h hskip) h)) hstate) h)

theorem vtrArm : LinkKept s (t.vtrArm n) := by
  unfold State.vtrArm State.writeBout
  exact .foldl (.releaseRegions (.vtr (.vtr h))) fun h => .ite (.setFld h (by simp only [Reg.VTR_REGION_STATE]; omega)) h

theorem recStart : LinkKept s (t.recStart n) := by
  have hstatus : 0x700000 ≤ Reg.CKP_STATUS n := by simp only [Reg.CKP_STATUS]; omega
  unfold State.recStart State.recPush
  exact .ite (.ite (.modCk (.setFld (.modCk h) hstatus)) (.setFld (.modCk h) hstatus)) (.setFld h hstatus)

theorem decimAll : LinkKept s t.decimAll := by
  unfold State.decimAll State.setDecim
  refine .foldl h fun {_ d} h => .ite (.foldl h fun {_ j} h => ?_) h
  have hdecim : 0x700000 ≤ Reg.PHM_DECIM d j := by simp only [Reg.PHM_DECIM]; omega
  exact .ite (.setReg h hdecim) (.ite (.setReg h hdecim) h)

end LinkKept

theorem Part.armed_at_start (p : Part) (start : Nat) (goWait : Bool) : (p.arm start goWait).state = .armed ∧ (p.arm start goWait).frame = start := by
  unfold Part.arm Part.setShadow
  dsimp only
  split <;> exact ⟨rfl, rfl⟩

/-- A partition that is armed stands at its start frame in epoch 0 with no arm in progress, and the link layer's registers stay (R30, R240). -/
theorem State.armNow_arms (s : State) (n : Fin 8) (start : Nat) (goWait : Bool) :
    ((s.armNow n start goWait).part n).state = .armed ∧ ((s.armNow n start goWait).part n).frame = start ∧
      ((s.armNow n start goWait).mach n).epoch = 0 ∧ ((s.armNow n start goWait).mach n).arming = none ∧
      ∀ a < 0x700000, (s.armNow n start goWait).reg a = s.reg a := by
  let u := (s.modPart n fun p => p.arm start goWait).setMach n { s.mach n with epoch := 0, tokens := [], votes := [], aside := [], arming := none }
  let v := (u.vtrArm n).modPart n fun p => { p with bins := [(start, (u.vtrArm n).sampleIn n)], status := (u.vtrArm n).statusOf n start }
  have hvtr : LinkKept u (u.vtrArm n) := .vtrArm (.refl u)
  have hrun : LinkKept v (s.armNow n start goWait) := .decimAll (.recStart (.modCap (.modCk (.refl v))))
  obtain ⟨hstate, hframe⟩ := (s.part n).armed_at_start start goWait
  have hpart : u.part n = (s.part n).arm start goWait := s.part_modPart_self n fun p => p.arm start goWait
  have hmach : (s.armNow n start goWait).mach n = u.mach n := (hrun.mach n).trans (hvtr.mach n)
  rw [hrun.part, State.part_modPart_self, hvtr.part, hpart, hmach, State.mach_setMach_self]
  exact ⟨hstate, hframe, rfl, rfl, fun a ha => (hrun.reg_lnk ha).trans (hvtr.reg_lnk ha)⟩

section
variable {s : State} {n : Fin 8} {a : Arming} (harming : (s.mach n).arming = some a)
include harming

theorem State.armDrop_of_arming (st : Status) : s.armDrop n st = (s.setMach n { s.mach n with arming := none }).armEnd n a st := by
  unfold State.armDrop
  dsimp only
  rw [harming]

/-- An arm that is given up leaves everything but itself (R238). -/
theorem State.armDrop_leaves (st : Status) : LinkKept (s.setMach n { s.mach n with arming := none }) (s.armDrop n st) := by
  rw [State.armDrop_of_arming harming]
  exact .armEnd (.refl _)

section
variable {k : Fin 24} {m : InitMsg} (hlinks : (s.part n).linksOf = [k]) (hheld : (s.link k).initFor (s.part n).eph.machineId = some m)
include hlinks hheld

/-- An arm whose one link is UP and holds a matching INIT completes (R238). -/
theorem State.armCheck_completes (hall : ∀ l ∈ (s.part n).eph.links, l.link < 24) (hlost : a.lost = false) (hup : s.linkState k = 2)
    (hfits : m.fits (s.part n).eph a.start = true) :
    s.armCheck n = ((s.bindLink n k).armNow n a.start a.goWait).armEnd n a .ok := by
  have hnone : (s.part n).eph.links.any (fun l => decide (24 ≤ l.link)) = false := by simpa using hall
  have hone : ∀ u : State, u.bindLinks n [k] = u.bindLink n k := fun _ => rfl
  unfold State.armCheck
  dsimp only
  rw [harming]
  dsimp only
  rw [hlinks, hone, hnone, if_neg (by simp [hheld, hlost, hup, hfits]), if_pos (by simp [hheld])]

/-- An arm whose one link holds an INIT that differs is given up (R238). -/
theorem State.armCheck_refuses (hfits : m.fits (s.part n).eph a.start = false) : s.armCheck n = s.armDrop n .range := by
  unfold State.armCheck
  simp [harming, hlinks, hheld, hfits]

end

end

/-- The partner's CHAN of an INIT held is mapped to the partition (R238). -/
theorem State.bindLink_maps {s : State} {n : Fin 8} {k : Fin 24} {m : InitMsg} (h : (s.link k).initFor (s.part n).eph.machineId = some m) :
    (s.bindLink n k).fld (Reg.LNK_MAP k) (4 * (m.chan % 8)) 4 = 8 + n.val := by
  have hn := n.isLt
  unfold State.bindLink
  dsimp only
  rw [h]
  dsimp only
  rw [State.fld_setFld_self _ _ (by omega), Nat.mod_eq_of_lt (by omega)]

theorem State.sendLinkCtl_linksOnly (s : State) (k : Fin 24) (c : LinkCtl) : LinksOnly s (s.sendLinkCtl k c) := by
  unfold State.sendLinkCtl
  split
  exacts [⟨_, rfl⟩, .refl s]

theorem State.stream_sendLinkCtl_ne (s : State) {j k : Fin 24} (h : k ≠ j) (c : LinkCtl) (i : Fin 4) :
    (s.sendLinkCtl j c).stream k i = s.stream k i := by
  unfold State.sendLinkCtl
  split
  · exact s.streamsBut_setStream j _ _ k i fun he => h (congrArg Prod.fst he)
  · rfl

/-- A LINKCTL flit sent on each link of a list waits on the first up lane of each. -/
theorem State.foldl_sendLinkCtl (c : LinkCtl) {l : List (Fin 24)} (hl : l.Nodup) (s : State) :
    LinksOnly s (l.foldl (fun t k => t.sendLinkCtl k c) s) ∧ ∀ k i, FirstUp s k i →
      (l.foldl (fun t k => t.sendLinkCtl k c) s).stream k i = if k ∈ l then (s.stream k i).say c else s.stream k i := by
  induction l generalizing s with
  | nil => exact ⟨.refl s, fun _ _ _ => rfl⟩
  | cons j r ih =>
    obtain ⟨hj, hr⟩ := List.nodup_cons.mp hl
    obtain ⟨honly, hstreams⟩ := ih hr (s.sendLinkCtl j c)
    obtain ⟨l', hsent⟩ := s.sendLinkCtl_linksOnly j c
    refine ⟨?_, fun k i hfirst => ?_⟩
    · obtain ⟨l'', hall⟩ := honly
      rw [List.foldl_cons, hall, hsent]
      exact ⟨l'', rfl⟩
    · have hfirst' : FirstUp (s.sendLinkCtl j c) k i := by
        rw [hsent]
        exact hfirst
      rw [List.foldl_cons, hstreams k i hfirst']
      by_cases hkj : k = j
      · subst hkj
        rw [if_neg hj, if_pos List.mem_cons_self, State.sendLinkCtl_of_firstUp hfirst, State.stream_setStream_self]
      · rw [s.stream_sendLinkCtl_ne hkj]
        simp [hkj]

/-- INIT is sent again on the links from which none has arrived (R238). -/
theorem State.sendInits_repeats {s : State} {n : Fin 8} {a : Arming} (harming : (s.mach n).arming = some a) (hl : (s.part n).linksOf.Nodup) :
    LinksOnly s (s.sendInits n) ∧ ∀ k i, k ∈ (s.part n).linksOf → FirstUp s k i → (s.sendInits n).stream k i =
      if (s.link k).initFor (s.part n).eph.machineId = none then (s.stream k i).say (.init (s.initOf n a.start)) else s.stream k i := by
  obtain ⟨honly, hstreams⟩ := State.foldl_sendLinkCtl (.init (s.initOf n a.start))
    (hl.filter fun k => ((s.link k).initFor (s.part n).eph.machineId).isNone) s
  unfold State.sendInits
  rw [harming]
  refine ⟨honly, fun k i hk hfirst => (hstreams k i hfirst).trans ?_⟩
  simp [hk]

end Sys2Proof.Machine

namespace Sys2Proof.Proofs

open Sys2Proof Sys2Proof.Machine Sys2Proof.Statements

/-- Settles O27: an INIT held is the machine's last, and the arm that waits for it completes or is given up; repeats and the timeout of an arm. -/
theorem initsBindAMachine : Obligations.InitsBindAMachine := by
  unfold Obligations.InitsBindAMachine
  refine fun s n => ⟨fun k i m hup => ⟨fun hnone => ⟨_, exec_init hup m, ?_⟩, fun a hone harming hlinks hall hlost hstate => ?_,
    exec_init_badCrc s k i m⟩, fun hidle => ⟨?_, ?_⟩, fun a harming => ⟨fun hnodup => ⟨_, exec_initRepeat n s, ?_⟩, _, exec_armTimeout n s, ?_⟩⟩
  · rw [State.takeInit_of_none hnone, State.link_heldInit]
    exact ⟨rfl, rfl, Link.initFor_holdInit_self .., fun hroom d hd => Link.initFor_holdInit_ne _ hroom hd⟩
  · have hheld : ((s.heldInit k m).link k).initFor ((s.heldInit k m).part n).eph.machineId = some m := by
      have hid : ((s.heldInit k m).part n).eph.machineId = m.machineId := State.machineId_of_armingOn hone
      rw [hid, State.link_heldInit, Link.initFor_holdInit_self]
    refine ⟨fun hfits => ⟨_, exec_init hup m, ?_⟩, fun hdiffers => ⟨_, exec_init hup m, ?_⟩⟩
    · rw [State.takeInit_of_one hone,
        State.armCheck_completes (s := s.heldInit k m) harming hlinks hheld hall hlost hstate hfits]
      obtain ⟨harmed, hframe, hepoch, hended, hregs⟩ := ((s.heldInit k m).bindLink n k).armNow_arms n a.start a.goWait
      have hend := LinkKept.armEnd (.refl (((s.heldInit k m).bindLink n k).armNow n a.start a.goWait)) (n := n) (a := a) (st := .ok)
      have hmap : Reg.LNK_MAP k < 0x700000 := by simp only [Reg.LNK_MAP]; omega
      rw [hend.part, hend.mach, fld_of_reg (hend.reg_lnk hmap), fld_of_reg (hregs _ hmap)]
      exact ⟨harmed, hframe, State.bindLink_maps hheld, hepoch, hended⟩
    · have hdrop := State.armDrop_leaves (s := s.heldInit k m) harming .range
      rw [State.takeInit_of_one hone, State.armCheck_refuses (s := s.heldInit k m) harming hlinks hheld hdiffers, hdrop.mach,
        State.mach_setMach_self]
      exact ⟨hdrop.1, rfl, hdrop.reg_lnk (by simp only [Reg.LNK_MAP]; omega)⟩
  · rw [exec_initRepeat, State.sendInits, hidle]
  · rw [exec_armTimeout, State.armDrop, hidle]
  · obtain ⟨⟨l, honly⟩, hstreams⟩ := State.sendInits_repeats harming hnodup
    refine ⟨?_, hstreams⟩
    rw [honly]
    rfl
  · have hdrop := State.armDrop_leaves harming .retry
    obtain ⟨hparts, hvlt, hlnk, -⟩ := id hdrop
    rw [hdrop.mach, State.mach_setMach_self, hlnk]
    exact ⟨hparts, hvlt, rfl, rfl⟩

end Sys2Proof.Proofs
end

section
/-!
SUPPORT. Spare lanes, references and pattern checkers (R237, R262, R267, R273, R274): which lane carries a logical lane once a spare has
taken it over, what the takeover leaves of both lanes, what a lane that no spare replaces does to its link, and where the receivers of a
quad stand once its reference is good.
-/
namespace Sys2Proof

/-- A field inside a field. -/
theorem bitsAt_inner {n : Nat} (v : BitVec n) (lo : Nat) {d w w' : Nat} (h : d + w' ≤ w) :
    bitsAt v (lo + d) w' = bitsAt v lo w / 2 ^ d % 2 ^ w' := by
  obtain ⟨k, rfl⟩ := Nat.exists_eq_add_of_le h
  unfold bitsAt
  rw [pow_add, ← Nat.div_div_eq_div_mul, Nat.add_assoc, pow_add 2 d, Nat.mod_mul_right_div_self, Nat.mod_mod_of_dvd _ (pow_dvd_pow 2 (by omega))]

end Sys2Proof

namespace Sys2Proof.Machine

open Sys2Proof Sys2Proof.Statements

theorem State.fld_inner (s : State) (a lo : Nat) {d w w' : Nat} (h : d + w' ≤ w) :
    s.fld a (lo + d) w' = s.fld a lo w / 2 ^ d % 2 ^ w' := bitsAt_inner _ lo h

section
variable (s : State) (l : Nat)

theorem State.fld_txQuiet : (s.txQuiet l).fld (Reg.LANE_STATE l) 3 1 = 1 := by
  rw [State.txQuiet, State.fld_setFld_self _ _ (by decide)]
  rfl

/-- A receiver that seeks (R267). -/
theorem State.rx_seeking : (s.seeking l).rx l = 1 := by
  rw [State.rx, State.seeking, State.fld_setFld_of_disjoint _ _ (by decide) (by decide),
    State.fld_setFld_of_disjoint _ _ (by decide) (by decide), State.setRxState, State.fld_setFld_self _ _ (by decide)]
  rfl

theorem State.fld_seeking_quiet : (s.seeking l).fld (Reg.LANE_STATE l) 3 1 = s.fld (Reg.LANE_STATE l) 3 1 := by
  rw [State.seeking, State.fld_setFld_of_disjoint _ _ (by decide) (by decide), State.fld_setFld_of_disjoint _ _ (by decide) (by decide),
    State.setRxState, State.fld_setFld_of_disjoint _ _ (by decide) (by decide)]

/-- The receiver's state counted as seeking once more. -/
def State.countSeek : State := { s with lan := { s.lan with fails := mset dNat s.lan.fails l (mget dNat s.lan.fails l + 1) } }

theorem State.fld_countSeek (a lo w : Nat) : (s.countSeek l).fld a lo w = s.fld a lo w := rfl

theorem State.toSeek_trained : Trained [] ((s.countSeek l).seeking l) (s.toSeek l) := .laneOut (.refl ..)

theorem State.rx_toSeek_self : (s.toSeek l).rx l = 1 :=
  ((s.toSeek_trained l).fld (trainingFree_state List.not_mem_nil (by decide))).trans ((s.countSeek l).rx_seeking l)

theorem State.rx_toSeek_ne {l' : Nat} (h : l ≠ l') : (s.toSeek l').rx l = s.rx l :=
  (Trained.toSeek (.refl [l'] s) (List.mem_singleton_self l')).fld (trainingFree_state (by simpa using h) (by decide))

/-- A retrain leaves the transmitter quiet (R267). -/
theorem State.fld_retrain_quiet : (s.retrain l).fld (Reg.LANE_STATE l) 3 1 = 1 := by
  have hquiet : (s.enterQuiet l).fld (Reg.LANE_STATE l) 3 1 = 1 := State.fld_txQuiet ..
  unfold State.retrain
  dsimp only
  split
  · exact hquiet
  · rw [((s.enterQuiet l).toSeek_trained l).fld (trainingFree_state List.not_mem_nil (by decide)), State.fld_seeking_quiet, State.fld_countSeek,
      hquiet]

end

/-- Receivers that are sent to SEEK stand there, and every other where it stood. -/
theorem State.rx_foldl_toSeek (b i : Nat) (l : List Nat) (s : State) :
    (l.foldl (fun t j => t.toSeek (b + j)) s).rx (b + i) = if i ∈ l then 1 else s.rx (b + i) := by
  induction l generalizing s with
  | nil => rfl
  | cons j r ih =>
    rw [List.foldl_cons, ih]
    by_cases hij : i = j
    · subst hij
      rw [State.rx_toSeek_self, ite_self, if_pos List.mem_cons_self]
    · rw [s.rx_toSeek_ne (b + i) (by omega)]
      simp [hij]

section
variable {s : State} {q i n : Nat}

theorem State.idleSpare_some (h : s.idleSpare q = some n) : n < 8 ∧ s.protects n = some q := by
  have hidle := List.find?_some h
  rw [Bool.and_eq_true, Bool.and_eq_true, beq_iff_eq] at hidle
  obtain ⟨⟨-, hprot⟩, -⟩ := hidle
  exact ⟨List.mem_range.mp (List.mem_of_find?_eq_some h), hprot⟩

theorem State.protects_congr {t : State} (h : t.fld (Reg.LANE_SPARE n) 0 5 = s.fld (Reg.LANE_SPARE n) 0 5) : t.protects n = s.protects n := by
  unfold State.protects
  rw [h]

theorem State.spareCarries_congr {t : State} (h : t.reg (Reg.LANE_SPARE n) = s.reg (Reg.LANE_SPARE n)) :
    t.spareCarries q i n = s.spareCarries q i n := by
  simp only [State.spareCarries, State.protects_congr (fld_of_reg h 0 5), fld_of_reg h]

theorem State.spareCarries_of_own (hq : q < 24) (hi : i < 4) (h : s.carrier q i = 4 * q + i) {m : Nat} (hm : m < 8) :
    s.spareCarries q i m = false := by
  unfold State.carrier at h
  split at h
  · omega
  · next hnone => simpa using List.find?_eq_none.mp hnone m (List.mem_range.mpr hm)

/-- The one spare that carries a logical lane is its carrier (R274). -/
theorem State.carrier_of_only (hn : n < 8) (h : s.spareCarries q i n = true) (honly : ∀ m < 8, m ≠ n → s.spareCarries q i m = false) :
    s.carrier q i = 96 + n := by
  unfold State.carrier
  split
  · next m hm =>
    have hmn : m = n := by
      by_contra hne
      have hnot := honly m (List.mem_range.mp (List.mem_of_find?_eq_some hm)) hne
      exact Bool.false_ne_true (hnot.symm.trans (List.find?_some hm))
    rw [hmn]
  · next hnone => exact absurd h (List.find?_eq_none.mp hnone n (List.mem_range.mpr hn))

end

/-- A spare lane stands ready to carry a logical lane: its settings copied, and its register set (R274). -/
def State.spareTakes (s : State) (n q i : Nat) : State := (s.spareCopies n q i).setFld (Reg.LANE_SPARE n) 5 3 (i + 4)

section
variable (s : State) (n q i : Nat)

theorem State.lanesOnly_spareTakes : LanesOnly s (s.spareTakes n q i) := (LanesOnly.refl s).setReg.setReg.setFld

theorem State.regsBut_spareTakes :
    RegsBut s (s.spareTakes n q i) [Reg.LANE_CFG (96 + n), Reg.LANE_FFE (96 + n), Reg.LANE_SPARE n] :=
  regsBut_setFld (regsBut_setReg_mem (regsBut_setReg_mem regsBut_refl (by simp)) (by simp)) (by simp)

variable {s n q i}

theorem State.reg_spareTakes (hn : n < 8) :
    (s.spareTakes n q i).reg (Reg.LANE_CFG (96 + n)) = s.reg (Reg.LANE_CFG (4 * q + i)) ∧
      (s.spareTakes n q i).reg (Reg.LANE_FFE (96 + n)) = s.reg (Reg.LANE_FFE (4 * q + i)) := by
  obtain ⟨hcfg, hffe, hne⟩ : Reg.LANE_CFG (96 + n) ≠ Reg.LANE_SPARE n ∧ Reg.LANE_FFE (96 + n) ≠ Reg.LANE_SPARE n ∧
      Reg.LANE_CFG (96 + n) ≠ Reg.LANE_FFE (96 + n) := by
    simp only [Reg.LANE_CFG, Reg.LANE_FFE, Reg.LANE_SPARE]
    omega
  rw [State.spareTakes, State.reg_setFld_ne _ _ _ _ hcfg, State.reg_setFld_ne _ _ _ _ hffe, State.spareCopies, State.reg_setReg_ne _ _ hne,
    State.reg_setReg_self, State.reg_setReg_self]
  exact ⟨rfl, rfl⟩

theorem State.fld_spareTakes (hn : n < 8) (hi : i < 4) :
    (s.spareTakes n q i).fld (Reg.LANE_SPARE n) 0 5 = s.fld (Reg.LANE_SPARE n) 0 5 ∧
      (s.spareTakes n q i).fld (Reg.LANE_SPARE n) 5 2 = i ∧ (s.spareTakes n q i).fld (Reg.LANE_SPARE n) 7 1 = 1 := by
  have hset : (s.spareTakes n q i).fld (Reg.LANE_SPARE n) 5 3 = i + 4 := by
    rw [State.spareTakes, State.fld_setFld_self _ _ (by decide), Nat.mod_eq_of_lt (by omega)]
  obtain ⟨hcfg, hffe⟩ : Reg.LANE_SPARE n ≠ Reg.LANE_CFG (96 + n) ∧ Reg.LANE_SPARE n ≠ Reg.LANE_FFE (96 + n) := by
    simp only [Reg.LANE_CFG, Reg.LANE_FFE, Reg.LANE_SPARE]
    omega
  refine ⟨?_, ?_, ?_⟩
  · have hreg : (s.spareCopies n q i).reg (Reg.LANE_SPARE n) = s.reg (Reg.LANE_SPARE n) := by
      rw [State.spareCopies, State.reg_setReg_ne _ _ hffe, State.reg_setReg_ne _ _ hcfg]
    rw [State.spareTakes, State.fld_setFld_of_disjoint _ _ (by decide) (by decide), fld_of_reg hreg]
  · rw [State.fld_inner _ _ 5 (d := 0) (w := 3) (by decide), hset]
    omega
  · rw [State.fld_inner _ _ 5 (d := 2) (w := 3) (by decide), hset]
    omega

theorem State.activate_eq (h : s.protects n = some q) :
    s.activate n i = (((s.serviceOut q i).txQuiet (s.carrier q i)).spareTakes n q i).retrain (96 + n) := by
  unfold State.activate
  rw [h]
  rfl

end

section
variable {s : State} {q n i : Nat} (hq : q < 24) (hi : i < 4) (hprot : s.protects n = some q) (hown : s.carrier q i = 4 * q + i)
include hq hi hprot hown

/-- A takeover goes by three steps: the logical lane leaves service with its transmitter quiet, the spare is set, and it trains (R274). -/
theorem State.activate_steps : ∃ u v, Trained [4 * q + i] s u ∧ u.fld (Reg.LANE_STATE (4 * q + i)) 3 1 = 1 ∧ v = u.spareTakes n q i ∧
    Trained [96 + n] v (s.activate n i) ∧ (s.activate n i).fld (Reg.LANE_STATE (96 + n)) 3 1 = 1 := by
  rw [State.activate_eq hprot, hown]
  exact ⟨_, _, .txQuiet (.serviceOut (.refl _ s) (by omega) hi) (List.mem_singleton_self _), State.fld_txQuiet .., rfl,
    .retrain (.refl ..) (List.mem_singleton_self _), State.fld_retrain_quiet ..⟩

variable (hn : n < 8)
include hn

/-- What a takeover leaves of the spare lane, of the former transmitter and of the rest (R274). -/
theorem State.activate_takes :
    (s.activate n i).fld (Reg.LANE_SPARE n) 7 1 = 1 ∧ (s.activate n i).fld (Reg.LANE_SPARE n) 5 2 = i ∧
      (s.activate n i).carrier q i = 96 + n ∧ (s.activate n i).fld (Reg.LANE_STATE (4 * q + i)) 3 1 = 1 ∧
      (s.activate n i).fld (Reg.LANE_STATE (96 + n)) 3 1 = 1 ∧
      (s.activate n i).reg (Reg.LANE_CFG (96 + n)) = s.reg (Reg.LANE_CFG (4 * q + i)) ∧
      (s.activate n i).reg (Reg.LANE_FFE (96 + n)) = s.reg (Reg.LANE_FFE (4 * q + i)) ∧ LanesOnly s (s.activate n i) := by
  obtain ⟨u, v, hu, hquiet, rfl, ht, hspareQuiet⟩ := State.activate_steps hq hi hprot hown
  obtain ⟨hprotects, hlane, hactive⟩ := State.fld_spareTakes (s := u) (q := q) hn hi
  obtain ⟨hcfg, hffe⟩ := State.reg_spareTakes (s := u) (q := q) (i := i) hn
  have hspare : ∀ m < 8, m ≠ n → (s.activate n i).reg (Reg.LANE_SPARE m) = s.reg (Reg.LANE_SPARE m) := fun m hm hne => by
    rw [ht.reg (trainingFree_spare hm 0 32), u.regsBut_spareTakes n q i _ ?_, hu.reg (trainingFree_spare hm 0 32)]
    simp only [Reg.LANE_SPARE, Reg.LANE_CFG, Reg.LANE_FFE, List.mem_cons, List.not_mem_nil, or_false, not_or]
    omega
  have hfree := fun lo w => ht.fld (trainingFree_spare hn lo w)
  have hcarries : (s.activate n i).spareCarries q i n = true := by
    have hkept : (s.activate n i).protects n = some q :=
      (State.protects_congr ((hfree 0 5).trans (hprotects.trans (hu.fld (trainingFree_spare hn 0 5))))).trans hprot
    rw [State.spareCarries, hkept, hfree, hfree, hactive, hlane]
    simp
  refine ⟨(hfree 7 1).trans hactive, (hfree 5 2).trans hlane, State.carrier_of_only hn hcarries fun m hm hne => ?_, ?_, hspareQuiet,
    ?_, ?_, (hu.lanesOnly.trans (u.lanesOnly_spareTakes n q i)).trans ht.lanesOnly⟩
  · rw [State.spareCarries_congr (hspare m hm hne), State.spareCarries_of_own hq hi hown hm]
  · rw [ht.fld (trainingFree_state (by simp; omega) (by decide)), fld_of_reg (u.regsBut_spareTakes n q i _ ?_), hquiet]
    simp only [Reg.LANE_SPARE, Reg.LANE_CFG, Reg.LANE_FFE, Reg.LANE_STATE, List.mem_cons, List.not_mem_nil, or_false, not_or]
    omega
  · rw [ht.reg (trainingFree_cfg _ 0 32), hcfg, hu.reg (trainingFree_cfg _ 0 32)]
  · rw [ht.reg (trainingFree_ffe _ 0 32), hffe, hu.reg (trainingFree_ffe _ 0 32)]

end

section
variable {s : State}

theorem exec_spareActivate {q : Fin 24} (h : s.hasQuad q = true) (i : Fin 4) (delayed gone : Bool) :
    exec (.spareActivate q i delayed gone) s = .next (s.spareFor q i delayed gone) := congrArg (guardUnit s · _) h

theorem exec_quadRefOk {q : Fin 26} (h : s.hasLane (4 * q.val) = true) : exec (.quadRefOk q) s = .next (s.quadRef q.val) :=
  congrArg (guardUnit s · _) h

/-- A lane in service is not replaced (R274). -/
theorem State.spareFor_of_service {q i : Nat} (h : s.fld (Reg.LANE_QUAD q) (10 + i) 1 = 1) (delayed gone : Bool) :
    s.spareFor q i delayed gone = s := if_neg fun ⟨_, hout, _⟩ => by omega

section
variable {q i : Nat} (hon : s.quadOn q = true) (hout : s.fld (Reg.LANE_QUAD q) (10 + i) 1 = 0)
include hon hout

/-- An idle spare takes over a logical lane that its own pair carries (R274). -/
theorem State.spareFor_activates {n : Nat} (hq : q < 24) (hi : i < 4) (hown : s.carrier q i = 4 * q + i) (hidle : s.idleSpare q = some n)
    (gone : Bool) : s.spareFor q i true gone = s.activate n i := by
  have hworking : 4 * q + i < 96 := by omega
  unfold State.spareFor
  dsimp only
  rw [if_pos ⟨hon, hout, .inl rfl⟩, hown, if_pos hworking, hidle]

/-- Link k in FAULT, with no INIT held (R237, R238). -/
def State.linkFault (s : State) (k : Fin 24) : State := (s.setLink k { s.link k with inits := [] }).setFld (Reg.LNK_STATE k) 0 2 3

/-- A lane that cannot return and that no spare replaces puts its link in FAULT (R237). -/
theorem State.spareFor_faults {k : Fin 24} (hnone : s.idleSpare q = none) (huse : s.fld (Reg.LANE_QUAD q) 0 2 = 1)
    (hbind : s.fld (Reg.LANE_QUAD q) 2 5 = k.val) : s.spareFor q i true true = (s.linkFault k).loseLink k := by
  have hlt : s.fld (Reg.LANE_QUAD q) 2 5 < 24 := hbind ▸ k.isLt
  have hk : (⟨s.fld (Reg.LANE_QUAD q) 2 5, hlt⟩ : Fin 24) = k := Fin.ext hbind
  unfold State.spareFor
  dsimp only
  rw [if_pos ⟨hon, hout, .inl rfl⟩, hnone, ite_self]
  dsimp only
  rw [dif_pos ⟨rfl, huse, hlt⟩, hk, hbind]
  rfl

end

theorem State.reg_loseLink (s : State) (k : Fin 24) (a : Nat) : (s.loseLink k).reg a = s.reg a := rfl

theorem State.link_loseLink (s : State) (k j : Fin 24) : (s.loseLink k).link j = s.link j := rfl

theorem State.link_setFld (s : State) (a lo w x : Nat) (k : Fin 24) : (s.setFld a lo w x).link k = s.link k := rfl

theorem State.linkFault_faults (s : State) (k : Fin 24) : ((s.linkFault k).loseLink k).linkState k = 3 ∧
    ((s.linkFault k).loseLink k).link k = { s.link k with inits := [] } ∧ RegsBut s ((s.linkFault k).loseLink k) [Reg.LNK_STATE k] := by
  refine ⟨?_, ?_, fun a ha => ?_⟩
  · rw [State.linkState, fld_of_reg (State.reg_loseLink ..), State.linkFault, State.fld_setFld_self _ _ (by decide)]
    rfl
  · rw [State.link_loseLink, State.linkFault, State.link_setFld, State.link_setLink_self]
  · rw [State.reg_loseLink]
    exact State.reg_setFld_ne _ _ _ _ (by simpa using ha)

/-- A reference that becomes good sends the receivers that are OFF to SEEK (R262, R267). -/
theorem State.quadRef_seeks {q : Nat} (hq : q < 26) (hon : s.quadOn q = true) (href : s.fld (Reg.LANE_QUAD q) 14 1 = 0) :
    (s.quadRef q).fld (Reg.LANE_QUAD q) 14 1 = 1 ∧
      ∀ i < 4, (s.quadRef q).rx (4 * q + i) = if s.rx (4 * q + i) = 0 then 1 else s.rx (4 * q + i) := by
  have hgood : s.quadRef q = ((List.range 4).filter fun i => s.rx (4 * q + i) == 0).foldl (fun (t : State) i => t.toSeek (4 * q + i))
      (s.setFld (Reg.LANE_QUAD q) 14 1 1) := if_pos ⟨hon, href⟩
  have htrained : Trained ((List.range 4).map (4 * q + ·)) (s.setFld (Reg.LANE_QUAD q) 14 1 1) (s.quadRef q) := by
    rw [hgood]
    exact .foldl (.refl ..) fun hi h => .toSeek h (List.mem_map_of_mem (List.mem_of_mem_filter hi))
  refine ⟨?_, fun i hi => ?_⟩
  · rw [htrained.fld (trainingFree_quad (by omega) (by decide)), State.fld_setFld_self _ _ (by decide)]
    rfl
  · have hne : Reg.LANE_STATE (4 * q + i) ≠ Reg.LANE_QUAD q := by
      simp only [Reg.LANE_STATE, Reg.LANE_QUAD]
      omega
    have hrx : (s.setFld (Reg.LANE_QUAD q) 14 1 1).rx (4 * q + i) = s.rx (4 * q + i) := s.fld_setFld_ne _ _ _ hne
    rw [hgood, State.rx_foldl_toSeek, hrx]
    simp [hi]

theorem State.quadRef_of_not {q : Nat} (h : s.quadOn q = false ∨ s.fld (Reg.LANE_QUAD q) 14 1 = 1) : s.quadRef q = s := by
  refine if_neg fun ⟨hon, href⟩ => ?_
  rcases h with h | h
  · exact Bool.false_ne_true (h.symm.trans hon)
  · omega

/-- A pattern checker that listens to its partner and locks (R273). -/
def State.prbsListens (s : State) (l : Nat) : Prop :=
  s.quadManual (quadOf l) = true ∧ s.fld (Reg.LANE_PRBS l) 1 1 = 1 ∧ s.hearsSelf l = false

section
variable {l : BitVec 7} (hl : s.hasLane l.toNat = true) (errs : Word)
include hl

theorem exec_prbsRxLock_off (h : ¬ s.prbsListens l.toNat) : exec (.prbsRxLock l errs) s = .next s := by
  have hrow : exec (.prbsRxLock l errs) s = execPrbsRxLock l errs s := rfl
  rw [hrow, execPrbsRxLock, hl, guardUnit_true]
  exact congrArg _ (if_neg h)

theorem exec_prbsRxLock (h : s.prbsListens l.toNat) : exec (.prbsRxLock l errs) s =
    .next ((s.setFld (Reg.LANE_PRBS l.toNat) 2 1 1).addFld (Reg.LANE_PRBS_ERR l.toNat) 0 32 errs.toNat) := by
  have hrow : exec (.prbsRxLock l errs) s = execPrbsRxLock l errs s := rfl
  rw [hrow, execPrbsRxLock, hl, guardUnit_true]
  exact congrArg _ (if_pos h)

end

/-- A checker that locks counts the errors after it (R273). -/
theorem State.prbs_counts (s : State) (l errs : Nat) :
    let t := (s.setFld (Reg.LANE_PRBS l) 2 1 1).addFld (Reg.LANE_PRBS_ERR l) 0 32 errs
    t.fld (Reg.LANE_PRBS l) 2 1 = 1 ∧ (t.reg (Reg.LANE_PRBS_ERR l)).toNat = min (2 ^ 32 - 1) ((s.reg (Reg.LANE_PRBS_ERR l)).toNat + errs) ∧
      RegsOnly s t ∧ RegsBut s t [Reg.LANE_PRBS l, Reg.LANE_PRBS_ERR l] := by
  have hne : Reg.LANE_PRBS l ≠ Reg.LANE_PRBS_ERR l := by
    simp only [Reg.LANE_PRBS, Reg.LANE_PRBS_ERR]
    omega
  refine ⟨?_, ?_, (RegsOnly.refl s).setFld.addFld, regsBut_setReg_mem (regsBut_setFld regsBut_refl (by simp)) (by simp)⟩
  · rw [fld_of_reg (State.reg_addFld_ne _ _ _ _ hne), State.fld_setFld_self _ _ (by decide)]
    rfl
  · rw [State.toNat_reg_addFld_word, State.reg_setFld_ne _ _ _ _ hne.symm]

theorem RegsOnly.frame {s t : State} (h : RegsOnly s t) : t = { s with regs := t.regs } := by
  obtain ⟨_, rfl⟩ := h
  rfl

end

end Sys2Proof.Machine

namespace Sys2Proof.Proofs

open Sys2Proof Sys2Proof.Machine Sys2Proof.Statements

/-- Settles O31: a lane out of service is taken over or puts its link in FAULT; the receivers of a quad by its reference; a checker's count. -/
theorem sparesReferencesAndPatterns : Obligations.SparesReferencesAndPatterns := by
  unfold Obligations.SparesReferencesAndPatterns
  refine ⟨fun s q i delayed gone hquad hon => ⟨fun hin => ?_, fun n hout hdelay hown hidle => ⟨_, exec_spareActivate hquad .., ?_⟩,
      fun k hout hdelay hnone huse hbind => ⟨_, exec_spareActivate hquad .., ?_⟩⟩,
    fun s q hlane => ⟨fun hon href => ⟨_, exec_quadRefOk hlane, State.quadRef_seeks q.isLt hon href⟩, fun hnot => ?_⟩,
    fun s l errs hlane => ⟨fun hon => ⟨_, exec_prbsRxLock hlane errs hon, ?_⟩, exec_prbsRxLock_off hlane errs⟩⟩
  · rw [exec_spareActivate hquad, State.spareFor_of_service hin]
  · obtain ⟨hn, hprot⟩ := State.idleSpare_some hidle
    obtain ⟨hactive, hlane, hcarrier, hquiet, hspareQuiet, hcfg, hffe, honly⟩ := State.activate_takes q.isLt i.isLt hprot hown hn
    rw [hdelay, State.spareFor_activates hon hout q.isLt i.isLt hown hidle]
    exact ⟨hactive, hlane, hcarrier, hquiet, hspareQuiet, hcfg, hffe, honly.frame⟩
  · obtain ⟨hstate, hlink, hregs⟩ := s.linkFault_faults k
    rw [hdelay, State.spareFor_faults hon hout hnone huse hbind, hlink]
    exact ⟨hstate, rfl, rfl, hregs⟩
  · rw [exec_quadRefOk hlane, State.quadRef_of_not hnot]
  · obtain ⟨hlocked, hcount, honly, hregs⟩ := s.prbs_counts l.toNat errs.toNat
    exact ⟨hlocked, hcount, honly.frame, hregs⟩

end Sys2Proof.Proofs
end

section
/-!
SUPPORT. Service of a lane (R268): the two registers that show it (`State.service`), and that all else its beginning or its end changes is on the
link's side (`LinkSide`), of which LNK_STATE is told; a receiver that falls back to SEEK (R267).
-/
namespace Sys2Proof.Machine

open Sys2Proof Sys2Proof.Statements

/-- Of the state only the link layer and registers below those of the lanes have changed. -/
def LinkSide (s t : State) : Prop := LinkLayerOnly s t ∧ ∀ a, Reg.LANE_CAPS ≤ a → t.reg a = s.reg a

namespace LinkSide

theorem refl (s : State) : LinkSide s s := ⟨.refl s, fun _ _ => rfl⟩

variable {s t u : State} {k : Fin 24}

theorem ite {c : Prop} {_ : Decidable c} (ht : LinkSide s t) (hu : LinkSide s u) : LinkSide s (if c then t else u) := by
  split
  exacts [ht, hu]

section
variable (h : LinkSide s t)
include h

theorem reg {a : Nat} (ha : Reg.LANE_CAPS ≤ a) : t.reg a = s.reg a := by
  obtain ⟨-, hreg⟩ := h
  exact hreg a ha

theorem fld {a : Nat} (ha : Reg.LANE_CAPS ≤ a) (lo w : Nat) : t.fld a lo w = s.fld a lo w := fld_of_reg (h.reg ha) lo w

theorem lan : t.lan = s.lan := by
  obtain ⟨⟨_, _, rfl⟩, -⟩ := h
  rfl

theorem lanesOnly : LanesOnly s t := by
  obtain ⟨⟨r, l, rfl⟩, -⟩ := h
  exact ⟨r, s.lan, l, rfl⟩

theorem lnk {l : Lnk} : LinkSide s { t with lnk := l } := ⟨.lnk h.1, h.2⟩

theorem setFld {a lo w x : Nat} (ha : a < Reg.LANE_CAPS) : LinkSide s (t.setFld a lo w x) :=
  ⟨.setFld h.1, fun b hb => (t.reg_setFld_ne lo w x (by omega)).trans (h.reg hb)⟩

theorem setLink {l : Link} : LinkSide s (t.setLink k l) := .lnk h

theorem setState {lo w x : Nat} : LinkSide s (t.setFld (Reg.LNK_STATE k) lo w x) := .setFld h (by
  simp only [Reg.LNK_STATE, Reg.LANE_CAPS]
  omega)

theorem linkLeavesUp {on : Bool} : LinkSide s (t.linkLeavesUp k on) := .ite h (.lnk (.setState (.setLink h)))

theorem fromOldest {i : Fin 4} : LinkSide s (t.fromOldest k i) := .lnk (.setFld h (by
  simp only [Reg.LNK_REPLAY, Reg.LANE_CAPS]
  omega))

theorem linksOnly (hu : LinksOnly t u) : LinkSide s u := by
  obtain ⟨_, rfl⟩ := hu
  exact .lnk h

end

end LinkSide

/-- Logical lane i of quad q shown in service, or out of it, on physical lane l (R268, R277). -/
def State.service (s : State) (q i l x : Nat) : State := (s.setFld (Reg.LANE_QUAD q) (10 + i) 1 x).setFld (Reg.LANE_STATE l) 6 1 x

theorem lane_quad_ne_state {q : Nat} (hq : q < 32) (l : Nat) : Reg.LANE_QUAD q ≠ Reg.LANE_STATE l := by
  simp only [Reg.LANE_QUAD, Reg.LANE_STATE]
  omega

theorem lane_caps_le (n : Nat) : Reg.LANE_CAPS ≤ Reg.LANE_QUAD n ∧ Reg.LANE_CAPS ≤ Reg.LANE_STATE n := by
  simp only [Reg.LANE_CAPS, Reg.LANE_QUAD, Reg.LANE_STATE]
  omega

section
variable (s : State) {q i : Nat} (l x : Nat)

theorem State.lanesOnly_service : LanesOnly s (s.service q i l x) := (LanesOnly.refl s).setFld.setFld

theorem State.lan_service : (s.service q i l x).lan = s.lan := rfl

theorem State.regsBut_service : RegsBut s (s.service q i l x) [Reg.LANE_QUAD q, Reg.LANE_STATE l] :=
  regsBut_setFld (regsBut_setFld regsBut_refl (by simp)) (by simp)

theorem State.fld_service_state : (s.service q i l x).fld (Reg.LANE_STATE l) 6 1 = x % 2 := State.fld_setFld_self _ _ (by decide)

variable (hq : q < 32)
include hq

theorem State.fld_service_quad (hi : i < 4) : (s.service q i l x).fld (Reg.LANE_QUAD q) (10 + i) 1 = x % 2 := by
  rw [State.service, State.fld_setFld_ne _ _ _ _ (lane_quad_ne_state hq l), State.fld_setFld_self _ _ (by omega), pow_one]

theorem State.fld_service_quad_low (hi : i < 4) {lo w : Nat} (h : lo + w ≤ 10) :
    (s.service q i l x).fld (Reg.LANE_QUAD q) lo w = s.fld (Reg.LANE_QUAD q) lo w := by
  rw [State.service, State.fld_setFld_ne _ _ _ _ (lane_quad_ne_state hq l),
    State.fld_setFld_of_disjoint _ _ (by omega) (by omega)]

/-- The other fields of LANE_STATE stand. -/
theorem State.fld_service_other {lo w : Nat} (h : lo + w ≤ 6 ∨ 7 ≤ lo) :
    (s.service q i l x).fld (Reg.LANE_STATE l) lo w = s.fld (Reg.LANE_STATE l) lo w := by
  rw [State.service, State.fld_setFld_of_disjoint _ _ (by decide) h, State.fld_setFld_ne _ _ _ _ (lane_quad_ne_state hq l).symm]

end

section
variable (s : State) (q i l : Nat)

/-- Lane i of link k is not up, and a link with none leaves UP (R236, R268). -/
def State.laneDown (s : State) (k : Fin 24) (q i : Nat) : State :=
  let u := s.setFld (Reg.LNK_STATE k) (2 + i) 1 0
  if u.fld (Reg.LNK_STATE k) 2 4 = 0 then u.linkLeavesUp k (u.quadOn q) else u

/-- The end of service by its steps: it is shown, and a link's lane is not up (R268). -/
theorem State.serviceOut_eq : s.serviceOut q i =
    if h : (s.service q i (s.carrier q i) 0).fld (Reg.LANE_QUAD q) 0 2 = 1 ∧
        (s.service q i (s.carrier q i) 0).fld (Reg.LANE_QUAD q) 2 5 < 24 then
      (s.service q i (s.carrier q i) 0).laneDown ⟨_, h.2⟩ q i
    else s.service q i (s.carrier q i) 0 := rfl

/-- What the end of service does beyond showing it is on the link's side (R268). -/
theorem State.serviceOut_linkSide : LinkSide (s.service q i (s.carrier q i) 0) (s.serviceOut q i) := by
  have hshown := LinkSide.refl (s.service q i (s.carrier q i) 0)
  rw [State.serviceOut_eq]
  split
  exacts [.ite (.linkLeavesUp (.setState hshown)) (.setState hshown), hshown]

theorem State.sendBacklog_linksOnly (k : Fin 24) (fs : List FlitBody) : LinksOnly s (s.sendBacklog k fs) := by
  suffices h : ∀ t, LinksOnly s t → LinksOnly s (t.sendBacklog k fs) from h s (.refl s)
  induction fs with
  | nil => exact fun _ h => h
  | cons f r ih => exact fun _ h => ih _ h.sendFlit

/-- Lane i of link k is up, and so is the link unless it is in FAULT (R236, R268). -/
def State.laneComesUp (s : State) (k : Fin 24) (i : Nat) : State :=
  let u := s.setFld (Reg.LNK_STATE k) (2 + i) 1 1
  if u.linkState k = 3 then u else u.setFld (Reg.LNK_STATE k) 0 2 2

/-- The flits held for a lane that was out of service are to be sent again (R237). -/
def State.sendHeld (s : State) (k : Fin 24) (i : Nat) (was : Bool) : State :=
  if h : i < 4 then (if was = true ∨ (s.stream k ⟨i, h⟩).replay = [] then s else s.fromOldest k ⟨i, h⟩) else s

/-- The flits that waited for a lane of link k are sent. -/
def State.flushBacklog (s : State) (k : Fin 24) : State := (s.setLink k { s.link k with backlog := [] }).sendBacklog k (s.link k).backlog

/-- The beginning of service by its steps: it is shown, and a link's lane is up and sends what was held (R237, R268). -/
theorem State.serviceIn_eq : s.serviceIn q i l =
    if h : (s.service q i l 1).fld (Reg.LANE_QUAD q) 0 2 = 1 ∧ (s.service q i l 1).fld (Reg.LANE_QUAD q) 2 5 < 24 then
      (((s.service q i l 1).laneComesUp ⟨_, h.2⟩ i).sendHeld ⟨_, h.2⟩ i (s.fld (Reg.LANE_QUAD q) (10 + i) 1 == 1)).flushBacklog ⟨_, h.2⟩
    else s.service q i l 1 := rfl

section
variable {s t : State} {k : Fin 24} (h : LinkSide s t)
include h

theorem LinkSide.laneComesUp : LinkSide s (t.laneComesUp k i) := .ite (.setState h) (.setState (.setState h))

theorem LinkSide.sendHeld {was : Bool} : LinkSide s (t.sendHeld k i was) := by
  unfold State.sendHeld
  split
  exacts [.ite h (.fromOldest h), h]

theorem LinkSide.flushBacklog : LinkSide s (t.flushBacklog k) := .linksOnly (.setLink h) (State.sendBacklog_linksOnly ..)

end

/-- What the beginning of service does beyond showing it is on the link's side too. -/
theorem State.serviceIn_linkSide : LinkSide (s.service q i l 1) (s.serviceIn q i l) := by
  rw [State.serviceIn_eq]
  split
  exacts [.flushBacklog (.sendHeld i (.laneComesUp i (.refl _))), .refl _]

end

/-- A receiver that falls back to SEEK takes its lane out of service (R268). -/
theorem State.fld_laneOut_service (s : State) {l : Nat} (hl : l < 96) : (s.laneOut l).fld (Reg.LANE_STATE l) 6 1 = 0 := by
  unfold State.laneOut State.carries
  rw [if_pos hl]
  by_cases hown : s.carrier (l / 4) (l % 4) = l
  · have hside := s.serviceOut_linkSide (l / 4) (l % 4)
    rw [hown] at hside
    rw [if_pos hown]
    exact (hside.fld (lane_caps_le l).2 6 1).trans (s.fld_service_state l 0)
  · rw [if_neg hown]
    exact s.fld_setFld_self 0 (by decide)

theorem State.lan_laneOut (s : State) (l : Nat) : (s.laneOut l).lan = s.lan := by
  unfold State.laneOut
  split
  exacts [(s.serviceOut_linkSide ..).lan, rfl]

theorem trainingFree_lane {L : List Nat} {a : Nat} (h : Reg.LANE_CFG 0 ≤ a) (hne : ∀ l, a ≠ Reg.LANE_STATE l) (lo w : Nat) :
    TrainingFree L a lo w := by
  simp only [Reg.LANE_CFG] at h
  refine ⟨fun l hl => absurd hl (hne l), fun q hq hl => ?_, fun k hk hl => ?_⟩ <;> simp only [Reg.LANE_QUAD, Reg.LNK_STATE] at hl <;> omega

theorem State.reg_toSeek_events (s : State) (l : Nat) : (s.toSeek l).reg (Reg.LANE_EVENTS l) = s.reg (Reg.LANE_EVENTS l) :=
  (Trained.toSeek (.refl [l] s) (List.mem_singleton_self l)).reg
    (trainingFree_lane (by simp only [Reg.LANE_CFG, Reg.LANE_EVENTS]; omega) (fun l' => by simp only [Reg.LANE_EVENTS, Reg.LANE_STATE]; omega) 0 32)

theorem State.fld_addFld_self (s : State) {a lo w : Nat} (k : Nat) (h : lo + w ≤ 32) :
    (s.addFld a lo w k).fld a lo w = min (2 ^ w - 1) (s.fld a lo w + k) := by
  have hpos : 0 < 2 ^ w := by positivity
  rw [State.addFld, State.fld_setFld_self _ _ h, satAdd, Nat.mod_eq_of_lt (by omega)]

/-- A receiver that has fallen back to SEEK: LOS is set, ABSENT clear, and the lane out of service (R267, R268). -/
def Seeks (s : State) (l : Nat) (t : State) : Prop :=
  t.rx l = 1 ∧ t.fld (Reg.LANE_STATE l) 4 1 = 1 ∧ t.fld (Reg.LANE_STATE l) 5 1 = 0 ∧ (l < 96 → t.fld (Reg.LANE_STATE l) 6 1 = 0) ∧
    t = { s with regs := t.regs, lan := t.lan, lnk := t.lnk }

theorem Seeks.los {s t : State} {l : Nat} (h : Seeks s l t) : t.fld (Reg.LANE_STATE l) 4 1 = 1 := by
  obtain ⟨-, hlos, -⟩ := h
  exact hlos

theorem State.fld_seeking (s : State) (l : Nat) :
    (s.seeking l).fld (Reg.LANE_STATE l) 4 1 = 1 ∧ (s.seeking l).fld (Reg.LANE_STATE l) 5 1 = 0 := by
  refine ⟨State.fld_setFld_self _ 1 (by decide), ?_⟩
  rw [State.seeking, State.fld_setFld_of_disjoint _ _ (by decide) (by decide), State.fld_setFld_self _ _ (by decide)]
  rfl

/-- A receiver that falls back after what only registers have told of (R267). -/
theorem RegsOnly.toSeek_seeks {s u : State} (h : RegsOnly s u) (l : Nat) : Seeks s l (u.toSeek l) := by
  have hfld {lo w : Nat} (hw : lo + w ≤ 6 ∨ 7 ≤ lo) := (u.toSeek_trained l).fld (trainingFree_state (l := l) List.not_mem_nil hw)
  obtain ⟨hlos, habsent⟩ := (u.countSeek l).fld_seeking l
  have honly : LanesOnly s u := by
    obtain ⟨r, rfl⟩ := h
    exact ⟨r, _, _, rfl⟩
  exact ⟨u.rx_toSeek_self l, (hfld (by decide)).trans hlos, (hfld (by decide)).trans habsent,
    fun hl => ((u.countSeek l).seeking l).fld_laneOut_service hl,
    (honly.trans (Trained.toSeek (.refl [l] u) (List.mem_singleton_self l)).lanesOnly).frame⟩

end Sys2Proof.Machine
end

section
/-!
SUPPORT. The events of a receiver and of its transmitter's quiet (R266, R267, R272): what each leaves of the lane's registers, and that it leaves the rest.
-/
namespace Sys2Proof.Machine

open Sys2Proof Sys2Proof.Statements

/-- Of the state only registers and the lanes have changed. -/
def LaneLayerOnly (s t : State) : Prop := ∃ r a, t = { s with regs := r, lan := a }

namespace LaneLayerOnly

theorem refl (s : State) : LaneLayerOnly s s := ⟨_, _, rfl⟩

variable {s t : State} (h : LaneLayerOnly s t)
include h

theorem setFld {a lo w x : Nat} : LaneLayerOnly s (t.setFld a lo w x) := by
  obtain ⟨_, _, rfl⟩ := h
  exact ⟨_, _, rfl⟩

theorem lan {x : Lan} : LaneLayerOnly s { t with lan := x } := by
  obtain ⟨_, _, rfl⟩ := h
  exact ⟨_, _, rfl⟩

theorem frame : t = { s with regs := t.regs, lan := t.lan } := by
  obtain ⟨_, _, rfl⟩ := h
  rfl

theorem trans {u : State} (hu : LaneLayerOnly t u) : LaneLayerOnly s u := by
  obtain ⟨_, _, rfl⟩ := h
  obtain ⟨_, _, rfl⟩ := hu
  exact ⟨_, _, rfl⟩

end LaneLayerOnly

theorem RegsOnly.laneLayerOnly {s t : State} (h : RegsOnly s t) : LaneLayerOnly s t := by
  obtain ⟨_, rfl⟩ := h
  exact ⟨_, _, rfl⟩

section
variable {s : State} {l : BitVec 7} (hl : s.hasLane l.toNat = true)
include hl

theorem exec_signalDetect : exec (.signalDetect l) s = .next (if s.rx l.toNat = 1 then
    (s.setFld (Reg.LANE_STATE l.toNat) 4 1 0).setRxState l.toNat 2 else s.setFld (Reg.LANE_STATE l.toNat) 4 1 0) :=
  congrArg (guardUnit s · _) hl

theorem exec_lockAcquired : exec (.lockAcquired l) s = .next (if s.rx l.toNat = 2 then s.setRxState l.toNat 3 else s) :=
  congrArg (guardUnit s · _) hl

theorem exec_lockTimeout : exec (.lockTimeout l) s =
    .next (if s.rx l.toNat = 2 then (s.addFld (Reg.LANE_EVENTS l.toNat) 0 8 1).toSeek l.toNat else s) := congrArg (guardUnit s · _) hl

theorem exec_adaptTimeout : exec (.adaptTimeout l) s = .next (if s.rx l.toNat = 3 then s.toSeek l.toNat else s) :=
  congrArg (guardUnit s · _) hl

theorem exec_alignTimeout : exec (.alignTimeout l) s =
    .next (if s.rx l.toNat = 4 then (s.addFld (Reg.LANE_EVENTS l.toNat) 8 8 1).toSeek l.toNat else s) := congrArg (guardUnit s · _) hl

theorem exec_los : exec (.los l) s = .next (if s.rx l.toNat = 5 then
    ((s.setFld (Reg.LANE_STATE l.toNat) 4 1 1).addFld (Reg.LANE_EVENTS l.toNat) 16 8 1).toSeek l.toNat
    else s.setFld (Reg.LANE_STATE l.toNat) 4 1 1) := congrArg (guardUnit s · _) hl

theorem exec_absent : exec (.absent l) s = .next (if s.rx l.toNat = 1 then s.setFld (Reg.LANE_STATE l.toNat) 5 1 1 else s) :=
  congrArg (guardUnit s · _) hl

theorem exec_quietEnd : exec (.quietEnd l) s = .next (s.quietEnd l.toNat) := congrArg (guardUnit s · _) hl

end

section
variable (s : State) (l : Nat)

theorem State.rx_setRxState (v : Nat) : (s.setRxState l v).rx l = v % 8 := State.fld_setFld_self _ _ (by decide)

theorem State.rx_setFld_state {lo w : Nat} (x : Nat) (hw : lo + w ≤ 32) (h : 3 ≤ lo) : (s.setFld (Reg.LANE_STATE l) lo w x).rx l = s.rx l :=
  s.fld_setFld_of_disjoint x hw (.inl h)

/-- A receiver that adapts shows its peaking (R267, R277). -/
def State.peaked (ctle : Nat) : State := s.setFld (Reg.LANE_STATE l) 24 5 ctle

/-- A receiver that enters ALIGN at boundary b has neither slipped nor been accepted (R267, R277). -/
def State.aligns (b : Nat) : State :=
  ((s.setRecv l { s.recv l with land := b }).setRxState l 4).setFld (Reg.LANE_ALIGN_STAT l) 0 10 0

/-- A receiver after its adaptation, which in far-end loopback is its last state (R267, R272). -/
def State.adapted (ctle b : Nat) : State := if s.loopback l = 3 then s.peaked l ctle else (s.peaked l ctle).aligns l b

theorem lane_align_ne_state (l l' : Nat) : Reg.LANE_STATE l' ≠ Reg.LANE_ALIGN_STAT l := by
  simp only [Reg.LANE_STATE, Reg.LANE_ALIGN_STAT]
  omega

theorem State.aligns_clears (b : Nat) :
    (s.aligns l b).rx l = 4 ∧ (s.aligns l b).fld (Reg.LANE_ALIGN_STAT l) 0 10 = 0 ∧
      (s.aligns l b).fld (Reg.LANE_STATE l) 24 5 = s.fld (Reg.LANE_STATE l) 24 5 ∧
      RegsBut s (s.aligns l b) [Reg.LANE_STATE l, Reg.LANE_ALIGN_STAT l] := by
  have hstate {lo w : Nat} := ((s.setRecv l { s.recv l with land := b }).setRxState l 4).fld_setFld_ne 0 10 0 (lo' := lo) (w' := w)
    (lane_align_ne_state l l)
  refine ⟨hstate.trans (State.rx_setRxState _ l 4), State.fld_setFld_self _ 0 (by decide), hstate.trans ?_,
    regsBut_setFld (regsBut_setFld (fun _ _ => rfl) (by simp)) (by simp)⟩
  exact State.fld_setFld_of_disjoint _ 4 (by decide) (by decide)

end

section
variable {s : State} {l : BitVec 7} (hl : s.hasLane l.toNat = true) (ctle : Fin 19) (b : Fin 144)
include hl

theorem exec_adaptDone_of_ne (h : s.rx l.toNat ≠ 3) : exec (.adaptDone l (ctle, b)) s = .next s := by
  have hrow : exec (.adaptDone l (ctle, b)) s = execAdaptDone l (ctle, b) s := rfl
  rw [hrow, execAdaptDone, hl, guardUnit_true, if_neg h]

theorem exec_adaptDone (h : s.rx l.toNat = 3) : exec (.adaptDone l (ctle, b)) s =
    .next (s.adapted l.toNat ctle b) := by
  have hrow : exec (.adaptDone l (ctle, b)) s = execAdaptDone l (ctle, b) s := rfl
  rw [hrow, execAdaptDone, hl, guardUnit_true, if_pos h]
  rfl

end

section
variable (s : State) (l : Nat)

theorem State.fld_peaked {ctle : Nat} (h : ctle < 32) : (s.peaked l ctle).fld (Reg.LANE_STATE l) 24 5 = ctle :=
  (s.fld_setFld_self ctle (by decide)).trans (Nat.mod_eq_of_lt h)

theorem State.rx_peaked (ctle : Nat) : (s.peaked l ctle).rx l = s.rx l := s.rx_setFld_state l ctle (by decide) (by decide)

theorem State.regsBut_peaked (ctle : Nat) {r : List Nat} (h : Reg.LANE_STATE l ∈ r) : RegsBut s (s.peaked l ctle) r :=
  regsBut_setFld regsBut_refl h

/-- Adaptation that ends enters ALIGN, but in far-end loopback (R267, R272). -/
theorem State.adapted_shows {ctle : Nat} (h : ctle < 32) (b : Nat) :
    LaneLayerOnly s (s.adapted l ctle b) ∧
      (s.adapted l ctle b).fld (Reg.LANE_STATE l) 24 5 = ctle ∧
      RegsBut s (s.adapted l ctle b) [Reg.LANE_STATE l, Reg.LANE_ALIGN_STAT l] ∧
      (s.loopback l ≠ 3 → (s.adapted l ctle b).rx l = 4 ∧ (s.adapted l ctle b).fld (Reg.LANE_ALIGN_STAT l) 0 10 = 0) ∧
      (s.loopback l = 3 → (s.adapted l ctle b).rx l = s.rx l) := by
  have hpeaked : LaneLayerOnly s (s.peaked l ctle) := (LaneLayerOnly.refl s).setFld
  unfold State.adapted
  split
  · next hfar =>
    exact ⟨hpeaked, s.fld_peaked l h, s.regsBut_peaked l ctle (by simp), fun hnear => absurd hfar hnear, fun _ => s.rx_peaked l ctle⟩
  · next hnear =>
    obtain ⟨hrx, hstat, hctle, hregs⟩ := (s.peaked l ctle).aligns_clears l b
    exact ⟨hpeaked.lan.setFld.setFld, hctle.trans (s.fld_peaked l h), regsBut_trans (s.regsBut_peaked l ctle (by simp)) hregs, fun _ => ⟨hrx, hstat⟩,
      fun hfar => absurd hfar hnear⟩

/-- A signal leads from SEEK to LOCK (R267). -/
theorem State.signal_shows :
    let t := if s.rx l = 1 then (s.setFld (Reg.LANE_STATE l) 4 1 0).setRxState l 2 else s.setFld (Reg.LANE_STATE l) 4 1 0
    t = { s with regs := t.regs } ∧ RegsBut s t [Reg.LANE_STATE l] ∧ t.fld (Reg.LANE_STATE l) 4 1 = 0 ∧
      t.rx l = if s.rx l = 1 then 2 else s.rx l := by
  have hregs : RegsBut s (s.setFld (Reg.LANE_STATE l) 4 1 0) [Reg.LANE_STATE l] := regsBut_setFld_self s
  have hsignal : (s.setFld (Reg.LANE_STATE l) 4 1 0).fld (Reg.LANE_STATE l) 4 1 = 0 := s.fld_setFld_self 0 (by decide)
  dsimp only
  split
  · exact ⟨rfl, regsBut_setFld hregs (by simp), (State.fld_setFld_of_disjoint _ 2 (by decide) (by decide)).trans hsignal,
      State.rx_setRxState _ l 2⟩
  · exact ⟨rfl, hregs, hsignal, s.rx_setFld_state l 0 (by decide) (by decide)⟩

theorem State.lock_shows :
    let t := if s.rx l = 2 then s.setRxState l 3 else s
    t = { s with regs := t.regs } ∧ RegsBut s t [Reg.LANE_STATE l] ∧ t.rx l = if s.rx l = 2 then 3 else s.rx l := by
  dsimp only
  split
  · exact ⟨rfl, regsBut_setFld_self s, s.rx_setRxState l 3⟩
  · exact ⟨rfl, regsBut_refl, rfl⟩

theorem State.absent_shows :
    let t := if s.rx l = 1 then s.setFld (Reg.LANE_STATE l) 5 1 1 else s
    t = { s with regs := t.regs } ∧ RegsBut s t [Reg.LANE_STATE l] ∧
      t.fld (Reg.LANE_STATE l) 5 1 = if s.rx l = 1 then 1 else s.fld (Reg.LANE_STATE l) 5 1 := by
  dsimp only
  split
  · exact ⟨rfl, regsBut_setFld_self s, s.fld_setFld_self 1 (by decide)⟩
  · exact ⟨rfl, regsBut_refl, rfl⟩

/-- The transmitter of a lane made active, with no symbol before (R258, R266). -/
def State.sends : State := s.setSender l { s.sender l with on := true, phase := 0, run := 0, prev := [0, 0], syms := [] }

theorem State.sender_setSender (x : LaneTx) : (s.setSender l x).sender l = x := mget_mset_self dTx s.lan.tx l x

theorem State.sender_sends : ((s.sends l).sender l).on = true := by rw [State.sends, State.sender_setSender]

theorem State.quietEnd_eq : s.quietEnd l = if s.mayTalk l = true then
    (if s.hearsSelf l = true then s.sends l else (s.sends l).setFld (Reg.LANE_STATE l) 3 1 0) else s := rfl

/-- What the end of quiet leaves of a lane (R266, R272). -/
theorem State.quietEnd_shows :
    LaneLayerOnly s (s.quietEnd l) ∧ RegsBut s (s.quietEnd l) [Reg.LANE_STATE l] ∧
      ((s.quietEnd l).sender l).on = (s.mayTalk l || (s.sender l).on) ∧
      (s.quietEnd l).fld (Reg.LANE_STATE l) 3 1 = if s.mayTalk l && !s.hearsSelf l then 0 else s.fld (Reg.LANE_STATE l) 3 1 := by
  have honly : LaneLayerOnly s (s.sends l) := (LaneLayerOnly.refl s).lan
  have hsends : RegsBut s (s.sends l) [Reg.LANE_STATE l] := fun _ _ => rfl
  have hon := s.sender_sends l
  rw [State.quietEnd_eq]
  cases hmay : s.mayTalk l with
  | false => exact ⟨.refl s, regsBut_refl, rfl, rfl⟩
  | true =>
    cases hself : s.hearsSelf l with
    | true => exact ⟨honly, hsends, hon, rfl⟩
    | false => exact ⟨honly.setFld, regsBut_setFld hsends (by simp), hon, State.fld_setFld_self _ 0 (by decide)⟩

end

end Sys2Proof.Machine

namespace Sys2Proof.Proofs

open Sys2Proof Sys2Proof.Machine Sys2Proof.Statements

/-- Settles O28: each event by what it leaves of the lane; every timeout and a loss of signal by the one fall back to SEEK. -/
theorem receiverStatesOfALane : Obligations.ReceiverStatesOfALane := by
  unfold Obligations.ReceiverStatesOfALane
  intro s l hl
  have hevents (u : State) (lo w : Nat) : (u.toSeek l.toNat).fld (Reg.LANE_EVENTS l.toNat) lo w = u.fld (Reg.LANE_EVENTS l.toNat) lo w :=
    fld_of_reg (u.reg_toSeek_events l.toNat) lo w
  refine ⟨⟨_, exec_signalDetect hl, s.signal_shows l.toNat⟩, ⟨_, exec_lockAcquired hl, s.lock_shows l.toNat⟩,
    fun ctle b => ⟨exec_adaptDone_of_ne hl ctle b, fun h => ⟨_, exec_adaptDone hl ctle b h, ?_⟩⟩,
    fun h => ⟨_, exec_lockTimeout hl, ?_⟩, fun h => ⟨_, exec_adaptTimeout hl, ?_⟩, fun h => ⟨_, exec_alignTimeout hl, ?_⟩,
    fun h => ⟨_, exec_los hl, ?_⟩, fun h => ?_, fun h => ?_, fun h => ?_, fun h => ⟨_, exec_los hl, ?_⟩,
    ⟨_, exec_absent hl, s.absent_shows l.toNat⟩, ⟨_, exec_quietEnd hl, ?_⟩⟩
  · obtain ⟨honly, hctle, hregs, hnear, hfar⟩ := s.adapted_shows l.toNat (ctle.isLt.trans (by decide)) b
    exact ⟨honly.frame, hctle, hregs, hnear, fun hloop => (hfar hloop).trans h⟩
  · rw [if_pos h, hevents]
    exact ⟨(RegsOnly.refl s).addFld.toSeek_seeks l.toNat, s.fld_addFld_self 1 (by decide)⟩
  · rw [if_pos h]
    exact ⟨(RegsOnly.refl s).toSeek_seeks l.toNat, s.reg_toSeek_events l.toNat⟩
  · rw [if_pos h, hevents]
    exact ⟨(RegsOnly.refl s).addFld.toSeek_seeks l.toNat, s.fld_addFld_self 1 (by decide)⟩
  · have hne : Reg.LANE_EVENTS l.toNat ≠ Reg.LANE_STATE l.toNat := by
      simp only [Reg.LANE_EVENTS, Reg.LANE_STATE]
      omega
    have hseeks : Seeks s l.toNat (((s.setFld (Reg.LANE_STATE l.toNat) 4 1 1).addFld (Reg.LANE_EVENTS l.toNat) 16 8 1).toSeek l.toNat) :=
      (RegsOnly.refl s).setFld.addFld.toSeek_seeks l.toNat
    rw [if_pos h, hevents, State.fld_addFld_self _ 1 (by decide), State.fld_setFld_ne _ _ _ _ hne]
    exact ⟨hseeks, hseeks.los, rfl⟩
  · rw [exec_lockTimeout hl, if_neg h]
  · rw [exec_adaptTimeout hl, if_neg h]
  · rw [exec_alignTimeout hl, if_neg h]
  · rw [if_neg h]
    exact ⟨rfl, regsBut_setFld_self s, s.fld_setFld_self 1 (by decide), s.rx_setFld_state l.toNat 1 (by decide) (by decide)⟩
  · obtain ⟨honly, hregs, hon, hquiet⟩ := s.quietEnd_shows l.toNat
    exact ⟨honly.frame, hregs, hon, hquiet⟩

end Sys2Proof.Proofs
end

section
/-!
SUPPORT. The alignment controls of a lane (R267, R269, R271, R277): who may write them, what a slip and an accept leave, what a retrain applies, and
the bits of a capture.
-/
namespace Sys2Proof.Machine

open Sys2Proof Sys2Proof.Statements

section
variable {s : State} {l : BitVec 7} (hl : s.hasLane l.toNat = true) (src : Option Path)
include hl

theorem exec_laneCapture : exec (.laneCapture src l) s = .next (s.laneWrite src l.toNat Reg.LANE_CAPT_SEL
    (BitVec.ofNat 32 (l.toNat + 2 ^ 31)) fun t => t.capture l.toNat) := congrArg (guardUnit s · _) hl

theorem exec_laneSlip (k : Byte) : exec (.laneSlip src l k) s = .next (s.laneWrite src l.toNat (Reg.LANE_SLIP l.toNat)
    (BitVec.ofNat 32 k.toNat) fun t => t.slipWrite l.toNat k.toNat false) := congrArg (guardUnit s · _) hl

theorem exec_laneAccept (k : Byte) : exec (.laneAccept src l k) s = .next (s.laneWrite src l.toNat (Reg.LANE_SLIP l.toNat)
    (BitVec.ofNat 32 (k.toNat + 256)) fun t => t.slipWrite l.toNat k.toNat true) := congrArg (guardUnit s · _) hl

theorem exec_laneRetrain (v : Word) : exec (.laneRetrain src l v) s = .next (s.laneWrite src l.toNat (Reg.LANE_CFG l.toNat)
    (v ||| 0x10000#32) fun t => t.cfgWrite l.toNat (v ||| 0x10000#32)) := congrArg (guardUnit s · _) hl

end

/-- Firmware, or a host whose quad is MANUAL, may write a lane's controls (R277). -/
def State.mayWrite (s : State) (src : Option Path) (l : Nat) : Prop :=
  src = none ∨ ((src = some .pf0 ∨ src = some .mgmt) ∧ s.quadManual (quadOf l) = true)

section
variable {s : State} {l : Nat} (addr : Nat) (v : Word) (act : State → State)

theorem State.laneWrite_acts {src : Option Path} (h : s.mayWrite src l) : s.laneWrite src l addr v act = act s := by
  rcases h with rfl | ⟨rfl | rfl, hmanual⟩
  exacts [rfl, if_pos hmanual, if_pos hmanual]

/-- A host write to a lane of another quad is logged (R277). -/
theorem State.laneWrite_logs {src : Path} (hsrc : src = .pf0 ∨ src = .mgmt) (h : s.quadManual (quadOf l) = false) :
    ∃ off, s.laneWrite (some src) l addr v act = s.logRaw 3 off v src.code 15 := by
  rcases hsrc with rfl | rfl
  all_goals exact ⟨_, if_neg (Bool.eq_false_iff.mp h)⟩

end

/-- A host write of any control of a lane of another quad is an entry of the access log (R277). -/
theorem exec_control_logs {s : State} {l : BitVec 7} (hl : s.hasLane l.toNat = true) {src : Path} (hsrc : src = .pf0 ∨ src = .mgmt)
    (hmanual : s.quadManual (quadOf l.toNat) = false) {c : Instr}
    (hc : (∃ k, c = .laneSlip (some src) l k ∨ c = .laneAccept (some src) l k) ∨ c = .laneCapture (some src) l ∨
      ∃ v, c = .laneRetrain (some src) l v) : ∃ off v, exec c s = .next (s.logRaw 3 off v src.code 15) := by
  obtain ⟨addr, v, act, hexec⟩ : ∃ addr v act, exec c s = .next (s.laneWrite (some src) l.toNat addr v act) := by
    obtain ⟨k, rfl | rfl⟩ | rfl | ⟨v, rfl⟩ := hc
    exacts [⟨_, _, _, exec_laneSlip hl _ k⟩, ⟨_, _, _, exec_laneAccept hl _ k⟩, ⟨_, _, _, exec_laneCapture hl _⟩,
      ⟨_, _, _, exec_laneRetrain hl _ v⟩]
  obtain ⟨off, hlogs⟩ := State.laneWrite_logs addr v act hsrc hmanual
  exact ⟨off, v, hexec.trans (congrArg _ hlogs)⟩

/-- The boundary of a lane after a slip by k symbols (R271). -/
def State.slipped (s : State) (l k : Nat) : Nat :=
  if k ≤ 143 then (s.fld (Reg.LANE_ALIGN_STAT l) 0 8 + k) % 144 else s.fld (Reg.LANE_ALIGN_STAT l) 0 8

section
variable (s : State) (l k : Nat)

theorem State.slip_shows :
    RegsOnly s (s.slip l k) ∧ RegsBut s (s.slip l k) [Reg.LANE_ALIGN_STAT l] ∧
      (s.slip l k).fld (Reg.LANE_ALIGN_STAT l) 0 8 = s.slipped l k ∧
      (s.slip l k).fld (Reg.LANE_ALIGN_STAT l) 8 2 = s.fld (Reg.LANE_ALIGN_STAT l) 8 2 := by
  unfold State.slip State.slipped
  split
  · refine ⟨(RegsOnly.refl s).setFld, regsBut_setFld_self s, ?_, s.fld_setFld_of_disjoint _ (by decide) (by decide)⟩
    rw [State.fld_setFld_self _ _ (by decide), Nat.mod_eq_of_lt (by omega)]
  · exact ⟨.refl s, regsBut_refl, rfl, rfl⟩

/-- An accept test begins on a lane: none of its flits has passed yet (R271). -/
def State.testing : State := (s.setRecv l { s.recv l with good := 0 }).setFld (Reg.LANE_ALIGN_STAT l) 8 2 1

theorem State.testing_shows :
    LaneLayerOnly s (s.testing l) ∧ RegsBut s (s.testing l) [Reg.LANE_ALIGN_STAT l] ∧
      (s.testing l).fld (Reg.LANE_ALIGN_STAT l) 0 8 = s.fld (Reg.LANE_ALIGN_STAT l) 0 8 ∧
      (s.testing l).fld (Reg.LANE_ALIGN_STAT l) 8 2 = 1 := by
  refine ⟨(LaneLayerOnly.refl s).lan.setFld, regsBut_setFld (fun _ _ => rfl) (by simp), ?_, State.fld_setFld_self _ 1 (by decide)⟩
  exact State.fld_setFld_of_disjoint _ 1 (by decide) (by decide)

variable {s l}

theorem State.slipWrite_of_ne (h : s.rx l ≠ 4) (accept : Bool) : s.slipWrite l k accept = s := if_neg h

theorem State.slipWrite_slips (h : s.rx l = 4) : s.slipWrite l k false = s.slip l k := if_pos h

theorem State.slipWrite_accepts (h : s.rx l = 4) : s.slipWrite l k true = (s.slip l k).testing l := if_pos h

end

section
variable (s : State) (l : Nat)

theorem State.capture_shows :
    (s.capture l).reg Reg.LANE_CAPT_SEL = BitVec.ofNat 32 l ∧ (s.capture l).lan.capt = true ∧ RegsBut s (s.capture l) [Reg.LANE_CAPT_SEL] :=
  ⟨s.reg_setReg_self .., rfl, regsBut_setReg s _ _⟩

theorem State.rx_enterQuiet : (s.enterQuiet l).rx l = s.rx l := State.rx_setFld_state _ l 1 (by decide) (by decide)

theorem State.cfgNow_enterQuiet : (s.enterQuiet l).cfgNow l = s.reg (Reg.LANE_CFG l) := mget_mset_self dCfg s.lan.cfg l _

theorem State.lan_toSeek : (s.toSeek l).lan = (s.countSeek l).lan := State.lan_laneOut ..

theorem State.cfgNow_toSeek : (s.toSeek l).cfgNow l = s.cfgNow l := by
  rw [State.cfgNow, State.lan_toSeek]
  rfl

/-- A retrain applies the settings written, and the receiver seeks unless it is OFF (R267, R269). -/
theorem State.retrain_shows :
    (s.retrain l).cfgNow l = s.reg (Reg.LANE_CFG l) ∧ (s.retrain l).rx l = if s.rx l = 0 then 0 else 1 := by
  unfold State.retrain
  dsimp only
  rw [State.rx_enterQuiet]
  split
  · next hoff => exact ⟨s.cfgNow_enterQuiet l, (s.rx_enterQuiet l).trans hoff⟩
  · exact ⟨(State.cfgNow_toSeek ..).trans (s.cfgNow_enterQuiet l), State.rx_toSeek_self ..⟩

/-- A write of LANE_CFG with RETRAIN stores the other fields and retrains (R269). -/
theorem State.cfgWrite_retrain (v : Word) : s.cfgWrite l (v ||| 0x10000#32) = (s.setReg (Reg.LANE_CFG l) (v &&& 0x377#32)).retrain l := by
  have hfields : (v ||| 0x10000#32) &&& 0x377#32 = v &&& 0x377#32 := by
    rw [BitVec.and_comm, BitVec.and_or_distrib_left, BitVec.and_comm]
    simp
  have hretrain : bitsAt (v ||| 0x10000#32) 16 1 = 1 := by
    have hbit : (v ||| 0x10000#32).getLsbD 16 = true := by simp
    rw [BitVec.getLsbD, Nat.testBit_eq_decide_div_mod_eq, decide_eq_true_eq] at hbit
    exact hbit
  unfold State.cfgWrite
  dsimp only
  rw [if_pos hretrain, hfields]

end

/-- What a write of LANE_CFG with RETRAIN leaves (R267, R269). -/
theorem State.retrained_shows (s : State) (l : Nat) (w : Word) :
    let t := (s.setReg (Reg.LANE_CFG l) w).retrain l
    t.reg (Reg.LANE_CFG l) = w ∧ t.cfgNow l = w ∧ t.fld (Reg.LANE_STATE l) 3 1 = 1 ∧ (t.rx l = if s.rx l = 0 then 0 else 1) ∧ LanesOnly s t := by
  have htrained : Trained [l] (s.setReg (Reg.LANE_CFG l) w) ((s.setReg (Reg.LANE_CFG l) w).retrain l) :=
    .retrain (.refl ..) (List.mem_singleton_self l)
  have hne : Reg.LANE_STATE l ≠ Reg.LANE_CFG l := by
    simp only [Reg.LANE_STATE, Reg.LANE_CFG]
    omega
  have hrx : (s.setReg (Reg.LANE_CFG l) w).rx l = s.rx l := fld_of_reg (s.reg_setReg_ne w hne) 0 3
  obtain ⟨hcfg, hseeks⟩ := (s.setReg (Reg.LANE_CFG l) w).retrain_shows l
  refine ⟨(htrained.reg (trainingFree_cfg l 0 32)).trans (s.reg_setReg_self ..), hcfg.trans (s.reg_setReg_self ..),
    State.fld_retrain_quiet .., ?_, (LanesOnly.refl s).setReg.trans htrained.lanesOnly⟩
  rw [hseeks, hrx]

/-- RESULT of a lane's accept test (R271, R277). -/
def State.result (s : State) (l x : Nat) : State := s.setFld (Reg.LANE_ALIGN_STAT l) 8 2 x

/-- A receiver enters UP, and its entries into SEEK count anew (R267, R274). -/
def State.comesUp (s : State) (l : Nat) : State :=
  { s.setRxState l 5 with lan := { s.lan with fails := mset dNat s.lan.fails l 0 } }

/-- The accept test of a lane ends (R271). -/
def State.tested (s : State) (l : Nat) (found : Bool) : State := if found then (s.result l 2).comesUp l else s.result l 3

section
variable (s : State) (l : Nat)

theorem State.acceptEnds_of_pending (hr : s.rx l = 4) (hpending : s.fld (Reg.LANE_ALIGN_STAT l) 8 2 = 1) (found : Bool) :
    s.acceptEnds l found = s.tested l found := by
  unfold State.acceptEnds
  rw [if_pos ⟨hr, hpending⟩]
  simp only [State.tested, State.result, State.comesUp]
  cases found <;> simp only [if_true, Bool.false_eq_true, if_false]

theorem State.result_shows {x : Nat} (h : x < 4) :
    (s.result l x).fld (Reg.LANE_ALIGN_STAT l) 8 2 = x ∧ (s.result l x).rx l = s.rx l ∧
      (s.result l x).fld (Reg.LANE_ALIGN_STAT l) 0 8 = s.fld (Reg.LANE_ALIGN_STAT l) 0 8 ∧ LaneLayerOnly s (s.result l x) ∧
      RegsBut s (s.result l x) [Reg.LANE_ALIGN_STAT l, Reg.LANE_STATE l] :=
  ⟨(s.fld_setFld_self x (by decide)).trans (Nat.mod_eq_of_lt h), s.fld_setFld_ne 8 2 x (lane_align_ne_state l l),
    s.fld_setFld_of_disjoint x (by decide) (by decide), (LaneLayerOnly.refl s).setFld, regsBut_setFld regsBut_refl (by simp)⟩

theorem State.reg_comesUp (a : Nat) : (s.comesUp l).reg a = (s.setRxState l 5).reg a := rfl

theorem State.comesUp_shows :
    (s.comesUp l).rx l = 5 ∧ LaneLayerOnly s (s.comesUp l) ∧ RegsBut s (s.comesUp l) [Reg.LANE_STATE l] :=
  ⟨(fld_of_reg (s.reg_comesUp l _) 0 3).trans (s.rx_setRxState l 5), ⟨_, _, rfl⟩,
    fun a ha => (s.reg_comesUp l a).trans (regsBut_setFld_self s a ha)⟩

end

theorem exec_acceptResult {s : State} {l : BitVec 7} (hl : s.hasLane l.toNat = true) (hr : s.rx l.toNat = 4)
    (hpending : s.fld (Reg.LANE_ALIGN_STAT l.toNat) 8 2 = 1) (hself : s.hearsSelf l.toNat = false) (found : Bool) :
    exec (.acceptResult l found) s = .next (s.tested l.toNat found) := by
  have hrow : exec (.acceptResult l found) s = execAcceptResult l found s := rfl
  rw [hrow, execAcceptResult, hl, guardUnit_true, if_neg (Bool.eq_false_iff.mp hself),
    State.acceptEnds_of_pending _ _ hr hpending]

theorem State.tested_shows (s : State) (l : Nat) (found : Bool) :
    (s.tested l found).fld (Reg.LANE_ALIGN_STAT l) 8 2 = (if found then 2 else 3) ∧
      ((s.tested l found).rx l = if found then 5 else s.rx l) ∧
      (s.tested l found).fld (Reg.LANE_ALIGN_STAT l) 0 8 = s.fld (Reg.LANE_ALIGN_STAT l) 0 8 ∧ LaneLayerOnly s (s.tested l found) ∧
      RegsBut s (s.tested l found) [Reg.LANE_ALIGN_STAT l, Reg.LANE_STATE l] := by
  cases found with
  | false => exact s.result_shows l (by decide)
  | true =>
    obtain ⟨hresult, -, hposition, honly, hregs⟩ := s.result_shows l (x := 2) (by decide)
    obtain ⟨hup, honly', hregs'⟩ := (s.result l 2).comesUp_shows l
    have hstat := hregs' (Reg.LANE_ALIGN_STAT l) (by simp)
    exact ⟨(fld_of_reg hstat 8 2).trans hresult, hup, (fld_of_reg hstat 0 8).trans hposition, honly.trans honly',
      regsBut_trans hregs (regsBut_mono hregs' (by simp))⟩

/-- Registers at distinct addresses, each written once, read as written; every other stands. -/
theorem State.reg_foldl_setReg {addr : Nat → Nat} (haddr : addr.Injective) (word : Nat → Word) (js : List Nat) (s : State) :
    let t := js.foldl (fun t j => t.setReg (addr j) (word j)) s
    RegsOnly s t ∧ (∀ j ∈ js, t.reg (addr j) = word j) ∧ ∀ a, (∀ j, a ≠ addr j) → t.reg a = s.reg a := by
  induction js using List.reverseRecOn with
  | nil => exact ⟨.refl s, by simp, fun _ _ => rfl⟩
  | append_singleton js i ih =>
    obtain ⟨honly, hword, hother⟩ := ih
    simp only [List.foldl_append, List.foldl_cons, List.foldl_nil]
    refine ⟨honly.setReg, fun j hj => ?_, fun a ha => (State.reg_setReg_ne _ _ (ha i)).trans (hother a ha)⟩
    by_cases hji : j = i
    · subst hji
      exact State.reg_setReg_self ..
    · rw [State.reg_setReg_ne _ _ (haddr.ne hji)]
      exact hword j ((List.mem_append.mp hj).resolve_right (by simpa using hji))

/-- The bits v of a capture shown, with VALID (R271, R277). -/
def State.captureShown (s : State) (v : Nat) : State :=
  (List.range 18).foldl (fun t j => t.setReg (Reg.LANE_CAPT j) (BitVec.ofNat 32 (v / 2 ^ (32 * j)))) (s.setFld Reg.LANE_CAPT_SEL 30 1 1)

/-- The capture under way is over. -/
def State.captureEnds (s : State) : State := { s with lan := { s.lan with capt := false } }

theorem State.reg_captureEnds (s : State) (a : Nat) : s.captureEnds.reg a = s.reg a := rfl

theorem State.capt_captureEnds (s : State) : s.captureEnds.lan.capt = false := rfl

theorem exec_laneCaptureDone {s : State} (h : s.lan.capt = true) (syms : BitVec 636) :
    exec (.laneCaptureDone syms) s = .next (s.captureShown (s.captured (s.fld Reg.LANE_CAPT_SEL 0 7) syms)).captureEnds := by
  have hrow : exec (.laneCaptureDone syms) s = execLaneCaptureDone syms s := rfl
  rw [hrow, execLaneCaptureDone, if_pos h]
  rfl

theorem State.captureShown_shows (s : State) (v : Nat) :
    RegsOnly s (s.captureShown v) ∧ (s.captureShown v).fld Reg.LANE_CAPT_SEL 30 1 = 1 ∧
      ∀ j < 18, (s.captureShown v).reg (Reg.LANE_CAPT j) = BitVec.ofNat 32 (v / 2 ^ (32 * j)) := by
  have haddr : Reg.LANE_CAPT.Injective := fun i j h => by
    simp only [Reg.LANE_CAPT] at h
    omega
  have hsel : ∀ j, Reg.LANE_CAPT_SEL ≠ Reg.LANE_CAPT j := fun j => by
    simp only [Reg.LANE_CAPT_SEL, Reg.LANE_CAPT]
    omega
  obtain ⟨honly, hword, hother⟩ := State.reg_foldl_setReg haddr (fun j => BitVec.ofNat 32 (v / 2 ^ (32 * j))) (List.range 18)
    (s.setFld Reg.LANE_CAPT_SEL 30 1 1)
  exact ⟨(RegsOnly.refl s).setFld.trans honly, (fld_of_reg (hother _ hsel) 30 1).trans (s.fld_setFld_self 1 (by decide)),
    fun j hj => hword j (List.mem_range.mpr hj)⟩

/-- What the end of a capture leaves (R271). -/
theorem State.captured_shows (s : State) (v : Nat) :
    (s.captureShown v).captureEnds.fld Reg.LANE_CAPT_SEL 30 1 = 1 ∧
      (∀ j < 18, (s.captureShown v).captureEnds.reg (Reg.LANE_CAPT j) = BitVec.ofNat 32 (v / 2 ^ (32 * j))) ∧
      (s.captureShown v).captureEnds.lan.capt = false ∧ LaneLayerOnly s (s.captureShown v).captureEnds := by
  obtain ⟨honly, hvalid, hbits⟩ := s.captureShown_shows v
  have hreg (a : Nat) : (s.captureShown v).captureEnds.reg a = (s.captureShown v).reg a := State.reg_captureEnds _ a
  exact ⟨(fld_of_reg (hreg _) 30 1).trans hvalid, fun j hj => (hreg _).trans (hbits j hj), State.capt_captureEnds _, honly.laneLayerOnly.lan⟩

end Sys2Proof.Machine

namespace Sys2Proof.Proofs

open Sys2Proof Sys2Proof.Machine Sys2Proof.Statements

/-- Settles O29: a control that may be written acts as its own lemma says; any other host's write is an entry of the access log, or nothing. -/
theorem alignmentControls : Obligations.AlignmentControls := by
  unfold Obligations.AlignmentControls
  intro s l hl
  refine ⟨fun src hsrc => ⟨⟨_, exec_laneCapture hl src, ?_⟩, fun k hr => ⟨_, exec_laneSlip hl src k, ?_⟩,
      fun k hr => ⟨_, exec_laneAccept hl src k, ?_⟩, fun k hr => ?_, fun v => ⟨_, exec_laneRetrain hl src v, ?_⟩⟩,
    fun src hsrc hmanual c hc => ?_, fun n k v => ?_, fun found hr hpending hself => ⟨_, exec_acceptResult hl hr hpending hself found, ?_⟩,
    fun syms hcapt => ⟨_, exec_laneCaptureDone hcapt syms, ?_⟩⟩
  · rw [State.laneWrite_acts _ _ _ hsrc]
    exact s.capture_shows l.toNat
  · obtain ⟨honly, hregs, hposition, hresult⟩ := s.slip_shows l.toNat k.toNat
    rw [State.laneWrite_acts _ _ _ hsrc, State.slipWrite_slips _ hr]
    exact ⟨honly.frame, hregs, hposition, hresult⟩
  · obtain ⟨honly, hregs, hposition, -⟩ := s.slip_shows l.toNat k.toNat
    obtain ⟨honly', hregs', hposition', hresult⟩ := (s.slip l.toNat k.toNat).testing_shows l.toNat
    rw [State.laneWrite_acts _ _ _ hsrc, State.slipWrite_accepts _ hr]
    exact ⟨(honly.laneLayerOnly.trans honly').frame, regsBut_trans hregs hregs', hposition'.trans hposition, hresult⟩
  · rw [exec_laneSlip hl, exec_laneAccept hl, State.laneWrite_acts _ _ _ hsrc, State.laneWrite_acts _ _ _ hsrc, State.slipWrite_of_ne _ hr,
      State.slipWrite_of_ne _ hr]
    exact ⟨rfl, rfl⟩
  · obtain ⟨hreg, hcfg, hquiet, hrx, honly⟩ := s.retrained_shows l.toNat (v &&& 0x377#32)
    rw [State.laneWrite_acts _ _ _ hsrc, State.cfgWrite_retrain]
    exact ⟨hreg, hcfg, hquiet, hrx, honly.frame⟩
  · obtain ⟨off, v, hlogged⟩ := exec_control_logs hl hsrc hmanual hc
    obtain ⟨hcount, hregs⟩ := s.logRaw_logged 3 off v src.code 15
    exact ⟨_, hlogged, s.logRaw_frame .., hcount, hregs⟩
  · exact ⟨exec_laneSlip hl _ k, exec_laneAccept hl _ k, exec_laneCapture hl _, exec_laneRetrain hl _ v⟩
  · obtain ⟨hresult, hrx, hposition, honly, hregs⟩ := s.tested_shows l.toNat found
    rw [hr] at hrx
    exact ⟨hresult, hrx, hposition, honly.frame, hregs⟩
  · obtain ⟨hvalid, hbits, hends, honly⟩ := s.captured_shows (s.captured (s.fld Reg.LANE_CAPT_SEL 0 7) syms)
    exact ⟨hvalid, hbits, hends, honly.frame⟩

end Sys2Proof.Proofs
end

section
/-!
SUPPORT. Fillers (R264, R265, R268): what the elastic buffer leaves, the fields shown, and the service of the logical lane that follows, with the
lane and the state of its link.
-/
namespace Sys2Proof.Machine

open Sys2Proof Sys2Proof.Statements

theorem State.cfgAdvance_of_not_configuring {s : State} (h : s.configuring = false) : s.cfgAdvance = s := if_neg fun hc => by simp [h] at hc

theorem State.configuring_of_reg {s t : State} (h : t.reg Reg.CFG_STATUS = s.reg Reg.CFG_STATUS) : t.configuring = s.configuring := by
  simp only [State.configuring, fld_of_reg h]

/-- A filler heard from the partner, while no configuration runs that its service could advance (R265). -/
theorem exec_filler {s : State} {l : BitVec 7} (hl : s.hasLane l.toNat = true) (hself : s.hearsSelf l.toNat = false) (lane : Fin 4)
    (train spare : Bool) (quad : BitVec 5) (dev : Byte) (fill : Fin 129) : exec (.filler l lane train spare quad dev fill) s =
      .next (s.filler l.toNat ⟨lane, train, spare, quad.toNat, dev.toNat⟩ fill).cfgAdvance := by
  have hrow : exec (.filler l lane train spare quad dev fill) s = execFiller l lane train spare quad dev fill s := rfl
  rw [hrow, execFiller, hl, guardUnit_true, if_neg (Bool.eq_false_iff.mp hself)]

/-- The fill that a filler at the head leaves in the elastic buffer, with the flit that the clocks write in the slot (R264). -/
def fillAfter (fill : Nat) : Nat := if 40 < fill then fill - 16 else if fill < 24 then fill + 16 else fill

theorem ebStep_slips {fill : Nat} (h : fill = 0 ∨ 128 ≤ fill) : ebStep fill true = none := if_pos h

theorem ebStep_of_between {fill : Nat} (hlo : fill ≠ 0) (hhi : fill < 128) : ∃ left, ebStep fill true = some left ∧ left + 16 = fillAfter fill := by
  unfold ebStep fillAfter
  rw [if_neg (by omega)]
  simp only [and_true]
  split
  · exact ⟨_, rfl, by omega⟩
  · split
    exacts [⟨_, rfl, rfl⟩, ⟨_, rfl, by omega⟩]

/-- A lane that has seen filler f, its buffer left with this fill (R264, R265). -/
def State.sees (s : State) (l : Nat) (f : FillerF) (fill : Nat) : State :=
  (s.setRecv l { s.recv l with fill := fill }).peerSeen l f.lane f.train f.spare f.quad f.dev

section
variable {s : State} {l fill : Nat} (f : FillerF)

theorem State.filler_of_ne (h : s.rx l ≠ 5) (fill : Nat) : s.filler l f fill = s := if_pos h

theorem State.filler_slips (h : s.rx l = 5) (hfill : fill = 0 ∨ 128 ≤ fill) :
    s.filler l f fill = (s.addFld (Reg.LANE_EVENTS l) 24 8 1).toSeek l := by
  unfold State.filler
  rw [if_neg (not_not.mpr h), ebStep_slips hfill]

theorem State.filler_seen (h : s.rx l = 5) (hlo : fill ≠ 0) (hhi : fill < 128) (hl : l < 96) :
    s.filler l f fill = (s.sees l f (fillAfter fill)).serviceOf l := by
  obtain ⟨left, hstep, hleft⟩ := ebStep_of_between hlo hhi
  unfold State.filler
  rw [if_neg (not_not.mpr h), hstep, ← hleft]
  dsimp only
  rw [if_neg fun ⟨hspare, _⟩ => absurd hl (by omega)]
  rfl

end

theorem b2n_lt_two (b : Bool) : b2n b < 2 := by cases b <;> decide

section
variable (s : State) (l : Nat)

theorem State.recv_setRecv (x : LaneRx) : (s.setRecv l x).recv l = x := mget_mset_self dRx s.lan.rx l x

theorem State.recv_of_lan {t : State} (h : t.lan = s.lan) : t.recv l = s.recv l := by rw [State.recv, h, State.recv]

theorem State.recv_setFld (a lo w x : Nat) : (s.setFld a lo w x).recv l = s.recv l := State.recv_of_lan s l rfl

variable (f : FillerF) (fill : Nat)

theorem State.sees_only : LaneLayerOnly s (s.sees l f fill) ∧ RegsBut s (s.sees l f fill) [Reg.LANE_STATE l] :=
  ⟨(LaneLayerOnly.refl s).lan.setFld, regsBut_setFld (fun _ _ => rfl) (by simp)⟩

theorem State.recv_sees : ((s.sees l f fill).recv l).fill = fill := by
  rw [State.sees, State.peerSeen, State.recv_setFld, State.recv_setRecv]

theorem State.rx_sees : (s.sees l f fill).rx l = s.rx l := State.rx_setFld_state _ l _ (by decide) (by decide)

/-- The fields of a filler stand in LANE_STATE (R265, R277). -/
def ShowsFiller (s : State) (l : Nat) (f : FillerF) : Prop :=
  s.fld (Reg.LANE_STATE l) 7 1 = b2n f.train ∧ s.fld (Reg.LANE_STATE l) 8 2 = f.lane ∧ s.fld (Reg.LANE_STATE l) 10 1 = b2n f.spare ∧
    s.fld (Reg.LANE_STATE l) 11 5 = f.quad ∧ s.fld (Reg.LANE_STATE l) 16 8 = f.dev

theorem ShowsFiller.train {s : State} {l : Nat} {f : FillerF} (h : ShowsFiller s l f) : s.fld (Reg.LANE_STATE l) 7 1 = b2n f.train := by
  obtain ⟨htrain, -⟩ := h
  exact htrain

theorem State.sees_shows (hlane : f.lane < 4) (hquad : f.quad < 32) (hdev : f.dev < 256) : ShowsFiller (s.sees l f fill) l f := by
  have htrain := b2n_lt_two f.train
  have hspare := b2n_lt_two f.spare
  have hall : (s.sees l f fill).fld (Reg.LANE_STATE l) 7 17 = b2n f.train + f.lane * 2 + b2n f.spare * 8 + f.quad * 16 + f.dev * 512 := by
    rw [State.sees, State.peerSeen, State.fld_setFld_self _ _ (by decide), Nat.mod_eq_of_lt (by omega)]
  have hpart {d w : Nat} (h : d + w ≤ 17) := State.fld_inner (s.sees l f fill) (Reg.LANE_STATE l) 7 h
  refine ⟨(hpart (d := 0) (w := 1) (by decide)).trans ?_, (hpart (d := 1) (w := 2) (by decide)).trans ?_,
    (hpart (d := 3) (w := 1) (by decide)).trans ?_, (hpart (d := 4) (w := 5) (by decide)).trans ?_,
    (hpart (d := 9) (w := 8) (by decide)).trans ?_⟩
  all_goals
    rw [hall]
    omega

end

/-- A fold that keeps what it has found, and takes an x of the list, finds something. -/
theorem isSome_foldl {α : Type} {f : Option α → α → Option α} {p : α → Prop} (hkeep : ∀ b x, b.isSome → (f b x).isSome)
    (htake : ∀ b x, p x → (f b x).isSome) {x : α} (hx : p x) : ∀ (xs : List α), x ∈ xs → ∀ b, (xs.foldl f b).isSome := by
  have hkept : ∀ (xs : List α) b, b.isSome → (xs.foldl f b).isSome := fun xs => by
    induction xs with
    | nil => exact fun _ h => h
    | cons y ys ih => exact fun b h => ih _ (hkeep b y h)
  intro xs
  induction xs with
  | nil => exact fun h => absurd h List.not_mem_nil
  | cons y ys ih =>
    intro hmem b
    rcases List.mem_cons.mp hmem with rfl | hmem
    · exact hkept ys _ (htake b x hx)
    · exact ih hmem _

section
variable {s : State} {k : Fin 24} {i : Fin 4} (hup : s.laneUp k i = true)
include hup

/-- A link with a lane up has a lane for a flit (R232). -/
theorem State.bestLane_isSome : (s.bestLane k).isSome = true := by
  refine isSome_foldl (p := fun j => s.laneUp k j = true) (fun b j hb => ?_) (fun b j hj => ?_) hup _ (List.mem_finRange i) none
  · obtain ⟨m, rfl⟩ := Option.isSome_iff_exists.mp hb
    dsimp only
    split
    · split <;> rfl
    · rfl
  · rw [if_pos hj]
    split
    · rfl
    · split <;> rfl

theorem State.sendFlit_streams (f : FlitBody) : ∃ j x, s.sendFlit k f = s.setStream k j x := by
  obtain ⟨j, hj⟩ := Option.isSome_iff_exists.mp (State.bestLane_isSome hup)
  unfold State.sendFlit
  rw [hj]
  exact ⟨j, _, rfl⟩

end

theorem State.backlog_setStream (s : State) (k : Fin 24) (j : Fin 4) (x : Stream) : ((s.setStream k j x).link k).backlog = (s.link k).backlog := by
  rw [State.setStream, State.link_setLink_self]

theorem State.laneUp_of_reg {s t : State} {k : Fin 24} (h : t.reg (Reg.LNK_STATE k) = s.reg (Reg.LNK_STATE k)) (i : Fin 4) :
    t.laneUp k i = s.laneUp k i := by rw [State.laneUp, fld_of_reg h, State.laneUp]

theorem State.reg_setLink (s : State) (k : Fin 24) (x : Link) (a : Nat) : (s.setLink k x).reg a = s.reg a := rfl

/-- Flits sent on a link with a lane up leave its backlog. -/
theorem State.backlog_sendBacklog {k : Fin 24} {i : Fin 4} (fs : List FlitBody) :
    ∀ {s : State}, s.laneUp k i = true → ((s.sendBacklog k fs).link k).backlog = (s.link k).backlog := by
  induction fs with
  | nil => exact fun _ => rfl
  | cons f r ih =>
    intro s hup
    obtain ⟨j, x, hsent⟩ := State.sendFlit_streams hup f
    rw [State.sendBacklog, hsent, ih ((State.laneUp_of_reg (s.reg_setStream k j x _) i).trans hup), State.backlog_setStream]

section
variable (s : State) (k : Fin 24)

theorem State.reg_flushBacklog (a : Nat) : (s.flushBacklog k).reg a = s.reg a := by
  obtain ⟨l, hl⟩ := (s.setLink k { s.link k with backlog := [] }).sendBacklog_linksOnly k (s.link k).backlog
  rw [State.flushBacklog, hl]
  rfl

/-- No flit waits for a lane of a link with a lane up. -/
theorem State.backlog_flushBacklog {i : Fin 4} (hup : s.laneUp k i = true) : ((s.flushBacklog k).link k).backlog = [] := by
  have hup' := (State.laneUp_of_reg (s.reg_setLink k { s.link k with backlog := [] } _) i).trans hup
  rw [State.flushBacklog, State.backlog_sendBacklog _ hup', State.link_setLink_self]

variable (i : Nat)

theorem State.reg_sendHeld (was : Bool) : (s.sendHeld k i was).reg (Reg.LNK_STATE k) = s.reg (Reg.LNK_STATE k) := by
  have hne : Reg.LNK_STATE k ≠ Reg.LNK_REPLAY k := by
    simp only [Reg.LNK_STATE, Reg.LNK_REPLAY]
    omega
  have hold (j : Fin 4) : (s.fromOldest k j).reg (Reg.LNK_STATE k) = s.reg (Reg.LNK_STATE k) :=
    (State.reg_setStream ..).trans (s.reg_addFld_ne 0 32 1 hne)
  unfold State.sendHeld
  split
  · split
    exacts [rfl, hold _]
  · rfl

variable {i}

/-- A link that leaves UP keeps what LNK_STATE tells of its lanes (R252). -/
theorem State.fld_linkLeavesUp_lanes (on : Bool) {lo w : Nat} (h : 2 ≤ lo) :
    (s.linkLeavesUp k on).fld (Reg.LNK_STATE k) lo w = s.fld (Reg.LNK_STATE k) lo w := by
  unfold State.linkLeavesUp
  split
  · rfl
  · rw [fld_of_reg (State.reg_loseLink ..), State.fld_setFld_of_disjoint _ _ (by decide) (.inr h), fld_of_reg (State.reg_setLink ..)]

theorem State.laneComesUp_shows (hi : i < 4) :
    (s.laneComesUp k i).fld (Reg.LNK_STATE k) (2 + i) 1 = 1 ∧ (s.linkState k ≠ 3 → (s.laneComesUp k i).linkState k = 2) := by
  have hlane : (s.setFld (Reg.LNK_STATE k) (2 + i) 1 1).fld (Reg.LNK_STATE k) (2 + i) 1 = 1 := s.fld_setFld_self 1 (by omega)
  have hstate : (s.setFld (Reg.LNK_STATE k) (2 + i) 1 1).linkState k = s.linkState k := s.fld_setFld_of_disjoint 1 (by omega) (by omega)
  unfold State.laneComesUp
  dsimp only
  rw [hstate]
  split
  · next hfault => exact ⟨hlane, absurd hfault⟩
  · exact ⟨(State.fld_setFld_of_disjoint _ 2 (by decide) (by omega)).trans hlane, fun _ => State.fld_setFld_self _ 2 (by decide)⟩

theorem State.laneDown_shows (q : Nat) (hi : i < 4) : (s.laneDown k q i).fld (Reg.LNK_STATE k) (2 + i) 1 = 0 := by
  have hlane : (s.setFld (Reg.LNK_STATE k) (2 + i) 1 0).fld (Reg.LNK_STATE k) (2 + i) 1 = 0 := s.fld_setFld_self 0 (by omega)
  unfold State.laneDown
  dsimp only
  split
  · rw [State.fld_linkLeavesUp_lanes _ _ _ (by omega), hlane]
  · exact hlane

end

/-- Service shown leaves the link as it stands. -/
theorem State.linkState_service (s : State) (k : Fin 24) {q : Nat} (hq : q < 32) (i l x : Nat) :
    (s.service q i l x).linkState k = s.linkState k := by
  refine fld_of_reg (s.regsBut_service l x _ ?_) 0 2
  simp only [Reg.LNK_STATE, Reg.LANE_QUAD, Reg.LANE_STATE, List.mem_cons, List.not_mem_nil, or_false, not_or]
  omega

section
variable {s : State} {q i : Nat} {k : Fin 24} (l : Nat) (hq : q < 32) (hi : i < 4) (huse : s.fld (Reg.LANE_QUAD q) 0 2 = 1)
  (hbind : s.fld (Reg.LANE_QUAD q) 2 5 = k.val)
include hq hi huse hbind

theorem State.service_binds (x : Nat) :
    (s.service q i l x).fld (Reg.LANE_QUAD q) 0 2 = 1 ∧ (s.service q i l x).fld (Reg.LANE_QUAD q) 2 5 = k.val :=
  ⟨(s.fld_service_quad_low l x hq hi (by decide)).trans huse, (s.fld_service_quad_low l x hq hi (by decide)).trans hbind⟩

/-- A lane of a link in service: its lane and the link are up, and nothing waits for a lane (R268). -/
theorem State.serviceIn_link :
    (s.serviceIn q i l).fld (Reg.LNK_STATE k) (2 + i) 1 = 1 ∧
      (s.linkState k ≠ 3 → (s.serviceIn q i l).linkState k = 2 ∧ ((s.serviceIn q i l).link k).backlog = []) := by
  obtain ⟨huse', hbind'⟩ := State.service_binds l hq hi huse hbind 1
  have hlt : (s.service q i l 1).fld (Reg.LANE_QUAD q) 2 5 < 24 := hbind' ▸ k.isLt
  have hk : (⟨_, hlt⟩ : Fin 24) = k := Fin.ext hbind'
  have hstate : (s.service q i l 1).linkState k = s.linkState k := s.linkState_service k hq i l 1
  obtain ⟨hlane, hup⟩ := (s.service q i l 1).laneComesUp_shows k hi
  have hreg (was : Bool) : ((((s.service q i l 1).laneComesUp k i).sendHeld k i was).flushBacklog k).reg (Reg.LNK_STATE k) =
      ((s.service q i l 1).laneComesUp k i).reg (Reg.LNK_STATE k) := (State.reg_flushBacklog ..).trans (State.reg_sendHeld ..)
  rw [State.serviceIn_eq, dif_pos ⟨huse', hlt⟩, hk]
  refine ⟨(fld_of_reg (hreg _) _ _).trans hlane, fun hfault => ⟨(fld_of_reg (hreg _) 0 2).trans (hup (hstate ▸ hfault)), ?_⟩⟩
  refine State.backlog_flushBacklog (i := ⟨i, hi⟩) _ k ?_
  rw [State.laneUp, fld_of_reg (State.reg_sendHeld ..), hlane]
  rfl

/-- A lane of a link out of service is not up (R268). -/
theorem State.serviceOut_link : (s.serviceOut q i).fld (Reg.LNK_STATE k) (2 + i) 1 = 0 := by
  obtain ⟨huse', hbind'⟩ := State.service_binds (s.carrier q i) hq hi huse hbind 0
  have hlt : (s.service q i (s.carrier q i) 0).fld (Reg.LANE_QUAD q) 2 5 < 24 := hbind' ▸ k.isLt
  have hk : (⟨_, hlt⟩ : Fin 24) = k := Fin.ext hbind'
  rw [State.serviceOut_eq, dif_pos ⟨huse', hlt⟩, hk]
  exact State.laneDown_shows _ k q hi

end

section
variable {s : State} {l : Nat} {train : Bool} (hl : l < 96) (hown : s.carrier (l / 4) (l % 4) = l) (hrx : s.rx l = 5)
  (htrain : s.fld (Reg.LANE_STATE l) 7 1 = b2n train)
include hl hown hrx htrain

/-- Service follows TRAIN of the last filler on a lane that is UP (R268). -/
theorem State.serviceOf_train :
    s.serviceOf l = if train then s.serviceOut (l / 4) (l % 4) else s.serviceIn (l / 4) (l % 4) l := by
  have hcarries : s.carries l = some (l / 4, l % 4) := (if_pos hl).trans (if_pos hown)
  unfold State.serviceOf
  rw [hcarries, htrain]
  cases train with
  | false => exact if_pos ⟨hrx, rfl⟩
  | true => exact if_neg fun ⟨_, h⟩ => absurd h (by decide)

theorem State.serviceOf_linkSide : LinkSide (s.service (l / 4) (l % 4) l (b2n !train)) (s.serviceOf l) := by
  rw [State.serviceOf_train hl hown hrx htrain]
  cases train with
  | false => exact s.serviceIn_linkSide ..
  | true =>
    have hout := s.serviceOut_linkSide (l / 4) (l % 4)
    rw [hown] at hout
    exact hout

/-- Service of a link's lane is told by LANES_UP, and a link with a lane up that is not in FAULT is UP (R268). -/
theorem State.serviceOf_link {k : Fin 24} (huse : s.fld (Reg.LANE_QUAD (l / 4)) 0 2 = 1) (hbind : s.fld (Reg.LANE_QUAD (l / 4)) 2 5 = k.val) :
    (s.serviceOf l).fld (Reg.LNK_STATE k) (2 + l % 4) 1 = b2n (!train) ∧
      (train = false → s.linkState k ≠ 3 → (s.serviceOf l).linkState k = 2 ∧ ((s.serviceOf l).link k).backlog = []) := by
  have hq : l / 4 < 32 := by omega
  have hi : l % 4 < 4 := by omega
  rw [State.serviceOf_train hl hown hrx htrain]
  cases train with
  | false =>
    obtain ⟨hlane, hup⟩ := State.serviceIn_link l hq hi huse hbind
    exact ⟨hlane, fun _ => hup⟩
  | true => exact ⟨State.serviceOut_link hq hi huse hbind, fun h => absurd h (by decide)⟩

end

theorem State.carrier_of_spares {s t : State} (h : ∀ n < 8, t.reg (Reg.LANE_SPARE n) = s.reg (Reg.LANE_SPARE n)) (q i : Nat) :
    t.carrier q i = s.carrier q i := by
  have hfind : (List.range 8).find? (t.spareCarries q i) = (List.range 8).find? (s.spareCarries q i) :=
    List.find?_congr fun n hn => State.spareCarries_congr (h n (List.mem_range.mp hn))
  rw [State.carrier, hfind, State.carrier]

/-- A lane whose elastic buffer slips seeks, and the slip is counted (R264). -/
theorem State.ebSlip_shows (s : State) (l : Nat) :
    let t := (s.addFld (Reg.LANE_EVENTS l) 24 8 1).toSeek l
    t.rx l = 1 ∧ t.fld (Reg.LANE_EVENTS l) 24 8 = min 255 (s.fld (Reg.LANE_EVENTS l) 24 8 + 1) ∧ t.configuring = s.configuring := by
  have hevents := (s.addFld (Reg.LANE_EVENTS l) 24 8 1).reg_toSeek_events l
  have hseek : Trained [l] (s.addFld (Reg.LANE_EVENTS l) 24 8 1) ((s.addFld (Reg.LANE_EVENTS l) 24 8 1).toSeek l) :=
    .toSeek (.refl ..) (List.mem_singleton_self l)
  have hfree : TrainingFree [l] Reg.CFG_STATUS 0 32 := trainingFree_lane (by decide) (fun l' => by
    simp only [Reg.CFG_STATUS, Reg.LANE_STATE]
    omega) 0 32
  have hne : Reg.CFG_STATUS ≠ Reg.LANE_EVENTS l := by
    simp only [Reg.CFG_STATUS, Reg.LANE_EVENTS]
    omega
  exact ⟨State.rx_toSeek_self .., (fld_of_reg hevents 24 8).trans (s.fld_addFld_self 1 (by decide)),
    State.configuring_of_reg ((hseek.reg hfree).trans (s.reg_addFld_ne 24 8 1 hne))⟩

section
variable (s : State) (l : Nat) (f : FillerF) (fill : Nat)

theorem State.reg_sees {a : Nat} (ha : a ≠ Reg.LANE_STATE l) : (s.sees l f fill).reg a = s.reg a := by
  obtain ⟨-, hregs⟩ := s.sees_only l f fill
  exact hregs a (by simpa using ha)

theorem State.carrier_sees (q i : Nat) : (s.sees l f fill).carrier q i = s.carrier q i :=
  State.carrier_of_spares (fun n hn => s.reg_sees l f fill (by
    simp only [Reg.LANE_SPARE, Reg.LANE_STATE]
    omega)) q i

theorem State.linkState_sees (k : Fin 24) : (s.sees l f fill).linkState k = s.linkState k :=
  fld_of_reg (s.reg_sees l f fill (by
    simp only [Reg.LNK_STATE, Reg.LANE_STATE]
    omega)) 0 2

end

section
variable {s : State} {l : Nat} (f : FillerF) (fill : Nat) (hf : ShowsFiller (s.sees l f fill) l f) (hl : l < 96)
  (hown : s.carrier (l / 4) (l % 4) = l) (hrx : s.rx l = 5)
include hf hl hown hrx

/-- A filler seen on a lane that is UP is followed by its service (R268). -/
theorem State.sees_serviceOf :
    LinkSide ((s.sees l f fill).service (l / 4) (l % 4) l (b2n !f.train)) ((s.sees l f fill).serviceOf l) :=
  State.serviceOf_linkSide hl ((s.carrier_sees ..).trans hown) ((s.rx_sees ..).trans hrx) hf.train

/-- The receiver, its elastic buffer and the filler's fields after it (R264, R265). -/
theorem State.seen_shows :
    (((s.sees l f fill).serviceOf l).recv l).fill = fill ∧ ShowsFiller ((s.sees l f fill).serviceOf l) l f ∧
      ((s.sees l f fill).serviceOf l).rx l = 5 := by
  have hside := State.sees_serviceOf f fill hf hl hown hrx
  have hkept {lo w : Nat} (h : lo + w ≤ 6 ∨ 7 ≤ lo) :
      ((s.sees l f fill).serviceOf l).fld (Reg.LANE_STATE l) lo w = (s.sees l f fill).fld (Reg.LANE_STATE l) lo w :=
    (hside.fld (lane_caps_le l).2 lo w).trans (State.fld_service_other _ l _ (by omega) h)
  obtain ⟨htrain, hlane, hspare, hquad, hdev⟩ := hf
  refine ⟨?_, ⟨(hkept (by decide)).trans htrain, (hkept (by decide)).trans hlane, (hkept (by decide)).trans hspare,
    (hkept (by decide)).trans hquad, (hkept (by decide)).trans hdev⟩, (hkept (by decide)).trans ((s.rx_sees ..).trans hrx)⟩
  rw [State.recv_of_lan _ l (hside.lan.trans (State.lan_service ..))]
  exact s.recv_sees l f fill

/-- IN_SERVICE of the lane and of the quad after it, and what it leaves (R268). -/
theorem State.seen_service :
    ((s.sees l f fill).serviceOf l).fld (Reg.LANE_STATE l) 6 1 = b2n (!f.train) ∧
      ((s.sees l f fill).serviceOf l).fld (Reg.LANE_QUAD (l / 4)) (10 + l % 4) 1 = b2n (!f.train) ∧
      LanesOnly s ((s.sees l f fill).serviceOf l) ∧ ((s.sees l f fill).serviceOf l).configuring = s.configuring := by
  have hside := State.sees_serviceOf f fill hf hl hown hrx
  have hbit : b2n (!f.train) % 2 = b2n (!f.train) := Nat.mod_eq_of_lt (b2n_lt_two _)
  have hcfg : Reg.CFG_STATUS ≠ Reg.LANE_STATE l ∧ Reg.CFG_STATUS ≠ Reg.LANE_QUAD (l / 4) := by
    simp only [Reg.CFG_STATUS, Reg.LANE_STATE, Reg.LANE_QUAD]
    omega
  obtain ⟨⟨r, a, honly⟩, -⟩ := s.sees_only l f fill
  refine ⟨(hside.fld (lane_caps_le l).2 6 1).trans ((State.fld_service_state ..).trans hbit),
    (hside.fld (lane_caps_le _).1 _ 1).trans ((State.fld_service_quad _ l _ (by omega) (by omega)).trans hbit),
    (LanesOnly.trans ⟨r, a, _, honly⟩ (State.lanesOnly_service ..)).trans hside.lanesOnly, State.configuring_of_reg ?_⟩
  exact (hside.reg (by decide)).trans ((State.regsBut_service _ l _ _ (by simpa using hcfg.symm)).trans (s.reg_sees l f fill hcfg.1))

/-- The link whose lane it is (R268). -/
theorem State.seen_link {k : Fin 24} (huse : s.fld (Reg.LANE_QUAD (l / 4)) 0 2 = 1) (hbind : s.fld (Reg.LANE_QUAD (l / 4)) 2 5 = k.val) :
    ((s.sees l f fill).serviceOf l).fld (Reg.LNK_STATE k) (2 + l % 4) 1 = b2n (!f.train) ∧ (f.train = false → s.linkState k ≠ 3 →
      ((s.sees l f fill).serviceOf l).linkState k = 2 ∧ (((s.sees l f fill).serviceOf l).link k).backlog = []) := by
  have hquad := s.reg_sees l f fill (lane_quad_ne_state (q := l / 4) (by omega) l)
  rw [← s.linkState_sees l f fill k]
  exact State.serviceOf_link hl ((s.carrier_sees ..).trans hown) ((s.rx_sees ..).trans hrx) hf.train ((fld_of_reg hquad 0 2).trans huse)
    ((fld_of_reg hquad 2 5).trans hbind)

end

end Sys2Proof.Machine

namespace Sys2Proof.Proofs

open Sys2Proof Sys2Proof.Machine Sys2Proof.Statements

/-- Settles O30: a filler that is seen is shown, and service follows its TRAIN; one that finds the elastic buffer full or empty sends the lane to SEEK. -/
theorem fillersPutALaneInService : Obligations.FillersPutALaneInService := by
  unfold Obligations.FillersPutALaneInService
  intro s l lane train spare quad dev hl hconf hself
  have hexec := exec_filler hl hself lane train spare quad dev
  refine ⟨fun fill hrx => ?_, fun fill hfill hrx => ?_, fun fill hlo hhi hrx hlt hown => ?_⟩
  · rw [hexec, State.filler_of_ne _ hrx, State.cfgAdvance_of_not_configuring hconf]
  · obtain ⟨hseek, hcount, hconf'⟩ := s.ebSlip_shows l.toNat
    refine ⟨_, hexec fill, ?_⟩
    rw [State.filler_slips _ hrx (by omega), State.cfgAdvance_of_not_configuring (hconf'.trans hconf)]
    exact ⟨hseek, hcount⟩
  · have hf := s.sees_shows l.toNat ⟨lane, train, spare, quad.toNat, dev.toNat⟩ (fillAfter fill) lane.isLt quad.isLt dev.isLt
    obtain ⟨hfill, ⟨htrain, hlane, hspare, hquad, hdev⟩, hup⟩ := State.seen_shows _ _ hf hlt hown hrx
    obtain ⟨hin, hquadIn, honly, hconf'⟩ := State.seen_service _ _ hf hlt hown hrx
    refine ⟨_, hexec fill, ?_⟩
    rw [State.filler_seen _ hrx hlo (by omega) hlt, State.cfgAdvance_of_not_configuring (hconf'.trans hconf)]
    exact ⟨hfill, htrain, hlane, hspare, hquad, hdev, hup, hin, hquadIn, honly.frame, fun k => State.seen_link _ _ hf hlt hown hrx⟩

end Sys2Proof.Proofs
end
